-- ==== Sys2Proof/Word.lean ====
section
/-! DEFINITION. The register word, and the sparse table that holds every numbered piece of plain data. -/

namespace Sys2Proof

/-- A 32-bit register word (R31). -/
abbrev Word := BitVec 32

/-- A sparse table: (key, value) pairs, keys strictly rising, no entry equal to the default of its key. -/
abbrev Tbl (α : Type) := List (Nat × α)

end Sys2Proof
end

