-- ==== Sys2Proof/Config.lean ====
section
/-! DEFINITION. The free values: constants without a body, so that nothing can be proved of what they are. Colours are in units of
2⁻⁴³ of reference white, the unit of the smallest F20 value (R132). -/

namespace Sys2Proof.Config

/-- A fresh value for the model's counter of free values: what the spec leaves open. -/
opaque freeValue : Nat → BitVec 64

/-- The unit's identity number (R59). -/
opaque unitId : BitVec 64

/-- Whether the unit is of E grade, and of C grade otherwise (R59). -/
opaque eGrade : Bool

/-- The evaluator of the sRGB, BT.1886 and PQ decodes of R136, fixed by the device within the error of R139: transfer code,
SDR_PARAM and the non-linear value. -/
opaque decodeCurve : Nat → BitVec 32 → Int → Int

/-- The evaluator of the HLG decode of R136: HLG_PARAM, channel, and the three non-linear values. -/
opaque decodeHlg : BitVec 32 → Nat → Int → Int → Int → Int

/-- The PQ code of a working value, pq_inv(min(v × 203, 10000)), in units of 2⁻³² (R144). -/
opaque pqCode : Int → Nat

/-- The working value of a PQ code in units of 2⁻³², pq(y) / 203 (R144). -/
opaque pqLight : Nat → Int

/-- An entry of a generated tone LUT (R145): entries, curve, exposure, source peak as a PQ code in units of 2⁻³², source minimum,
destination range, and the entry's number. -/
opaque toneCurve : Nat → Nat → BitVec 32 → Nat → Nat → BitVec 32 → Nat → Nat

/-- The FS48 code of a channel (R150, R151): ENCODING, OUT_WHITE, OUT_HLG, channel, and the three working values. -/
opaque encode : Nat → Nat → BitVec 32 → Nat → Int → Int → Int → Nat

/-- A coefficient of a built-in SHARP or SOFT set (R117): whether vertical, set, ratio band, phase and tap. -/
opaque scalerTap : Bool → Nat → Nat → Nat → Nat → Int

/-- The distance of a chroma key (R124): the root of u² + v², given in units of 2⁻⁸⁶, in units of 2⁻⁴³. -/
opaque keyRoot : Nat → Int

/-- Whether the adapter's fixed-point arithmetic rounds an inexact value up (R156): its numerator and denominator. -/
opaque adapterRound : Int → Nat → Bool

/-- By how much the check compositor's diverse implementation differs in a tolerance signature (R466): frame, block column and row, and
which of its six values. -/
opaque checkDelta : Nat → Nat → Nat → Nat → Int

/-- The ignored bits of an element that the block engine writes (R71, R374): the model's counter of free values, and the address. -/
opaque ignoredBits : Nat → Nat → Nat

/-- SHA-384 (R527, R529), as a function nothing is assumed of. -/
opaque sha384 : List (BitVec 8) → BitVec 384

/-- Whether an ECDSA P-384 signature verifies: public key, digest and signature (R529). -/
opaque ecdsaVerifies : List (BitVec 8) → BitVec 384 → List (BitVec 8) → Bool

/-- The hash in a fuse key slot of the unit (R529). -/
opaque keyHash : Nat → BitVec 384

/-- The registers that a settings block written by a host configures, from its bytes: the spec does not lay them out (R548). -/
opaque settingsConfig : List (BitVec 8) → List (Nat × BitVec 32)

/-- The bytes of a settings block that the firmware wrote: its registers and its power-on frame (R548). -/
opaque settingsBytes : List (Nat × BitVec 32) → List (BitVec 8) → List (BitVec 8)

end Sys2Proof.Config
end

