-- ==== Sys2Proof/Machine/Tbl.lean ====
section
/-! DEFINITION. The operations on sparse tables: one canonical form, reading falls back to the default of the key. -/

namespace Sys2Proof.Machine

/-- The listed value of a key. -/
def Tbl.find {α : Type} : Tbl α → Nat → Option α
  | [], _ => none
  | (a, x) :: r, k => if a = k then some x else Tbl.find r k

/-- Every entry but those of the key. -/
def Tbl.erase {α : Type} : Tbl α → Nat → Tbl α
  | [], _ => []
  | (a, x) :: r, k => if a = k then Tbl.erase r k else (a, x) :: Tbl.erase r k

/-- Put an entry before the first larger key. -/
def Tbl.insert {α : Type} : Tbl α → Nat → α → Tbl α
  | [], k, v => [(k, v)]
  | (a, x) :: r, k, v => if a < k then (a, x) :: Tbl.insert r k v else (k, v) :: (a, x) :: r

/-- Read a key: the listed value, or the default of the key. -/
def Tbl.get {α : Type} (d : Nat → α) (t : Tbl α) (k : Nat) : α :=
  match Tbl.find t k with
  | some x => x
  | none => d k

/-- Write a key: the value an unlisted key reads as removes the entry. -/
def Tbl.set {α : Type} [DecidableEq α] (d : Nat → α) (t : Tbl α) (k : Nat) (v : α) : Tbl α :=
  if v = d k then Tbl.erase t k else Tbl.insert (Tbl.erase t k) k v

/-- The entries whose keys lie from `lo` up to below `hi`. -/
def Tbl.slice {α : Type} (t : Tbl α) (lo hi : Nat) : Tbl α := t.filter fun e => decide (lo ≤ e.1) && decide (e.1 < hi)

/-- The entries whose keys lie outside `lo` to below `hi`. -/
def Tbl.without {α : Type} (t : Tbl α) (lo hi : Nat) : Tbl α := t.filter fun e => decide (e.1 < lo) || decide (hi ≤ e.1)

/-- Write a list of entries, each key moved up by `k`; of two with one key the first counts. -/
def Tbl.setAll {α : Type} [DecidableEq α] (d : Nat → α) (k : Nat) (t : Tbl α) : List (Nat × α) → Tbl α
  | [] => t
  | (a, v) :: r => Tbl.set d (Tbl.setAll d k t r) (a + k) v

/-- Change the value of a key. -/
def Tbl.modify {α : Type} [DecidableEq α] (d : Nat → α) (t : Tbl α) (k : Nat) (f : α → α) : Tbl α :=
  Tbl.set d t k (f (Tbl.get d t k))

/-- Keys strictly above a bound and strictly rising, no entry at its default. -/
def Tbl.wfFrom {α : Type} [DecidableEq α] (d : Nat → α) : Nat → Tbl α → Bool
  | _, [] => true
  | lo, (a, x) :: r => decide (lo ≤ a) && decide (x ≠ d a) && Tbl.wfFrom d (a + 1) r

/-- The canonical form. -/
def Tbl.wf {α : Type} [DecidableEq α] (d : Nat → α) (t : Tbl α) : Bool := Tbl.wfFrom d 0 t

end Sys2Proof.Machine
end

