-- ==== Sys2Proof/Machine/RegMap.lean ====
section
/-! DEFINITION. The register map: the 31 page types of R28, and every register of their pages with its offset, access type,
implemented bits and reset value, as the register and field tables of the chapters give them. -/

namespace Sys2Proof.Machine

/-- The page types of R28. -/
inductive Page where
  | sys | prot | mwin | pwr | fwm | svc | intc | isrc | elog | intf | leng | scn | tone | stim | schk | fmem | anch | scan | padp | xpt | ppll | dsc | spll | mcg | mcc | blt | rpg | rpp | safe | bly | pcie
deriving DecidableEq, Repr

/-- The natural boundary of a page's shadowed registers (R10, R28). -/
inductive Boundary where
  | imm | frame | vbl | op | link | refresh
deriving DecidableEq, Repr

/-- The access types of R8. -/
inductive Access where
  | ro | wo | sh | im | sq | w1
deriving DecidableEq, Repr

/-- BAR0 offset of instance 0 (R28). -/
def Page.base : Page → Nat
  | .sys => 0x0
  | .prot => 0x1000
  | .mwin => 0x2000
  | .pwr => 0x3000
  | .fwm => 0x4000
  | .svc => 0x5000
  | .intc => 0x10000
  | .isrc => 0x11000
  | .elog => 0x21000
  | .intf => 0x22000
  | .leng => 0x100000
  | .scn => 0x140000
  | .tone => 0x141000
  | .stim => 0x142000
  | .schk => 0x143000
  | .fmem => 0x150000
  | .anch => 0x151000
  | .scan => 0x160000
  | .padp => 0x161000
  | .xpt => 0x162000
  | .ppll => 0x163000
  | .dsc => 0x180000
  | .spll => 0x190000
  | .mcg => 0x1A0000
  | .mcc => 0x1A1000
  | .blt => 0x1B0000
  | .rpg => 0x1C0000
  | .rpp => 0x1C1000
  | .safe => 0x1D0000
  | .bly => 0x1D1000
  | .pcie => 0x1E0000

/-- Bytes from one instance to the next (R28). -/
def Page.stride : Page → Nat
  | .sys => 0x0
  | .prot => 0x0
  | .mwin => 0x0
  | .pwr => 0x0
  | .fwm => 0x0
  | .svc => 0x0
  | .intc => 0x0
  | .isrc => 0x1000
  | .elog => 0x0
  | .intf => 0x0
  | .leng => 0x1000
  | .scn => 0x4000
  | .tone => 0x4000
  | .stim => 0x4000
  | .schk => 0x4000
  | .fmem => 0x0
  | .anch => 0x0
  | .scan => 0x4000
  | .padp => 0x4000
  | .xpt => 0x4000
  | .ppll => 0x4000
  | .dsc => 0x1000
  | .spll => 0x1000
  | .mcg => 0x0
  | .mcc => 0x1000
  | .blt => 0x0
  | .rpg => 0x0
  | .rpp => 0x1000
  | .safe => 0x0
  | .bly => 0x0
  | .pcie => 0x0

/-- Instances (R28). -/
def Page.count : Page → Nat
  | .sys => 1
  | .prot => 1
  | .mwin => 1
  | .pwr => 1
  | .fwm => 1
  | .svc => 1
  | .intc => 1
  | .isrc => 16
  | .elog => 1
  | .intf => 1
  | .leng => 64
  | .scn => 4
  | .tone => 4
  | .stim => 4
  | .schk => 4
  | .fmem => 1
  | .anch => 1
  | .scan => 8
  | .padp => 8
  | .xpt => 8
  | .ppll => 8
  | .dsc => 4
  | .spll => 2
  | .mcg => 1
  | .mcc => 8
  | .blt => 1
  | .rpg => 1
  | .rpp => 4
  | .safe => 1
  | .bly => 1
  | .pcie => 1

/-- Type code (R28). -/
def Page.code : Page → Nat
  | .sys => 0x1
  | .prot => 0x2
  | .mwin => 0x3
  | .pwr => 0x4
  | .fwm => 0x5
  | .svc => 0x6
  | .intc => 0x10
  | .isrc => 0x11
  | .elog => 0x13
  | .intf => 0x12
  | .leng => 0x20
  | .scn => 0x21
  | .tone => 0x22
  | .stim => 0x23
  | .schk => 0x24
  | .fmem => 0x25
  | .anch => 0x26
  | .scan => 0x30
  | .padp => 0x31
  | .xpt => 0x32
  | .ppll => 0x33
  | .dsc => 0x34
  | .spll => 0x35
  | .mcg => 0x40
  | .mcc => 0x41
  | .blt => 0x50
  | .rpg => 0x60
  | .rpp => 0x61
  | .safe => 0x70
  | .bly => 0x71
  | .pcie => 0x80

/-- Natural boundary (R28). -/
def Page.boundary : Page → Boundary
  | .sys => .imm
  | .prot => .imm
  | .mwin => .imm
  | .pwr => .imm
  | .fwm => .imm
  | .svc => .imm
  | .intc => .imm
  | .isrc => .imm
  | .elog => .imm
  | .intf => .imm
  | .leng => .frame
  | .scn => .frame
  | .tone => .frame
  | .stim => .frame
  | .schk => .frame
  | .fmem => .imm
  | .anch => .imm
  | .scan => .vbl
  | .padp => .vbl
  | .xpt => .link
  | .ppll => .link
  | .dsc => .vbl
  | .spll => .imm
  | .mcg => .imm
  | .mcc => .refresh
  | .blt => .op
  | .rpg => .imm
  | .rpp => .link
  | .safe => .frame
  | .bly => .frame
  | .pcie => .imm

/-- The page types in the order of R28. -/
def Page.all : List Page :=
  [.sys, .prot, .mwin, .pwr, .fwm, .svc, .intc, .isrc, .elog, .intf, .leng, .scn, .tone, .stim, .schk, .fmem, .anch, .scan, .padp, .xpt, .ppll, .dsc, .spll, .mcg, .mcc, .blt, .rpg, .rpp, .safe, .bly, .pcie]

/-- BAR0 address of a register of a page instance. -/
def Page.reg (p : Page) (n off : Nat) : Nat := p.base + n * p.stride + off

/-- BAR0 slot of a page instance (R28). -/
def Page.slot (p : Page) (n : Nat) : Nat := (p.base + n * p.stride) / 4096

/-- The page and instance that occupy a slot, if any (R28, R32). -/
def Page.ofSlotIn : List Page → Nat → Option (Page × Nat)
  | [], _ => none
  | p :: r, k =>
    if p.base / 4096 ≤ k ∧ p.stride = 0 ∧ k = p.base / 4096 then some (p, 0)
    else if p.stride ≠ 0 ∧ p.base ≤ k * 4096 ∧ (k * 4096 - p.base) % p.stride = 0
        ∧ (k * 4096 - p.base) / p.stride < p.count then
      some (p, (k * 4096 - p.base) / p.stride)
    else Page.ofSlotIn r k

/-- The page and instance that occupy a slot, if any (R28, R32). -/
def Page.ofSlot (k : Nat) : Option (Page × Nat) := Page.ofSlotIn Page.all k

/-- A page with a shadow region and an active mirror (R30, R35). -/
def Page.shadowed (p : Page) : Bool := p.boundary != .imm

/-- Pages that can join a scene-group commit, and that a team commit can arm (R35). -/
def Page.groupable : Page → Bool
  | .leng | .scn | .tone | .stim | .schk | .scan | .padp | .dsc => true
  | _ => false

/-- One row of a register table: `count` registers `stride` bytes apart, each of them `count2` registers `stride2` bytes apart;
`mask` the implemented bits, `rom` those of them that are read-only. -/
structure RegDesc where
  name : String
  off : Nat
  access : Access
  mask : Nat := 0xFFFFFFFF
  reset : Nat := 0
  count : Nat := 1
  stride : Nat := 4
  count2 : Nat := 1
  stride2 : Nat := 4
  rom : Nat := 0
deriving DecidableEq, Repr

/-- Whether a row covers a page offset. -/
def RegDesc.covers (d : RegDesc) (off : Nat) : Bool :=
  decide (d.off ≤ off) && decide ((off - d.off) / d.stride < d.count)
    && decide ((off - d.off) % d.stride / d.stride2 < d.count2) && decide ((off - d.off) % d.stride % d.stride2 = 0)

/-- The common header of every page (R33). -/
def hdrRegs : List RegDesc := [
  { name := "PAGE_ID", off := 0x0, access := .ro },
  { name := "PAGE_CAP", off := 0x4, access := .ro },
  { name := "PAGE_CTRL", off := 0x8, access := .im },
  { name := "PAGE_STAT", off := 0xC, access := .sq },
  { name := "COMMIT", off := 0x10, access := .w1, mask := 0x3 },
  { name := "COMMIT_STAT", off := 0x14, access := .ro, mask := 0xFFFF003F },
  { name := "BOUNDARY", off := 0x18, access := .ro, mask := 0x1F7 },
  { name := "PAGE_EVT_EN", off := 0x1C, access := .im, mask := 0xFFFFFF }]

/-- The registers of the SYS page (R59). -/
def sysRegs : List RegDesc :=
  [
  { name := "DEVICE_ID", off := 0x20, access := .ro, reset := 0x8440 },
  { name := "REVISION", off := 0x24, access := .ro, mask := 0xFF },
  { name := "UNIT_ID_LO", off := 0x28, access := .ro },
  { name := "UNIT_ID_HI", off := 0x2C, access := .ro },
  { name := "TIME_LO", off := 0x30, access := .ro },
  { name := "TIME_HI", off := 0x34, access := .ro },
  { name := "GROUP_COMMIT", off := 0x40, access := .w1, mask := 0x10F0F },
  { name := "GROUP_TARGET_LO", off := 0x44, access := .im },
  { name := "GROUP_TARGET_HI", off := 0x48, access := .im, mask := 0xFFFF },
  { name := "GROUP_STAT", off := 0x4C, access := .ro, mask := 0xFFF },
  { name := "REJECT_LAST", off := 0x50, access := .ro, mask := 0xF7FFFFFF },
  { name := "REJECT_COUNT", off := 0x54, access := .ro }]

/-- The registers of the PROT page (R61, R62, R63). -/
def protRegs : List RegDesc :=
  [
  { name := "DENY_LAST", off := 0x20, access := .ro, mask := 0xF7FFFFFF },
  { name := "DENY_COUNT", off := 0x24, access := .ro },
  { name := "ACC", off := 0x100, access := .im, reset := 0x30003, count := 241, stride := 0x4 },
  { name := "REMOTE_WR", off := 0x500, access := .im, count := 16, stride := 0x4 }]

/-- The registers of the MWIN page (R65, R66, R67). -/
def mwinRegs : List RegDesc :=
  [
  { name := "CTRL", off := 0x20, access := .im, mask := 0x1 },
  { name := "DENY_LAST_LO", off := 0x24, access := .ro },
  { name := "DENY_LAST_HI", off := 0x28, access := .ro, mask := 0x1FFF },
  { name := "DENY_COUNT", off := 0x2C, access := .ro },
  { name := "WIN_BASE", off := 0x100, access := .im, mask := 0x8FFFFFFF, count := 256, stride := 0xC },
  { name := "WIN_LAST", off := 0x104, access := .im, mask := 0xFFFFFFF, count := 256, stride := 0xC },
  { name := "WIN_PERM", off := 0x108, access := .im, mask := 0x1FFF1FFF, count := 256, stride := 0xC }]

/-- The registers of the PWR page (R518). -/
def pwrRegs : List RegDesc :=
  [
  { name := "MODE", off := 0x20, access := .ro, mask := 0xFFF, reset := 0x1 },
  { name := "MODE_REQ", off := 0x24, access := .wo, mask := 0xF },
  { name := "MODE_STAT", off := 0x28, access := .ro, mask := 0xF1 },
  { name := "DEGRADE", off := 0x2C, access := .ro, mask := 0x7 },
  { name := "RESET_CAUSE", off := 0x30, access := .ro, mask := 0x73F },
  { name := "RESET_CMD", off := 0x34, access := .wo, mask := 0x1FF },
  { name := "VP_CTRL", off := 0x38, access := .im, mask := 0xFF0F, reset := 0x1402 },
  { name := "VP_REQ", off := 0x3C, access := .wo, mask := 0x1 },
  { name := "VP_STAT", off := 0x40, access := .ro, mask := 0xFFFF0007 },
  { name := "TEMP", off := 0x44, access := .ro, mask := 0xF0FFF },
  { name := "TEMP_MAX", off := 0x48, access := .ro, mask := 0xF0FFF },
  { name := "THERM_CTRL", off := 0x4C, access := .im, mask := 0xFFFF, reset := 0x55F },
  { name := "SUPPLY_STAT", off := 0x50, access := .ro, mask := 0x7FF },
  { name := "BIV_STAT", off := 0x54, access := .ro },
  { name := "ASLEEP_ACCESS", off := 0x58, access := .ro },
  { name := "PWR_REJECT", off := 0x5C, access := .ro, mask := 0xFF },
  { name := "BOOT_TIME", off := 0x60, access := .ro, mask := 0xFFFF }]

/-- The registers of the FWM page (R551). -/
def fwmRegs : List RegDesc :=
  [
  { name := "API_VER", off := 0x20, access := .ro, mask := 0xFFFF, reset := 0x100 },
  { name := "FW_STAT", off := 0x24, access := .ro, mask := 0xFF3F },
  { name := "IMAGE_VER", off := 0x28, access := .ro },
  { name := "SEC_STAT", off := 0x2C, access := .ro, mask := 0x1FFFFF },
  { name := "TRIAL_CTRL", off := 0x30, access := .im, mask := 0x1FFFF, reset := 0x258 },
  { name := "TRIAL_LEFT", off := 0x34, access := .ro, mask := 0xFFFF },
  { name := "FW_CMD", off := 0x38, access := .w1, mask := 0x1F },
  { name := "HEALTH_CONFIRM", off := 0x3C, access := .w1, mask := 0x3 },
  { name := "FW_REJECT", off := 0x40, access := .ro, mask := 0xFFF },
  { name := "FALLBACK_INFO", off := 0x44, access := .ro, mask := 0x1F },
  { name := "HANDOVER_TIME", off := 0x48, access := .ro, mask := 0xFFFF },
  { name := "MBX_CTRL", off := 0x4C, access := .w1, mask := 0x1 },
  { name := "MBX_STAT", off := 0x50, access := .ro, mask := 0xF03 },
  { name := "MBX_REQ", off := 0x100, access := .im, count := 64, stride := 0x4 },
  { name := "MBX_RSP", off := 0x200, access := .ro, count := 64, stride := 0x4 }]

/-- The registers of the SVC page (R555). -/
def svcRegs : List RegDesc :=
  [
  { name := "SVC_CTRL", off := 0x20, access := .im, mask := 0x3 },
  { name := "SVC_STAT", off := 0x24, access := .ro, mask := 0x1F },
  { name := "RAKIN_VER", off := 0x28, access := .ro, reset := 0x1010100 },
  { name := "FLASH_INFO", off := 0x2C, access := .ro, mask := 0xFFFF0003 },
  { name := "STAGE_STAT", off := 0x30, access := .ro, mask := 0xFF07 },
  { name := "STAGE_VER", off := 0x34, access := .ro },
  { name := "STAGE_BYTES", off := 0x38, access := .ro },
  { name := "BOOT_STAT", off := 0x3C, access := .ro, mask := 0xFFFF03FF },
  { name := "FLASH_ERRS", off := 0x40, access := .ro },
  { name := "SVC_REJECT", off := 0x44, access := .ro, mask := 0xFF }]

/-- The registers of the INTC page (R452). -/
def intcRegs : List RegDesc :=
  [
  { name := "CLAIM", off := 0x20, access := .ro, mask := 0xFFFFFF, reset := 0xFFFF },
  { name := "COMPLETE", off := 0x24, access := .wo, mask := 0x3FF },
  { name := "GLOBAL_HOLD", off := 0x28, access := .im, mask := 0x3 },
  { name := "DELIV_STAT", off := 0x2C, access := .ro },
  { name := "DB_RAISE_LO", off := 0x30, access := .w1 },
  { name := "DB_RAISE_HI", off := 0x34, access := .w1 },
  { name := "EMPTY_COUNT", off := 0x38, access := .ro },
  { name := "PROFILE", off := 0x40, access := .im, mask := 0xFF01FFFF, reset := 0x1000001, count := 32, stride := 0x4 },
  { name := "WAKE_CTRL", off := 0xC0, access := .im, mask := 0x3FFFF },
  { name := "WAKE_STAT", off := 0xC4, access := .ro, mask := 0x3F00F },
  { name := "WAKE_TIMER", off := 0xC8, access := .im }]

/-- The registers of the ISRC page (R454). -/
def isrcRegs : List RegDesc :=
  [
  { name := "PEND_LO", off := 0x20, access := .ro },
  { name := "PEND_HI", off := 0x24, access := .ro },
  { name := "ACTIVE_LO", off := 0x28, access := .ro },
  { name := "ACTIVE_HI", off := 0x2C, access := .ro },
  { name := "PEND_CLR_LO", off := 0x30, access := .w1 },
  { name := "PEND_CLR_HI", off := 0x34, access := .w1 },
  { name := "SRC_CFG", off := 0x100, access := .im, mask := 0x1F3FFFB, count := 64, stride := 0x4, rom := 0x1F00000 },
  { name := "SRC_LOG", off := 0x200, access := .ro, count := 64, stride := 0x4 }]

/-- The registers of the ELOG page (R456). -/
def elogRegs : List RegDesc :=
  [
  { name := "ELOG_CTRL", off := 0x20, access := .im, mask := 0x1 },
  { name := "ELOG_STAT", off := 0x24, access := .ro, mask := 0x3 },
  { name := "ELOG_CMD", off := 0x28, access := .w1, mask := 0x1 },
  { name := "WPTR", off := 0x30, access := .ro, count := 3, stride := 0x8 },
  { name := "RPTR", off := 0x34, access := .im, count := 3, stride := 0x8 },
  { name := "LOST", off := 0x48, access := .ro, count := 3, stride := 0x4 },
  { name := "SUPP_TOTAL", off := 0x54, access := .ro },
  { name := "SPILL_BASE_LO", off := 0x58, access := .im },
  { name := "SPILL_BASE_HI", off := 0x5C, access := .im, mask := 0xFF },
  { name := "SPILL_SIZE", off := 0x60, access := .im, mask := 0xF },
  { name := "SPILL_WPTR", off := 0x64, access := .ro },
  { name := "SPILL_RPTR", off := 0x68, access := .im },
  { name := "SPILL_LOST", off := 0x6C, access := .ro },
  { name := "WIN_SEL", off := 0x70, access := .im, mask := 0x3FFF },
  { name := "SAT_SEL", off := 0x74, access := .im, mask := 0x7F },
  { name := "SAT_INFO", off := 0x78, access := .ro, mask := 0x83FF },
  { name := "SAT_COUNT", off := 0x7C, access := .ro },
  { name := "LOG_RATE", off := 0x80, access := .im, mask := 0xFFFF00FF, count := 4, stride := 0x4 },
  { name := "WIN", off := 0x90, access := .ro, count := 8, stride := 0x4 }]

/-- The registers of the INTF page (R455). -/
def intfRegs : List RegDesc :=
  [
  { name := "CLAIM", off := 0x20, access := .ro, mask := 0xFFFFFF, reset := 0xFFFF },
  { name := "COMPLETE", off := 0x24, access := .wo, mask := 0x3FF },
  { name := "FAST_PENDING", off := 0x28, access := .ro, mask := 0x7FF }]

/-- The registers of the LENG page (R79, R98, R103, R141). -/
def lengRegs : List RegDesc :=
  [
  { name := "APPLIED_LO", off := 0x20, access := .ro },
  { name := "APPLIED_HI", off := 0x24, access := .ro, mask := 0xFFFF },
  { name := "ENG_INFO", off := 0x28, access := .ro, mask := 0xFFFF007F },
  { name := "PACE", off := 0x2C, access := .ro, mask := 0xFFFF },
  { name := "WORK_PIX", off := 0x30, access := .ro },
  { name := "FINISH_NS", off := 0x34, access := .ro },
  { name := "POISON_READS", off := 0x38, access := .ro },
  { name := "POISON_PIX", off := 0x3C, access := .ro },
  { name := "BUF_STAT", off := 0x40, access := .sq, mask := 0xFF0000BF },
  { name := "BUF_REJECT", off := 0x44, access := .ro, mask := 0xFF },
  { name := "USE_STAT", off := 0x48, access := .ro, mask := 0xF },
  { name := "SOURCE_SEQ", off := 0x4C, access := .ro },
  { name := "VIOL_ADDR_LO", off := 0x50, access := .ro },
  { name := "VIOL_INFO", off := 0x54, access := .ro, mask := 0x1FFF },
  { name := "VIOL_COUNT", off := 0x58, access := .ro },
  { name := "STALL_COUNT", off := 0x5C, access := .ro },
  { name := "CULL_STAT", off := 0x60, access := .ro },
  { name := "READS_LAST", off := 0x64, access := .ro },
  { name := "FORMAT", off := 0x100, access := .sh, mask := 0x1FF3FFF },
  { name := "SRC_SIZE", off := 0x104, access := .sh, mask := 0x7FFF7FFF },
  { name := "PLANE0_LO", off := 0x108, access := .sh },
  { name := "PLANE0_HI", off := 0x10C, access := .sh, mask := 0xFF },
  { name := "PLANE1_LO", off := 0x110, access := .sh },
  { name := "PLANE1_HI", off := 0x114, access := .sh, mask := 0xFF },
  { name := "PLANE2_LO", off := 0x118, access := .sh },
  { name := "PLANE2_HI", off := 0x11C, access := .sh, mask := 0xFF },
  { name := "ALPHA_LO", off := 0x120, access := .sh },
  { name := "ALPHA_HI", off := 0x124, access := .sh, mask := 0xFF },
  { name := "STRIDE0", off := 0x128, access := .sh, mask := 0x3FFFFF },
  { name := "STRIDE1", off := 0x12C, access := .sh, mask := 0x3FFFFF },
  { name := "STRIDE2", off := 0x130, access := .sh, mask := 0x3FFFFF },
  { name := "STRIDE_A", off := 0x134, access := .sh, mask := 0x3FFFFF },
  { name := "READY_ADDR_LO", off := 0x138, access := .sh },
  { name := "READY_ADDR_HI", off := 0x13C, access := .sh, mask := 0xFF },
  { name := "READY_VAL_LO", off := 0x140, access := .sh },
  { name := "READY_VAL_HI", off := 0x144, access := .sh },
  { name := "RELEASE_ADDR_LO", off := 0x148, access := .sh },
  { name := "RELEASE_ADDR_HI", off := 0x14C, access := .sh, mask := 0xFF },
  { name := "RELEASE_VAL_LO", off := 0x150, access := .sh },
  { name := "RELEASE_VAL_HI", off := 0x154, access := .sh }] ++
  [
  { name := "META_ADDR_LO", off := 0x158, access := .sh },
  { name := "META_ADDR_HI", off := 0x15C, access := .sh, mask := 0xFF },
  { name := "BUF_CTRL", off := 0x160, access := .sh, mask := 0x37 },
  { name := "LAYER_CTRL", off := 0x164, access := .sh, mask := 0x1F },
  { name := "CROP_POS", off := 0x168, access := .sh, mask := 0x7FFF7FFF },
  { name := "CROP_SIZE", off := 0x16C, access := .sh, mask := 0x7FFF7FFF },
  { name := "DST_POS", off := 0x170, access := .sh },
  { name := "DST_SIZE", off := 0x174, access := .sh, mask := 0x7FFF7FFF },
  { name := "SCALE_CTRL", off := 0x178, access := .sh, mask := 0x13F },
  { name := "H_INIT", off := 0x17C, access := .sh, mask := 0xFFFFFF },
  { name := "V_INIT", off := 0x180, access := .sh, mask := 0xFFFFFF },
  { name := "GANG", off := 0x184, access := .sh, mask := 0x3 },
  { name := "POLICY", off := 0x188, access := .sh, mask := 0xFFFF0007 },
  { name := "FILL_RG", off := 0x18C, access := .sh },
  { name := "FILL_BA", off := 0x190, access := .sh },
  { name := "OPQ_POS", off := 0x194, access := .sh, mask := 0x7FFF7FFF, count := 4, stride := 0x8 },
  { name := "OPQ_SIZE", off := 0x198, access := .sh, mask := 0x7FFF7FFF, count := 4, stride := 0x8 },
  { name := "KEY_CTRL", off := 0x1B4, access := .sh, mask := 0x7 },
  { name := "KEY_CLIP", off := 0x1B8, access := .sh },
  { name := "KEY_GAIN", off := 0x1BC, access := .sh, mask := 0xFFFF },
  { name := "KEY_COLOUR", off := 0x1C0, access := .sh },
  { name := "CLR_CTRL", off := 0x300, access := .sh, mask := 0x1F77 },
  { name := "SDR_PARAM", off := 0x304, access := .sh, reset := 0xCB },
  { name := "HLG_PARAM", off := 0x308, access := .sh, reset := 0x3E8 },
  { name := "LIN_SCALE", off := 0x30C, access := .sh, mask := 0xFFFF, reset := 0x3C00 },
  { name := "MAT", off := 0x310, access := .sh, mask := 0xFFFFFF, count := 12, stride := 0x4 },
  { name := "YCC", off := 0x340, access := .sh, mask := 0xFFFFFF, count := 9, stride := 0x4 },
  { name := "LUT_EXPOSURE", off := 0x364, access := .sh, mask := 0xFFFF, reset := 0x3C00 },
  { name := "LUT_SRC", off := 0x368, access := .sh, reset := 0x2710 },
  { name := "LUT_DST", off := 0x36C, access := .sh, reset := 0x2710 },
  { name := "LUT_TABLE_LO", off := 0x370, access := .sh },
  { name := "LUT_TABLE_HI", off := 0x374, access := .sh, mask := 0xFF },
  { name := "CUP_CTRL", off := 0x378, access := .sh, mask := 0x3 },
  { name := "HCOEF", off := 0x400, access := .sh, mask := 0x3FFF3FFF, count := 132, stride := 0x4 },
  { name := "VCOEF", off := 0x610, access := .sh, mask := 0x3FFF3FFF, count := 99, stride := 0x4 }]

/-- The registers of the SCN page (R202). -/
def scnRegs : List RegDesc :=
  [
  { name := "APPLIED_LO", off := 0x20, access := .ro },
  { name := "APPLIED_HI", off := 0x24, access := .ro, mask := 0xFFFF },
  { name := "SCN_REJECT", off := 0x28, access := .ro, mask := 0x7FFF },
  { name := "ACTIVE_LO", off := 0x2C, access := .ro },
  { name := "ACTIVE_HI", off := 0x30, access := .ro },
  { name := "PENDING_LO", off := 0x34, access := .ro },
  { name := "PENDING_HI", off := 0x38, access := .ro },
  { name := "FLAT_STAT", off := 0x3C, access := .ro, mask := 0xFFFF1F7F },
  { name := "SCN_CTRL", off := 0x100, access := .sh, mask := 0x7, reset := 0x4 },
  { name := "CANVAS", off := 0x104, access := .sh, mask := 0x7FFF7FFF },
  { name := "BG_RG", off := 0x108, access := .sh },
  { name := "BG_B", off := 0x10C, access := .sh, mask := 0xFFFF },
  { name := "ASSIGN_LO", off := 0x110, access := .sh },
  { name := "ASSIGN_HI", off := 0x114, access := .sh },
  { name := "FLAT_CTRL", off := 0x118, access := .sh, mask := 0x1F1F01, reset := 0x21000 },
  { name := "SLOT", off := 0x140, access := .sh, mask := 0xFFFF0FFF, reset := 0xFFFF0000, count := 32, stride := 0x4 }]

/-- The registers of the TONE page (R152). -/
def toneRegs : List RegDesc :=
  [
  { name := "APPLIED_LO", off := 0x20, access := .ro },
  { name := "APPLIED_HI", off := 0x24, access := .ro, mask := 0xFFFF },
  { name := "LUT_STAT", off := 0x28, access := .ro, mask := 0x3FFFF },
  { name := "STATS_MAX", off := 0x2C, access := .ro },
  { name := "STATS_AVG", off := 0x30, access := .ro, mask := 0xFFFF },
  { name := "LAYER_LATE_LO", off := 0x34, access := .ro },
  { name := "LAYER_LATE_HI", off := 0x38, access := .ro },
  { name := "TONE_REJECT", off := 0x3C, access := .ro, mask := 0xFFFF },
  { name := "BUILD_NS", off := 0x40, access := .ro },
  { name := "TONE_CTRL", off := 0x100, access := .sh, mask := 0xFF0FFF },
  { name := "EXPOSURE", off := 0x104, access := .sh, mask := 0xFFFF, reset := 0x3C00 },
  { name := "SRC_RANGE", off := 0x108, access := .sh, reset := 0x2710 },
  { name := "DST_RANGE", off := 0x10C, access := .sh, reset := 0x2710 },
  { name := "TABLE_LO", off := 0x110, access := .sh },
  { name := "TABLE_HI", off := 0x114, access := .sh, mask := 0xFF },
  { name := "OUT_CTRL", off := 0x118, access := .sh, mask := 0xFFFF0007, reset := 0xCB0000 },
  { name := "OUT_HLG", off := 0x11C, access := .sh, reset := 0x3E8 }]

/-- The registers of the STIM page (R206). -/
def stimRegs : List RegDesc :=
  [
  { name := "APPLIED_LO", off := 0x20, access := .ro },
  { name := "APPLIED_HI", off := 0x24, access := .ro, mask := 0xFFFF },
  { name := "FRAME_LO", off := 0x28, access := .ro },
  { name := "FRAME_HI", off := 0x2C, access := .ro, mask := 0xFFFF },
  { name := "GUARD", off := 0x30, access := .im, mask := 0x7FF, reset := 0x20 },
  { name := "LAST_FRAME", off := 0x34, access := .ro, mask := 0xFFFF007F },
  { name := "SLACK", off := 0x38, access := .ro },
  { name := "COMPOSE_NS", off := 0x3C, access := .ro },
  { name := "WAIT_NS", off := 0x40, access := .ro },
  { name := "BLEND_PACE", off := 0x44, access := .ro, mask := 0xFFFF },
  { name := "REPEAT_COUNT", off := 0x48, access := .ro },
  { name := "HELD_COUNT", off := 0x4C, access := .ro },
  { name := "FALL_COUNT", off := 0x50, access := .ro },
  { name := "LEAD_MIN", off := 0x54, access := .ro, mask := 0xFFFF, reset := 0xFFFF },
  { name := "FORCE", off := 0x58, access := .w1, mask := 0x3 },
  { name := "MODE", off := 0x100, access := .sh, mask := 0x1FF0F, reset := 0x1000 },
  { name := "SLACK_LOW", off := 0x104, access := .sh, mask := 0xFFFF, reset := 0xC8 },
  { name := "PANIC", off := 0x108, access := .sh, mask := 0x1FFFFFF, reset := 0x80064 },
  { name := "WAIT_CTRL", off := 0x10C, access := .sh, mask := 0xFFFF, reset := 0x1F4 }]

/-- The registers of the SCHK page (R491). -/
def schkRegs : List RegDesc :=
  [
  { name := "APPLIED_LO", off := 0x20, access := .ro },
  { name := "APPLIED_HI", off := 0x24, access := .ro, mask := 0xFFFF },
  { name := "REGION_STAT", off := 0x28, access := .ro },
  { name := "SKIP_STAT", off := 0x2C, access := .ro, mask := 0xFFFF },
  { name := "REF_STAT", off := 0x30, access := .ro, mask := 0xFFFF },
  { name := "CHECK_NS", off := 0x34, access := .ro },
  { name := "SCHK_REJECT", off := 0x38, access := .ro, mask := 0xFFF },
  { name := "UNCOVERED", off := 0x3C, access := .ro, mask := 0xFFFF },
  { name := "HB_AGE", off := 0x40, access := .ro, count := 16, stride := 0x4 },
  { name := "REG_POS", off := 0x100, access := .sh, mask := 0x7FFF7FFF, count := 16, stride := 0x10 },
  { name := "REG_SIZE", off := 0x104, access := .sh, mask := 0x7FFF7FFF, count := 16, stride := 0x10 },
  { name := "REG_CTRL", off := 0x108, access := .sh, mask := 0xFFFF03FF, reset := 0x1020000, count := 16, stride := 0x10 },
  { name := "REG_TOL", off := 0x10C, access := .sh, reset := 0x1000040, count := 16, stride := 0x10 }]

/-- The registers of the FMEM page (R238). -/
def fmemRegs : List RegDesc :=
  [
  { name := "INFO", off := 0x20, access := .ro, mask := 0x1F1FFF, reset := 0x151FC0 },
  { name := "FREE", off := 0x24, access := .ro, mask := 0x1FFF1FFF, reset := 0x1FC01FC0 },
  { name := "NEW_BASE", off := 0x28, access := .im, mask := 0x1FFF },
  { name := "NEW_SIZE", off := 0x2C, access := .im, mask := 0x1FFF },
  { name := "NEW_DESC", off := 0x30, access := .im, mask := 0x333 },
  { name := "NEW_DIM", off := 0x34, access := .im, mask := 0x7FFF7FFF },
  { name := "ALLOC_CMD", off := 0x38, access := .wo, mask := 0x3F03 },
  { name := "ALLOC_STAT", off := 0x3C, access := .ro, mask := 0x3FFF },
  { name := "XFER_DRAM_LO", off := 0x40, access := .im },
  { name := "XFER_DRAM_HI", off := 0x44, access := .im, mask := 0xFF },
  { name := "XFER_STRIDE", off := 0x48, access := .im, mask := 0x1FFFFF },
  { name := "XFER_ROWS", off := 0x4C, access := .im, mask := 0x7FFF7FFF },
  { name := "XFER_CTRL", off := 0x50, access := .wo, mask := 0x3F3F },
  { name := "XFER_STAT", off := 0x54, access := .ro, mask := 0xF },
  { name := "XFER_CRC", off := 0x58, access := .ro },
  { name := "XFER_BYTES", off := 0x5C, access := .ro },
  { name := "CORR_COUNT", off := 0x60, access := .ro },
  { name := "UNCORR_COUNT", off := 0x64, access := .ro },
  { name := "ERR_ADDR_LO", off := 0x68, access := .ro },
  { name := "ERR_INFO", off := 0x6C, access := .ro, mask := 0x3FF3 },
  { name := "SCRUB_STAT", off := 0x70, access := .ro, mask := 0xFFFF },
  { name := "SLOT_RESV", off := 0x74, access := .ro, mask := 0x1FF01FF, reset := 0x1400000 },
  { name := "SLOT_BUSY", off := 0x78, access := .ro, mask := 0x1FF },
  { name := "ENT_BASE", off := 0x100, access := .ro, mask := 0x80001FFF, count := 64, stride := 0x10 },
  { name := "ENT_SIZE", off := 0x104, access := .ro, mask := 0x1FFF, count := 64, stride := 0x10 },
  { name := "ENT_DESC", off := 0x108, access := .ro, mask := 0x70333, count := 64, stride := 0x10 },
  { name := "ENT_DIM", off := 0x10C, access := .ro, mask := 0x7FFF7FFF, count := 64, stride := 0x10 }]

/-- The registers of the ANCH page (R265). -/
def anchRegs : List RegDesc :=
  [
  { name := "IN_CTRL", off := 0x20, access := .im, mask := 0xFF03, reset := 0xA00, count := 4, stride := 0x4 },
  { name := "IN_PERIOD", off := 0x30, access := .ro, count := 4, stride := 0x4 },
  { name := "IN_COUNT", off := 0x40, access := .ro, count := 4, stride := 0x4 },
  { name := "ANCH_REJECT", off := 0x50, access := .ro, mask := 0x3FF },
  { name := "PORT_TSTAT", off := 0x60, access := .ro, mask := 0x7, count := 8, stride := 0x4 },
  { name := "CAD_CTRL", off := 0x100, access := .im, mask := 0x7FFFFFF, reset := 0x41140, count := 4, stride := 0x40 },
  { name := "RATE_NUM", off := 0x104, access := .im, mask := 0xFFFFF, reset := 0x3C, count := 4, stride := 0x40 },
  { name := "RATE_DEN", off := 0x108, access := .im, mask := 0xFFFF, reset := 0x1, count := 4, stride := 0x40 },
  { name := "RAMP", off := 0x10C, access := .im, mask := 0xFF, count := 4, stride := 0x40 },
  { name := "SLEW", off := 0x110, access := .im, mask := 0xFFFF00FF, reset := 0x4000A, count := 4, stride := 0x40 },
  { name := "REF_OFFSET", off := 0x114, access := .im, count := 4, stride := 0x40 },
  { name := "WINDOW", off := 0x118, access := .im, reset := 0x4650032, count := 4, stride := 0x40 },
  { name := "FREE_TRIM", off := 0x11C, access := .im, mask := 0xFFFF, count := 4, stride := 0x40 },
  { name := "TARGET_LO", off := 0x120, access := .im, count := 4, stride := 0x40 },
  { name := "TARGET_HI", off := 0x124, access := .im, mask := 0xFFFF, count := 4, stride := 0x40 },
  { name := "CAD_CMD", off := 0x128, access := .w1, mask := 0x1F, count := 4, stride := 0x40 },
  { name := "CAD_STAT", off := 0x12C, access := .ro, mask := 0xFF003F, count := 4, stride := 0x40 },
  { name := "PHASE_ERR", off := 0x130, access := .ro, count := 4, stride := 0x40 },
  { name := "PERIOD", off := 0x134, access := .ro, count := 4, stride := 0x40 },
  { name := "ACTIVE_NUM", off := 0x138, access := .ro, mask := 0xFFFFF, reset := 0x3C, count := 4, stride := 0x40 },
  { name := "ACTIVE_DEN", off := 0x13C, access := .ro, mask := 0xFFFF, reset := 0x1, count := 4, stride := 0x40 }]

/-- The registers of the SCAN page (R240, R248). -/
def scanRegs : List RegDesc :=
  [
  { name := "APPLIED_LO", off := 0x20, access := .ro },
  { name := "APPLIED_HI", off := 0x24, access := .ro, mask := 0xFFFF },
  { name := "PFRAME_LO", off := 0x28, access := .ro },
  { name := "PFRAME_HI", off := 0x2C, access := .ro, mask := 0xFFFF },
  { name := "SHOWN_LO", off := 0x30, access := .ro },
  { name := "SHOWN_HI", off := 0x34, access := .ro, mask := 0x3FFFFF },
  { name := "LINE", off := 0x38, access := .ro, mask := 0xFFFF },
  { name := "LINE_MATCH", off := 0x3C, access := .im, mask := 0xFFFF, reset := 0xFFFF },
  { name := "PORT_GUARD", off := 0x40, access := .im, mask := 0xFF, reset := 0x2 },
  { name := "UNDERRUN_LINES", off := 0x44, access := .ro },
  { name := "UNDERRUN_LAST", off := 0x48, access := .ro },
  { name := "POISON_PIX", off := 0x4C, access := .ro },
  { name := "SCAN_REJECT", off := 0x50, access := .ro, mask := 0xFF },
  { name := "SCAN_CTRL", off := 0x100, access := .sh, mask := 0x3F0F },
  { name := "WIN_POS", off := 0x104, access := .sh, mask := 0x7FFF7FFF },
  { name := "WIN_SIZE", off := 0x108, access := .sh, mask := 0x7FFF7FFF },
  { name := "ACT_POS", off := 0x10C, access := .sh, mask := 0x7FFF7FFF },
  { name := "BORDER_RG", off := 0x110, access := .sh },
  { name := "BORDER_B", off := 0x114, access := .sh, mask := 0xFFFF },
  { name := "FILL_RG", off := 0x118, access := .sh },
  { name := "FILL_B", off := 0x11C, access := .sh, mask := 0xFFFF },
  { name := "RAS_CTRL", off := 0x200, access := .sh, mask := 0x3 },
  { name := "H_TIMING", off := 0x204, access := .sh, reset := 0x8980780 },
  { name := "H_SYNC", off := 0x208, access := .sh, reset := 0x2C0058 },
  { name := "V_TIMING", off := 0x20C, access := .sh, reset := 0x4650438 },
  { name := "V_SYNC", off := 0x210, access := .sh, reset := 0x50004 },
  { name := "PHASE", off := 0x214, access := .sh }]

/-- The registers of the PADP page (R164). -/
def padpRegs : List RegDesc :=
  [
  { name := "APPLIED_LO", off := 0x20, access := .ro },
  { name := "APPLIED_HI", off := 0x24, access := .ro, mask := 0xFFFF },
  { name := "LUT_STAT", off := 0x28, access := .ro, mask := 0x7FFFF },
  { name := "ADAPT_REJECT", off := 0x2C, access := .ro, mask := 0xFF },
  { name := "LUT_CRC", off := 0x30, access := .ro },
  { name := "PRESTAGE", off := 0x34, access := .w1, mask := 0x1 },
  { name := "ACTIVE_SEQ", off := 0x38, access := .ro },
  { name := "ADP_CTRL", off := 0x100, access := .sh, mask := 0x3FF, reset := 0x10 },
  { name := "LUT_ADDR_LO", off := 0x104, access := .sh },
  { name := "LUT_ADDR_HI", off := 0x108, access := .sh, mask := 0xFF },
  { name := "LUT_SEQ", off := 0x10C, access := .sh },
  { name := "MAT", off := 0x110, access := .sh, mask := 0xFFFFFF, count := 12, stride := 0x4 },
  { name := "CLAMP", off := 0x140, access := .sh, reset := 0xFFFF0000, count := 3, stride := 0x4 },
  { name := "HDR_CTRL", off := 0x14C, access := .sh, mask := 0xF },
  { name := "PRIM_R", off := 0x150, access := .sh },
  { name := "PRIM_G", off := 0x154, access := .sh },
  { name := "PRIM_B", off := 0x158, access := .sh },
  { name := "WHITE_PT", off := 0x15C, access := .sh },
  { name := "MASTER_LUM", off := 0x160, access := .sh },
  { name := "CONTENT_LUM", off := 0x164, access := .sh }]

/-- The registers of the XPT page (R323). -/
def xptRegs : List RegDesc :=
  [
  { name := "APPLIED_LO", off := 0x20, access := .ro },
  { name := "APPLIED_HI", off := 0x24, access := .ro, mask := 0xFFFF },
  { name := "LINK_STAT", off := 0x28, access := .ro, mask := 0xF1FFF },
  { name := "HPD_STAT", off := 0x2C, access := .ro, mask := 0xFF03 },
  { name := "XPT_REJECT", off := 0x30, access := .ro, mask := 0xFF },
  { name := "CMD", off := 0x34, access := .w1, mask := 0x7 },
  { name := "NEED_MBPS", off := 0x38, access := .ro },
  { name := "CAP_MBPS", off := 0x3C, access := .ro },
  { name := "TRAIN_US", off := 0x40, access := .ro },
  { name := "LINK_LOSS", off := 0x44, access := .ro },
  { name := "SDI_CLIP", off := 0x48, access := .ro },
  { name := "TC_PRESET", off := 0x4C, access := .im },
  { name := "TC_LAST", off := 0x50, access := .ro },
  { name := "SB_CTRL", off := 0x54, access := .im, mask := 0x7FFF },
  { name := "SB_ADDR", off := 0x58, access := .im, mask := 0xFFFFF },
  { name := "SB_STAT", off := 0x5C, access := .ro, mask := 0x1FF },
  { name := "SB_DATA", off := 0x60, access := .im, count := 4, stride := 0x4 },
  { name := "PAYLOAD_ID", off := 0x70, access := .ro },
  { name := "XPT_CTRL", off := 0x100, access := .sh, mask := 0x3F, reset := 0x30 },
  { name := "LINK_CFG", off := 0x104, access := .sh, mask := 0x7F },
  { name := "PIX_CFG", off := 0x108, access := .sh, mask := 0x1FF, reset := 0x4 },
  { name := "LANE_MAP", off := 0x10C, access := .sh, mask := 0xFFF, reset := 0xE4 },
  { name := "TX_EQ", off := 0x110, access := .sh, mask := 0xF },
  { name := "AVI_CFG", off := 0x114, access := .sh, mask := 0x3FFF },
  { name := "SDI_CFG", off := 0x118, access := .sh, mask := 0x1F07FF, reset := 0x90001 }]

/-- The registers of the PPLL page (R290). -/
def ppllRegs : List RegDesc :=
  [
  { name := "APPLIED_LO", off := 0x20, access := .ro },
  { name := "APPLIED_HI", off := 0x24, access := .ro, mask := 0xFFFF },
  { name := "PLL_STAT", off := 0x28, access := .ro, mask := 0xFF },
  { name := "FREQ_INT", off := 0x2C, access := .ro, mask := 0x7FF03FF },
  { name := "FREQ_FRAC", off := 0x30, access := .ro },
  { name := "STREAM_HZ", off := 0x34, access := .ro },
  { name := "BAND", off := 0x38, access := .ro, mask := 0xFFFF003F },
  { name := "FB_RATIO", off := 0x3C, access := .ro, mask := 0x3FFFFFFF },
  { name := "LOCK_US", off := 0x40, access := .ro },
  { name := "PIN_RISE", off := 0x44, access := .ro, mask := 0xFFFF, reset := 0xFFFF },
  { name := "FB_COUNT", off := 0x48, access := .ro },
  { name := "SLIP_COUNT", off := 0x4C, access := .ro },
  { name := "PPLL_REJECT", off := 0x50, access := .ro, mask := 0xFF },
  { name := "CMD", off := 0x54, access := .w1, mask := 0x1 },
  { name := "PLL_CTRL", off := 0x100, access := .sh, mask := 0xF, reset := 0xD },
  { name := "LANE_CTRL", off := 0x104, access := .sh, mask := 0xFF01, reset := 0x100 },
  { name := "RAMP_CTRL", off := 0x108, access := .sh, mask := 0xFF, reset := 0x28 },
  { name := "PROF_0", off := 0x10C, access := .sh, reset := 0x257D09BE },
  { name := "PROF_1", off := 0x110, access := .sh, reset := 0x80004F04 },
  { name := "PROF_2", off := 0x114, access := .sh, reset := 0xDA82B0FB },
  { name := "PROF_3", off := 0x118, access := .sh, reset := 0xFFFFF641 }]

/-- The registers of the DSC page (R326). -/
def dscRegs : List RegDesc :=
  [
  { name := "APPLIED_LO", off := 0x20, access := .ro },
  { name := "APPLIED_HI", off := 0x24, access := .ro, mask := 0xFFFF },
  { name := "DSC_STAT", off := 0x28, access := .ro, mask := 0xF },
  { name := "DSC_REJECT", off := 0x2C, access := .ro, mask := 0xFF },
  { name := "PPS", off := 0x40, access := .ro, count := 32, stride := 0x4 },
  { name := "DSC_CTRL", off := 0x100, access := .sh, mask := 0xF },
  { name := "DSC_CFG", off := 0x104, access := .sh, mask := 0x3FF1F, reset := 0x8011 },
  { name := "DSC_SLICE", off := 0x108, access := .sh, mask := 0x1FFF001F, reset := 0x80004 }]

/-- The registers of the SPLL page (R293). -/
def spllRegs : List RegDesc :=
  [
  { name := "PLL_STAT", off := 0x20, access := .ro, mask := 0xFF },
  { name := "FREQ", off := 0x24, access := .ro, mask := 0x3FFF03FF },
  { name := "BAND", off := 0x28, access := .ro, mask := 0xFFFF003F },
  { name := "LOCK_US", off := 0x2C, access := .ro },
  { name := "PIN_RISE", off := 0x30, access := .ro, mask := 0xFFFF, reset := 0xFFFF },
  { name := "REF_STAT", off := 0x34, access := .ro, mask := 0xFFFF0001 },
  { name := "SPLL_REJECT", off := 0x38, access := .ro, mask := 0xFF },
  { name := "CKO_CTRL", off := 0x40, access := .im, mask := 0x1F1F, count := 2, stride := 0x8 },
  { name := "CKO_DIV", off := 0x44, access := .im, mask := 0xFFFF, reset := 0x1, count := 2, stride := 0x8 },
  { name := "CKO_HZ", off := 0x50, access := .ro, count := 2, stride := 0x4 }]

/-- The registers of the MCG page (R361). -/
def mcgRegs : List RegDesc :=
  [
  { name := "DRAM_CFG", off := 0x20, access := .ro, mask := 0xFFFF00FF },
  { name := "INSTALLED", off := 0x24, access := .ro, mask := 0x3F07FF },
  { name := "TRAIN_STAT", off := 0x28, access := .ro, mask := 0xFFFF03F7 },
  { name := "MCG_REJECT", off := 0x2C, access := .ro, mask := 0xFF },
  { name := "MAP_FIELDS", off := 0x30, access := .im, mask := 0x3F3F3F },
  { name := "MAP_CMD", off := 0x34, access := .w1, mask := 0x1 },
  { name := "MAP_STAT", off := 0x38, access := .ro, mask := 0x3F03 },
  { name := "MAP_XOR_LO", off := 0x40, access := .im, count := 9, stride := 0x8 },
  { name := "MAP_XOR_HI", off := 0x44, access := .im, mask := 0xFF, count := 9, stride := 0x8 },
  { name := "WEIGHT_RT", off := 0x90, access := .im, reset := 0xA0A0A0A },
  { name := "WEIGHT_BULK", off := 0x94, access := .im, reset := 0x404040A },
  { name := "WEIGHT_MNT", off := 0x98, access := .im, mask := 0xFF, reset := 0x2 },
  { name := "TAG_LIMIT", off := 0x9C, access := .im, mask := 0x7FF07FF, reset := 0x400300 },
  { name := "PANIC_STAT", off := 0xA0, access := .ro, mask := 0xF },
  { name := "HAZARD_COUNT", off := 0xA4, access := .ro },
  { name := "HAZARD_MAX", off := 0xA8, access := .ro },
  { name := "RANGE_ERR", off := 0xAC, access := .ro },
  { name := "SPARE_CTRL", off := 0xB0, access := .im, mask := 0xFFFF000F, reset := 0x3E80008 },
  { name := "SPARE_STAT", off := 0xB4, access := .ro },
  { name := "MIG_CMD", off := 0xB8, access := .w1, mask := 0x7F },
  { name := "MIG_STAT", off := 0xBC, access := .ro, mask := 0xFFFFFF7F },
  { name := "MIG_PTR", off := 0xC0, access := .ro },
  { name := "MIG_RATE", off := 0xC4, access := .im, mask := 0xFFFF, reset := 0xC8 },
  { name := "SR_CTRL", off := 0xD0, access := .im, mask := 0xFFFFFF01, reset := 0x320001 },
  { name := "SR_STAT", off := 0xD4, access := .ro, mask := 0xFFFF0003 },
  { name := "SR_RESIDENCY", off := 0xD8, access := .ro },
  { name := "SR_EXIT_MAX", off := 0xDC, access := .ro }]

/-- The registers of the MCC page (R364). -/
def mccRegs : List RegDesc :=
  [
  { name := "APPLIED_LO", off := 0x20, access := .ro },
  { name := "APPLIED_HI", off := 0x24, access := .ro, mask := 0xFFFF },
  { name := "RANK_STATE", off := 0x28, access := .ro, mask := 0xFFF0FFF },
  { name := "TEMP", off := 0x2C, access := .ro, mask := 0x1FF },
  { name := "CE_COUNT_0", off := 0x30, access := .ro },
  { name := "CE_COUNT_1", off := 0x34, access := .ro },
  { name := "UE_COUNT", off := 0x38, access := .ro },
  { name := "ERR_ADDR_LO", off := 0x3C, access := .ro },
  { name := "ERR_INFO", off := 0x40, access := .ro, mask := 0xFFFF },
  { name := "RH_STAT", off := 0x44, access := .ro },
  { name := "THROTTLED", off := 0x48, access := .ro, mask := 0x1FF },
  { name := "MCC_REJECT", off := 0x4C, access := .ro, mask := 0xFF },
  { name := "REF_CTRL", off := 0x100, access := .sh, mask := 0x103, reset := 0x102 },
  { name := "PAGE_CTRL", off := 0x104, access := .sh, mask := 0xFFFF, reset := 0xC8 },
  { name := "RH_CTRL", off := 0x108, access := .sh, reset := 0xA100400 },
  { name := "RH_MODE", off := 0x10C, access := .sh, mask := 0x3 },
  { name := "SCRUB_CTRL", off := 0x110, access := .sh, mask := 0xFFFF, reset := 0x18 }]

/-- The registers of the BLT page (R382). -/
def bltRegs : List RegDesc :=
  [
  { name := "APPLIED_LO", off := 0x20, access := .ro },
  { name := "APPLIED_HI", off := 0x24, access := .ro, mask := 0xFFFF },
  { name := "CMD", off := 0x28, access := .w1, mask := 0x3 },
  { name := "BLT_STAT", off := 0x2C, access := .ro, mask := 0x3F },
  { name := "BLT_REJECT", off := 0x30, access := .ro, mask := 0xFF },
  { name := "ROWS_DONE", off := 0x34, access := .ro, mask := 0xFFFF },
  { name := "BYTES_LAST", off := 0x38, access := .ro },
  { name := "TIME_NS", off := 0x3C, access := .ro },
  { name := "POISON_LINES", off := 0x40, access := .ro },
  { name := "DROP_COUNT", off := 0x44, access := .ro },
  { name := "OP_CTRL", off := 0x100, access := .sh, mask := 0x7 },
  { name := "SRC_FORMAT", off := 0x104, access := .sh, mask := 0x7FF },
  { name := "DST_FORMAT", off := 0x108, access := .sh, mask := 0x7FF },
  { name := "SRC_POS", off := 0x10C, access := .sh, mask := 0x7FFF7FFF },
  { name := "DST_POS", off := 0x110, access := .sh, mask := 0x7FFF7FFF },
  { name := "SIZE", off := 0x114, access := .sh, mask := 0x7FFF7FFF },
  { name := "SRC_PLANE_LO", off := 0x118, access := .sh, count := 3, stride := 0x8 },
  { name := "SRC_PLANE_HI", off := 0x11C, access := .sh, mask := 0xFF, count := 3, stride := 0x8 },
  { name := "SRC_STRIDE", off := 0x130, access := .sh, mask := 0x3FFFFF, count := 3, stride := 0x4 },
  { name := "DST_PLANE_LO", off := 0x140, access := .sh, count := 3, stride := 0x8 },
  { name := "DST_PLANE_HI", off := 0x144, access := .sh, mask := 0xFF, count := 3, stride := 0x8 },
  { name := "DST_STRIDE", off := 0x158, access := .sh, mask := 0x3FFFFF, count := 3, stride := 0x4 },
  { name := "FILL_01", off := 0x170, access := .sh },
  { name := "FILL_23", off := 0x174, access := .sh },
  { name := "DONE_ADDR_LO", off := 0x178, access := .sh },
  { name := "DONE_ADDR_HI", off := 0x17C, access := .sh, mask := 0xFF },
  { name := "DONE_VAL_LO", off := 0x180, access := .sh },
  { name := "DONE_VAL_HI", off := 0x184, access := .sh }]

/-- The registers of the RPG page (R419). -/
def rpgRegs : List RegDesc :=
  [
  { name := "TEAM_CTRL", off := 0x20, access := .im, mask := 0xFFFF37, reset := 0x10001 },
  { name := "TEAM_STAT", off := 0x24, access := .ro, mask := 0x3FFF1F },
  { name := "TEAM_SIZE", off := 0x28, access := .ro, mask := 0x3FFF7FFF },
  { name := "PATH_MAX", off := 0x2C, access := .ro, mask := 0xFFFFFF },
  { name := "COMMIT_LAT", off := 0x30, access := .ro, mask := 0xFFFFFF },
  { name := "TEAM_GUARD", off := 0x34, access := .im, mask := 0x7FF, reset := 0x20 },
  { name := "TEAM_TIME_LO", off := 0x38, access := .ro },
  { name := "TEAM_TIME_HI", off := 0x3C, access := .ro },
  { name := "TEAM_FRAME_LO", off := 0x40, access := .ro },
  { name := "TEAM_FRAME_HI", off := 0x44, access := .ro, mask := 0xFFFF },
  { name := "TIMING_STAT", off := 0x48, access := .ro, mask := 0xFF3F },
  { name := "TIME_ERR", off := 0x4C, access := .ro, mask := 0xFFFF },
  { name := "ENUM_CMD", off := 0x50, access := .w1, mask := 0x3 },
  { name := "WAKE_TARGET", off := 0x54, access := .im, mask := 0xFFBFFF },
  { name := "RG_REJECT", off := 0x58, access := .ro, mask := 0xFF },
  { name := "ID_REQ", off := 0x5C, access := .im, mask := 0x3FFF },
  { name := "PROTO_VER", off := 0x60, access := .ro, reset := 0x1020100 },
  { name := "LOCAL_CAP", off := 0x64, access := .ro, reset := 0xFF },
  { name := "TC_TARGET_LO", off := 0x68, access := .im },
  { name := "TC_TARGET_HI", off := 0x6C, access := .im, mask := 0xFFFF },
  { name := "TC_CTRL", off := 0x70, access := .im, mask := 0x1FF0F, reset := 0x10000 },
  { name := "TC_CMD", off := 0x74, access := .w1, mask := 0x1 },
  { name := "TC_STAT", off := 0x78, access := .ro, mask := 0xFF07 },
  { name := "TC_INFO", off := 0x7C, access := .ro, mask := 0xFFFF3FFF },
  { name := "TC_COUNT", off := 0x80, access := .ro },
  { name := "RREG_CTRL", off := 0x84, access := .im, mask := 0x13FFF },
  { name := "RREG_ADDR", off := 0x88, access := .im, mask := 0xFFFFFC },
  { name := "RREG_DATA", off := 0x8C, access := .im },
  { name := "RREG_CMD", off := 0x90, access := .w1, mask := 0x1 },
  { name := "RREG_STAT", off := 0x94, access := .ro, mask := 0x1F },
  { name := "FWD_CTRL", off := 0xA0, access := .im, mask := 0x3FFF000F },
  { name := "COLLECT_CTRL", off := 0xA4, access := .im, mask := 0x1F },
  { name := "COLLECT_BASE_LO", off := 0xA8, access := .im },
  { name := "COLLECT_BASE_HI", off := 0xAC, access := .im, mask := 0xFF },
  { name := "COLLECT_WPTR", off := 0xB0, access := .ro },
  { name := "FWD_DROP", off := 0xB4, access := .ro },
  { name := "XSRC_LO", off := 0x100, access := .im, count := 8, stride := 0x40 },
  { name := "XSRC_HI", off := 0x104, access := .im, mask := 0xFF, count := 8, stride := 0x40 },
  { name := "XDST_LO", off := 0x108, access := .im, count := 8, stride := 0x40 },
  { name := "XDST_HI", off := 0x10C, access := .im, mask := 0xFF, count := 8, stride := 0x40 }] ++
  [
  { name := "XDEST", off := 0x110, access := .im, mask := 0x3FF3FFF, count := 8, stride := 0x40 },
  { name := "XROW_BYTES", off := 0x114, access := .im, mask := 0x1FFFFF, count := 8, stride := 0x40 },
  { name := "XROWS", off := 0x118, access := .im, mask := 0xFFFF, count := 8, stride := 0x40 },
  { name := "XSRC_STRIDE", off := 0x11C, access := .im, mask := 0x1FFFFF, count := 8, stride := 0x40 },
  { name := "XDST_STRIDE", off := 0x120, access := .im, mask := 0x1FFFFF, count := 8, stride := 0x40 },
  { name := "XFENCE_LO", off := 0x124, access := .im, count := 8, stride := 0x40 },
  { name := "XFENCE_HI", off := 0x128, access := .im, mask := 0xFF, count := 8, stride := 0x40 },
  { name := "XFVAL_LO", off := 0x12C, access := .im, count := 8, stride := 0x40 },
  { name := "XFVAL_HI", off := 0x130, access := .im, count := 8, stride := 0x40 },
  { name := "X_CTRL", off := 0x134, access := .w1, mask := 0x3, count := 8, stride := 0x40 },
  { name := "X_STAT", off := 0x138, access := .ro, mask := 0xF, count := 8, stride := 0x40 },
  { name := "X_BYTES", off := 0x13C, access := .ro, count := 8, stride := 0x40 }]

/-- The registers of the RPP page (R422). -/
def rppRegs : List RegDesc :=
  [
  { name := "APPLIED_LO", off := 0x20, access := .ro },
  { name := "APPLIED_HI", off := 0x24, access := .ro, mask := 0xFFFF },
  { name := "PORT_STAT", off := 0x28, access := .ro, mask := 0xFF0F },
  { name := "PEER_CAP", off := 0x2C, access := .ro },
  { name := "PEER_ID", off := 0x30, access := .ro, mask := 0x80033FFF },
  { name := "PEER_VER", off := 0x34, access := .ro },
  { name := "LINK_DELAY", off := 0x38, access := .ro, mask := 0xFFFFF },
  { name := "REPLAY_COUNT", off := 0x3C, access := .ro },
  { name := "FEC_CORR", off := 0x40, access := .ro },
  { name := "FEC_UNCORR", off := 0x44, access := .ro },
  { name := "DOWN_COUNT", off := 0x48, access := .ro },
  { name := "CMD", off := 0x4C, access := .w1, mask := 0x1 },
  { name := "PORT_CTRL", off := 0x100, access := .sh, mask := 0xF3, reset := 0x1 }]

/-- The registers of the SAFE page (R489). -/
def safeRegs : List RegDesc :=
  [
  { name := "APPLIED_LO", off := 0x20, access := .ro },
  { name := "APPLIED_HI", off := 0x24, access := .ro, mask := 0xFFFF },
  { name := "FAULT_STAT", off := 0x28, access := .sq },
  { name := "FAULT_INFO", off := 0x2C, access := .ro, mask := 0xFFF77F },
  { name := "FAULT_TIME_LO", off := 0x30, access := .ro },
  { name := "FAULT_TIME_HI", off := 0x34, access := .ro },
  { name := "BELAY_STAT", off := 0x38, access := .ro, mask := 0x1FFFF },
  { name := "BELAY_CLEAR", off := 0x3C, access := .w1, mask := 0xFF },
  { name := "REACT", off := 0x40, access := .im, mask := 0x3, count := 24, stride := 0x4 },
  { name := "INJECT_CTRL", off := 0xA0, access := .im, mask := 0x1F71F },
  { name := "INJECT_CMD", off := 0xA4, access := .w1, mask := 0x3 },
  { name := "INJECT_STAT", off := 0xA8, access := .ro, mask := 0xFFFF0007 },
  { name := "SELFTEST_STAT", off := 0xAC, access := .ro, mask := 0xFFFFFF },
  { name := "SAFE_REJECT", off := 0xB0, access := .ro, mask := 0xFF },
  { name := "SAFE_STAT", off := 0xB4, access := .ro, mask := 0x7, reset := 0x4 },
  { name := "SCN_SAFE", off := 0x100, access := .sh, mask := 0xFFFFFF01, reset := 0xC80300, count := 4, stride := 0x10 }]

/-- The registers of the BLY page (R493). -/
def blyRegs : List RegDesc :=
  [
  { name := "APPLIED_LO", off := 0x20, access := .ro },
  { name := "APPLIED_HI", off := 0x24, access := .ro, mask := 0xFFFF },
  { name := "CC_STAT", off := 0x28, access := .ro, mask := 0xFFFFFFF3 },
  { name := "CC_PACE", off := 0x2C, access := .ro, mask := 0xFFFF },
  { name := "BLY_REJECT", off := 0x30, access := .ro, mask := 0x7FF },
  { name := "CRC_LAST", off := 0x40, access := .ro, count := 32, stride := 0x4 },
  { name := "BLY_CTRL", off := 0x100, access := .sh, mask := 0x1F3F01, reset := 0x1, count := 8, stride := 0x60 },
  { name := "PAT_C0_LO", off := 0x104, access := .sh, count := 8, stride := 0x60 },
  { name := "PAT_C0_HI", off := 0x108, access := .sh, mask := 0xFFFF, count := 8, stride := 0x60 },
  { name := "PAT_C1_LO", off := 0x10C, access := .sh, count := 8, stride := 0x60 },
  { name := "PAT_C1_HI", off := 0x110, access := .sh, mask := 0xFFFF, count := 8, stride := 0x60 },
  { name := "CRC_CTRL", off := 0x114, access := .sh, mask := 0xF, count := 8, stride := 0x60 },
  { name := "CRC_POS", off := 0x118, access := .sh, mask := 0x7FFF7FFF, count := 8, stride := 0x60, count2 := 4, stride2 := 12 },
  { name := "CRC_SIZE", off := 0x11C, access := .sh, mask := 0x7FFF7FFF, count := 8, stride := 0x60, count2 := 4, stride2 := 12 },
  { name := "CRC_EXP", off := 0x120, access := .sh, count := 8, stride := 0x60, count2 := 4, stride2 := 12 }]

/-- The registers of the PCIE page (R580). -/
def pcieRegs : List RegDesc :=
  [
  { name := "LINK_STAT", off := 0x20, access := .ro, mask := 0xFFF },
  { name := "FUNC_STAT", off := 0x24, access := .ro },
  { name := "BAR2_SIZE", off := 0x28, access := .ro, mask := 0xF, reset := 0x6 },
  { name := "BAD_LAST", off := 0x2C, access := .ro },
  { name := "BAD_COUNT", off := 0x30, access := .ro },
  { name := "POISON_TX", off := 0x34, access := .ro },
  { name := "POISON_RX", off := 0x38, access := .ro },
  { name := "RESET_COUNT", off := 0x3C, access := .ro },
  { name := "LAT_MAX", off := 0x40, access := .ro },
  { name := "QSPI_STAT", off := 0x44, access := .ro, mask := 0xF },
  { name := "SMB_CTRL", off := 0x48, access := .im, mask := 0x37F, reset := 0x24C },
  { name := "SMB_DENY", off := 0x4C, access := .ro },
  { name := "IRQ_PIN", off := 0x50, access := .im, mask := 0x1 },
  { name := "GPIO_DIR", off := 0x60, access := .im, mask := 0xFFFF },
  { name := "GPIO_OUT", off := 0x64, access := .im, mask := 0xFFFF },
  { name := "GPIO_IN", off := 0x68, access := .ro, mask := 0xFFFF },
  { name := "GPIO_OD", off := 0x6C, access := .im, mask := 0xFFFF },
  { name := "GPIO_PULL", off := 0x70, access := .im, reset := 0xFFFFFFFF },
  { name := "GPIO_EVT", off := 0x74, access := .im }]

/-- The page-specific registers of a page type. -/
def Page.regs : Page → List RegDesc
  | .sys => sysRegs
  | .prot => protRegs
  | .mwin => mwinRegs
  | .pwr => pwrRegs
  | .fwm => fwmRegs
  | .svc => svcRegs
  | .intc => intcRegs
  | .isrc => isrcRegs
  | .elog => elogRegs
  | .intf => intfRegs
  | .leng => lengRegs
  | .scn => scnRegs
  | .tone => toneRegs
  | .stim => stimRegs
  | .schk => schkRegs
  | .fmem => fmemRegs
  | .anch => anchRegs
  | .scan => scanRegs
  | .padp => padpRegs
  | .xpt => xptRegs
  | .ppll => ppllRegs
  | .dsc => dscRegs
  | .spll => spllRegs
  | .mcg => mcgRegs
  | .mcc => mccRegs
  | .blt => bltRegs
  | .rpg => rpgRegs
  | .rpp => rppRegs
  | .safe => safeRegs
  | .bly => blyRegs
  | .pcie => pcieRegs

/-- The first row of a list that covers an offset. -/
def findDesc : List RegDesc → Nat → Option RegDesc
  | [], _ => none
  | d :: r, off => if d.covers off then some d else findDesc r off

/-- The row that describes a page offset; the active mirror at 0x900 to 0xFFF shows the shadow row (R8, R40). -/
def Page.desc (p : Page) (off : Nat) : Option RegDesc :=
  if off < 0x20 then findDesc hdrRegs off
  else if p.shadowed ∧ 0x800 ≤ off then
    (if 0x900 ≤ off then findDesc p.regs (off - 0x800) else none)
  else findDesc p.regs off

end Sys2Proof.Machine

/-! Register offsets, one name per row of the tables. -/

namespace Sys2Proof.Machine.Off

abbrev PAGE_ID : Nat := 0x0
abbrev PAGE_CAP : Nat := 0x4
abbrev PAGE_CTRL : Nat := 0x8
abbrev PAGE_STAT : Nat := 0xC
abbrev COMMIT : Nat := 0x10
abbrev COMMIT_STAT : Nat := 0x14
abbrev BOUNDARY : Nat := 0x18
abbrev PAGE_EVT_EN : Nat := 0x1C
abbrev SYS_DEVICE_ID : Nat := 0x20
abbrev SYS_REVISION : Nat := 0x24
abbrev SYS_UNIT_ID_LO : Nat := 0x28
abbrev SYS_UNIT_ID_HI : Nat := 0x2C
abbrev SYS_TIME_LO : Nat := 0x30
abbrev SYS_TIME_HI : Nat := 0x34
abbrev SYS_GROUP_COMMIT : Nat := 0x40
abbrev SYS_GROUP_TARGET_LO : Nat := 0x44
abbrev SYS_GROUP_TARGET_HI : Nat := 0x48
abbrev SYS_GROUP_STAT : Nat := 0x4C
abbrev SYS_REJECT_LAST : Nat := 0x50
abbrev SYS_REJECT_COUNT : Nat := 0x54
abbrev PROT_DENY_LAST : Nat := 0x20
abbrev PROT_DENY_COUNT : Nat := 0x24
abbrev PROT_ACC : Nat := 0x100
abbrev PROT_REMOTE_WR : Nat := 0x500
abbrev MWIN_CTRL : Nat := 0x20
abbrev MWIN_DENY_LAST_LO : Nat := 0x24
abbrev MWIN_DENY_LAST_HI : Nat := 0x28
abbrev MWIN_DENY_COUNT : Nat := 0x2C
abbrev MWIN_WIN_BASE : Nat := 0x100
abbrev MWIN_WIN_LAST : Nat := 0x104
abbrev MWIN_WIN_PERM : Nat := 0x108
abbrev PWR_MODE : Nat := 0x20
abbrev PWR_MODE_REQ : Nat := 0x24
abbrev PWR_MODE_STAT : Nat := 0x28
abbrev PWR_DEGRADE : Nat := 0x2C
abbrev PWR_RESET_CAUSE : Nat := 0x30
abbrev PWR_RESET_CMD : Nat := 0x34
abbrev PWR_VP_CTRL : Nat := 0x38
abbrev PWR_VP_REQ : Nat := 0x3C
abbrev PWR_VP_STAT : Nat := 0x40
abbrev PWR_TEMP : Nat := 0x44
abbrev PWR_TEMP_MAX : Nat := 0x48
abbrev PWR_THERM_CTRL : Nat := 0x4C
abbrev PWR_SUPPLY_STAT : Nat := 0x50
abbrev PWR_BIV_STAT : Nat := 0x54
abbrev PWR_ASLEEP_ACCESS : Nat := 0x58
abbrev PWR_PWR_REJECT : Nat := 0x5C
abbrev PWR_BOOT_TIME : Nat := 0x60
abbrev FWM_API_VER : Nat := 0x20
abbrev FWM_FW_STAT : Nat := 0x24
abbrev FWM_IMAGE_VER : Nat := 0x28
abbrev FWM_SEC_STAT : Nat := 0x2C
abbrev FWM_TRIAL_CTRL : Nat := 0x30
abbrev FWM_TRIAL_LEFT : Nat := 0x34
abbrev FWM_FW_CMD : Nat := 0x38
abbrev FWM_HEALTH_CONFIRM : Nat := 0x3C
abbrev FWM_FW_REJECT : Nat := 0x40
abbrev FWM_FALLBACK_INFO : Nat := 0x44
abbrev FWM_HANDOVER_TIME : Nat := 0x48
abbrev FWM_MBX_CTRL : Nat := 0x4C
abbrev FWM_MBX_STAT : Nat := 0x50
abbrev FWM_MBX_REQ : Nat := 0x100
abbrev FWM_MBX_RSP : Nat := 0x200
abbrev SVC_SVC_CTRL : Nat := 0x20
abbrev SVC_SVC_STAT : Nat := 0x24
abbrev SVC_RAKIN_VER : Nat := 0x28
abbrev SVC_FLASH_INFO : Nat := 0x2C
abbrev SVC_STAGE_STAT : Nat := 0x30
abbrev SVC_STAGE_VER : Nat := 0x34
abbrev SVC_STAGE_BYTES : Nat := 0x38
abbrev SVC_BOOT_STAT : Nat := 0x3C
abbrev SVC_FLASH_ERRS : Nat := 0x40
abbrev SVC_SVC_REJECT : Nat := 0x44
abbrev INTC_CLAIM : Nat := 0x20
abbrev INTC_COMPLETE : Nat := 0x24
abbrev INTC_GLOBAL_HOLD : Nat := 0x28
abbrev INTC_DELIV_STAT : Nat := 0x2C
abbrev INTC_DB_RAISE_LO : Nat := 0x30
abbrev INTC_DB_RAISE_HI : Nat := 0x34
abbrev INTC_EMPTY_COUNT : Nat := 0x38
abbrev INTC_PROFILE : Nat := 0x40
abbrev INTC_WAKE_CTRL : Nat := 0xC0
abbrev INTC_WAKE_STAT : Nat := 0xC4
abbrev INTC_WAKE_TIMER : Nat := 0xC8
abbrev ISRC_PEND_LO : Nat := 0x20
abbrev ISRC_PEND_HI : Nat := 0x24
abbrev ISRC_ACTIVE_LO : Nat := 0x28
abbrev ISRC_ACTIVE_HI : Nat := 0x2C
abbrev ISRC_PEND_CLR_LO : Nat := 0x30
abbrev ISRC_PEND_CLR_HI : Nat := 0x34
abbrev ISRC_SRC_CFG : Nat := 0x100
abbrev ISRC_SRC_LOG : Nat := 0x200
abbrev ELOG_ELOG_CTRL : Nat := 0x20
abbrev ELOG_ELOG_STAT : Nat := 0x24
abbrev ELOG_ELOG_CMD : Nat := 0x28
abbrev ELOG_WPTR : Nat := 0x30
abbrev ELOG_RPTR : Nat := 0x34
abbrev ELOG_LOST : Nat := 0x48
abbrev ELOG_SUPP_TOTAL : Nat := 0x54
abbrev ELOG_SPILL_BASE_LO : Nat := 0x58
abbrev ELOG_SPILL_BASE_HI : Nat := 0x5C
abbrev ELOG_SPILL_SIZE : Nat := 0x60
abbrev ELOG_SPILL_WPTR : Nat := 0x64
abbrev ELOG_SPILL_RPTR : Nat := 0x68
abbrev ELOG_SPILL_LOST : Nat := 0x6C
abbrev ELOG_WIN_SEL : Nat := 0x70
abbrev ELOG_SAT_SEL : Nat := 0x74
abbrev ELOG_SAT_INFO : Nat := 0x78
abbrev ELOG_SAT_COUNT : Nat := 0x7C
abbrev ELOG_LOG_RATE : Nat := 0x80
abbrev ELOG_WIN : Nat := 0x90
abbrev INTF_CLAIM : Nat := 0x20
abbrev INTF_COMPLETE : Nat := 0x24
abbrev INTF_FAST_PENDING : Nat := 0x28
abbrev LENG_ENG_INFO : Nat := 0x28
abbrev LENG_PACE : Nat := 0x2C
abbrev LENG_WORK_PIX : Nat := 0x30
abbrev LENG_FINISH_NS : Nat := 0x34
abbrev LENG_POISON_READS : Nat := 0x38
abbrev LENG_POISON_PIX : Nat := 0x3C
abbrev LENG_BUF_STAT : Nat := 0x40
abbrev LENG_BUF_REJECT : Nat := 0x44
abbrev LENG_USE_STAT : Nat := 0x48
abbrev LENG_SOURCE_SEQ : Nat := 0x4C
abbrev LENG_VIOL_ADDR_LO : Nat := 0x50
abbrev LENG_VIOL_INFO : Nat := 0x54
abbrev LENG_VIOL_COUNT : Nat := 0x58
abbrev LENG_STALL_COUNT : Nat := 0x5C
abbrev LENG_CULL_STAT : Nat := 0x60
abbrev LENG_READS_LAST : Nat := 0x64
abbrev LENG_FORMAT : Nat := 0x100
abbrev LENG_SRC_SIZE : Nat := 0x104
abbrev LENG_PLANE0_LO : Nat := 0x108
abbrev LENG_PLANE0_HI : Nat := 0x10C
abbrev LENG_PLANE1_LO : Nat := 0x110
abbrev LENG_PLANE1_HI : Nat := 0x114
abbrev LENG_PLANE2_LO : Nat := 0x118
abbrev LENG_PLANE2_HI : Nat := 0x11C
abbrev LENG_ALPHA_LO : Nat := 0x120
abbrev LENG_ALPHA_HI : Nat := 0x124
abbrev LENG_STRIDE0 : Nat := 0x128
abbrev LENG_STRIDE1 : Nat := 0x12C
abbrev LENG_STRIDE2 : Nat := 0x130
abbrev LENG_STRIDE_A : Nat := 0x134
abbrev LENG_READY_ADDR_LO : Nat := 0x138
abbrev LENG_READY_ADDR_HI : Nat := 0x13C
abbrev LENG_READY_VAL_LO : Nat := 0x140
abbrev LENG_READY_VAL_HI : Nat := 0x144
abbrev LENG_RELEASE_ADDR_LO : Nat := 0x148
abbrev LENG_RELEASE_ADDR_HI : Nat := 0x14C
abbrev LENG_RELEASE_VAL_LO : Nat := 0x150
abbrev LENG_RELEASE_VAL_HI : Nat := 0x154
abbrev LENG_META_ADDR_LO : Nat := 0x158
abbrev LENG_META_ADDR_HI : Nat := 0x15C
abbrev LENG_BUF_CTRL : Nat := 0x160
abbrev LENG_LAYER_CTRL : Nat := 0x164
abbrev LENG_CROP_POS : Nat := 0x168
abbrev LENG_CROP_SIZE : Nat := 0x16C
abbrev LENG_DST_POS : Nat := 0x170
abbrev LENG_DST_SIZE : Nat := 0x174
abbrev LENG_SCALE_CTRL : Nat := 0x178
abbrev LENG_H_INIT : Nat := 0x17C
abbrev LENG_V_INIT : Nat := 0x180
abbrev LENG_GANG : Nat := 0x184
abbrev LENG_POLICY : Nat := 0x188
abbrev LENG_FILL_RG : Nat := 0x18C
abbrev LENG_FILL_BA : Nat := 0x190
abbrev LENG_OPQ_POS : Nat := 0x194
abbrev LENG_OPQ_SIZE : Nat := 0x198
abbrev LENG_KEY_CTRL : Nat := 0x1B4
abbrev LENG_KEY_CLIP : Nat := 0x1B8
abbrev LENG_KEY_GAIN : Nat := 0x1BC
abbrev LENG_KEY_COLOUR : Nat := 0x1C0
abbrev LENG_CLR_CTRL : Nat := 0x300
abbrev LENG_SDR_PARAM : Nat := 0x304
abbrev LENG_HLG_PARAM : Nat := 0x308
abbrev LENG_LIN_SCALE : Nat := 0x30C
abbrev LENG_MAT : Nat := 0x310
abbrev LENG_YCC : Nat := 0x340
abbrev LENG_LUT_EXPOSURE : Nat := 0x364
abbrev LENG_LUT_SRC : Nat := 0x368
abbrev LENG_LUT_DST : Nat := 0x36C
abbrev LENG_LUT_TABLE_LO : Nat := 0x370
abbrev LENG_LUT_TABLE_HI : Nat := 0x374
abbrev LENG_CUP_CTRL : Nat := 0x378
abbrev LENG_HCOEF : Nat := 0x400
abbrev LENG_VCOEF : Nat := 0x610
abbrev SCN_SCN_REJECT : Nat := 0x28
abbrev SCN_ACTIVE_LO : Nat := 0x2C
abbrev SCN_ACTIVE_HI : Nat := 0x30
abbrev SCN_PENDING_LO : Nat := 0x34
abbrev SCN_PENDING_HI : Nat := 0x38
abbrev SCN_FLAT_STAT : Nat := 0x3C
abbrev SCN_SCN_CTRL : Nat := 0x100
abbrev SCN_CANVAS : Nat := 0x104
abbrev SCN_BG_RG : Nat := 0x108
abbrev SCN_BG_B : Nat := 0x10C
abbrev SCN_ASSIGN_LO : Nat := 0x110
abbrev SCN_ASSIGN_HI : Nat := 0x114
abbrev SCN_FLAT_CTRL : Nat := 0x118
abbrev SCN_SLOT : Nat := 0x140
abbrev TONE_LUT_STAT : Nat := 0x28
abbrev TONE_STATS_MAX : Nat := 0x2C
abbrev TONE_STATS_AVG : Nat := 0x30
abbrev TONE_LAYER_LATE_LO : Nat := 0x34
abbrev TONE_LAYER_LATE_HI : Nat := 0x38
abbrev TONE_TONE_REJECT : Nat := 0x3C
abbrev TONE_BUILD_NS : Nat := 0x40
abbrev TONE_TONE_CTRL : Nat := 0x100
abbrev TONE_EXPOSURE : Nat := 0x104
abbrev TONE_SRC_RANGE : Nat := 0x108
abbrev TONE_DST_RANGE : Nat := 0x10C
abbrev TONE_TABLE_LO : Nat := 0x110
abbrev TONE_TABLE_HI : Nat := 0x114
abbrev TONE_OUT_CTRL : Nat := 0x118
abbrev TONE_OUT_HLG : Nat := 0x11C
abbrev STIM_FRAME_LO : Nat := 0x28
abbrev STIM_FRAME_HI : Nat := 0x2C
abbrev STIM_GUARD : Nat := 0x30
abbrev STIM_LAST_FRAME : Nat := 0x34
abbrev STIM_SLACK : Nat := 0x38
abbrev STIM_COMPOSE_NS : Nat := 0x3C
abbrev STIM_WAIT_NS : Nat := 0x40
abbrev STIM_BLEND_PACE : Nat := 0x44
abbrev STIM_REPEAT_COUNT : Nat := 0x48
abbrev STIM_HELD_COUNT : Nat := 0x4C
abbrev STIM_FALL_COUNT : Nat := 0x50
abbrev STIM_LEAD_MIN : Nat := 0x54
abbrev STIM_FORCE : Nat := 0x58
abbrev STIM_MODE : Nat := 0x100
abbrev STIM_SLACK_LOW : Nat := 0x104
abbrev STIM_PANIC : Nat := 0x108
abbrev STIM_WAIT_CTRL : Nat := 0x10C
abbrev SCHK_REGION_STAT : Nat := 0x28
abbrev SCHK_SKIP_STAT : Nat := 0x2C
abbrev SCHK_REF_STAT : Nat := 0x30
abbrev SCHK_CHECK_NS : Nat := 0x34
abbrev SCHK_SCHK_REJECT : Nat := 0x38
abbrev SCHK_UNCOVERED : Nat := 0x3C
abbrev SCHK_HB_AGE : Nat := 0x40
abbrev SCHK_REG_POS : Nat := 0x100
abbrev SCHK_REG_SIZE : Nat := 0x104
abbrev SCHK_REG_CTRL : Nat := 0x108
abbrev SCHK_REG_TOL : Nat := 0x10C
abbrev FMEM_INFO : Nat := 0x20
abbrev FMEM_FREE : Nat := 0x24
abbrev FMEM_NEW_BASE : Nat := 0x28
abbrev FMEM_NEW_SIZE : Nat := 0x2C
abbrev FMEM_NEW_DESC : Nat := 0x30
abbrev FMEM_NEW_DIM : Nat := 0x34
abbrev FMEM_ALLOC_CMD : Nat := 0x38
abbrev FMEM_ALLOC_STAT : Nat := 0x3C
abbrev FMEM_XFER_DRAM_LO : Nat := 0x40
abbrev FMEM_XFER_DRAM_HI : Nat := 0x44
abbrev FMEM_XFER_STRIDE : Nat := 0x48
abbrev FMEM_XFER_ROWS : Nat := 0x4C
abbrev FMEM_XFER_CTRL : Nat := 0x50
abbrev FMEM_XFER_STAT : Nat := 0x54
abbrev FMEM_XFER_CRC : Nat := 0x58
abbrev FMEM_XFER_BYTES : Nat := 0x5C
abbrev FMEM_CORR_COUNT : Nat := 0x60
abbrev FMEM_UNCORR_COUNT : Nat := 0x64
abbrev FMEM_ERR_ADDR_LO : Nat := 0x68
abbrev FMEM_ERR_INFO : Nat := 0x6C
abbrev FMEM_SCRUB_STAT : Nat := 0x70
abbrev FMEM_SLOT_RESV : Nat := 0x74
abbrev FMEM_SLOT_BUSY : Nat := 0x78
abbrev FMEM_ENT_BASE : Nat := 0x100
abbrev FMEM_ENT_SIZE : Nat := 0x104
abbrev FMEM_ENT_DESC : Nat := 0x108
abbrev FMEM_ENT_DIM : Nat := 0x10C
abbrev ANCH_IN_CTRL : Nat := 0x20
abbrev ANCH_IN_PERIOD : Nat := 0x30
abbrev ANCH_IN_COUNT : Nat := 0x40
abbrev ANCH_ANCH_REJECT : Nat := 0x50
abbrev ANCH_PORT_TSTAT : Nat := 0x60
abbrev ANCH_CAD_CTRL : Nat := 0x100
abbrev ANCH_RATE_NUM : Nat := 0x104
abbrev ANCH_RATE_DEN : Nat := 0x108
abbrev ANCH_RAMP : Nat := 0x10C
abbrev ANCH_SLEW : Nat := 0x110
abbrev ANCH_REF_OFFSET : Nat := 0x114
abbrev ANCH_WINDOW : Nat := 0x118
abbrev ANCH_FREE_TRIM : Nat := 0x11C
abbrev ANCH_TARGET_LO : Nat := 0x120
abbrev ANCH_TARGET_HI : Nat := 0x124
abbrev ANCH_CAD_CMD : Nat := 0x128
abbrev ANCH_CAD_STAT : Nat := 0x12C
abbrev ANCH_PHASE_ERR : Nat := 0x130
abbrev ANCH_PERIOD : Nat := 0x134
abbrev ANCH_ACTIVE_NUM : Nat := 0x138
abbrev ANCH_ACTIVE_DEN : Nat := 0x13C
abbrev SCAN_PFRAME_LO : Nat := 0x28
abbrev SCAN_PFRAME_HI : Nat := 0x2C
abbrev SCAN_SHOWN_LO : Nat := 0x30
abbrev SCAN_SHOWN_HI : Nat := 0x34
abbrev SCAN_LINE : Nat := 0x38
abbrev SCAN_LINE_MATCH : Nat := 0x3C
abbrev SCAN_PORT_GUARD : Nat := 0x40
abbrev SCAN_UNDERRUN_LINES : Nat := 0x44
abbrev SCAN_UNDERRUN_LAST : Nat := 0x48
abbrev SCAN_POISON_PIX : Nat := 0x4C
abbrev SCAN_SCAN_REJECT : Nat := 0x50
abbrev SCAN_SCAN_CTRL : Nat := 0x100
abbrev SCAN_WIN_POS : Nat := 0x104
abbrev SCAN_WIN_SIZE : Nat := 0x108
abbrev SCAN_ACT_POS : Nat := 0x10C
abbrev SCAN_BORDER_RG : Nat := 0x110
abbrev SCAN_BORDER_B : Nat := 0x114
abbrev SCAN_FILL_RG : Nat := 0x118
abbrev SCAN_FILL_B : Nat := 0x11C
abbrev SCAN_RAS_CTRL : Nat := 0x200
abbrev SCAN_H_TIMING : Nat := 0x204
abbrev SCAN_H_SYNC : Nat := 0x208
abbrev SCAN_V_TIMING : Nat := 0x20C
abbrev SCAN_V_SYNC : Nat := 0x210
abbrev SCAN_PHASE : Nat := 0x214
abbrev PADP_LUT_STAT : Nat := 0x28
abbrev PADP_ADAPT_REJECT : Nat := 0x2C
abbrev PADP_LUT_CRC : Nat := 0x30
abbrev PADP_PRESTAGE : Nat := 0x34
abbrev PADP_ACTIVE_SEQ : Nat := 0x38
abbrev PADP_ADP_CTRL : Nat := 0x100
abbrev PADP_LUT_ADDR_LO : Nat := 0x104
abbrev PADP_LUT_ADDR_HI : Nat := 0x108
abbrev PADP_LUT_SEQ : Nat := 0x10C
abbrev PADP_MAT : Nat := 0x110
abbrev PADP_CLAMP : Nat := 0x140
abbrev PADP_HDR_CTRL : Nat := 0x14C
abbrev PADP_PRIM_R : Nat := 0x150
abbrev PADP_PRIM_G : Nat := 0x154
abbrev PADP_PRIM_B : Nat := 0x158
abbrev PADP_WHITE_PT : Nat := 0x15C
abbrev PADP_MASTER_LUM : Nat := 0x160
abbrev PADP_CONTENT_LUM : Nat := 0x164
abbrev XPT_LINK_STAT : Nat := 0x28
abbrev XPT_HPD_STAT : Nat := 0x2C
abbrev XPT_XPT_REJECT : Nat := 0x30
abbrev XPT_CMD : Nat := 0x34
abbrev XPT_NEED_MBPS : Nat := 0x38
abbrev XPT_CAP_MBPS : Nat := 0x3C
abbrev XPT_TRAIN_US : Nat := 0x40
abbrev XPT_LINK_LOSS : Nat := 0x44
abbrev XPT_SDI_CLIP : Nat := 0x48
abbrev XPT_TC_PRESET : Nat := 0x4C
abbrev XPT_TC_LAST : Nat := 0x50
abbrev XPT_SB_CTRL : Nat := 0x54
abbrev XPT_SB_ADDR : Nat := 0x58
abbrev XPT_SB_STAT : Nat := 0x5C
abbrev XPT_SB_DATA : Nat := 0x60
abbrev XPT_PAYLOAD_ID : Nat := 0x70
abbrev XPT_XPT_CTRL : Nat := 0x100
abbrev XPT_LINK_CFG : Nat := 0x104
abbrev XPT_PIX_CFG : Nat := 0x108
abbrev XPT_LANE_MAP : Nat := 0x10C
abbrev XPT_TX_EQ : Nat := 0x110
abbrev XPT_AVI_CFG : Nat := 0x114
abbrev XPT_SDI_CFG : Nat := 0x118
abbrev PPLL_PLL_STAT : Nat := 0x28
abbrev PPLL_FREQ_INT : Nat := 0x2C
abbrev PPLL_FREQ_FRAC : Nat := 0x30
abbrev PPLL_STREAM_HZ : Nat := 0x34
abbrev PPLL_BAND : Nat := 0x38
abbrev PPLL_FB_RATIO : Nat := 0x3C
abbrev PPLL_LOCK_US : Nat := 0x40
abbrev PPLL_PIN_RISE : Nat := 0x44
abbrev PPLL_FB_COUNT : Nat := 0x48
abbrev PPLL_SLIP_COUNT : Nat := 0x4C
abbrev PPLL_PPLL_REJECT : Nat := 0x50
abbrev PPLL_CMD : Nat := 0x54
abbrev PPLL_PLL_CTRL : Nat := 0x100
abbrev PPLL_LANE_CTRL : Nat := 0x104
abbrev PPLL_RAMP_CTRL : Nat := 0x108
abbrev PPLL_PROF_0 : Nat := 0x10C
abbrev PPLL_PROF_1 : Nat := 0x110
abbrev PPLL_PROF_2 : Nat := 0x114
abbrev PPLL_PROF_3 : Nat := 0x118
abbrev DSC_DSC_STAT : Nat := 0x28
abbrev DSC_DSC_REJECT : Nat := 0x2C
abbrev DSC_PPS : Nat := 0x40
abbrev DSC_DSC_CTRL : Nat := 0x100
abbrev DSC_DSC_CFG : Nat := 0x104
abbrev DSC_DSC_SLICE : Nat := 0x108
abbrev SPLL_PLL_STAT : Nat := 0x20
abbrev SPLL_FREQ : Nat := 0x24
abbrev SPLL_BAND : Nat := 0x28
abbrev SPLL_LOCK_US : Nat := 0x2C
abbrev SPLL_PIN_RISE : Nat := 0x30
abbrev SPLL_REF_STAT : Nat := 0x34
abbrev SPLL_SPLL_REJECT : Nat := 0x38
abbrev SPLL_CKO_CTRL : Nat := 0x40
abbrev SPLL_CKO_DIV : Nat := 0x44
abbrev SPLL_CKO_HZ : Nat := 0x50
abbrev MCG_DRAM_CFG : Nat := 0x20
abbrev MCG_INSTALLED : Nat := 0x24
abbrev MCG_TRAIN_STAT : Nat := 0x28
abbrev MCG_MCG_REJECT : Nat := 0x2C
abbrev MCG_MAP_FIELDS : Nat := 0x30
abbrev MCG_MAP_CMD : Nat := 0x34
abbrev MCG_MAP_STAT : Nat := 0x38
abbrev MCG_MAP_XOR_LO : Nat := 0x40
abbrev MCG_MAP_XOR_HI : Nat := 0x44
abbrev MCG_WEIGHT_RT : Nat := 0x90
abbrev MCG_WEIGHT_BULK : Nat := 0x94
abbrev MCG_WEIGHT_MNT : Nat := 0x98
abbrev MCG_TAG_LIMIT : Nat := 0x9C
abbrev MCG_PANIC_STAT : Nat := 0xA0
abbrev MCG_HAZARD_COUNT : Nat := 0xA4
abbrev MCG_HAZARD_MAX : Nat := 0xA8
abbrev MCG_RANGE_ERR : Nat := 0xAC
abbrev MCG_SPARE_CTRL : Nat := 0xB0
abbrev MCG_SPARE_STAT : Nat := 0xB4
abbrev MCG_MIG_CMD : Nat := 0xB8
abbrev MCG_MIG_STAT : Nat := 0xBC
abbrev MCG_MIG_PTR : Nat := 0xC0
abbrev MCG_MIG_RATE : Nat := 0xC4
abbrev MCG_SR_CTRL : Nat := 0xD0
abbrev MCG_SR_STAT : Nat := 0xD4
abbrev MCG_SR_RESIDENCY : Nat := 0xD8
abbrev MCG_SR_EXIT_MAX : Nat := 0xDC
abbrev MCC_RANK_STATE : Nat := 0x28
abbrev MCC_TEMP : Nat := 0x2C
abbrev MCC_CE_COUNT_0 : Nat := 0x30
abbrev MCC_CE_COUNT_1 : Nat := 0x34
abbrev MCC_UE_COUNT : Nat := 0x38
abbrev MCC_ERR_ADDR_LO : Nat := 0x3C
abbrev MCC_ERR_INFO : Nat := 0x40
abbrev MCC_RH_STAT : Nat := 0x44
abbrev MCC_THROTTLED : Nat := 0x48
abbrev MCC_MCC_REJECT : Nat := 0x4C
abbrev MCC_REF_CTRL : Nat := 0x100
abbrev MCC_PAGE_CTRL : Nat := 0x104
abbrev MCC_RH_CTRL : Nat := 0x108
abbrev MCC_RH_MODE : Nat := 0x10C
abbrev MCC_SCRUB_CTRL : Nat := 0x110
abbrev BLT_CMD : Nat := 0x28
abbrev BLT_BLT_STAT : Nat := 0x2C
abbrev BLT_BLT_REJECT : Nat := 0x30
abbrev BLT_ROWS_DONE : Nat := 0x34
abbrev BLT_BYTES_LAST : Nat := 0x38
abbrev BLT_TIME_NS : Nat := 0x3C
abbrev BLT_POISON_LINES : Nat := 0x40
abbrev BLT_DROP_COUNT : Nat := 0x44
abbrev BLT_OP_CTRL : Nat := 0x100
abbrev BLT_SRC_FORMAT : Nat := 0x104
abbrev BLT_DST_FORMAT : Nat := 0x108
abbrev BLT_SRC_POS : Nat := 0x10C
abbrev BLT_DST_POS : Nat := 0x110
abbrev BLT_SIZE : Nat := 0x114
abbrev BLT_SRC_PLANE_LO : Nat := 0x118
abbrev BLT_SRC_PLANE_HI : Nat := 0x11C
abbrev BLT_SRC_STRIDE : Nat := 0x130
abbrev BLT_DST_PLANE_LO : Nat := 0x140
abbrev BLT_DST_PLANE_HI : Nat := 0x144
abbrev BLT_DST_STRIDE : Nat := 0x158
abbrev BLT_FILL_01 : Nat := 0x170
abbrev BLT_FILL_23 : Nat := 0x174
abbrev BLT_DONE_ADDR_LO : Nat := 0x178
abbrev BLT_DONE_ADDR_HI : Nat := 0x17C
abbrev BLT_DONE_VAL_LO : Nat := 0x180
abbrev BLT_DONE_VAL_HI : Nat := 0x184
abbrev RPG_TEAM_CTRL : Nat := 0x20
abbrev RPG_TEAM_STAT : Nat := 0x24
abbrev RPG_TEAM_SIZE : Nat := 0x28
abbrev RPG_PATH_MAX : Nat := 0x2C
abbrev RPG_COMMIT_LAT : Nat := 0x30
abbrev RPG_TEAM_GUARD : Nat := 0x34
abbrev RPG_TEAM_TIME_LO : Nat := 0x38
abbrev RPG_TEAM_TIME_HI : Nat := 0x3C
abbrev RPG_TEAM_FRAME_LO : Nat := 0x40
abbrev RPG_TEAM_FRAME_HI : Nat := 0x44
abbrev RPG_TIMING_STAT : Nat := 0x48
abbrev RPG_TIME_ERR : Nat := 0x4C
abbrev RPG_ENUM_CMD : Nat := 0x50
abbrev RPG_WAKE_TARGET : Nat := 0x54
abbrev RPG_RG_REJECT : Nat := 0x58
abbrev RPG_ID_REQ : Nat := 0x5C
abbrev RPG_PROTO_VER : Nat := 0x60
abbrev RPG_LOCAL_CAP : Nat := 0x64
abbrev RPG_TC_TARGET_LO : Nat := 0x68
abbrev RPG_TC_TARGET_HI : Nat := 0x6C
abbrev RPG_TC_CTRL : Nat := 0x70
abbrev RPG_TC_CMD : Nat := 0x74
abbrev RPG_TC_STAT : Nat := 0x78
abbrev RPG_TC_INFO : Nat := 0x7C
abbrev RPG_TC_COUNT : Nat := 0x80
abbrev RPG_RREG_CTRL : Nat := 0x84
abbrev RPG_RREG_ADDR : Nat := 0x88
abbrev RPG_RREG_DATA : Nat := 0x8C
abbrev RPG_RREG_CMD : Nat := 0x90
abbrev RPG_RREG_STAT : Nat := 0x94
abbrev RPG_FWD_CTRL : Nat := 0xA0
abbrev RPG_COLLECT_CTRL : Nat := 0xA4
abbrev RPG_COLLECT_BASE_LO : Nat := 0xA8
abbrev RPG_COLLECT_BASE_HI : Nat := 0xAC
abbrev RPG_COLLECT_WPTR : Nat := 0xB0
abbrev RPG_FWD_DROP : Nat := 0xB4
abbrev RPG_XSRC_LO : Nat := 0x100
abbrev RPG_XSRC_HI : Nat := 0x104
abbrev RPG_XDST_LO : Nat := 0x108
abbrev RPG_XDST_HI : Nat := 0x10C
abbrev RPG_XDEST : Nat := 0x110
abbrev RPG_XROW_BYTES : Nat := 0x114
abbrev RPG_XROWS : Nat := 0x118
abbrev RPG_XSRC_STRIDE : Nat := 0x11C
abbrev RPG_XDST_STRIDE : Nat := 0x120
abbrev RPG_XFENCE_LO : Nat := 0x124
abbrev RPG_XFENCE_HI : Nat := 0x128
abbrev RPG_XFVAL_LO : Nat := 0x12C
abbrev RPG_XFVAL_HI : Nat := 0x130
abbrev RPG_X_CTRL : Nat := 0x134
abbrev RPG_X_STAT : Nat := 0x138
abbrev RPG_X_BYTES : Nat := 0x13C
abbrev RPP_PORT_STAT : Nat := 0x28
abbrev RPP_PEER_CAP : Nat := 0x2C
abbrev RPP_PEER_ID : Nat := 0x30
abbrev RPP_PEER_VER : Nat := 0x34
abbrev RPP_LINK_DELAY : Nat := 0x38
abbrev RPP_REPLAY_COUNT : Nat := 0x3C
abbrev RPP_FEC_CORR : Nat := 0x40
abbrev RPP_FEC_UNCORR : Nat := 0x44
abbrev RPP_DOWN_COUNT : Nat := 0x48
abbrev RPP_CMD : Nat := 0x4C
abbrev RPP_PORT_CTRL : Nat := 0x100
abbrev SAFE_FAULT_STAT : Nat := 0x28
abbrev SAFE_FAULT_INFO : Nat := 0x2C
abbrev SAFE_FAULT_TIME_LO : Nat := 0x30
abbrev SAFE_FAULT_TIME_HI : Nat := 0x34
abbrev SAFE_BELAY_STAT : Nat := 0x38
abbrev SAFE_BELAY_CLEAR : Nat := 0x3C
abbrev SAFE_REACT : Nat := 0x40
abbrev SAFE_INJECT_CTRL : Nat := 0xA0
abbrev SAFE_INJECT_CMD : Nat := 0xA4
abbrev SAFE_INJECT_STAT : Nat := 0xA8
abbrev SAFE_SELFTEST_STAT : Nat := 0xAC
abbrev SAFE_SAFE_REJECT : Nat := 0xB0
abbrev SAFE_SAFE_STAT : Nat := 0xB4
abbrev SAFE_SCN_SAFE : Nat := 0x100
abbrev BLY_CC_STAT : Nat := 0x28
abbrev BLY_CC_PACE : Nat := 0x2C
abbrev BLY_BLY_REJECT : Nat := 0x30
abbrev BLY_CRC_LAST : Nat := 0x40
abbrev BLY_BLY_CTRL : Nat := 0x100
abbrev BLY_PAT_C0_LO : Nat := 0x104
abbrev BLY_PAT_C0_HI : Nat := 0x108
abbrev BLY_PAT_C1_LO : Nat := 0x10C
abbrev BLY_PAT_C1_HI : Nat := 0x110
abbrev BLY_CRC_CTRL : Nat := 0x114
abbrev BLY_CRC_POS : Nat := 0x118
abbrev BLY_CRC_SIZE : Nat := 0x11C
abbrev BLY_CRC_EXP : Nat := 0x120
abbrev PCIE_LINK_STAT : Nat := 0x20
abbrev PCIE_FUNC_STAT : Nat := 0x24
abbrev PCIE_BAR2_SIZE : Nat := 0x28
abbrev PCIE_BAD_LAST : Nat := 0x2C
abbrev PCIE_BAD_COUNT : Nat := 0x30
abbrev PCIE_POISON_TX : Nat := 0x34
abbrev PCIE_POISON_RX : Nat := 0x38
abbrev PCIE_RESET_COUNT : Nat := 0x3C
abbrev PCIE_LAT_MAX : Nat := 0x40
abbrev PCIE_QSPI_STAT : Nat := 0x44
abbrev PCIE_SMB_CTRL : Nat := 0x48
abbrev PCIE_SMB_DENY : Nat := 0x4C
abbrev PCIE_IRQ_PIN : Nat := 0x50
abbrev PCIE_GPIO_DIR : Nat := 0x60
abbrev PCIE_GPIO_OUT : Nat := 0x64
abbrev PCIE_GPIO_IN : Nat := 0x68
abbrev PCIE_GPIO_OD : Nat := 0x6C
abbrev PCIE_GPIO_PULL : Nat := 0x70
abbrev PCIE_GPIO_EVT : Nat := 0x74
abbrev APPLIED_LO : Nat := 0x20
abbrev APPLIED_HI : Nat := 0x24

end Sys2Proof.Machine.Off
end

