-- ==== Sys2Proof/Machine/Bits.lean ====
section
/-! DEFINITION. Bit fields of words, saturating counts and the register file: a register's reset value, its read and its write. -/

namespace Sys2Proof.Machine

/-- Bits `lo` to `lo + len - 1` of a word. -/
def bitsOf (w : Word) (lo len : Nat) : Nat := w.toNat / 2 ^ lo % 2 ^ len

/-- A word with bits `lo` to `lo + len - 1` replaced. -/
def putBits (w : Word) (lo len v : Nat) : Word :=
  BitVec.ofNat 32 (w.toNat % 2 ^ lo + (v % 2 ^ len) * 2 ^ lo + w.toNat / 2 ^ (lo + len) * 2 ^ (lo + len))

/-- One bit of a word. -/
def bitOf (w : Word) (i : Nat) : Bool := w.toNat / 2 ^ i % 2 == 1

/-- A word with one bit replaced. -/
def putBit (w : Word) (i : Nat) (b : Bool) : Word := putBits w i 1 b.toNat

/-- A count as a word, saturating at 0xFFFF_FFFF. -/
def satWord (n : Nat) : Word := BitVec.ofNat 32 (min n 0xFFFFFFFF)

/-- A field value read as two's complement of `len` bits. -/
def signedOf (n len : Nat) : Int := if n < 2 ^ (len - 1) then (n : Int) else (n : Int) - 2 ^ len

/-- An integer as a field of `len` bits in two's complement. -/
def ofSigned (i : Int) (len : Nat) : Nat := (i % 2 ^ len).toNat

/-- The numbers below `n` for which a bit of a mask is set. -/
def bitsSet (m n : Nat) : List Nat := (List.range n).filter fun i => m / 2 ^ i % 2 == 1

/-- Nat of a Bool list of flags, the first flag at bit 0. -/
def flagsNat : List Bool → Nat
  | [] => 0
  | b :: r => b.toNat + 2 * flagsNat r

end Sys2Proof.Machine
end

