-- ==== Sys2Proof/Machine/Sources.lean ====
section
/-! DEFINITION. The source map: which interrupt source a page flag raises, and each source's severity, class and routing
(R426, R427, R443 and the source tables of the block chapters). -/

namespace Sys2Proof.Machine

/-- Sources of the safety class (R443). -/
def safetyOf (s : Nat) : Bool :=
  decide (64 ≤ s ∧ s < 128) || decide (448 ≤ s ∧ s < 576 ∧ ((s - 448) % 16 = 7 ∨ (s - 448) % 16 = 14 ∨ (s - 448) % 16 = 15))
    || decide (640 ≤ s ∧ s < 768 ∧ (s - 640) % 16 = 6) || decide (s = 9)

/-- Severity of a port source by its offset (R443). -/
def portSev (o : Nat) : Nat :=
  if o = 3 ∨ o = 5 ∨ o = 12 then 4 else if o = 8 ∨ o = 10 ∨ o = 11 ∨ o = 13 then 3 else 1

/-- Severity of a scene source by its offset (R443). -/
def sceneSev (o : Nat) : Nat :=
  if o = 4 then 4 else if o = 3 ∨ o = 5 ∨ o = 8 ∨ o = 9 ∨ o = 10 ∨ o = 11 ∨ o = 13 ∨ o = 14 then 3 else 1

/-- Severity of a system, mode or firmware source (R427, R443, R518, R558). -/
def systemSev (s : Nat) : Nat :=
  if s = 3 ∨ s = 7 then 4
  else if s ≤ 2 ∨ s = 5 ∨ s = 8 ∨ (18 ≤ s ∧ s ≤ 20) ∨ s = 35 ∨ s = 37 ∨ s = 38 then 3 else 1

/-- Severity of a PLL source (R443). -/
def pllSev (s : Nat) : Nat :=
  if s = 638 ∨ s = 639 then 3
  else if (s - 608) % 3 = 0 then 4
  else if (s - 608) % 3 = 2 ∨ (s - 608) / 3 < 8 then 3 else 1

/-- Severity of a DRAM channel source by its offset (R443). -/
def mccSev (o : Nat) : Nat :=
  if o = 1 ∨ o = 9 then 4 else if o = 0 ∨ o = 3 ∨ o = 7 ∨ o = 8 then 3 else 1

/-- The severity code of a source (R443, with the block chapters' own values where they give one). -/
def sevOf (s : Nat) : Nat :=
  if safetyOf s then 5
  else if s < 64 then systemSev s
  else if s < 384 then (if (s - 128) % 4 % 2 = 0 then 4 else 3)
  else if s < 448 then sceneSev ((s - 384) % 16)
  else if s < 576 then portSev ((s - 448) % 16)
  else if s < 608 then (if (s - 576) % 8 = 0 then 3 else 1)
  else if s < 640 then pllSev s
  else if s < 768 then mccSev ((s - 640) % 16)
  else if s < 784 then (if s = 769 ∨ s = 770 then 4 else 1)
  else if s < 832 then
    (if (s - 784) % 12 = 3 then 4 else if (s - 784) % 12 = 2 ∨ (s - 784) % 12 = 4 then 3 else 1)
  else if s < 848 then (if s = 833 ∨ s = 841 ∨ s = 842 ∨ s = 844 then 4 else 1)
  else if s = 849 ∨ s = 851 then 3
  else if s = 852 then 4
  else if s = 884 ∨ s = 885 then 3
  else if s = 886 then 4
  else 1

/-- Sources routed by firmware (R430, R496). -/
def fwOf (s : Nat) : Bool := decide (64 ≤ s ∧ s ≤ 87)

/-- Reset value of SRC_CFG of a source (R454). -/
def srcCfgReset (s : Nat) : Nat :=
  (if s = 9 ∨ (64 ≤ s ∧ s ≤ 87) then 3 else 0) + (if 64 ≤ s ∧ s ≤ 87 then 0x17 * 256 else 0)
    + sevOf s * 2 ^ 20 + (safetyOf s).toNat * 2 ^ 23 + (fwOf s).toNat * 2 ^ 24

/-- The source that a set PAGE_STAT flag is forwarded to, if the flag has one (R38 and the source tables). -/
def flagSource : Page → Nat → Nat → Option Nat
  | .pwr, _, b => if 8 ≤ b ∧ b ≤ 13 then some (8 + b) else none
  | .fwm, _, b => if 8 ≤ b ∧ b ≤ 14 then some (24 + b) else if b = 15 then some 896 else none
  | .svc, _, b => if 8 ≤ b ∧ b ≤ 15 then some (872 + b) else none
  | .intc, _, b => if b = 8 then some 10 else none
  | .elog, _, b => if b = 10 ∨ b = 11 then some 8 else none
  | .leng, n, b => if b = 8 then some (128 + 4 * n) else none
  | .scn, s, b =>
    if b = 1 then some (386 + 16 * s) else if b = 2 then some (387 + 16 * s)
    else if 8 ≤ b ∧ b ≤ 11 then some (380 + b + 16 * s)
    else if 12 ≤ b ∧ b ≤ 17 then some (382 + b + 16 * s) else none
  | .tone, s, b => if b = 8 ∨ b = 9 then some (392 + 16 * s) else if b = 10 ∨ b = 11 then some (393 + 16 * s) else none
  | .schk, s, b => if b = 11 then some 99 else if b = 8 ∨ b = 9 ∨ b = 10 ∨ b = 12 then some (101 + s) else none
  | .fmem, _, b => if b = 8 ∨ b = 9 then some 3 else if b = 10 ∨ b = 11 then some 4 else none
  | .anch, _, b => if 8 ≤ b ∧ b ≤ 23 then some 5 else none
  | .scan, p, b =>
    if b = 2 then some (458 + 16 * p) else if b = 8 then some (451 + 16 * p)
    else if b = 9 ∨ b = 11 ∨ b = 12 then some (459 + 16 * p) else none
  | .padp, p, b =>
    if b = 2 then some (458 + 16 * p) else if b = 8 then some (456 + 16 * p)
    else if b = 9 then some (457 + 16 * p) else none
  | .xpt, p, b =>
    if 8 ≤ b ∧ b ≤ 10 then some (444 + b + 16 * p) else if b = 11 then some (460 + 16 * p)
    else if b = 12 ∨ b = 13 ∨ b = 14 ∨ b = 16 then some (461 + 16 * p) else none
  | .ppll, k, b =>
    if b = 8 ∨ b = 10 then some (608 + 3 * k) else if b = 9 then some (609 + 3 * k)
    else if b = 11 then some (610 + 3 * k) else if b = 13 then some 639 else none
  | .spll, k, b =>
    if b = 8 ∨ b = 10 then some (632 + 3 * k) else if b = 9 then some (633 + 3 * k)
    else if b = 11 then some (634 + 3 * k) else none
  | .dsc, d, b => if 8 ≤ b ∧ b ≤ 11 then some (568 + b + 8 * d) else none
  | .mcg, _, b => if b = 9 ∨ b = 10 then some 6 else if b = 8 ∨ (11 ≤ b ∧ b ≤ 13) then some 7 else none
  | .mcc, c, b => if 8 ≤ b ∧ b ≤ 17 then some (632 + b + 16 * c) else none
  | .blt, _, b =>
    if b = 8 then some 768 else if b = 9 ∨ b = 11 ∨ b = 12 then some 769 else if b = 10 then some 770 else none
  | .rpp, k, b => if 8 ≤ b ∧ b ≤ 13 then some (776 + b + 12 * k) else none
  | .rpg, _, b => if 8 ≤ b ∧ b ≤ 23 then some (824 + b) else none
  | .safe, _, b =>
    if b = 8 then some 96 else if b = 9 then some 97 else if b = 10 then some 98
    else if b = 11 then some 99 else if b = 12 then some 100 else none
  | .bly, _, b => if b = 8 then some 99 else if b = 9 then some 105 else none
  | .pcie, _, b => if 8 ≤ b ∧ b ≤ 16 then some (840 + b) else none
  | .sys, _, _ | .prot, _, _ | .mwin, _, _ | .isrc, _, _ | .intf, _, _ | .stim, _, _ => none

end Sys2Proof.Machine
end

