-- ==== Sys2Proof/Machine/CoreState.lean ====
section
/-! DEFINITION. The part of the state that every block shares: device time, the register file, the interrupt controller's
sources and gates, and the Cairn log. -/

namespace Sys2Proof.Machine

/-- Who makes an access: the requesters of R64, a core of CPU by its target code 0x10 + k, and the SMBus target (R574). -/
inductive Requester where
  | pf (k : Fin 8)
  | blt | rpl
  | cpu (core : Fin 8)
  | comp | mnt | remote | smbus
deriving DecidableEq, Repr

/-- The state of one interrupt source (R428), its Cairn sequence and its token bucket (R444, R449, R450). -/
structure Src where
  pending : Bool := false
  active : Bool := false
  edges : Nat := 0
  t0 : Nat := 0
  seq : BitVec 16 := 0
  /-- tokens taken and not yet added back; 0 is a full bucket -/
  used : Nat := 0
  /-- events suppressed and not yet covered by a summary -/
  supp : Nat := 0
  episode : Bool := false
  firstSeq : BitVec 16 := 0
  lastSeq : BitVec 16 := 0
  firstTime : Nat := 0
deriving DecidableEq, Repr

/-- A Cairn record (R442). -/
structure Rec where
  time : BitVec 64 := 0
  info : BitVec 16 := 0
  seq : BitVec 16 := 0
  code : BitVec 16 := 0
  team : BitVec 16 := 0
  w0 : Word := 0
  w1 : Word := 0
  w2 : Word := 0
  w3 : Word := 0
deriving DecidableEq, Repr

/-- An entry of the saturation table (R451). -/
structure SatEntry where
  source : Nat
  first : Rec
  latest : Rec
  count : Nat
deriving DecidableEq, Repr

/-- One vector of a function's MSI-X table (R564). -/
structure Vector where
  addr : BitVec 64 := 0
  data : Word := 0
  masked : Bool := true
deriving DecidableEq, Repr

/-- A message or request line raised by a delivery (R430, R432). -/
structure Delivery where
  target : Nat
  fast : Bool
  time : Nat
deriving DecidableEq, Repr

/-- The state that every block shares. -/
structure Core where
  /-- device time in ns (R23); the model's tick adds one -/
  time : Nat
  /-- the time base runs: system PLL 1 has declared lock since the device was powered (R278) -/
  timeRuns : Bool
  /-- POWER_HOLD, in which no page is served and MODE is not readable (R503) -/
  powerHold : Bool
  /-- the registers of BAR0 by byte address; an unlisted one reads its reset value -/
  regs : Tbl Word
  /-- the configuration in use of each shadowed page, by the address of its active mirror (R40) -/
  inUse : Tbl Word
  /-- interrupt sources by number -/
  srcs : Tbl Src
  /-- closed delivery gates, by 2 × target + class (R431) -/
  gates : Tbl Bool
  /-- deliveries made, by the same key -/
  sent : Tbl Nat
  /-- the latest delivery made -/
  lastSent : Option Delivery
  /-- the IRQ_n pin is driven low (R572) -/
  irqLow : Bool
  /-- MSI-X vectors by 2 × function + vector (R564) -/
  vectors : Tbl Vector
  /-- the on-die Cairn ring by slot (R443) -/
  ring : Tbl Rec
  /-- the saturation table in order of first arrival (R451) -/
  sat : List SatEntry
  /-- spill records on their way to DDR5: device address and record (R448) -/
  spillQ : List (Nat × Rec)
  /-- records on their way to the team's collector (R412) -/
  forwardQ : List Rec
  /-- words returned by the latest command that reads -/
  resp : List Word
  /-- the model's own counter: it picks the next free value (not state of the device) -/
  free : Nat
deriving DecidableEq, Repr

end Sys2Proof.Machine
end

