-- ==== Sys2Proof/Machine/Reset.lean ====
section
/-! DEFINITION. The reset value of every register of BAR0 (R33 to R36 and the register tables). -/

namespace Sys2Proof.Machine

/-- PAGE_CAP.PAGE_SPECIFIC, as each block chapter states it; MCC bit 8 follows the DRFM decode of the reset DRAM_CFG (R364). -/
def capSpecific : Page → Nat → Nat
  | .leng, _ => 7
  | .tone, _ | .stim, _ | .schk, _ | .scan, _ | .padp, _ | .ppll, _ | .dsc, _ | .blt, _ | .rpp, _ | .safe, _ => 1
  | .scn, s => if s % 2 = 0 then 3 else 2
  | .xpt, _ => 15
  | _, _ => 0

/-- PAGE_CAP (R35). -/
def pageCap (p : Page) (n : Nat) : Nat :=
  p.shadowed.toNat + 2 * p.groupable.toNat + 4 * p.groupable.toNat + 256 * capSpecific p n

/-- The default ACTION of mechanism SM n (R462): 0 REPORT, 1 PORT, 2 DEVICE. -/
def reactReset (n : Nat) : Nat :=
  if n = 7 ∨ n = 14 ∨ n = 21 ∨ n = 24 then 2
  else if n = 8 ∨ n = 9 ∨ n = 13 ∨ n = 16 ∨ n = 19 ∨ n = 22 ∨ n = 23 then 0 else 1

/-- Whether a slot holds a page, as a PROT code of PF0 (R61). -/
def accHalf (k : Nat) : Nat := if (Page.ofSlot k).isSome then 3 else 0

/-- Reset values of the LOG_RATE profiles (R457). -/
def logRateReset (r : Nat) : Nat :=
  if r = 0 then 0x03E80040 else if r = 1 then 0x27100040 else if r = 2 then 0x00640010 else 1

/-- The reset value of a register: its table's, or the rule's where the table says "per page", "per source" or a default of
another rule. DESIGN CHOICE 1 in the log names the values for which the spec gives none. -/
def resetAt (p : Page) (n off : Nat) (d : RegDesc) : Nat :=
  if off = 0 then n + 256 * p.code + 0x10000
  else if off = 4 then pageCap p n
  else if off = 8 then 3 * p.groupable.toNat
  else match p with
    | .sys => if off = 0x24 then (if Config.eGrade then 0x22 else 0x12) else if off = 0x28 then Config.unitId.toNat % 2 ^ 32
      else if off = 0x2C then Config.unitId.toNat / 2 ^ 32 else d.reset
    | .pwr => if off = 0x30 then 1 else d.reset
    | .prot => if 0x100 ≤ off ∧ off < 0x4C4 then
        accHalf (2 * ((off - 0x100) / 4)) + 65536 * accHalf (2 * ((off - 0x100) / 4) + 1) else d.reset
    | .isrc => if 0x100 ≤ off ∧ off < 0x200 then srcCfgReset (64 * n + (off - 0x100) / 4) else d.reset
    | .elog => if 0x80 ≤ off ∧ off < 0x90 then logRateReset ((off - 0x80) / 4) else d.reset
    | .safe => if 0x40 ≤ off ∧ off < 0xA0 then reactReset ((off - 0x40) / 4 + 1) else d.reset
    | _ => d.reset

/-- The reset value of the register at a BAR0 address: 0 where no register is (R32). -/
def resetOf (a : Nat) : Word :=
  match Page.ofSlot (a / 4096) with
  | none => 0
  | some (p, n) =>
    match p.desc (a % 4096) with
    | none => 0
    | some d =>
      BitVec.ofNat 32 (resetAt p n (if p.shadowed ∧ 0x900 ≤ a % 4096 then a % 4096 - 0x800 else a % 4096) d)

end Sys2Proof.Machine
end

