-- ==== Sys2Proof/Machine/Ops.lean ====
section
/-! DEFINITION. The operations every block shares: registers, status flags, interrupt sources, the Cairn log and rejections. -/

namespace Sys2Proof.Machine

/-! Registers -/

/-- A register of a page instance. -/
def Core.rd (c : Core) (p : Page) (n off : Nat) : Word := Tbl.get resetOf c.regs (p.reg n off)

/-- Set a register of a page instance. -/
def Core.wr (c : Core) (p : Page) (n off : Nat) (v : Word) : Core :=
  { c with regs := Tbl.set resetOf c.regs (p.reg n off) v }

/-- A field of a register. -/
def Core.fld (c : Core) (p : Page) (n off lo len : Nat) : Nat := bitsOf (c.rd p n off) lo len

/-- A bit of a register. -/
def Core.bit (c : Core) (p : Page) (n off i : Nat) : Bool := bitOf (c.rd p n off) i

/-- Set a field of a register. -/
def Core.setF (c : Core) (p : Page) (n off lo len v : Nat) : Core := c.wr p n off (putBits (c.rd p n off) lo len v)

/-- Set a bit of a register. -/
def Core.setB (c : Core) (p : Page) (n off i : Nat) (b : Bool) : Core := c.setF p n off i 1 b.toNat

/-- Count one more in a register, saturating. -/
def Core.inc (c : Core) (p : Page) (n off : Nat) : Core := c.wr p n off (satWord ((c.rd p n off).toNat + 1))

/-- Count one more in a register that wraps. -/
def Core.incWrap (c : Core) (p : Page) (n off : Nat) : Core := c.wr p n off (c.rd p n off + 1)

/-- Set a register to a number, saturating. -/
def Core.wrN (c : Core) (p : Page) (n off v : Nat) : Core := c.wr p n off (BitVec.ofNat 32 v)

/-- The active copy of a shadowed register, as the mirror shows it (R40). -/
def Core.act (c : Core) (p : Page) (n off : Nat) : Word := c.rd p n (off + 0x800)

/-- The value in use of a shadowed register (R40). -/
def Core.use (c : Core) (p : Page) (n off : Nat) : Word := Tbl.get resetOf c.inUse (p.reg n (off + 0x800))

/-- A field of a value in use. -/
def Core.useF (c : Core) (p : Page) (n off lo len : Nat) : Nat := bitsOf (c.use p n off) lo len

/-- A bit of a value in use. -/
def Core.useB (c : Core) (p : Page) (n off i : Nat) : Bool := bitOf (c.use p n off) i

/-- Replace the entries of a destination at keys `lo + k` up to below `hi + k` by those of a source at `lo` up to below `hi`. -/
def copyEntries (dst src : Tbl Word) (lo hi k : Nat) : Tbl Word :=
  Tbl.setAll resetOf k (Tbl.without dst (lo + k) (hi + k)) (Tbl.slice src lo hi)

/-- Copy part of the shadow of a page, offsets `lo` up to below `hi`, to its active copy (R29). -/
def Core.copyPart (c : Core) (p : Page) (n lo hi : Nat) : Core :=
  { c with regs := copyEntries c.regs c.regs (p.reg n lo) (p.reg n hi) 0x800 }

/-- Copy the whole shadow of a page to its active copy (R40). -/
def Core.copyShadow (c : Core) (p : Page) (n : Nat) : Core := c.copyPart p n 0x100 0x800

/-- Bring part of the active copy of a page, shadow offsets `lo` up to below `hi`, into use (R40). -/
def Core.bringPartIntoUse (c : Core) (p : Page) (n lo hi : Nat) : Core :=
  { c with inUse := copyEntries c.inUse c.regs (p.reg n (lo + 0x800)) (p.reg n (hi + 0x800)) 0 }

/-- Bring the active copy of a page into use (R40). -/
def Core.bringIntoUse (c : Core) (p : Page) (n : Nat) : Core := c.bringPartIntoUse p n 0x100 0x800

/-- Return the words of a read to its requester. -/
def Core.answer (c : Core) (ws : List Word) : Core := { c with resp := ws }

/-- Take the next free value. -/
def Core.freeNext (c : Core) : Core := { c with free := c.free + 1 }

/-- The free value that the counter names. -/
def Core.freeNow (c : Core) : BitVec 64 := Config.freeValue c.free

/-! Requesters -/

/-- The requester ID of R64; the SMBus target has none and is shown as 0xE, which R64 never uses. -/
def Requester.id : Requester → Nat
  | .pf k => k.val
  | .blt => 8
  | .rpl => 9
  | .cpu _ => 10
  | .comp => 11
  | .mnt => 12
  | .smbus => 14
  | .remote => 15

/-- The interrupt target a requester claims for (R433). -/
def Requester.target : Requester → Option Nat
  | .pf k => some k.val
  | .cpu k => some (0x10 + k.val)
  | _ => none

/-- The internal cores (R60). -/
def Requester.isCpu : Requester → Bool
  | .cpu _ => true
  | _ => false

/-! Interrupt sources -/

/-- The state of a source. -/
def Core.src (c : Core) (s : Nat) : Src := Tbl.get (fun _ => {}) c.srcs s

/-- Set the state of a source. -/
def Core.setSrc (c : Core) (s : Nat) (x : Src) : Core := { c with srcs := Tbl.set (fun _ => {}) c.srcs s x }

/-- SRC_CFG of a source. -/
def Core.srcCfg (c : Core) (s : Nat) : Word := c.rd .isrc (s / 64) (0x100 + 4 * (s % 64))

/-- One raise of a source (R428). -/
def Core.raise (c : Core) (s : Nat) : Core :=
  let x := c.src s
  c.setSrc s { x with pending := true, edges := x.edges + 1, t0 := if x.edges = 0 then c.time else x.t0 }

/-! The Cairn log -/

/-- The TEAM field of a record (R442). -/
def Core.teamField (c : Core) : BitVec 16 :=
  if c.fld .rpg 0 Off.RPG_TEAM_STAT 0 3 = 4 then BitVec.ofNat 16 (c.fld .rpg 0 Off.RPG_TEAM_STAT 8 14 + 0x8000) else 0

/-- A record of a source at the present time (R442). -/
def Core.mkRec (c : Core) (s : Nat) (seq : BitVec 16) (code : Nat) (summary : Bool) (w0 w1 w2 w3 : Word) : Rec :=
  { time := BitVec.ofNat 64 c.time
    info := BitVec.ofNat 16 (s + sevOf s * 1024 + (safetyOf s).toNat * 8192 + summary.toNat * 32768)
    seq := seq, code := BitVec.ofNat 16 code, team := c.teamField, w0 := w0, w1 := w1, w2 := w2, w3 := w3 }

/-- The partition of a source's records: 0 safety, 1 error, 2 shared (R443). -/
def partitionOf (s : Nat) : Nat := if safetyOf s then 0 else if 4 ≤ sevOf s then 1 else 2

/-- First slot of a partition (R443). -/
def partBase (q : Nat) : Nat := if q = 0 then 0 else if q = 1 then 2048 else 4096

/-- Slots of a partition (R443). -/
def partSize (q : Nat) : Nat := if q = 2 then 4096 else 2048

/-- WPTR_q. -/
def Core.wptr (c : Core) (q : Nat) : Word := c.rd .elog 0 (Off.ELOG_WPTR + 8 * q)

/-- RPTR_q. -/
def Core.rptr (c : Core) (q : Nat) : Word := c.rd .elog 0 (Off.ELOG_RPTR + 8 * q)

/-- Whether a partition holds as many unconsumed records as it has slots (R447, R451). -/
def Core.partFull (c : Core) (q : Nat) : Bool := decide (partSize q ≤ (c.wptr q - c.rptr q).toNat)

/-- The record in a slot of the ring. -/
def Core.ringRec (c : Core) (slot : Nat) : Rec := Tbl.get (fun _ => {}) c.ring slot

/-- The slot of the record with count `n` of a partition (R446). -/
def ringSlot (q : Nat) (n : Word) : Nat := partBase q + n.toNat % partSize q

/-- Write a record at the write pointer of a partition (R446). -/
def Core.putRec (c : Core) (q : Nat) (r : Rec) : Core :=
  ({ c with ring := Tbl.set (fun _ => {}) c.ring (ringSlot q (c.wptr q)) r }).incWrap .elog 0 (Off.ELOG_WPTR + 8 * q)

/-- The present mode (R11): POWER_HOLD, or MODE.MODE of the PWR page. -/
def Core.mode (c : Core) : Nat := if c.powerHold then 0 else c.fld .pwr 0 Off.PWR_MODE 0 4

/-- SPILL_ON: spilling enabled and the device not in BIVOUAC, mode code 0x9 (R448, R457). -/
def Core.spillOn (c : Core) : Bool := c.bit .elog 0 Off.ELOG_ELOG_CTRL 0 && c.mode != 9

/-- Records the spill ring holds (R448). -/
def Core.spillRecs (c : Core) : Nat := 2 ^ (11 + c.fld .elog 0 Off.ELOG_SPILL_SIZE 0 4)

/-- Base address of the spill ring. -/
def Core.spillBase (c : Core) : Nat :=
  (c.rd .elog 0 Off.ELOG_SPILL_BASE_LO).toNat + c.fld .elog 0 Off.ELOG_SPILL_BASE_HI 0 8 * 2 ^ 32

/-- A record goes on its way to an address of the spill ring. -/
def Core.pushSpill (c : Core) (a : Nat) (r : Rec) : Core := { c with spillQ := c.spillQ ++ [(a, r)] }

/-- Move a record to the spill ring: the oldest one there is overwritten when it is full (R448). -/
def Core.spill (c : Core) (r : Rec) : Core :=
  let w := c.rd .elog 0 Off.ELOG_SPILL_WPTR
  let full := decide (c.spillRecs ≤ (w - c.rd .elog 0 Off.ELOG_SPILL_RPTR).toNat)
  let c1 := if full then (c.incWrap .elog 0 Off.ELOG_SPILL_RPTR).inc .elog 0 Off.ELOG_SPILL_LOST else c
  (c1.incWrap .elog 0 Off.ELOG_SPILL_WPTR).pushSpill (c.spillBase + 32 * (w.toNat % c.spillRecs)) r

/-- Make room in a full error or shared partition; answers also whether a record was lost (R447). -/
def Core.makeRoom (c : Core) (q : Nat) : Core × Bool :=
  if c.partFull q then
    let old := c.ringRec (ringSlot q (c.rptr q))
    let c1 := c.incWrap .elog 0 (Off.ELOG_RPTR + 8 * q)
    if c.spillOn then (c1.spill old, false)
    else (c1.inc .elog 0 (Off.ELOG_LOST + 4 * q), true)
  else (c, false)

/-- Set flags of a status register with sequence: the sequence advances (R54). -/
def sqSet (w : Word) (flags : Nat) : Word :=
  BitVec.ofNat 32 ((bitsOf w 24 8 + 1) % 256 * 2 ^ 24 + ((bitsOf w 0 24) ||| flags % 2 ^ 24))

/-- Set a flag of a page, with nothing forwarded. -/
def Core.flagOnly (c : Core) (p : Page) (n bit : Nat) : Core :=
  c.wr p n Off.PAGE_STAT (sqSet (c.rd p n Off.PAGE_STAT) (2 ^ bit))

/-- Send a copy of a record to the collector when forwarding is on (R412). -/
def Core.forward (c : Core) (r : Rec) : Core :=
  if c.bit .rpg 0 Off.RPG_FWD_CTRL 0 && decide (c.fld .rpg 0 Off.RPG_FWD_CTRL 1 3 ≤ bitsOf (r.info.zeroExtend 32) 10 3) then
    { c with forwardQ := c.forwardQ ++ [r] } else c

/-- Put a record of a safety source in the ring, or in the saturation table; answers whether saturation latched (R451). -/
def Core.storeSafety (c : Core) (s : Nat) (r : Rec) : Core × Bool :=
  let sat := c.bit .elog 0 Off.ELOG_ELOG_STAT 0
  if sat || c.partFull 0 then
    let c1 := c.setB .elog 0 Off.ELOG_ELOG_STAT 0 true
    let c2 :=
      if c.sat.any (fun e => e.source == s) then
        { c1 with sat := c.sat.map fun e => if e.source = s then { e with latest := r, count := e.count + 1 } else e }
      else { c1 with sat := c.sat ++ [{ source := s, first := r, latest := r, count := 1 }] }
    (c2, !sat)
  else (c.putRec 0 r, false)

/-- BURST of a log profile (R457). -/
def Core.burst (c : Core) (s : Nat) : Nat :=
  c.fld .elog 0 (Off.ELOG_LOG_RATE + 4 * bitsOf (c.srcCfg s) 16 2) 0 8

/-- RATE of a log profile (R457). -/
def Core.rate (c : Core) (s : Nat) : Nat :=
  c.fld .elog 0 (Off.ELOG_LOG_RATE + 4 * bitsOf (c.srcCfg s) 16 2) 16 16

/-- Whether the token bucket of a source holds a token (R449). -/
def Core.hasToken (c : Core) (s : Nat) : Bool := decide (c.rate s ≠ 0) && decide ((c.src s).used < c.burst s)

/-- An event that finds no token is counted (R449, R450). -/
def Core.suppress (c : Core) (s : Nat) (seq : BitVec 16) : Core :=
  let x := c.src s
  let y : Src := { x with supp := x.supp + 1, episode := true, lastSeq := seq
                          firstSeq := if x.supp = 0 then seq else x.firstSeq
                          firstTime := if x.supp = 0 then c.time else x.firstTime }
  (c.setSrc s y).inc .elog 0 Off.ELOG_SUPP_TOTAL

/-- The next sequence number of a source (R444). -/
def Core.nextSeq (c : Core) (s : Nat) : BitVec 16 := (c.src s).seq + 1

/-- Advance the sequence of a source at an event (R444). -/
def Core.bumpSeq (c : Core) (s : Nat) : Core := c.setSrc s { c.src s with seq := c.nextSeq s }

/-- Store a record of a source without a token; answers whether a record was lost, and whether saturation latched. -/
def Core.storeRec (c : Core) (s : Nat) (r : Rec) : Core × Bool × Bool :=
  if safetyOf s then
    let (c1, latched) := c.storeSafety s r
    (c1.forward r, false, latched)
  else
    let (c1, lost) := c.makeRoom (partitionOf s)
    ((c1.putRec (partitionOf s) r).forward r, lost, false)

/-- The record of one event of a source: its sequence advances, and it is stored, suppressed or saturated. -/
def Core.recordFlat (c : Core) (s code : Nat) (w0 w1 w2 w3 : Word) : Core × Bool × Bool :=
  let c1 := c.bumpSeq s
  let seq := c.nextSeq s
  let r := c.mkRec s seq code false w0 w1 w2 w3
  if safetyOf s then c1.storeRec s r
  else if c1.hasToken s then (c1.setSrc s { c1.src s with used := (c1.src s).used + 1 }).storeRec s r
  else (c1.suppress s seq, false, false)

/-- Flag 10 (LOST) of ELOG sets and is forwarded to source ELOG (8), whose own losses report nothing more (R447). -/
def Core.reportLost (c : Core) : Core :=
  let c1 := ((c.flagOnly .elog 0 10).recordFlat 8 10 0 0 0 0).1
  if c.bit .elog 0 Off.PAGE_EVT_EN 10 then c1.raise 8 else c1

/-- Saturation latches: flag 8 of ELOG sets and source 9 is raised, ungated (R451). -/
def Core.reportSaturated (c : Core) : Core := ((c.flagOnly .elog 0 8).recordFlat 9 8 0 0 0 0).1.raise 9

/-- Report what storing a record of a source brought about. -/
def Core.reportLog (s : Nat) (x : Core × Bool × Bool) : Core :=
  let c1 := if x.2.1 && s != 8 then x.1.reportLost else x.1
  if x.2.2 then c1.reportSaturated else c1

/-- The record of one event of a source, with what its loss or saturation raises (R444 to R451). -/
def Core.record (c : Core) (s code : Nat) (w0 w1 w2 w3 : Word) : Core := Core.reportLog s (c.recordFlat s code w0 w1 w2 w3)

/-- An event of a source: its record, then its raise (R428). -/
def Core.event (c : Core) (s code : Nat) (w0 : Word := 0) (w1 : Word := 0) (w2 : Word := 0) (w3 : Word := 0) : Core :=
  (c.record s code w0 w1 w2 w3).raise s

/-- A page flag sets: the flag and its sequence, the Cairn record of its source, and the raise PAGE_EVT_EN gates (R37, R38, R428). -/
def Core.flag (c : Core) (p : Page) (n bit : Nat) (reason : Nat := 0) (w0 : Word := 0) (w1 : Word := 0) (w2 : Word := 0)
    (w3 : Word := 0) : Core :=
  let c1 := c.flagOnly p n bit
  match flagSource p n bit with
  | none => c1
  | some s =>
    let c2 := c1.record s (bit + 256 * reason) w0 w1 w2 w3
    if c.bit p n Off.PAGE_EVT_EN bit then c2.raise s else c2

/-! Rejections and denials -/

/-- The layout of SYS.REJECT_LAST (R59). -/
def rejectWord (reason slot off req : Nat) : Word :=
  BitVec.ofNat 32 (reason % 256 + off / 4 % 1024 * 2 ^ 8 + slot % 512 * 2 ^ 18 + req % 16 * 2 ^ 28)

/-- The reports of a rejected command whose REJECT_LAST is `w` (R57). -/
def Core.rejected (c : Core) (p : Page) (n reason : Nat) (w : Word) : Core :=
  ((((c.flagOnly p n 0).wr .sys 0 Off.SYS_REJECT_LAST w).inc .sys 0 Off.SYS_REJECT_COUNT)).event 0 (256 * reason) w

/-- A rejected command: no side effect but its report on the page addressed, on SYS and by source STATE_REJECT (R57). -/
def Core.reject (c : Core) (r : Requester) (p : Page) (n off reason : Nat) : Core :=
  c.rejected p n reason (rejectWord reason (p.slot n) off r.id)

/-- The reports of a denied register access whose DENY_LAST is `w` (R63). -/
def Core.denied (c : Core) (w : Word) : Core :=
  ((((c.flagOnly .prot 0 8).wr .prot 0 Off.PROT_DENY_LAST w).inc .prot 0 Off.PROT_DENY_COUNT)).event 1 (8 + 256 * 0xFF) w

/-- A register access denied by PROT or by a right of its path (R63). -/
def Core.denyReg (c : Core) (r : Requester) (slot off : Nat) : Core := c.denied (rejectWord 0xFF slot off r.id)

/-- A memory access denied by MWIN (R67). -/
def Core.denyMem (c : Core) (r : Requester) (addr : Nat) (write : Bool) : Core :=
  let lo := BitVec.ofNat 32 addr
  let hi := BitVec.ofNat 32 (addr / 2 ^ 32 % 256 + r.id * 256 + write.toNat * 4096)
  (((c.wr .mwin 0 Off.MWIN_DENY_LAST_LO lo).wr .mwin 0 Off.MWIN_DENY_LAST_HI hi).inc .mwin 0 Off.MWIN_DENY_COUNT).event 2 0xFF
    hi lo

/-- Whether one window of MWIN allows an access of `len` bytes (R65, R66). -/
def Core.winAllows (c : Core) (w : Nat) (id addr len : Nat) (write : Bool) : Bool :=
  let b := c.rd .mwin 0 (0x100 + 12 * w)
  let l := bitsOf (c.rd .mwin 0 (0x104 + 12 * w)) 0 28
  bitOf b 31 && decide (bitsOf b 0 28 * 4096 ≤ addr) && decide (addr + len ≤ (l + 1) * 4096)
    && bitOf (c.rd .mwin 0 (0x108 + 12 * w)) (id + if write then 16 else 0)

/-- Whether MWIN allows an access: CPU and MNT are never checked, and only ENFORCE checks (R65). -/
def Core.mwinAllows (c : Core) (r : Requester) (addr len : Nat) (write : Bool) : Bool :=
  (match r with | .cpu _ | .mnt => true | _ => false) || !c.bit .mwin 0 Off.MWIN_CTRL 0
    || (List.range 256).any fun w => c.winAllows w r.id addr len write

end Sys2Proof.Machine
end

