-- ==== Sys2Proof/Machine/Intc.lean ====
section
/-! DEFINITION. The interrupt controller and the Cairn log's registers ("Interrupts, events and Cairn records"). -/

namespace Sys2Proof.Machine

/-! Claiming and delivery -/

/-- COUNT of the profile a source names (R437). -/
def Core.profCount (c : Core) (s : Nat) : Nat := c.fld .intc 0 (Off.INTC_PROFILE + 4 * bitsOf (c.srcCfg s) 3 5) 24 8

/-- TIME of the profile a source names, in ns (R437). -/
def Core.profTime (c : Core) (s : Nat) : Nat := 500 * c.fld .intc 0 (Off.INTC_PROFILE + 4 * bitsOf (c.srcCfg s) 3 5) 0 17

/-- The coalescing condition of a pending source (R429). -/
def Core.coalesced (c : Core) (s : Nat) : Bool :=
  decide (c.profCount s ≤ (c.src s).edges) || decide ((c.src s).t0 + c.profTime s ≤ c.time)

/-- Whether a source is claimable by a target in a class (R429). -/
def Core.claimable (c : Core) (target : Nat) (fast : Bool) (s : Nat) : Bool :=
  (c.src s).pending && !(c.src s).active && bitOf (c.srcCfg s) 0 && decide (bitsOf (c.srcCfg s) 8 8 = target)
    && (bitOf (c.srcCfg s) 1 == fast) && (fast || c.coalesced s)

/-- The lowest-numbered source claimable by a target in a class (R433). -/
def Core.lowest (c : Core) (target : Nat) (fast : Bool) : Option Nat :=
  ((c.srcs.map Prod.fst).filter (c.claimable target fast)).min?

/-- The key of a delivery gate. -/
def gateKey (target : Nat) (fast : Bool) : Nat := 2 * target + fast.toNat

/-- Whether the gate of a target and class is closed (R431). -/
def Core.gateClosed (c : Core) (target : Nat) (fast : Bool) : Bool := Tbl.get (fun _ => false) c.gates (gateKey target fast)

/-- Deliveries of a class are held: by GLOBAL_HOLD, or while the mode is BIVOUAC (R438, R441). -/
def Core.held (c : Core) (fast : Bool) : Bool := c.bit .intc 0 Off.INTC_GLOBAL_HOLD fast.toNat || c.mode == 9

/-- Delivery to PF0 by the IRQ_n pin (R572). -/
def Core.byPin (c : Core) (target : Nat) : Bool :=
  decide (target = 0) && c.bit .pcie 0 Off.PCIE_IRQ_PIN 0 && !c.bit .pcie 0 Off.PCIE_FUNC_STAT 16

/-- A vector of a function's MSI-X table; every vector resets masked. -/
def Core.vector (c : Core) (k : Nat) (fast : Bool) : Vector := Tbl.get (fun _ => {}) c.vectors (gateKey k fast)

/-- What blocks a delivery to a host function (R432, R568); a core is never blocked. -/
def Core.blocked (c : Core) (target : Nat) (fast : Bool) : Bool :=
  decide (target < 8) && !c.byPin target &&
    (!c.bit .pcie 0 Off.PCIE_FUNC_STAT (16 + target) || !c.bit .pcie 0 Off.PCIE_FUNC_STAT (8 + target)
      || c.bit .pcie 0 Off.PCIE_FUNC_STAT (24 + target) || (c.vector target fast).masked)

/-- The pending-bit-array bit of a vector: blocked while something is claimable (R432). -/
def Core.pba (c : Core) (k : Nat) (fast : Bool) : Bool :=
  !c.gateClosed k fast && !c.held fast && c.blocked k fast && (c.lowest k fast).isSome

/-- The delivery of one target and class, if its gate is open, nothing blocks it and a source is claimable (R431, R432). -/
def Core.deliver (c : Core) (target : Nat) (fast : Bool) : Core :=
  if c.gateClosed target fast || c.held fast || c.blocked target fast || (c.lowest target fast).isNone then c
  else
    { c with gates := Tbl.set (fun _ => false) c.gates (gateKey target fast) true
             sent := Tbl.modify (fun _ => 0) c.sent (gateKey target fast) (· + 1)
             lastSent := some { target := target, fast := fast, time := c.time }
             irqLow := c.irqLow || c.byPin target }

/-- The targets of R430. -/
def targets : List Nat := [0, 1, 2, 3, 4, 5, 6, 7, 16, 17, 18, 19, 20, 21, 22, 23]

/-- Every delivery that can be made is made. -/
def Core.deliverAll (c : Core) : Core := targets.foldl (fun x t => (x.deliver t false).deliver t true) c

/-- Reopen a gate (R431); IRQ_n is released once both gates of PF0 are open (R572). -/
def Core.reopen (c : Core) (target : Nat) (fast : Bool) : Core :=
  let c1 := { c with gates := Tbl.set (fun _ => false) c.gates (gateKey target fast) false }
  { c1 with irqLow := c1.irqLow && (c1.gateClosed 0 false || c1.gateClosed 0 true) }

/-- Device time passes up to an instant: what can be delivered meanwhile is. Time never goes back. -/
def Core.advance (c : Core) (t : Nat) : Core := if c.timeRuns && decide (c.time < t) then { c.deliverAll with time := t } else c

/-- The word a claim returns (R453). -/
def claimWord (s edges : Nat) : Word := BitVec.ofNat 32 (s + min edges 255 * 65536)

/-- A claim in a class by a requester (R433). -/
def Core.claim (c : Core) (r : Requester) (fast : Bool) : Core :=
  match r.target with
  | none => c.answer [0xFFFF]
  | some t =>
    match c.lowest t fast with
    | none => ((c.inc .intc 0 Off.INTC_EMPTY_COUNT).reopen t fast).answer [0xFFFF]
    | some s =>
      (c.setSrc s { c.src s with pending := false, active := true, edges := 0, t0 := 0 }).answer [claimWord s (c.src s).edges]

/-- A COMPLETE in a class by a requester (R434). -/
def Core.complete (c : Core) (r : Requester) (fast : Bool) (v : Word) : Core :=
  let s := bitsOf v 0 10
  let cfg := c.srcCfg s
  if (c.src s).active && decide (r.target = some (bitsOf cfg 8 8)) && (bitOf cfg 1 == fast) then
    (c.setSrc s { c.src s with active := false }).reopen (bitsOf cfg 8 8) fast
  else c.reject r (if fast then .intf else .intc) 0 0x24 0x14

/-- INTF.FAST_PENDING: fast sources claimable by the reader (R455). -/
def Core.fastPending (c : Core) (r : Requester) : Nat :=
  match r.target with
  | none => 0
  | some t => ((c.srcs.map Prod.fst).filter (c.claimable t true)).length

/-- INTC.DELIV_STAT (R453). -/
def Core.delivStat (c : Core) : Word :=
  BitVec.ofNat 32 (flagsNat ((List.range 8).map fun k => c.gateClosed k false)
    + 2 ^ 8 * flagsNat ((List.range 8).map fun k => c.gateClosed k true)
    + 2 ^ 16 * flagsNat ((List.range 8).map fun k => c.gateClosed (16 + k) false)
    + 2 ^ 24 * flagsNat ((List.range 8).map fun k => c.gateClosed (16 + k) true))

/-- PEND or ACTIVE of 32 sources from `base` (R454). -/
def Core.srcBits (c : Core) (base : Nat) (f : Src → Bool) : Word :=
  BitVec.ofNat 32 (flagsNat ((List.range 32).map fun j => f (c.src (base + j))))

/-- SRC_LOG_j of a source (R454). -/
def Core.srcLog (c : Core) (s : Nat) : Word := BitVec.ofNat 32 ((c.src s).seq.toNat + min (c.src s).supp 0xFFFF * 65536)

/-! Source configuration -/

/-- A legal TARGET code (R430). -/
def targetLegal (t : Nat) : Bool := decide (t ≤ 7) || (decide (0x10 ≤ t) && decide (t ≤ 0x17))

/-- Write a summary record of a source: it takes no token (R450). -/
def Core.summary (c : Core) (s : Nat) : Core :=
  let x := c.src s
  if x.supp = 0 then c
  else
    let r := c.mkRec s x.lastSeq 0xFFFE true (BitVec.ofNat 32 (x.firstSeq.toNat + x.lastSeq.toNat * 65536))
      (satWord x.supp) (BitVec.ofNat 32 x.firstTime) 0
    Core.reportLog s ((c.setSrc s { x with supp := 0 }).storeRec s r)

/-- The episode of a source ends, with a final summary if events remain uncovered (R450). -/
def Core.endEpisode (c : Core) (s : Nat) : Core :=
  let c1 := c.summary s
  c1.setSrc s { c1.src s with episode := false }

/-- The bucket of a source is refilled by a change of its profile (R449). -/
def Core.refill (c : Core) (s : Nat) : Core :=
  let c1 := if (c.src s).episode then c.endEpisode s else c
  c1.setSrc s { c1.src s with used := 0 }

/-- The writable bits of SRC_CFG (R454). -/
def srcCfgMask : Nat := 0x3FFFB

/-- A write of SRC_CFG of source 64 i + j (R430, R436, R454, R458). -/
def Core.writeSrcCfg (c : Core) (r : Requester) (i j : Nat) (v : Word) : Core :=
  let s := 64 * i + j
  let old := c.srcCfg s
  let off := 0x100 + 4 * j
  if bitOf old 24 && !r.isCpu then c.reject r .isrc i off 0x12
  else if !targetLegal (bitsOf v 8 8) then c.reject r .isrc i off 0x10
  else if decide (0x10 ≤ bitsOf v 8 8) && !r.isCpu then c.reject r .isrc i off 0x11
  else if (c.src s).active && (decide (bitsOf v 8 8 ≠ bitsOf old 8 8) || bitOf v 1 != bitOf old 1) then
    c.reject r .isrc i off 0x13
  else
    let new := (old &&& ~~~ BitVec.ofNat 32 srcCfgMask) ||| (v &&& BitVec.ofNat 32 srcCfgMask)
    let c1 := c.wr .isrc i off new
    if bitsOf v 16 2 ≠ bitsOf old 16 2 then c1.refill s else c1

/-- A coalescing profile as it is stored (R437). -/
def profileClamp (v : Word) : Word :=
  BitVec.ofNat 32 (max 1 (min 130000 (bitsOf v 0 17)) + max 1 (bitsOf v 24 8) * 2 ^ 24)

/-- A write of a coalescing profile (R437). -/
def Core.writeProfile (c : Core) (p : Nat) (v : Word) : Core := c.wr .intc 0 (Off.INTC_PROFILE + 4 * (p % 32)) (profileClamp v)

/-- A write of GLOBAL_HOLD (R438). -/
def Core.writeHold (c : Core) (v : Word) : Core := c.wr .intc 0 Off.INTC_GLOBAL_HOLD (v &&& 3)

/-- Doorbells ring: bit i raises source `base + i` (R440). -/
def Core.doorbells (c : Core) (r : Requester) (base : Nat) (v : Word) : Core :=
  (bitsSet v.toNat 32).foldl (fun x i => x.event (base + i) 0xFF (BitVec.ofNat 32 r.id)) c

/-- PEND_CLR of 32 sources from `base` (R439). -/
def Core.pendClr (c : Core) (base : Nat) (v : Word) : Core :=
  (bitsSet v.toNat 32).foldl
    (fun x i => x.setSrc (base + i) { x.src (base + i) with pending := false, edges := 0, t0 := 0 }) c

/-- The instant at which the coalescing time of a pending normal-class source elapses (R429). -/
def Core.coalesceAt (c : Core) (s : Nat) : Nat := (c.src s).t0 + c.profTime s

/-- The coalescing time of a source elapses: device time has reached that instant, and the open gate delivers (R429, R431). -/
def Core.coalesceTimeout (c : Core) (s : Nat) : Core :=
  if (c.src s).pending then (c.advance (c.coalesceAt s)).deliverAll else c

/-- A Function Level Reset as the interrupt controller sees it (R431, R436). -/
def Core.flrSources (c : Core) (k : Nat) : Core :=
  let c1 := { c with srcs := c.srcs.foldl (fun (t : Tbl Src) (e : Nat × Src) =>
      if bitsOf (c.srcCfg e.1) 8 8 = k then Tbl.modify (fun _ => {}) t e.1 (fun x => { x with active := false }) else t) c.srcs }
  (c1.reopen k false).reopen k true

/-! The log's registers -/

/-- A log token is added to the bucket of a source; a full bucket ends its episode (R449, R450). -/
def Core.tokenRefill (c : Core) (s : Nat) : Core :=
  let x := c.src s
  if x.used = 0 ∨ c.rate s = 0 then c
  else
    let c1 := c.setSrc s { x with used := x.used - 1 }
    if x.used = 1 ∧ x.episode then c1.endEpisode s else c1

/-- A second of a suppression episode has passed (R450). -/
def Core.episodeSecond (c : Core) (s : Nat) : Core := if (c.src s).episode then c.summary s else c

/-- A write of LOG_RATE_r: BURST 0 is stored as 1, and a change refills every bucket that uses the profile (R449, R457). -/
def Core.writeLogRate (c : Core) (r : Nat) (v : Word) : Core :=
  let new := BitVec.ofNat 32 (max 1 (bitsOf v 0 8) + bitsOf v 16 16 * 65536)
  let c1 := c.wr .elog 0 (Off.ELOG_LOG_RATE + 4 * (r % 4)) new
  if new = c.rd .elog 0 (Off.ELOG_LOG_RATE + 4 * (r % 4)) then c1
  else (c.srcs.map Prod.fst).foldl (fun x s => if bitsOf (x.srcCfg s) 16 2 = r % 4 then x.refill s else x) c1

/-- A consumer's write of a read pointer against its write pointer (R446): none if it lies beyond, else the new value. -/
def rptrNew (w r v : Word) : Option Word :=
  if v ≠ w ∧ (v - w).toNat < 2 ^ 31 then none else if (v - r).toNat ≤ (w - r).toNat then some v else some r

/-- A write of RPTR_q (R446). -/
def Core.writeRptr (c : Core) (r : Requester) (q : Nat) (v : Word) : Core :=
  match rptrNew (c.wptr (q % 3)) (c.rptr (q % 3)) v with
  | none => c.reject r .elog 0 (Off.ELOG_RPTR + 8 * (q % 3)) 0x17
  | some x => c.wr .elog 0 (Off.ELOG_RPTR + 8 * (q % 3)) x

/-- A write of SPILL_RPTR (R448, R458). -/
def Core.writeSpillRptr (c : Core) (r : Requester) (v : Word) : Core :=
  match rptrNew (c.rd .elog 0 Off.ELOG_SPILL_WPTR) (c.rd .elog 0 Off.ELOG_SPILL_RPTR) v with
  | none => c.reject r .elog 0 Off.ELOG_SPILL_RPTR 0x17
  | some x => c.wr .elog 0 Off.ELOG_SPILL_RPTR x

/-- The eight words of a record (R442). -/
def Rec.words (r : Rec) : List Word :=
  [r.time.truncate 32, (r.time >>> 32).truncate 32,
   BitVec.ofNat 32 (r.info.toNat + r.seq.toNat * 65536), BitVec.ofNat 32 (r.code.toNat + r.team.toNat * 65536),
   r.w0, r.w1, r.w2, r.w3]

/-- The record a slot number of WIN_SEL names: the ring, then the saturation table (R451, R456). -/
def Core.windowRec (c : Core) (slot : Nat) : Rec :=
  if slot < 8192 then c.ringRec slot
  else match c.sat[(slot - 8192) / 2]? with
    | none => {}
    | some e => if (slot - 8192) % 2 = 0 then e.first else e.latest

/-- Write consecutive registers. -/
def Core.wrList (c : Core) (p : Page) (n off : Nat) : List Word → Core
  | [] => c
  | w :: r => Core.wrList (c.wr p n off w) p n (off + 4) r

/-- A read of WIN_0 latches the selected record into WIN_0 to WIN_7 (R446, R456). -/
def Core.readWin0 (c : Core) : Core :=
  let r := c.windowRec (c.fld .elog 0 Off.ELOG_WIN_SEL 0 14)
  (c.wrList .elog 0 Off.ELOG_WIN r.words).answer [r.time.truncate 32]

/-- Installed DRAM in bytes (MCG.INSTALLED, R334). -/
def Core.installed (c : Core) : Nat := c.fld .mcg 0 Off.MCG_INSTALLED 0 11 * 2 ^ 30

/-- Whether the spill ring's parameters are legal (R448). -/
def Core.spillLegal (c : Core) : Bool :=
  decide (c.fld .elog 0 Off.ELOG_SPILL_SIZE 0 4 ≤ 10) && decide (c.spillBase % (32 * c.spillRecs) = 0)
    && decide (c.spillBase + 32 * c.spillRecs ≤ c.installed)

/-- A write of ELOG_CTRL (R448). -/
def Core.writeElogCtrl (c : Core) (r : Requester) (v : Word) : Core :=
  if bitOf v 0 && !c.spillLegal then c.reject r .elog 0 Off.ELOG_ELOG_CTRL 0x16
  else c.wr .elog 0 Off.ELOG_ELOG_CTRL (v &&& 1)

/-- The saturation summary of one table entry goes to the safety partition (R451). -/
def Core.satSummary (c : Core) (e : SatEntry) : Core :=
  let r := c.mkRec e.source e.latest.seq 0xFFFE true
    (BitVec.ofNat 32 (e.first.seq.toNat + e.latest.seq.toNat * 65536)) (satWord e.count) (e.first.time.truncate 32) 1
  (c.putRec 0 r).forward r

/-- ELOG_CMD.SAT_CLEAR (R451). -/
def Core.satClear (c : Core) (r : Requester) : Core :=
  if !c.bit .elog 0 Off.ELOG_ELOG_STAT 0 || c.wptr 0 != c.rptr 0 then c.reject r .elog 0 Off.ELOG_ELOG_CMD 0x15
  else { (c.sat.foldl Core.satSummary c).setB .elog 0 Off.ELOG_ELOG_STAT 0 false with sat := [] }

/-- SAT_INFO of the selected entry (R451, R456). -/
def Core.satInfo (c : Core) : Word :=
  match c.sat[c.fld .elog 0 Off.ELOG_SAT_SEL 0 7]? with
  | none => 0
  | some e => BitVec.ofNat 32 (e.source + 0x8000)

/-- SAT_COUNT of the selected entry (R451, R456). -/
def Core.satCount (c : Core) : Word :=
  match c.sat[c.fld .elog 0 Off.ELOG_SAT_SEL 0 7]? with
  | none => 0
  | some e => satWord e.count

end Sys2Proof.Machine
end

