-- ==== Sys2Proof/Machine/Blocks.lean ====
section
/-! DEFINITION. What the blocks of composition and scan-out hold: commits under way, cadences, ports, scenes, layer engines,
buffers of frame memory and writes stalled by hold windows. -/

namespace Sys2Proof.Machine

/-! Commits (R29, R41 to R53) -/

/-- One portion of an armed SAFE or BLY page (R29): scene of SAFE or port of BLY, the scene whose boundary applies it, the
boundaries it still lets pass, and whether it has applied. -/
structure Portion where
  index : Nat
  scene : Nat
  skip : Nat
  done : Bool
deriving DecidableEq, Repr

/-- What an armed page waits for. -/
inductive Wait where
  /-- the coming boundary after `skip` more -/
  | next (skip : Nat)
  /-- the boundary that carries a frame number (R52, R53) -/
  | frame (n : Nat)
  /-- a VBL page of the group of a scene (R50) -/
  | group (s : Nat)
  /-- the portions of SAFE or BLY (R29) -/
  | portions (l : List Portion)
deriving DecidableEq, Repr

/-- An armed page: what it waits for, and the scene whose group armed it, if any. -/
structure Arm where
  wait : Wait
  group : Option Nat := none
deriving DecidableEq, Repr

/-- Where a scene-group commit stands (R50). -/
inductive GroupPhase where
  | idle
  | armed
  /-- its FRAME pages have applied, and its VBL pages wait for the compose done of this frame -/
  | composing (frame : Nat)
  /-- its VBL pages apply at the next VBLANK_START of their ports -/
  | ready
deriving DecidableEq, Repr

/-- The group commit of a scene. -/
structure Group where
  phase : GroupPhase := .idle
  target : Option Nat := none
  skip : Nat := 0
  team : Bool := false
deriving DecidableEq, Repr

/-! Timing (R245 to R264) -/

/-- A rate change under way or targeted (R263). -/
structure RateChange where
  num : Nat
  den : Nat
  frames : Nat
  target : Option Nat
  /-- boundaries that its cut-off still lets pass -/
  skip : Nat
  /-- ramp frames begun -/
  begun : Nat
deriving DecidableEq, Repr

/-- The cadence generator of a scene. Tick times are in units of 2⁻³² ns (R246). -/
structure Cad where
  next : Nat := 0
  last : Nat := 0
  /-- remainder of the free-run accumulator -/
  rem : Nat := 0
  /-- present frame period in the same units -/
  period : Nat := 0
  frame : Nat := 0
  /-- COMMIT_GUARD latched for the coming boundary, µs (R171) -/
  guard : Nat := 32
  ran : Bool := false
  change : Option RateChange := none
  /-- an error to be snapped at the coming boundary, ns (R261) -/
  snap : Option Int := none
  /-- an error still to be slewed, ns (R261) -/
  slew : Int := 0
  /-- the first alignment since the generator started is still to come (R258) -/
  fresh : Bool := true
  /-- times in ns of the latest counted frame edges, newest first -/
  edges : List Nat := []
  /-- when the loop expects the next frame edge, ns -/
  expected : Option Nat := none
  /-- qualified edges since the latest aligned one -/
  sinceAligned : Nat := 0
  /-- consecutive qualified aligned edges with small error (R256) -/
  good : Nat := 0
  /-- times of consecutive edges of a possible return, newest first (R260) -/
  strays : List Nat := []
  /-- a return qualified during a ramp waits for the ramp's end (R262) -/
  returnDue : Bool := false
  /-- when the loop expects the next line edge, ns, and whether one was qualified since the last frame edge (R257) -/
  lineExpected : Option Nat := none
  lineSeen : Bool := false
  /-- the loop's frequency estimate in holdover, as a period in the same units (R259) -/
  est : Nat := 0
  /-- the next team tick announced: local time in ns and frame number (R398) -/
  teamNext : Option (Nat × Nat) := none
  /-- the generator runs (R245) -/
  going : Bool := false
  /-- the first tick after a restart is no boundary (R514) -/
  skipBoundary : Bool := false
deriving DecidableEq, Repr

/-- What a port shows in its present port frame (R228, R231, R232). -/
inductive Shown where
  | off
  | buffer (entry : Nat) (scene : Nat) (slot : Nat) (frame : Nat) (chase : Bool)
  | still (entry : Nat)
  | noFrame
deriving DecidableEq, Repr

/-- The scan-out and raster of a port. -/
structure Port where
  pframe : Nat := 0
  /-- latest VBLANK_START, ns -/
  lastV : Nat := 0
  /-- The period of its scene's cadence generator at that VBLANK_START, in the generator's units. -/
  framePeriod : Nat := 0
  line : Nat := 0
  /-- PORT_GUARD latched for the coming VBLANK_START (R234) -/
  guard : Nat := 2
  shown : Shown := .off
  /-- SHOWN_LO and SHOWN_HI as published; a read of SHOWN_LO latches SHOWN_HI -/
  shownLo : Word := 0
  shownHi : Word := 0
  /-- the raster in use has passed a check since reset, and passes now (R249) -/
  rasterKnown : Bool := false
  rasterOk : Bool := false
  /-- generation of the present port frame (R235) -/
  gen : Nat := 0
  /-- next window row whose fetch deadline has not passed -/
  row : Nat := 0
  /-- underrun lines of the present port frame -/
  underruns : Nat := 0
  clipped : Bool := false
  /-- reading of the present port frame has ended (R233) -/
  frameDone : Bool := false
  /-- phase offset in force, pixels: that of the latest VBLANK_START (R251) -/
  phasePix : Nat := 0
  /-- the scene whose ticks place it -/
  tickScene : Nat := 0
  /-- blanking added to the present port frame, and to the one that the next VBLANK_START begins, in units of 2⁻³² ns (R251, R261) -/
  extra : Int := 0
  lengthen : Int := 0
  /-- the output codes of the latest line that left the port -/
  lineOut : List (Nat × Nat × Nat) := []
deriving DecidableEq, Repr

/-! Layer engines and buffer uses (R79 to R99) -/

/-- One use of a buffer (R84): the 25 descriptor words at 0x100 to 0x160 that began it. -/
structure Use where
  id : Nat
  desc : List Word
  ready : Bool := false
  /-- its hold windows are installed (R92) -/
  held : Bool := false
  /-- a stall timeout made its windows reject (R95) -/
  rejecting : Bool := false
  /-- a frame was composed from it -/
  composed : Bool := false
  /-- it has waited under WAIT and does not wait again (R194) -/
  waited : Bool := false
  /-- its metadata block has been read (R90), and its TIMECODE where that was valid -/
  metaRead : Bool := false
  timecode : Option Word := none
deriving DecidableEq, Repr

/-- What a layer contributes to the frame that a boundary starts (R193 to R195). -/
inductive Decision where
  | none
  | solid
  | current
  | heldUse
  | hidden
  | waiting
deriving DecidableEq, Repr

/-- The metadata a layer last took from a good block (R90). -/
structure Meta where
  maxLum : Nat := 0
  avgLum : Nat := 0
  minLum : Nat := 0
  lumValid : Bool := false
  timecode : Word := 0
  seq : Word := 0
deriving DecidableEq, Repr

/-- A layer engine. -/
structure Eng where
  scene : Option Nat := none
  use : Option Use := none
  /-- the use it replaced, extended while its successor is not ready (R84, R193) -/
  old : Option Use := none
  /-- uses that have ended and whose last reads have not returned (R89), oldest first -/
  ending : List Use := []
  /-- the configuration in use passed its checks; a failing layer contributes nothing (R130) -/
  legal : Bool := true
  /-- the lead of the gang it follows (R114) -/
  lead : Option Nat := none
  decision : Decision := .none
  info : Meta := {}
  /-- statistics of the present frame: WORK_PIX, FINISH_NS, PACE, CULL_STAT, READS_LAST -/
  stats : List Word := []
  /-- first poisoned address of the present frame, and poisoned reads of it (R129) -/
  poisonAt : Option Nat := none
  poisonReads : Nat := 0
  /-- writes stalled on its windows make an episode (R94) -/
  stalling : Bool := false
deriving DecidableEq, Repr

/-! Tone mappers (R144 to R149): 0 to 63 those of the layer engines, 64 to 67 those of the scenes -/

/-- A tone state (R146). -/
structure ToneKey where
  /-- 0 off, 1 max-RGB, 2 per channel -/
  mode : Nat := 0
  /-- 0 EETF, 1 CLIP, 2 TABLE -/
  curve : Nat := 0
  dyn : Nat := 0
  exposure : Word := 0x3C00
  src : Word := 0x2710
  dst : Word := 0x2710
  table : Nat := 0
deriving DecidableEq, Repr

/-- A LUT: the tone state it was built from, its source peak as a PQ code in units of 2⁻³², and the codes of a table. -/
structure Lut where
  key : ToneKey := {}
  peak : Nat := 0
  codes : List Nat := []
deriving DecidableEq, Repr

/-- A tone state that an ARM asks for; its commit may have applied before the LUT was built (R146). -/
structure ToneWant where
  key : ToneKey
  applied : Bool := false
deriving DecidableEq, Repr

/-- A tone mapper: the LUT in use, the tone state asked for, and a built LUT that waits for its boundary. -/
structure Tone where
  front : Lut := {}
  want : Option ToneWant := none
  back : Option Lut := none
  /-- a dynamic LUT that waits for its boundary (R149) -/
  dynBack : Option Lut := none
  /-- the effective peak P of dynamic mapping as a PQ code in units of 2⁻³²; none before the first value -/
  peak : Option Nat := none
  /-- the cause of DYN_MISSING has been told -/
  missingTold : Bool := false
deriving DecidableEq, Repr

/-- A build in a scene's queue (R146): the tone mapper, the tone state and peak, and whether it is dynamic. -/
structure Build where
  tone : Nat
  key : ToneKey
  peak : Nat
  dynamic : Bool
deriving DecidableEq, Repr

/-! Scenes (R170 to R207) -/

/-- What a valid slot composed from (R196): its engine, slot word, use (0 for a solid layer), LENG values in use and LUT. -/
structure Snap where
  engine : Nat
  slot : Word
  use : Nat
  leng : List (Nat × Word)
  lut : Lut
deriving DecidableEq, Repr

/-- What the background of a scene is: BG_RG, BG_B, CANVAS and FLAT_CTRL in use. -/
abbrev BgSnap := Word × Word × Word × Word

/-- A flatten surface in use or being built (R196 to R199). -/
structure Flat where
  surface : Nat
  /-- the run it holds, bottom first -/
  run : List Snap
  bg : BgSnap
  /-- the depth of the surface it was built from -/
  start : Nat := 0
  done : Bool := false
  /-- poison touched its build, or frame memory reported an error in it -/
  poisoned : Bool := false
deriving DecidableEq, Repr

/-- A composition in progress. -/
structure Comp where
  frame : Nat
  start : Nat
  deadline : Nat
  slot : Nat
  entry : Nat
  chase : Bool
  w : Nat
  h : Nat
  /-- rows written, in ascending order -/
  rows : Nat := 0
  bands : Nat := 0
  /-- the boundary that started it -/
  boundary : Nat := 0
  /-- engines whose fence is read again, each with the instant its wait ends (R194) -/
  waiting : List (Nat × Nat) := []
  /-- when blending began, ns -/
  blendAt : Nat := 0
  /-- engines whose layers may cover tiles (R127) -/
  covers : List Nat := []
  /-- the largest component in units of 2⁻⁴³, and the sum of luminances in 10⁻⁴ of them (R152) -/
  lumMax : Int := 0
  lumSum : Nat := 0
  late : Bool := false
  panicked : Bool := false
  waited : Bool := false
  first : Bool := false
  flattened : Bool := false
deriving DecidableEq, Repr

/-- The figures of a frame that ended, published at the next boundary (R207). -/
structure FrameStats where
  lastFrame : Word := 0
  slack : Word := 0
  composeNs : Word := 0
  waitNs : Word := 0
  blendPace : Word := 0
deriving DecidableEq, Repr

/-- The composition of a scene. -/
structure Scene where
  comp : Option Comp := none
  stats : Option FrameStats := none
  /-- FORCE requests since the previous boundary (R207) -/
  recompose : Bool := false
  flatDrop : Bool := false
  /-- something changed at the present boundary that keeps it from being held (R191) -/
  changed : Bool := false
  /-- it composed since it was enabled or changed mode -/
  everComposed : Bool := false
  /-- the last composition started is complete, in chase mode with every row written -/
  lastWhole : Bool := true
  lastHeld : Bool := false
  /-- a missed boundary holds back the FRAME commits -/
  missed : Bool := false
  /-- COMPOSE_NS of the most recent composed frame since enable (R194) -/
  composeNs : Option Nat := none
  /-- decisions of the last composed frame, by engine, with the use composed -/
  decisions : List (Nat × Decision × Nat) := []
  /-- the valid slots of the last composed frame, and for how many composed frames each has not changed (R196) -/
  snaps : List (Snap × Nat) := []
  /-- the same of the background -/
  bg : Option (BgSnap × Nat) := none
  flat : Option Flat := none
  build : Option Flat := none
  /-- generation of the chase buffer, and its entry (R186) -/
  gen : Nat := 0
  chaseEntry : Option Nat := none
  /-- deadline panic is raised (R183, R188) -/
  panic : Bool := false
  leadMin : Nat := 0xFFFF
  lowRaised : Bool := false
  /-- engines for which ASSIGN_WAIT was raised -/
  waitRaised : List Nat := []
  /-- the mode of the last frame was chase -/
  chaseMode : Bool := false
  /-- chase mode is selected and its reference shows the scene, as of the latest boundary (R185, R189) -/
  chaseOn : Bool := false
deriving DecidableEq, Repr

/-! Port adapters (R156 to R166) -/

/-- A LUT image: where it was read, its sequence number, its CRC and its bytes (R161). -/
structure LutImage where
  addr : Nat
  seq : Word
  bytes : List (BitVec 8)
deriving DecidableEq, Repr

/-- A LUT state asked for by an applied commit: enables of shaper 1, 3D LUT and shaper 2, and the image (R162). -/
structure LutWant where
  en : Nat
  addr : Nat
  seq : Word
deriving DecidableEq, Repr

/-- The adapter of a port. -/
structure Adp where
  /-- enables and image in use -/
  en : Nat := 0
  image : Option LutImage := none
  /-- the image being staged -/
  staging : Option (Nat × Word) := none
  staged : Option LutImage := none
  /-- a LUT state whose swap waits -/
  want : Option LutWant := none
  /-- the SRAM is being reloaded: what was in use before, and the port frame number of the swap -/
  reload : Option (Nat × Option LutImage × Nat) := none
deriving DecidableEq, Repr

/-! Frame memory (R210 to R221) -/

/-- What a frame-store buffer or flatten surface records of its last write (R218), by allocation entry. -/
structure Buf where
  w : Nat := 0
  h : Nat := 0
  frame : Nat := 0
  complete : Bool := false
  written : Bool := false
  /-- when it was completed, ns -/
  doneAt : Nat := 0
  /-- the valid timecodes of the uses composed into it, by engine (R322) -/
  tcs : List (Nat × Word) := []
deriving DecidableEq, Repr

/-- A frame-memory transfer (R219 to R221). -/
structure Xfer where
  capture : Bool
  entry : Nat
  pinned : Bool
  first : Nat
  count : Nat
  rowBytes : Nat
  dram : Nat
  stride : Nat
  chase : Option Nat
deriving DecidableEq, Repr

/-- The slot rounds of frame memory (R222 to R224): the grants of the latest round, and the mean under way. -/
structure Hbm where
  grants : List Nat := []
  rounds : Nat := 0
  sum : Nat := 0
  sinceScrub : Nat := 0
deriving DecidableEq, Repr

/-! Stalled writes (R94 to R97) -/

/-- A write that waits for hold windows: the uses that stall it, by engine and use, and when it was first stalled. -/
structure Stalled where
  who : Requester
  addr : Nat
  data : List (BitVec 8)
  uses : List (Nat × Nat)
  since : Nat
  /-- its lines are written as poison (R379) -/
  bad : Bool := false
deriving DecidableEq, Repr

/-! The block engine (R369 to R385) -/

/-- What an operation of the block engine has written: its plane-0 rows, its bytes, its poisoned lines and the first of them, and its
accesses dropped or zeroed. -/
structure BltSum where
  rows : Nat := 0
  bytes : Nat := 0
  poison : Nat := 0
  first : Option Nat := none
  drops : Nat := 0
deriving DecidableEq, Repr

/-- An operation that runs: when it started, whether it is being aborted, and what it has written once its accesses are made. -/
structure BltOp where
  start : Nat
  abort : Bool := false
  moved : Option BltSum := none
deriving DecidableEq, Repr

/-- The block engine: its operation, and done fences still to be written: address, value, and whether the write has been issued. -/
structure Blt where
  op : Option BltOp := none
  fences : List (Nat × Nat × Bool) := []
deriving DecidableEq, Repr

end Sys2Proof.Machine
end

