-- ==== Sys2Proof/Machine/BoardBlocks.lean ====
section
/-! DEFINITION. What the power domain, the firmware and the host interfaces hold beside their registers ("Operating modes, power and
reset", "Firmware, update and Base camp recovery", "Host and board interfaces"). -/

namespace Sys2Proof.Machine

/-! Modes and power -/

/-- A transition of R501 that takes time: the entry into BIVOUAC or SHUTDOWN, or the return to a mode. -/
inductive Move where
  | entry (down : Bool)
  | wake (target : Nat)
deriving DecidableEq, Repr

/-- A voltage point change (R508): its direction, and its step: 0 waits for its boundary, 1 VDD_CORE moves, 2 settled and 3 failed, both
waiting for the next boundary. -/
structure VpMove where
  up : Bool
  step : Nat := 0
deriving DecidableEq, Repr

/-- Modes and power beside the PWR page. -/
structure Power where
  move : Option Move := none
  /-- step 2 of an entry is over, and no scene has a boundary any more (R512) -/
  stopping : Bool := false
  /-- scenes that reached step 3, and ports that ended at step 4 -/
  stopped : List Nat := []
  parked : List Nat := []
  /-- ports of an abandoned entry, whose links start again (R515) -/
  restart : List Nat := []
  /-- a wake cause arrived during the entry, which then wakes at once (R441, R515) -/
  wakeDue : Bool := false
  /-- when BIVOUAC was entered, ns -/
  biv : Nat := 0
  vp : Option VpMove := none
  /-- an episode of R510 is under way, and whether a sensor was read since reset -/
  hot : Bool := false
  read : Bool := false
deriving DecidableEq, Repr

/-! Firmware -/

/-- A row of a bundle's component table (R527). -/
structure FwComp where
  number : Nat
  ifMajor : Nat
  ifMinor : Nat
  stVer : Nat
  stMin : Nat
  offset : Nat
  length : Nat
  digest : BitVec 384
deriving DecidableEq, Repr

/-- An entry of the compatibility matrix (R528). -/
structure FwNeed where
  core : Nat
  peer : Nat
  ifMajor : Nat
  ifMinor : Nat
deriving DecidableEq, Repr

/-- What the device keeps of a bundle (R526 to R528). -/
structure Image where
  secVer : Nat := 0
  keySlot : Nat := 0
  revokeLower : Bool := false
  /-- SETTINGS_VER: major and minor -/
  setMajor : Nat := 0
  setMinor : Nat := 0
  version : Word := 0
  comps : List FwComp := []
  needs : List FwNeed := []
deriving DecidableEq, Repr

/-- The contents of a settings block (R548): what the firmware saved, or the bytes a host wrote. -/
inductive Saved where
  /-- registers by address, and the power-on frame: its entry, the four words of the entry, and its bytes -/
  | config (regs : List (Nat × Word)) (frame : Option (Nat × List Word × List (BitVec 8)))
  | bytes (bs : List (BitVec 8))
deriving DecidableEq, Repr

/-- A valid settings block (R548). -/
structure Settings where
  seq : Word
  major : Nat
  minor : Nat
  body : Saved
deriving DecidableEq, Repr

/-- What the recovery record in force holds (R525): the staging state, the armed restart trial with its TRIAL_CTRL, whether that trial
has begun, and the request for Base camp. -/
structure Recovery where
  stage : Nat := 0
  armed : Option Word := none
  begun : Bool := false
  request : Bool := false
  cause : Nat := 0
deriving DecidableEq, Repr

/-- A handover of the cores, to the new image or back (R539, R544): whether the standby bank, or the state for the old image, is still
to come; whether the switch of step 3 is; the scenes that have not switched, with the boundaries each has seen. -/
structure Handover where
  back : Bool
  loading : Bool := true
  switched : Bool := false
  left : List (Nat × Nat) := []
  since : Nat
  /-- FW_STAT.TRIAL before it -/
  former : Nat
  /-- mode to return to, where the mode changed -/
  home : Option Nat
deriving DecidableEq, Repr

/-- A mailbox request in progress (R553): FUNC, its argument, whether it was sent during a handover, and the answer once it is ready. -/
structure Mbx where
  func : Nat
  arg : Word
  held : Bool
  answer : Option (Nat × List Word) := none
deriving DecidableEq, Repr

/-- A fall-back in the log (R553). -/
structure Fallen where
  time : Nat
  cause : Nat
  version : Word
deriving DecidableEq, Repr

/-- Firmware, boot flash and service port. -/
structure Fw where
  /-- the running image, and that of the other bank during an activation or trial -/
  image : Image := {}
  other : Option Image := none
  /-- components loaded one by one by LOAD_CORE (R546) -/
  loaded : List FwComp := []
  /-- the staging slot, its TOTAL_BYTES, and a STAGE_END still unanswered, by its TAG -/
  staged : List (BitVec 8) := []
  total : Nat := 0
  ending : Option Word := none
  record : Recovery := {}
  setA : Option Settings := none
  setB : Option Settings := none
  /-- the block in use since the start: none for defaults, else whether it is block B -/
  setUse : Option Bool := none
  /-- the fuse counter and the revoked slots (R529, R531) -/
  fuses : Nat := 0
  revoked : BitVec 3 := 0
  hand : Option Handover := none
  /-- when the trial began, and the time since spent in BIVOUAC, ns -/
  trialAt : Nat := 0
  slept : Nat := 0
  /-- TRIAL_EXPIRING has been raised in this trial -/
  expiring : Bool := false
  falls : List Fallen := []
  mbx : Option Mbx := none
  /-- the entry selected as power-on frame -/
  frameSel : Option Nat := none
  /-- BASE_CAMP was entered by a request that carries its authority (R532) -/
  authority : Bool := false
  /-- the DFU interface is in dfuERROR -/
  dfuError : Bool := false
deriving DecidableEq, Repr

/-! Host and board interfaces -/

/-- Host and board interfaces beside the PCIE page. -/
structure Board where
  /-- completions of the latest BAR2 read that carry EP, by their 64-byte line (R566) -/
  ep : List Nat := []
  /-- the last byte of the latest SMBus write was not acknowledged (R573) -/
  nack : Bool := false
  /-- causes of SMB_ALERT_n present at the latest Alert Response (R575) -/
  acked : Nat := 0
  /-- an instruction of the test access port has taken the pins (R579) -/
  scanned : Bool := false
deriving DecidableEq, Repr

end Sys2Proof.Machine
end

