-- ==== Sys2Proof/Machine/OperandTypes.lean ====
section
/-! DEFINITION. The types of the commands' operands: what an event of the hardware measured or found. -/

namespace Sys2Proof.Machine

/-- What one engine's frame measured: ns from the boundary to its last pixel, pixels per µs, 64-byte pixel reads (R105). -/
structure EngineFigures where
  engine : Fin 64
  finishNs : Nat
  pace : Nat
  reads : Nat
deriving DecidableEq, Repr

/-- What an error-correcting code found in a read (R226, R350). -/
inductive Ecc where
  | good
  | corrected
  | uncorrectable
deriving DecidableEq, Repr

/-- What TRAINING found (R332 to R336): the memory's kind, the lower of the rate asked for and the rated one, the ranks that failed step 5,
whether a further attempt passed, whether frame memory failed, whether results were restored, its duration and the settings' map as
MAP_FIELDS and nine masks. -/
structure TrainReport where
  x8 : Bool
  gb32 : Bool
  /-- installed ranks per subchannel, as log₂ -/
  ranksLog : Fin 3
  topology : Fin 3
  drfm : Bool
  rate : Nat
  fails : List (Fin 16 × Fin 4)
  retryPassed : Bool
  hbmFailed : Bool
  restored : Bool
  ms : Nat
  /-- ms from the release of POWER_HOLD to the end -/
  bootMs : Nat
  map : Option (Word × List (BitVec 40))
deriving DecidableEq, Repr

/-- The header of a Rakin message (R533) but its OPCODE, which the command names, and its STATUS. -/
structure RakinHdr where
  tag : Word
  length : Nat
  crc : Word
deriving DecidableEq, Repr

/-- What the ROM and the loader found at a start (R505, R524, R547): a good boot header, the flash's size, the bundle in the active slot
if it passes R530, and the time of a copy in s. -/
structure BootReport where
  header : Bool
  flash : Fin 3
  active : Option Image
  copyS : Nat
deriving DecidableEq, Repr

/-- A configuration write of a function (R560, R563, R568): its enables, its power state, and log2 of the BAR2 size in GiB. -/
structure CfgWrite where
  mem : Bool
  bme : Bool
  msix : Bool
  d3 : Bool
  bar2 : Fin 11
deriving DecidableEq, Repr

/-- A rate and width of the PCI Express link (R560): SPEED as LINK_STAT codes it, log2 of the lanes, and lane reversal. -/
structure PcieLink where
  speed : Fin 5
  lanes : Fin 5
  reversed : Bool
deriving DecidableEq, Repr

/-- What resets the PCI Express functions together (R567). -/
inductive HotReset where
  | hot
  | linkDisable
  /-- PE_PERST_n is low -/
  | perst
deriving DecidableEq, Repr

/-- The instructions of the test access port (R579). -/
inductive ScanInstr where
  | bypass | idcode | samplePreload | extest | extestPulse | extestTrain | highz | clamp
deriving DecidableEq, Repr

/-- A LUT that SM20 guards (R462): a scene's tone LUT, or a port's adapter LUT. -/
inductive LutRef where
  | tone (s : Fin 4)
  | adapter (p : Fin 8)
deriving DecidableEq, Repr

end Sys2Proof.Machine
end

