-- ==== Sys2Proof/Machine/RopeBlocks.lean ====
section
/-! DEFINITION. What the rope team holds, and the messages that pass between its devices ("Rope link and rope teams"). -/

namespace Sys2Proof.Machine

/-- A HELLO (R390): protocol versions laid out as PROTO_VER, capabilities, unit ID, whether the sender is in a formed team, its device
ID and the number of its port, and whether it asks for FEC. -/
structure Hello where
  ver : Word
  caps : Word
  unit : BitVec 64
  formed : Bool
  id : BitVec 14
  port : Fin 4
  fec : Bool
deriving DecidableEq, Repr

/-- A candidate's claim (R393): the higher priority wins, the lower unit ID breaks a tie. -/
structure Claim where
  prio : Nat
  unit : Nat
deriving DecidableEq, Repr

/-- A member as every device's tables show it (R391, R394): its groups, whether its path carries bulk transfers, remote accesses and
multicast, and this device's primary and alternate first hop toward it. -/
structure Member where
  id : Nat
  unit : Nat
  groups : Nat
  bulk : Bool
  rreg : Bool
  multi : Bool
  primary : Option Nat
  alternate : Option Nat
deriving DecidableEq, Repr

/-- What the lead's tables tell this device (R394): its own ID, the lead's, every other member, its timing parent and the alternate,
the ports toward its timing children, the length of its timing path, PATH_MAX in ns, and whether its own ID request met a conflict. -/
structure Tables where
  id : Nat
  lead : Nat
  members : List Member
  parent : Nat
  parentAlt : Option Nat
  children : List Nat
  hops : Nat
  pathMax : Nat
  conflict : Bool
deriving DecidableEq, Repr

/-- A link of a device found during enumeration: its port, the index of the neighbour in the list of devices, and the one-way delay, ns. -/
structure RopeLink where
  port : Nat
  peer : Nat
  delay : Nat
deriving DecidableEq, Repr

/-- A device that the lead finds (R394), the lead itself first. -/
structure RopeNode where
  unit : Nat
  fixedReq : Option Nat
  groups : Nat
  bulk : Bool
  rreg : Bool
  multi : Bool
  links : List RopeLink
deriving DecidableEq, Repr

/-- How an enumeration or a join ends for this device: it leads and has found these devices; it is a member and gets these tables; or it
is refused as one too many (R395). -/
inductive TeamResult where
  | leads (found : List RopeNode) (pathMax : Nat)
  | member (t : Tables)
  | full
deriving DecidableEq, Repr

/-- A team commit request (R402). -/
structure TcReq where
  origin : Nat
  target : Nat
  scenes : Nat
  groups : Nat
  atomic : Bool
deriving DecidableEq, Repr

/-- The outcome of a team commit: TC_STAT.STATE, reason, first failing device, commit ID, members armed and failed (R405). -/
structure TcOutcome where
  state : Nat
  reason : Nat
  first : Nat
  commit : Nat
  armed : Nat
  failed : Nat
deriving DecidableEq, Repr

/-- The request that the lead handles (R403 to R405): members whose reply, or whose acknowledgement of a cancel, is awaited. -/
structure TcRun where
  req : TcReq
  commit : Nat
  wait : List Nat
  armed : List Nat := []
  /-- failing devices with their reasons, the first one first -/
  failed : List (Nat × Nat) := []
  sentAt : Nat
  cancelling : Bool := false
  acks : List Nat := []
  diverged : Bool := false
deriving DecidableEq, Repr

/-- Bytes of a transfer for consecutive addresses of the destination, a line marked as poison apart. -/
structure XPiece where
  addr : BitVec 40
  data : List (BitVec 8)
  bad : Bool
deriving DecidableEq, Repr

/-- A segment of a bulk transfer (R410): sender and channel, number, pieces, whether it is the last, and the fence that then follows. -/
structure XSeg where
  sender : Nat
  chan : Fin 8
  index : Nat
  pieces : List XPiece
  last : Bool
  fence : Option (BitVec 40 × BitVec 64)
deriving DecidableEq, Repr

/-- A destination of a transfer at its sender: attempts of the present segment, whether it has acknowledged it, and the result it will
give: 1 OK, 2 POISON, 3 DENIED, 4 UNREACHABLE, 6 ASLEEP (R409). -/
structure XDest where
  id : Nat
  acked : Bool := false
  attempts : Nat := 1
  result : Nat := 1
  closed : Bool := false
deriving DecidableEq, Repr

/-- A transfer channel that runs (R407). -/
structure Xch where
  src : Nat
  dst : Nat
  srcStride : Nat
  dstStride : Nat
  rowBytes : Nat
  rows : Nat
  fence : Option (BitVec 40 × BitVec 64)
  multicast : Bool
  dests : List XDest
  index : Nat := 0
  /-- reads denied and lines read as poison at the source so far -/
  denied : Bool := false
  poison : Bool := false
deriving DecidableEq, Repr

/-- A transfer that arrives (R408): its sender and channel, drops and poison so far, segments whose acknowledgement waits for stalled
writes, and the fence of a complete one. -/
structure XRx where
  sender : Nat
  chan : Nat
  denied : Bool := false
  poison : Bool := false
  owed : List Nat := []
  last : Bool := false
  fence : Option (BitVec 40 × BitVec 64) := none
  /-- the fence write has been issued -/
  issued : Bool := false
deriving DecidableEq, Repr

/-- Records that a hop dropped, by origin device and source, with the sequence range and the count (R413). -/
structure HopDrop where
  origin : Nat
  source : Nat
  first : Nat
  last : Nat
  count : Nat
deriving DecidableEq, Repr

/-- A TICK (R398): team frame number N, the team time of tick N + 1 in ns, the active rate and a rate change in progress as its new rate,
frames and target frame number. -/
structure Tick where
  n : Nat
  next : Nat
  num : Nat
  den : Nat
  change : Option (Nat × Nat × Nat × Nat)
deriving DecidableEq, Repr

/-- What CAIRN_FORWARD carries (R412, R413): a record of this device leaves, one of another device passes, or one arrives at the
collector; `budget` says whether the hop's token bucket allows it. -/
inductive CairnStep where
  | own (budget : Bool)
  | transit (origin source seq : Nat) (budget : Bool)
  | arrive (origin : Nat) (bytes : List (BitVec 8))
deriving DecidableEq, Repr

/-- A message between devices. -/
inductive RopeMsg where
  | hello (h : Hello)
  | keepalive
  | replay
  | replayAsk
  | claim (c : Claim)
  | enumerate
  | assign (t : Tables)
  | refused
  | groups (g : Nat)
  | sync (time : Nat)
  | tick (t : Tick)
  | tcRequest (q : TcReq)
  | tcArm (commit : Nat) (q : TcReq)
  | tcReply (commit : Nat) (reason : Nat)
  | tcCancel (commit : Nat)
  | tcAck (commit : Nat) (done : Bool)
  | tcOutcome (o : TcOutcome)
  | segment (x : XSeg)
  | segmentAck (chan index result : Nat)
  | transferAbort (chan : Nat)
  | rregRequest (addr : Nat) (write : Bool) (data : Word)
  | rregReply (result : Nat) (data : Word)
  | record (origin : Nat) (bytes : List (BitVec 8))
  | summary (x : HopDrop)
  | wake (groupMode : Bool) (id groups : Nat)
  | leave
deriving DecidableEq, Repr

/-- Where a message goes: to the neighbour on a port, or to devices of the team. -/
inductive RopeTo where
  | port (k : Nat)
  | devices (ids : List Nat)
deriving DecidableEq, Repr

/-- The rope team as one device holds it. -/
structure Rope where
  /-- the parts of TEAM_CTRL and ID_REQ in force since the latest enumeration (R393) -/
  role : Nat := 1
  prio : Nat := 0
  fixedReq : Option Nat := none
  cadScene : Nat := 0
  /-- the best claim of the present or latest election, and when the last better one was seen, ns -/
  best : Option Claim := none
  electAt : Nat := 0
  leadUnit : Option Nat := none
  tables : Option Tables := none
  /-- IDs of members that have left (R395) -/
  reserved : List Nat := []
  /-- when the lead was lost, ns (R416) -/
  lostAt : Option Nat := none
  /-- team time minus device time, ns (R398) -/
  offset : Int := 0
  /-- the latest team frame number known (R398) -/
  frame : Nat := 0
  /-- scenes whose number differs from the team's (R400) -/
  mismatch : List Nat := []
  /-- scenes whose next tick loads the team frame number whatever RUN holds (R514) -/
  loadNext : List Nat := []
  /-- the lead's request in progress and its queue (R403) -/
  tcRun : Option TcRun := none
  tcQueue : List TcReq := []
  /-- arms of this device by commit ID and scenes (R404) -/
  tcArmed : List (Nat × Nat) := []
  /-- transfer channels that run, by number, and transfers that arrive -/
  chans : Tbl (Option Xch) := []
  rx : List XRx := []
  /-- the target and start of the remote access in progress (R411) -/
  rregAt : Option (Nat × Nat) := none
  drops : List HopDrop := []
  /-- messages sent by the latest command that sends any -/
  out : List (RopeTo × RopeMsg) := []
deriving DecidableEq, Repr

end Sys2Proof.Machine
end

