-- ==== Sys2Proof/Syntax.lean ====
section
/-! DEFINITION. The commands the block takes, one constructor per row of the opcode table. -/

namespace Sys2Proof

open Machine (Requester Page)
open Machine

/-- The commands of spec/opcode_table.json: accesses by a requester, and events of the hardware and its pins. -/
inductive Instr where
  /-- REGISTER_WRITE: a write of `size` bytes at an address of BAR0, or of a function's own BAR4 (R8, R31, R435) -/
  | registerWrite (r : Requester) (bar4 : Bool) (addr : BitVec 24) (size : Nat) (v : BitVec 64)
  /-- SHADOW_WRITE: a write of a shadow register (R40, R43) -/
  | shadowWrite (r : Requester) (p : Page) (n : Nat) (off : Nat) (v : Word)
  /-- ARM: COMMIT.ARM (R44) -/
  | arm (r : Requester) (p : Page) (n : Nat)
  /-- CANCEL: COMMIT.CANCEL (R44) -/
  | cancel (r : Requester) (p : Page) (n : Nat)
  /-- SQ_CLEAR: a write of a status register with sequence (R54) -/
  | sqClear (r : Requester) (p : Page) (n : Nat) (off : Nat) (v : Word)
  /-- GROUP_ARM: SYS.GROUP_COMMIT.ARM_SCN (R50) -/
  | groupArm (r : Requester) (scenes : BitVec 4) (atFrame : Bool)
  /-- GROUP_CANCEL: SYS.GROUP_COMMIT.CANCEL_SCN (R59) -/
  | groupCancel (r : Requester) (scenes : BitVec 4)
  /-- TIME_LO_READ (R59) -/
  | timeLoRead (r : Requester)
  /-- APPLIED_LO_READ (R46) -/
  | appliedLoRead (r : Requester) (p : Page) (n : Nat)
  /-- FRAME_LO_READ (R206) -/
  | frameLoRead (r : Requester) (s : Fin 4)
  /-- PFRAME_LO_READ (R240) -/
  | pframeLoRead (r : Requester) (p : Fin 8)
  /-- SHOWN_LO_READ (R240) -/
  | shownLoRead (r : Requester) (p : Fin 8)
  /-- TEAM_TIME_LO_READ (R419) -/
  | teamTimeLoRead (r : Requester)
  /-- TEAM_FRAME_LO_READ (R419) -/
  | teamFrameLoRead (r : Requester)
  /-- FAULT_TIME_LO_READ (R489) -/
  | faultTimeLoRead (r : Requester)
  /-- CADENCE_TICK of a scene (R245) -/
  | cadenceTick (s : Fin 4) (golden : Bool)
  /-- FENCE_READ_DONE of an engine (R85) -/
  | fenceReadDone (e : Fin 64)
  /-- WAIT_FENCE_REREAD of a waiting layer (R194) -/
  | waitFenceReread (e : Fin 64)
  /-- WAIT_BOUND_EXPIRY of a scene (R194) -/
  | waitBoundExpiry (s : Fin 4)
  /-- META_READ_DONE of an engine (R90) -/
  | metaReadDone (e : Fin 64)
  /-- PIXEL_READ_RETURN: the 64-byte read of an engine at an address (R129) -/
  | pixelReadReturn (e : Fin 64) (addr : BitVec 40)
  /-- RELEASE_WRITE of the oldest ended use of an engine (R89) -/
  | releaseWrite (e : Fin 64)
  /-- BAND_COMPLETE (R183) -/
  | bandComplete (s : Fin 4)
  /-- BLENDER_ROW_WRITE (R186) -/
  | blenderRowWrite (s : Fin 4)
  /-- COMPOSE_DONE with the blender's measured pace and each engine's measured figures (R180, R22, R105) -/
  | composeDone (s : Fin 4) (pace : Nat) (engines : List EngineFigures)
  /-- FORCE_RECOMPOSE (R207) -/
  | forceRecompose (r : Requester) (s : Fin 4)
  /-- FORCE_FLAT_DROP (R207) -/
  | forceFlatDrop (r : Requester) (s : Fin 4)
  /-- TONE_LUT_BUILD_DONE: the first build of a scene completes, after the ns it took (R146) -/
  | toneLutBuildDone (s : Fin 4) (ns : Nat)
  /-- PRESTAGE (R162) -/
  | prestage (r : Requester) (p : Fin 8)
  /-- ADAPTER_STAGING_DONE (R162) -/
  | adapterStagingDone (p : Fin 8)
  /-- ADAPTER_RELOAD_DONE, with what error correction found in the staging slot, and where (R163) -/
  | adapterReloadDone (p : Fin 8) (ecc : Ecc) (addr : Nat)
  /-- ALLOC_INSTALL (R215) -/
  | allocInstall (r : Requester) (i : Fin 64)
  /-- ALLOC_FREE (R215) -/
  | allocFree (r : Requester) (i : Fin 64)
  /-- XFER_UPLOAD (R219) -/
  | xferUpload (r : Requester) (i : Fin 64)
  /-- XFER_CAPTURE (R219) -/
  | xferCapture (r : Requester) (i : Fin 64)
  /-- XFER_CAPTURE_FROM_PORT (R220) -/
  | xferCaptureFromPort (r : Requester) (p : Fin 8)
  /-- XFER_DONE (R221) -/
  | xferDone
  /-- HBM_ROUND: the slots asked for by port and by class (R222) -/
  | hbmRound (ports classes : List Nat)
  /-- FM_SCRUB_READ (R227) -/
  | fmScrubRead (addr : BitVec 34) (ecc : Ecc)
  /-- VBLANK_START of a port; `refBad`: a reference signature read uncorrectable (R465) -/
  | vblankStart (p : Fin 8) (refBad : Bool)
  /-- LINE_START: codes clipped in the line before, a bad reference signature, a start off its position (R237, R462) -/
  | lineStart (p : Fin 8) (clip : Nat) (refBad offPos : Bool)
  /-- ROW_FETCH_DEADLINE (R235) -/
  | rowFetchDeadline (p : Fin 8) (delivered : Bool)
  /-- FRAME_DONE (R233) -/
  | frameDone (p : Fin 8)
  /-- CAD_CTRL_WRITE (R267) -/
  | cadCtrlWrite (r : Requester) (s : Fin 4) (v : Word)
  /-- APPLY_RATE (R263) -/
  | applyRate (r : Requester) (s : Fin 4) (atFrame : Bool)
  /-- ACK_SLEW (R261) -/
  | ackSlew (r : Requester) (s : Fin 4)
  /-- ACK_SNAP (R261) -/
  | ackSnap (r : Requester) (s : Fin 4)
  /-- PRESET (R247) -/
  | preset (r : Requester) (s : Fin 4)
  /-- ANCHOR_EDGE (R255) -/
  | anchorEdge (k : Fin 2)
  /-- ANCHOR_LINE_EDGE (R257) -/
  | anchorLineEdge (k : Fin 2)
  /-- REF_LOST (R259) -/
  | refLost (s : Fin 4)
  /-- PLL events: 0 to 7 the port PLLs, 8 and 9 the system PLLs 0 and 1 -/
  | pllBandSearchDone (k : Fin 10) (band : Option (Fin 64))
  /-- PLL_INTERNAL_LOCK (R276) -/
  | pllInternalLock (k : Fin 10) (tune : BitVec 16)
  /-- PLL_ALIGNMENT_EDGE (R275) -/
  | pllAlignmentEdge (k : Fin 10)
  /-- LOCK_PIN_CROSSING (R277) -/
  | lockPinCrossing (k : Fin 10) (us : Nat)
  /-- LOCK_PIN_TIMEOUT (R277) -/
  | lockPinTimeout (k : Fin 10)
  /-- PLL_INTERNAL_LOSS (R283) -/
  | pllInternalLoss (k : Fin 10)
  /-- FALLBACK_LOCK (R280) -/
  | fallbackLock (k : Fin 8)
  /-- PLL_RETRY (R283) -/
  | pllRetry (k : Fin 10)
  /-- WARM_RELOCK_TIMEOUT (R279) -/
  | warmRelockTimeout (k : Fin 10)
  /-- RETRY_MAIN (R282) -/
  | retryMain (r : Requester) (p : Fin 8)
  /-- REFERENCE_LOSS (R286) -/
  | referenceLoss
  /-- REFERENCE_RETURN (R287) -/
  | referenceReturn
  /-- CKO_WRITE (R289) -/
  | ckoWrite (r : Requester) (c : Fin 4) (div : Bool) (v : Word)
  /-- RETRAIN (R307) -/
  | retrain (r : Requester) (p : Fin 8)
  /-- TRAINING_ATTEMPT_FAIL: why, and the rate and lanes the sink states (R307 to R310) -/
  | trainingAttemptFail (p : Fin 8) (why sinkRate sinkLanes : Nat)
  /-- LINK_UP (R307) -/
  | linkUp (p : Fin 8) (us sinkRate sinkLanes : Nat)
  /-- LINK_LOSS (R310) -/
  | linkLoss (p : Fin 8)
  /-- SCDC_POLL (R309) -/
  | scdcPoll (p : Fin 8) (ask : Bool)
  /-- HPD_QUALIFIED (R314) -/
  | hpdQualified (p : Fin 8)
  /-- HPD_UNPLUG (R314) -/
  | hpdUnplug (p : Fin 8)
  /-- IRQ_HPD (R314) -/
  | irqHpd (p : Fin 8) (lost : Bool)
  /-- SB_GO (R315) -/
  | sbGo (r : Requester) (p : Fin 8)
  /-- SB_DONE (R315) -/
  | sbDone (p : Fin 8) (result : Nat) (bytes : List (BitVec 8))
  /-- TC_LOAD (R322) -/
  | tcLoad (r : Requester) (p : Fin 8)
  /-- DRAM_TRAINING_DONE (R335) -/
  | dramTrainingDone (t : TrainReport)
  /-- MAP_APPLY (R339) -/
  | mapApply (r : Requester)
  /-- WEIGHT_WRITE (R344) -/
  | weightWrite (r : Requester) (which : Fin 3) (v : Word)
  /-- DRAM_READ_ENQUEUE: a 64-byte read of a requester, for a scene where it composes (R340) -/
  | dramReadEnqueue (r : Requester) (scene : Fin 4) (addr : BitVec 40)
  /-- DRAM_WRITE_ENQUEUE (R94) -/
  | dramWriteEnqueue (r : Requester) (scene : Fin 4) (addr : BitVec 40) (bytes : List (BitVec 8))
  /-- STALLED_WRITE_RESUME (R97) -/
  | stalledWriteResume
  /-- HOLD_STALL_TIMEOUT of the stalled write with an index, by the window of an engine's use (R94) -/
  | holdStallTimeout (i : Nat) (e : Fin 64) (use : Nat)
  /-- DRAM_READ_RETURN (R350) -/
  | dramReadReturn (port : Fin 9) (ecc : Ecc)
  /-- DRAM_WRITE_RETIRE (R341) -/
  | dramWriteRetire (port : Fin 9)
  /-- DRAM_REFRESH (R347) -/
  | dramRefresh (c : Fin 8) (bank : Fin 4)
  /-- DRAM_TEMP_POLL (R347) -/
  | dramTempPoll (c : Fin 8) (temp : Nat)
  /-- RH_COUNT_HALVING (R348) -/
  | rhCountHalving
  /-- DRAM_PATROL_SCRUB (R352) -/
  | dramPatrolScrub (addr : BitVec 40) (ecc : Ecc)
  /-- MIG_START (R353) -/
  | migStart (r : Requester) (u : Fin 16) (k : Fin 4)
  /-- MIG_LINE_COPY (R354) -/
  | migLineCopy (ecc : Ecc)
  /-- MIG_DONE (R355) -/
  | migDone
  /-- SR_ENTRY (R359) -/
  | srEntry
  /-- SR_ENTERED (R359) -/
  | srEntered
  /-- SR_PREWAKE (R358) -/
  | srPrewake (s : Fin 4)
  /-- SR_EXIT (R359) -/
  | srExit
  /-- SR_EXITED (R359) -/
  | srExited
  /-- CLOCK_LOSS (R360) -/
  | clockLoss
  /-- BLT_START (R369) -/
  | bltStart (r : Requester)
  /-- BLT_ABORT (R380) -/
  | bltAbort (r : Requester)
  /-- BLT_OP_DONE: rows written whole and elements of the next row, for an operation that did not end whole (R379) -/
  | bltOpDone (full part : Nat)
  /-- BLT_DONE_FENCE (R371) -/
  | bltDoneFence
  /-- ROPE_RETRAIN (R389) -/
  | ropeRetrain (r : Requester) (p : Fin 4)
  /-- ROPE_BRINGUP_RETRY (R389) -/
  | ropeBringupRetry (p : Fin 4)
  /-- ROPE_PORT_UP (R389) -/
  | ropePortUp (p : Fin 4) (h : Hello) (delay : Nat)
  /-- HELLO_SEND (R390) -/
  | helloSend (p : Fin 4)
  /-- HELLO (R390) -/
  | hello (p : Fin 4) (h : Hello)
  /-- REPLAY: codewords corrected, an uncorrectable one, and whether this end sends again (R389) -/
  | replay (p : Fin 4) (corr : Nat) (uncorr sender : Bool)
  /-- KEEPALIVE_SEND (R414) -/
  | keepaliveSend (p : Fin 4)
  /-- PORT_DOWN (R414) -/
  | portDown (p : Fin 4) (left : Bool)
  /-- CLAIM_RECEIVED (R393) -/
  | claimReceived (p : Fin 4) (c : Claim)
  /-- ELECTION_END (R393) -/
  | electionEnd
  /-- ENUMERATE (R394) -/
  | enumerate (r : Requester)
  /-- TEAM_FORMED: what the lead's enumeration found, or what a member was given (R394) -/
  | teamFormed (x : TeamResult)
  /-- MEMBER_JOIN (R395) -/
  | memberJoin (x : TeamResult)
  /-- ORPHAN_ELECTION (R416) -/
  | orphanElection (winner : Option (Nat × Nat))
  /-- SYNC_SEND (R398) -/
  | syncSend
  /-- SYNC (R398) -/
  | sync (p : Fin 4) (time : Nat) (err : Int) (locked : Bool)
  /-- TICK (R398) -/
  | tick (p : Fin 4) (t : Tick)
  /-- LINK_DELAY_MEASURE (R398) -/
  | linkDelayMeasure (p : Fin 4) (delay : Nat)
  /-- TC_SEND (R402) -/
  | tcSend (r : Requester)
  /-- TC_REQUEST (R403) -/
  | tcRequest (q : TcReq)
  /-- TC_ARM (R404) -/
  | tcArm (commit : Nat) (q : TcReq)
  /-- TC_REPLY (R405) -/
  | tcReply (id commit reason : Nat) (cancelled : Option Bool)
  /-- TC_ACK_TIMEOUT (R404) -/
  | tcAckTimeout
  /-- TC_CANCEL (R405) -/
  | tcCancel (commit : Nat)
  /-- TC_OUTCOME (R405) -/
  | tcOutcome (o : TcOutcome)
  /-- XFER_START (R407) -/
  | xferStart (r : Requester) (c : Fin 8)
  /-- XFER_ABORT (R409) -/
  | xferAbort (r : Requester) (c : Fin 8)
  /-- XFER_SEGMENT (R408) -/
  | xferSegment (x : XSeg)
  /-- XFER_SEGMENT_TIMEOUT (R410) -/
  | xferSegmentTimeout (c : Fin 8) (id : Nat)
  /-- XFER_ACK (R409) -/
  | xferAck (c : Fin 8) (id index result : Nat)
  /-- XFER_DEST_FENCE (R409) -/
  | xferDestFence (sender : Nat) (chan : Fin 8)
  /-- RREG_GO (R411) -/
  | rregGo (r : Requester)
  /-- RREG_REQUEST of a device: a BAR0 access and its datum (R411) -/
  | rregRequest (origin : Nat) (addr : BitVec 24) (write : Bool) (v : Word)
  /-- RREG_REPLY (R411) -/
  | rregReply (result : Nat) (v : Word)
  /-- RREG_TIMEOUT (R411) -/
  | rregTimeout
  /-- CAIRN_FORWARD (R412) -/
  | cairnForward (x : CairnStep)
  /-- WAKE_SEND (R418) -/
  | wakeSend (r : Requester)
  /-- INTC_CLAIM (R433) -/
  | intcClaim (r : Requester)
  /-- INTF_CLAIM (R433) -/
  | intfClaim (r : Requester) (bar4 : Bool)
  /-- INTC_COMPLETE (R434) -/
  | intcComplete (r : Requester) (v : Word)
  /-- INTF_COMPLETE (R434) -/
  | intfComplete (r : Requester) (bar4 : Bool) (v : Word)
  /-- COALESCE_TIMEOUT (R429) -/
  | coalesceTimeout (s : Fin 1024)
  /-- GLOBAL_HOLD (R438) -/
  | globalHold (r : Requester) (v : Word)
  /-- DB_RAISE (R440) -/
  | dbRaise (r : Requester) (hi : Bool) (v : Word)
  /-- PEND_CLR (R439) -/
  | pendClr (r : Requester) (i : Fin 32) (v : Word)
  /-- SRC_CFG_WRITE (R436) -/
  | srcCfgWrite (r : Requester) (s : Fin 1024) (v : Word)
  /-- PROFILE_WRITE (R437) -/
  | profileWrite (r : Requester) (i : Fin 32) (v : Word)
  /-- MSIX_BLOCK_END: a function's MSI-X is enabled, unmasked and may write (R432) -/
  | msixBlockEnd (k : Fin 8)
  /-- WAKE_CAUSE: the causes that are true, laid out as WAKE_STAT (R441) -/
  | wakeCause (causes : BitVec 18)
  /-- LOG_TOKEN_REFILL (R449) -/
  | logTokenRefill (s : Fin 1024)
  /-- SUPPRESSED_SUMMARY (R450) -/
  | suppressedSummary (s : Fin 1024)
  /-- RPTR_WRITE (R446) -/
  | rptrWrite (r : Requester) (q : Fin 3) (v : Word)
  /-- SPILL_RPTR_WRITE (R448) -/
  | spillRptrWrite (r : Requester) (v : Word)
  /-- WIN_0_READ (R456) -/
  | win0Read (r : Requester)
  /-- SPILL_EN_WRITE (R448) -/
  | spillEnWrite (r : Requester) (v : Word)
  /-- SAT_CLEAR (R451) -/
  | satClear (r : Requester)
  /-- CHECK_REFERENCE_DONE: the check compositor's measured pace (R465) -/
  | checkReferenceDone (s : Fin 4) (pace : Nat)
  /-- STALL_WATCHDOG (R475) -/
  | stallWatchdog (s : Fin 4)
  /-- SAFETY_CORE_WATCHDOG (R477) -/
  | safetyCoreWatchdog
  /-- SUPPLY_SAMPLE: the rails above their good level, VDD_CORE in mV, and whether SM24's limits are passed (R462, R504) -/
  | supplySample (good : BitVec 11) (coreMv : BitVec 16) (bad : Bool)
  /-- CLOCK_MONITOR_WINDOW: a port's clock domain, or another, and whether it is off its ratio (R476) -/
  | clockMonitorWindow (port : Option (Fin 8)) (bad : Bool)
  /-- CADENCE_MONITOR_TIMEOUT (R476) -/
  | cadenceMonitorTimeout (s : Fin 4)
  /-- BELAY_ENTRY (R480) -/
  | belayEntry (p : Fin 8)
  /-- BELAY_CLEAR (R482) -/
  | belayClear (r : Requester) (ports : BitVec 8)
  /-- INJECT_GO: after how many µs the injection ends, and, where its mechanism then detects the fault, whether in time (R486) -/
  | injectGo (r : Requester) (us : Nat) (found : Option Bool)
  /-- SELFTEST (R487) -/
  | selftest (r : Requester)
  /-- SELFTEST_DONE (R487) -/
  | selftestDone (passed : BitVec 24)
  /-- MODE_REQ_READY (R500) -/
  | modeReqReady (r : Requester)
  /-- MODE_REQ_RUN (R500) -/
  | modeReqRun (r : Requester)
  /-- MODE_REQ_BIVOUAC (R511) -/
  | modeReqBivouac (r : Requester)
  /-- MODE_REQ_TEST (R500) -/
  | modeReqTest (r : Requester)
  /-- MODE_REQ_SHUTDOWN (R516) -/
  | modeReqShutdown (r : Requester)
  /-- BIVOUAC_ENTERED (R512) -/
  | bivouacEntered
  /-- BIVOUAC_RETURN_DONE (R514) -/
  | bivouacReturnDone
  /-- SHUTDOWN_READY; `flashOk`: the settings were written without an error (R516) -/
  | shutdownReady (flashOk : Bool)
  /-- POWER_HOLD_RELEASE (R503) -/
  | powerHoldRelease (bootsel : Fin 4) (svcen : Bool)
  /-- SUPPLY_BROWNOUT; `first`: VDDIO_18 itself was lost, and RESET_CAUSE with it (R506) -/
  | supplyBrownout (first : Bool)
  /-- PORST (R506) -/
  | porst
  /-- RESET_CMD (R506) -/
  | resetCmd (r : Requester) (v : Word)
  /-- WATCHDOG_RESET (R506) -/
  | watchdogReset
  /-- THERMAL_SAMPLE: the hottest sensor, in units of 0.25 °C, and its number (R509) -/
  | thermalSample (tj : BitVec 12) (sensor : Fin 16)
  /-- FIRMWARE_LOADED (R505) -/
  | firmwareLoaded (b : BootReport)
  /-- VP_REQ (R508) -/
  | vpReq (r : Requester) (high : Bool)
  /-- VP_SETTLED (R508) -/
  | vpSettled
  /-- VP_RAMP_TIMEOUT (R508) -/
  | vpRampTimeout
  /-- RAKIN_HELLO (R534) -/
  | rakinHello (h : RakinHdr) (bytes : List (BitVec 8))
  /-- STAGE_BEGIN; `flashOk`: erased without an error, and so below for a program -/
  | stageBegin (h : RakinHdr) (bytes : List (BitVec 8)) (flashOk : Bool)
  /-- STAGE_DATA (R537) -/
  | stageData (h : RakinHdr) (bytes : List (BitVec 8)) (flashOk : Bool)
  /-- STAGE_END (R537) -/
  | stageEnd (h : RakinHdr) (bytes : List (BitVec 8))
  /-- STAGE_VERIFY_DONE (R537) -/
  | stageVerifyDone (flashOk : Bool)
  /-- RAKIN_ACTIVATE (R538) -/
  | rakinActivate (h : RakinHdr) (bytes : List (BitVec 8))
  /-- RAKIN_RESTART_TRIAL (R545) -/
  | rakinRestartTrial (h : RakinHdr) (bytes : List (BitVec 8))
  /-- RAKIN_DISCARD (R535) -/
  | rakinDiscard (h : RakinHdr) (bytes : List (BitVec 8))
  /-- LOG_READ (R535) -/
  | logRead (h : RakinHdr) (bytes : List (BitVec 8))
  /-- SETTINGS_READ (R535) -/
  | settingsRead (h : RakinHdr) (bytes : List (BitVec 8))
  /-- SETTINGS_WRITE (R548) -/
  | settingsWrite (h : RakinHdr) (bytes : List (BitVec 8)) (flashOk : Bool)
  /-- ENTER_BASECAMP (R535) -/
  | enterBasecamp (h : RakinHdr) (bytes : List (BitVec 8))
  /-- RAKIN_RESET (R535) -/
  | rakinReset (h : RakinHdr) (bytes : List (BitVec 8))
  /-- RAKIN_STATUS (R535) -/
  | rakinStatus (h : RakinHdr) (bytes : List (BitVec 8))
  /-- LOAD_CORE (R546) -/
  | loadCore (h : RakinHdr) (bytes : List (BitVec 8))
  /-- UNKNOWN_OP (R533) -/
  | unknownOp (op : BitVec 16) (h : RakinHdr) (bytes : List (BitVec 8))
  /-- ACTIVATE (R538) -/
  | activate (r : Requester)
  /-- STANDBY_BANK_LOADED; `flashOk`: the staged bundle was read again without an error (R539) -/
  | standbyBankLoaded (flashOk : Bool)
  /-- APPROVE (R541) -/
  | approve (r : Requester)
  /-- REJECT (R543) -/
  | rejectTrial (r : Requester)
  /-- RESTART_TRIAL (R545) -/
  | restartTrial (r : Requester)
  /-- DISCARD (R552) -/
  | discard (r : Requester)
  /-- TRIAL_CTRL_WRITE (R541) -/
  | trialCtrlWrite (r : Requester) (v : Word)
  /-- SELF_CHECK_PASS (R541) -/
  | selfCheckPass
  /-- CONFIRM (R542) -/
  | confirm (r : Requester)
  /-- HEALTH_FAIL (R543) -/
  | healthFail (r : Requester)
  /-- TRIAL_EXPIRING (R552) -/
  | trialExpiring
  /-- TRIAL_WINDOW_EXPIRY (R543) -/
  | trialWindowExpiry
  /-- UNRESPONSIVE (R543) -/
  | unresponsive
  /-- FALLBACK_STATE_SAVED; `responsive`: the new image wrote its state (R544) -/
  | fallbackStateSaved (responsive : Bool)
  /-- GET_INFO (R553) -/
  | getInfo
  /-- SAVE_SETTINGS (R554) -/
  | saveSettings (flashOk : Bool)
  /-- LOAD_DEFAULTS (R553) -/
  | loadDefaults (flashOk : Bool)
  /-- SETTINGS_INFO (R553) -/
  | settingsInfo
  /-- SET_POWERON_FRAME (R553) -/
  | setPoweronFrame
  /-- STAGED_INFO (R553) -/
  | stagedInfo
  /-- FALLBACK_LOG (R553) -/
  | fallbackLog
  /-- UNKNOWN_FUNC (R553) -/
  | unknownFunc
  /-- MBX_DONE (R553) -/
  | mbxDone
  /-- DFU_DNLOAD of a block; an empty one ends the download (R550) -/
  | dfuDnload (bytes : List (BitVec 8)) (flashOk : Bool)
  /-- BASE_CAMP_COPY_DONE (R550) -/
  | baseCampCopyDone
  /-- SVC_CTRL_WRITE (R532) -/
  | svcCtrlWrite (r : Requester) (v : Word)
  /-- ATTACH (R577) -/
  | attach
  /-- DETACH (R534) -/
  | detach
  /-- PCIE_LINK_UP (R561) -/
  | pcieLinkUp (x : PcieLink)
  /-- PE_PERST (R567) -/
  | pePerst (x : HotReset)
  /-- FLR (R567) -/
  | flr (k : Fin 8)
  /-- HOST_BAR2_WRITE of a function; `ep`: received with the EP bit (R566) -/
  | hostBar2Write (k : Fin 8) (addr : BitVec 40) (bytes : List (BitVec 8)) (ep : Bool)
  /-- HOST_BAR2_READ (R566) -/
  | hostBar2Read (k : Fin 8) (addr : BitVec 40) (bytes : Nat)
  /-- QSPI_READ; `inTime`: the data was ready within 64 wait bytes (R570) -/
  | qspiRead (addr : BitVec 24) (inTime : Bool)
  /-- QSPI_WRITE (R570) -/
  | qspiWrite (addr : BitVec 24) (words : List Word)
  /-- QSPI_STATUS (R571) -/
  | qspiStatus
  /-- READ_REG (R574) -/
  | readReg (addr : BitVec 24)
  /-- WRITE_REG; `pec`: whether a PEC came, and whether it was good (R573) -/
  | writeReg (addr : BitVec 24) (v : Word) (pec : Option Bool)
  /-- SMBUS_STATUS (R573) -/
  | smbusStatus
  /-- SMBUS_TEMP (R573) -/
  | smbusTemp
  /-- ALERT_RESPONSE (R575) -/
  | alertResponse
  /-- GPIO_EVENT: a pin's filtered level (R576) -/
  | gpioEvent (n : Fin 16) (level : Bool)
  /-- DECLARATION_LOSS (R276) -/
  | declarationLoss (k : Fin 10)
  /-- THROTTLE_EPISODE_END (R349) -/
  | throttleEpisodeEnd (c : Fin 8)
  /-- CONFIGURATION_INTEGRITY_CHECK; `bad`: a difference was found -/
  | configurationIntegrityCheck (bad : Bool)
  /-- LUT_INTEGRITY_CHECK (R462) -/
  | lutIntegrityCheck (lut : LutRef) (bad : Bool)
  /-- REROUTE_TABLES (R414) -/
  | rerouteTables (x : TeamResult)
  /-- CONFIGURATION_REQUEST (R563) -/
  | configurationRequest (k : Fin 8) (x : CfgWrite)
  /-- PCIE_SPEED_CHANGE (R581) -/
  | pcieSpeedChange (x : PcieLink)
  /-- BOUNDARY_SCAN_INSTRUCTION (R579) -/
  | boundaryScanInstruction (x : ScanInstr)
deriving DecidableEq, Repr

end Sys2Proof
end

