-- ==== Sys2Proof/Decode.lean ====
section
/-! DEFINITION. The commands as words. The spec gives no row of its table of commands an encoding. -/

namespace Sys2Proof

/-- The command that a word spells by the bits of spec/opcode_table.json: no row has bits, so none. -/
def decodeTableWord (_nbits _w : Nat) : Option Instr := none

end Sys2Proof
end

