-- ==== Sys2Proof/Machine/MemBlocks.lean ====
section
/-! DEFINITION. What the external memory controller holds ("External memory controller"). -/

namespace Sys2Proof.Machine

/-- An address map (R337): the nine masks, where the column, row and rank runs start, and how many bits each part of the DRAM
location has. -/
structure AddrMap where
  masks : List Nat
  colPos : Nat
  rowPos : Nat
  rankPos : Nat
  c : Nat
  r : Nat
  k : Nat
deriving DecidableEq, Repr

/-- A DRAM location: subchannel 0 to 15, rank, bank 0 to 31 (bank group × 4 + bank), row and column line. -/
structure Loc where
  sub : Nat
  rank : Nat
  bank : Nat
  row : Nat
  col : Nat
deriving DecidableEq, Repr

/-- A request in a port queue (R341): the queues together, in global arrival order (R342). -/
structure MemReq where
  id : Nat
  port : Nat
  who : Requester
  write : Bool
  addr : Nat
  /-- the bytes a read returns; none is poison -/
  data : Option (List (BitVec 8))
  loc : Loc
deriving DecidableEq, Repr

/-- A hazard episode (R342): the pending write that started it, and when. -/
structure Hazard where
  write : Nat
  since : Nat
deriving DecidableEq, Repr

/-- A tracked row (R348): its activations, those by real-time ports among them, and the last other port. -/
structure RowTrack where
  row : Nat
  count : Nat
  rt : Nat
  last : Option Nat
deriving DecidableEq, Repr

/-- A throttled port (R349): the bank, as its key, and when the episode began. -/
structure Throttle where
  bank : Nat
  port : Nat
  since : Nat
deriving DecidableEq, Repr

/-- A rank migration (R354). -/
structure Mig where
  sub : Nat
  rank : Nat
  spare : Nat
  ptr : Nat
  poison : Nat
deriving DecidableEq, Repr

/-- The external memory controller. A bank's key is (4 × subchannel + rank) × 32 + bank. -/
structure MemCtl where
  map : Option AddrMap := none
  /-- requests in the port queues, in global arrival order -/
  queue : List MemReq := []
  nextId : Nat := 0
  hazards : List Hazard := []
  /-- tracked rows by bank key (R348) -/
  rows : Tbl (List RowTrack) := []
  /-- the open row of a bank and its last use, ns (R346) -/
  openRow : Tbl (Option (Nat × Nat)) := []
  throttles : List Throttle := []
  /-- corrected errors of the last 60 s: 4 × subchannel + rank, and when (R353) -/
  ces : List (Nat × Nat) := []
  mig : Option Mig := none
  /-- triggers that wait for the present migration: subchannel and rank (R353) -/
  migQueue : List (Nat × Nat) := []
  /-- the physical rank of a logical rank, by 4 × subchannel + logical rank; none listed is the same number -/
  ranks : Tbl Nat := []
  /-- arrival of the first request that waits for self-refresh to end -/
  srReq : Option Nat := none
  /-- when self-refresh was entered, and the time spent in it before, ns -/
  srSince : Nat := 0
  srNs : Nat := 0
deriving DecidableEq, Repr

end Sys2Proof.Machine
end

