-- ==== Sys2Proof/Machine/PortBlocks.lean ====
section
/-! DEFINITION. What the clock synthesis and the link transports hold beside their registers ("Clock synthesis", "Output ports
and link transports"). -/

namespace Sys2Proof.Machine

/-- A phase-locked loop: 0 to 7 the port PLLs, 8 and 9 the system PLLs (R269). -/
structure Pll where
  /-- when the present lock was asked for, ns (R278) -/
  reqAt : Nat := 0
  /-- since when it sources current into its lock pin, ns (R276) -/
  pinAt : Option Nat := none
  /-- the lock under way is a warm relock (R279) -/
  warm : Bool := false
  /-- a port PLL that has locked is parked when its port is disabled (R279) -/
  everLocked : Bool := false
  /-- lock was lost, or not yet reached, when holdover began (R287) -/
  lost : Bool := false
  /-- feedback ratio N in units of 2⁻³² (R271) -/
  ratio : Nat := 0
  /-- feedback ratio × output clock of the last band search, as a frequency of the stream clock in Hz (R273) -/
  searchHz : Nat := 0
deriving DecidableEq, Repr

/-- The transport of a port (R306 to R316, R322). -/
structure Xp where
  /-- the configuration in use fails a check at the present rate or raster: no active video (R311) -/
  bad : Bool := false
  /-- the raster generator places VBLANK_STARTs (R306) -/
  started : Bool := false
  /-- when training began, ns (R307) -/
  trainAt : Nat := 0
  /-- the present attempt, rate and lane code; none before the sink's capabilities are known (R308) -/
  attempt : Option (Nat × Nat) := none
  /-- the fall-back candidates still to try -/
  candidates : List (Nat × Nat) := []
  /-- a candidate has been passed over -/
  skipped : Bool := false
  /-- a clock gap of a fall-back switch stopped the video or the lanes (R312) -/
  gap : Bool := false
  /-- TC_LOAD was commanded (R322) -/
  tcLoad : Bool := false
  /-- the generator's timecode, and whether it shows the second frame of a pair -/
  tc : Word := 0
  tcSecond : Bool := false
  /-- a sample was forced in the present port frame (R305) -/
  clipSeen : Bool := false
  /-- PIX_CFG differs from the adapter in the present port frame (R301) -/
  mismatch : Bool := false
deriving DecidableEq, Repr

/-- A DSC encoder (R317, R318). -/
structure Enc where
  /-- a rate failure: it passes nothing -/
  dark : Bool := false
  /-- it has reported that it lost its port and has not been committed or served since -/
  conflictTold : Bool := false
deriving DecidableEq, Repr

end Sys2Proof.Machine
end

