-- ==== Sys2Proof/Machine/SafeBlocks.lean ====
section
/-! DEFINITION. What functional safety and Belay hold beside their registers ("Functional safety and Belay"). -/

namespace Sys2Proof.Machine

/-- A fault that is latched in FAULT_STAT (R479): its mechanism, its scope as FAULT_INFO.SCOPE codes it, its unit, and whether the
self-test alone put it there. -/
structure Latch where
  sm : Nat
  scope : Nat
  unit : Nat
  test : Bool := false
deriving DecidableEq, Repr

/-- An injection in progress (R486): when it ends, ns, after how many µs, its mechanism, unit and region, whether the fault is exempt from
reaction, and, where it is detected, whether in time. -/
structure Injection where
  due : Nat
  us : Nat
  sm : Nat
  unit : Nat
  region : Nat
  react : Bool
  found : Option Bool
deriving DecidableEq, Repr

/-- The reaction controller. -/
structure Safe where
  latched : List Latch := []
  /-- ports whose entry into Belay is still to come (R480) -/
  due : List Nat := []
  /-- ports that return to their sources at their next VBLANK_START (R482, R483) -/
  clears : List Nat := []
  /-- ports that hold a Belay of their own, by a PORT action (R483) -/
  own : List Nat := []
  /-- ports whose fault, or whose Belay frame's error, calls for the pattern (R481) -/
  pattern : List Nat := []
  /-- a DEVICE action waits for the end of a transition (R483) -/
  deviceDue : Bool := false
  injecting : Option Injection := none
  /-- the self-test runs (R487) -/
  selftest : Bool := false
  /-- device time of the latest detection -/
  faultAt : Nat := 0
  /-- scenes whose golden block failed at their latest boundary (R477) -/
  goldenBad : List Nat := []
deriving DecidableEq, Repr

/-- The signature of a block (R467): a CRC, or SUM and TEX of each channel. -/
inductive Sig where
  | exact (crc : Word)
  | tol (sum : List Int) (tex : List Int)
deriving DecidableEq, Repr

/-- A block of a region with its reference signature: the region, the block's column and row in blocks. -/
structure BlockRef where
  region : Nat
  x : Nat
  y : Nat
  sig : Sig
deriving DecidableEq, Repr

/-- The reference of a frame-store buffer (R465): the frame, whether it is complete, its blocks, and the heartbeat of each region that
carries one, with the number of the earliest frame that carries it (R470, R471). -/
structure Ref where
  frame : Nat := 0
  done : Bool := false
  /-- when it was completed, ns -/
  doneAt : Nat := 0
  blocks : List BlockRef := []
  beats : List (Nat × Nat × Nat) := []
deriving DecidableEq, Repr

/-- The heartbeat of a region: its value and the earliest frame that carried it, none before the first; the latest use and source
sequence number it saw; and the boundary from which its age grows before the first (R470). -/
structure Beat where
  value : Option (Nat × Nat) := none
  count : Nat := 0
  use : Nat := 0
  seq : Word := 0
  base : Nat := 0
deriving DecidableEq, Repr

/-- The checks of a scene (R464 to R472). -/
structure Chk where
  beats : List Beat := []
  /-- regions without a legal configuration (R495) -/
  dead : List Nat := []
  /-- regions compared in tolerance mode for want of an exact path (R466) -/
  fallback : List Nat := []
  /-- regions whose skip episode has been told (R469) -/
  skipTold : List Nat := []
  /-- the reference under way: entry, frame and boundary, and when it began -/
  making : Option (Nat × Nat × Nat × Nat) := none
  /-- signatures of the latest completed reference, for COUNTER heartbeats -/
  last : List BlockRef := []
deriving DecidableEq, Repr

/-- The checks of a port in its present port frame. -/
structure PortChk where
  /-- failing blocks of each region -/
  fails : List (Nat × Nat) := []
  /-- regions with a compared block, and with a skipped one -/
  compared : List Nat := []
  skipped : List Nat := []
  /-- consecutive port frames in which each region was skipped -/
  runs : List (Nat × Nat) := []
  /-- rows of the window that were output in FILL (R236) -/
  fillRows : List Nat := []
  /-- regions whose heartbeat fault has been raised in its present episode, and the age of each region judged (R471) -/
  stale : List Nat := []
  ages : List (Nat × Nat) := []
  /-- regions skipped in the latest port frame -/
  lastSkipped : List Nat := []
deriving DecidableEq, Repr

end Sys2Proof.Machine
end

