-- ==== Sys2Proof/Machine/State.lean ====
section
/-! DEFINITION. The state of the block: everything the spec gives the device, and the queue of waiting commands. -/

namespace Sys2Proof.Machine

/-- The device. -/
structure Dev where
  core : Core
  /-- armed pages by BAR0 slot -/
  arms : Tbl (Option Arm)
  /-- scene-group commits by scene -/
  groups : Tbl Group
  /-- the frame number or count at which each page's latest commit applied, by BAR0 slot (R46) -/
  applied : Tbl Nat
  /-- retrain counts of ports and Rope ports, operation count of BLT, refresh counts of channels, by BAR0 slot (R46) -/
  counts : Tbl Nat
  cads : Tbl Cad
  ports : Tbl Port
  /-- when the latest edge of each anchor input was counted, ns (R254) -/
  anchors : Tbl Nat
  plls : Tbl Pll
  /-- the clock outputs held off for their frequency (R289), by number -/
  ckoHeld : Tbl Bool
  xports : Tbl Xp
  encs : Tbl Enc
  scenes : Tbl Scene
  engs : Tbl Eng
  /-- tone mappers: 0 to 63 of the engines, 64 to 67 of the scenes (R146) -/
  tones : Tbl Tone
  /-- LUT builds by scene, the one in progress first (R146) -/
  builds : Tbl (List Build)
  adps : Tbl Adp
  safe : Safe
  /-- the checks of the scenes and of the ports, and the references of the frame-store buffers by allocation entry -/
  chks : Tbl Chk
  portChks : Tbl PortChk
  refs : Tbl Ref
  /-- next number for a buffer use: the model's own name for it -/
  useId : Nat
  /-- when a mode in which composition runs was entered, ns (R501) -/
  runSince : Nat
  /-- engines whose fence read of the present boundary is outstanding, by scene -/
  deciding : Tbl (Option (List Nat))
  /-- chase row flags by 16384 × scene + row (R186) -/
  rowGen : Tbl Nat
  /-- frame-memory surfaces by allocation entry (R218) -/
  bufs : Tbl Buf
  xfer : Option Xfer
  hbm : Hbm
  /-- frame-memory content by byte address (R210); an unlisted byte reads as 0 (DESIGN CHOICE) -/
  fm : List Host.Cell
  /-- 64-byte accesses of frame memory that read uncorrectable, by line number (R226) -/
  fmBad : Tbl Bool
  mc : MemCtl
  /-- DDR5 content by device address; an unlisted byte reads as 0 (DESIGN CHOICE) -/
  mem : List Host.Cell
  /-- poisoned 64-byte lines of DDR5, by line number (R350, R352) -/
  poison : Tbl Bool
  /-- writes stalled by hold windows, oldest first (R94) -/
  stalled : List Stalled
  /-- writes of BLT and RPL that were dropped, by requester and address, until their operation counts them (R379) -/
  dropped : List (Requester × Nat)
  blt : Blt
  rope : Rope
  power : Power
  fw : Fw
  board : Board
  /-- commands of a host function waiting behind its stalled write, oldest first (R96) -/
  deferred : List (Nat × Instr)
deriving DecidableEq, Repr

/-- The state of the model: the device and the commands waiting, first in, first out. -/
structure State where
  dev : Dev
  pending : List Instr
deriving DecidableEq, Repr

/-- A step that stops the machine by itself: the spec gives every command an effect or drops it, so no command raises one. -/
inductive Fault where
deriving DecidableEq, Repr

/-- Why a command is not carried out. -/
inductive Refusal where
  /-- the model gives the command no meaning yet; raised by an arm of exec alone; safe: nothing follows from it -/
  | notModelled (mnemonic : String)
deriving DecidableEq, Repr

/-- The shared part right after reset: POWER_HOLD, the time base stopped (R503, R506, R519). -/
def Core.initial : Core :=
  { time := 0, timeRuns := false, powerHold := true, regs := [], inUse := [], srcs := [], gates := [], sent := [], lastSent := none
    irqLow := false, vectors := [], ring := [], sat := [], spillQ := [], forwardQ := [], resp := [], free := 0 }

/-- The device right after reset: every table at its reset values (R506). -/
def Dev.initial : Dev :=
  { core := Core.initial, arms := [], groups := [], applied := [], counts := [], cads := [], ports := [], anchors := [], plls := []
    ckoHeld := [], xports := [], encs := [], scenes := [], engs := [], tones := [], builds := [], adps := [], safe := {}, chks := []
    portChks := [], refs := [], useId := 0, runSince := 0, deciding := [], rowGen := [], bufs := [], xfer := none, hbm := {}, fm := []
    fmBad := [], mc := {}, mem := [], poison := [], stalled := [], dropped := [], blt := {}, rope := {}, power := {}, fw := {}
    board := {}, deferred := [] }

/-- The machine right after reset: the device in POWER_HOLD, and no command waiting. -/
def State.reset : State := { dev := Dev.initial, pending := [] }

end Sys2Proof.Machine
end

