-- ==== Sys2Proof/Machine/Base.lean ====
section
/-! DEFINITION. Reading and changing the parts of the device. -/

namespace Sys2Proof.Machine

/-- Change the shared part. -/
def Dev.onCore (d : Dev) (f : Core → Core) : Dev := { d with core := f d.core }

/-- The cadence generator of a scene. -/
def Dev.cad (d : Dev) (s : Nat) : Cad := Tbl.get (fun _ => {}) d.cads s
/-- Set the cadence generator of a scene. -/
def Dev.setCad (d : Dev) (s : Nat) (x : Cad) : Dev := { d with cads := Tbl.set (fun _ => {}) d.cads s x }
/-- The scan-out and raster of a port. -/
def Dev.port (d : Dev) (p : Nat) : Port := Tbl.get (fun _ => {}) d.ports p
/-- Set the scan-out and raster of a port. -/
def Dev.setPort (d : Dev) (p : Nat) (x : Port) : Dev := { d with ports := Tbl.set (fun _ => {}) d.ports p x }
/-- A phase-locked loop. -/
def Dev.pll (d : Dev) (k : Nat) : Pll := Tbl.get (fun _ => {}) d.plls k
/-- Set a phase-locked loop. -/
def Dev.setPll (d : Dev) (k : Nat) (x : Pll) : Dev := { d with plls := Tbl.set (fun _ => {}) d.plls k x }
/-- The transport of a port. -/
def Dev.xp (d : Dev) (p : Nat) : Xp := Tbl.get (fun _ => {}) d.xports p
/-- Set the transport of a port. -/
def Dev.setXp (d : Dev) (p : Nat) (x : Xp) : Dev := { d with xports := Tbl.set (fun _ => {}) d.xports p x }
/-- A DSC encoder. -/
def Dev.enc (d : Dev) (e : Nat) : Enc := Tbl.get (fun _ => {}) d.encs e
/-- Set a DSC encoder. -/
def Dev.setEnc (d : Dev) (e : Nat) (x : Enc) : Dev := { d with encs := Tbl.set (fun _ => {}) d.encs e x }
/-- The composition of a scene. -/
def Dev.scene (d : Dev) (s : Nat) : Scene := Tbl.get (fun _ => {}) d.scenes s
/-- Set the composition of a scene. -/
def Dev.setScene (d : Dev) (s : Nat) (x : Scene) : Dev := { d with scenes := Tbl.set (fun _ => {}) d.scenes s x }
/-- A layer engine. -/
def Dev.eng (d : Dev) (e : Nat) : Eng := Tbl.get (fun _ => {}) d.engs e
/-- Set a layer engine. -/
def Dev.setEng (d : Dev) (e : Nat) (x : Eng) : Dev := { d with engs := Tbl.set (fun _ => {}) d.engs e x }
/-- A tone mapper. -/
def Dev.tone (d : Dev) (t : Nat) : Tone := Tbl.get (fun _ => {}) d.tones t
/-- Set a tone mapper. -/
def Dev.setTone (d : Dev) (t : Nat) (x : Tone) : Dev := { d with tones := Tbl.set (fun _ => {}) d.tones t x }
/-- The LUT builds of a scene. -/
def Dev.buildsOf (d : Dev) (s : Nat) : List Build := Tbl.get (fun _ => []) d.builds s
/-- Set the LUT builds of a scene. -/
def Dev.setBuilds (d : Dev) (s : Nat) (l : List Build) : Dev := { d with builds := Tbl.set (fun _ => []) d.builds s l }
/-- The adapter of a port. -/
def Dev.adp (d : Dev) (p : Nat) : Adp := Tbl.get (fun _ => {}) d.adps p
/-- Set the adapter of a port. -/
def Dev.setAdp (d : Dev) (p : Nat) (x : Adp) : Dev := { d with adps := Tbl.set (fun _ => {}) d.adps p x }
/-- The checks of a scene. -/
def Dev.chk (d : Dev) (s : Nat) : Chk := Tbl.get (fun _ => {}) d.chks s
/-- Set the checks of a scene. -/
def Dev.setChk (d : Dev) (s : Nat) (x : Chk) : Dev := { d with chks := Tbl.set (fun _ => {}) d.chks s x }
/-- The checks of a port. -/
def Dev.portChk (d : Dev) (p : Nat) : PortChk := Tbl.get (fun _ => {}) d.portChks p
/-- Set the checks of a port. -/
def Dev.setPortChk (d : Dev) (p : Nat) (x : PortChk) : Dev := { d with portChks := Tbl.set (fun _ => {}) d.portChks p x }
/-- The reference of a frame-store buffer. -/
def Dev.ref (d : Dev) (e : Nat) : Ref := Tbl.get (fun _ => {}) d.refs e
/-- Set the reference of a frame-store buffer. -/
def Dev.setRef (d : Dev) (e : Nat) (x : Ref) : Dev := { d with refs := Tbl.set (fun _ => {}) d.refs e x }
/-- Change the reaction controller. -/
def Dev.onSafe (d : Dev) (f : Safe → Safe) : Dev := { d with safe := f d.safe }
/-- Change the memory controller. -/
def Dev.onMc (d : Dev) (f : MemCtl → MemCtl) : Dev := { d with mc := f d.mc }
/-- Change the rope team. -/
def Dev.onRope (d : Dev) (f : Rope → Rope) : Dev := { d with rope := f d.rope }
/-- Change the power domain. -/
def Dev.onPower (d : Dev) (f : Power → Power) : Dev := { d with power := f d.power }
/-- Change the firmware. -/
def Dev.onFw (d : Dev) (f : Fw → Fw) : Dev := { d with fw := f d.fw }
/-- Change the board interfaces. -/
def Dev.onBoard (d : Dev) (f : Board → Board) : Dev := { d with board := f d.board }
/-- The recorded state of a frame-memory surface. -/
def Dev.buf (d : Dev) (e : Nat) : Buf := Tbl.get (fun _ => {}) d.bufs e
/-- Set the recorded state of a frame-memory surface. -/
def Dev.setBuf (d : Dev) (e : Nat) (x : Buf) : Dev := { d with bufs := Tbl.set (fun _ => {}) d.bufs e x }
/-- The arm of a page, if it is armed. -/
def Dev.armOf (d : Dev) (p : Page) (n : Nat) : Option Arm := Tbl.get (fun _ => none) d.arms (p.slot n)
/-- Set or clear the arm of a page. -/
def Dev.setArm (d : Dev) (p : Page) (n : Nat) (a : Option Arm) : Dev := { d with arms := Tbl.set (fun _ => none) d.arms (p.slot n) a }
/-- The group commit of a scene. -/
def Dev.group (d : Dev) (s : Nat) : Group := Tbl.get (fun _ => {}) d.groups s
/-- Set the group commit of a scene. -/
def Dev.setGroup (d : Dev) (s : Nat) (g : Group) : Dev := { d with groups := Tbl.set (fun _ => {}) d.groups s g }
/-- The count of a page's boundary source (R46). -/
def Dev.count (d : Dev) (p : Page) (n : Nat) : Nat := Tbl.get (fun _ => 0) d.counts (p.slot n)
/-- Advance the count of a page's boundary source. -/
def Dev.countUp (d : Dev) (p : Page) (n : Nat) : Dev := { d with counts := Tbl.modify (fun _ => 0) d.counts (p.slot n) (· + 1) }
/-- The number at which a page's latest commit applied. -/
def Dev.appliedAt (d : Dev) (p : Page) (n : Nat) : Nat := Tbl.get (fun _ => 0) d.applied (p.slot n)

/-- Device time, ns. -/
def Dev.now (d : Dev) : Nat := d.core.time
/-- The present mode (R11). -/
def Dev.mode (d : Dev) : Nat := d.core.mode
/-- A register. -/
def Dev.rd (d : Dev) (p : Page) (n off : Nat) : Word := d.core.rd p n off
/-- Set a register. -/
def Dev.wr (d : Dev) (p : Page) (n off : Nat) (v : Word) : Dev := d.onCore (·.wr p n off v)
/-- A field of a register. -/
def Dev.fld (d : Dev) (p : Page) (n off lo len : Nat) : Nat := d.core.fld p n off lo len
/-- A bit of a register. -/
def Dev.bit (d : Dev) (p : Page) (n off i : Nat) : Bool := d.core.bit p n off i
/-- Set a field of a register. -/
def Dev.setF (d : Dev) (p : Page) (n off lo len v : Nat) : Dev := d.onCore (·.setF p n off lo len v)
/-- Set a bit of a register. -/
def Dev.setB (d : Dev) (p : Page) (n off i : Nat) (b : Bool) : Dev := d.onCore (·.setB p n off i b)
/-- Set a register to a number. -/
def Dev.wrN (d : Dev) (p : Page) (n off v : Nat) : Dev := d.onCore (·.wrN p n off v)
/-- Count one more in a register, saturating. -/
def Dev.inc (d : Dev) (p : Page) (n off : Nat) : Dev := d.onCore (·.inc p n off)
/-- A value in use (R40). -/
def Dev.use (d : Dev) (p : Page) (n off : Nat) : Word := d.core.use p n off
/-- A field of a value in use. -/
def Dev.useF (d : Dev) (p : Page) (n off lo len : Nat) : Nat := d.core.useF p n off lo len
/-- A bit of a value in use. -/
def Dev.useB (d : Dev) (p : Page) (n off i : Nat) : Bool := d.core.useB p n off i
/-- An active value, as the mirror shows it. -/
def Dev.act (d : Dev) (p : Page) (n off : Nat) : Word := d.core.act p n off
/-- A field of an active value. -/
def Dev.actF (d : Dev) (p : Page) (n off lo len : Nat) : Nat := bitsOf (d.core.act p n off) lo len
/-- A page flag sets. -/
def Dev.flag (d : Dev) (p : Page) (n bit : Nat) (reason : Nat := 0) (w0 : Word := 0) (w1 : Word := 0) (w2 : Word := 0) (w3 : Word := 0) :
    Dev := d.onCore (·.flag p n bit reason w0 w1 w2 w3)
/-- An event of a source. -/
def Dev.event (d : Dev) (s code : Nat) (w0 : Word := 0) (w1 : Word := 0) (w2 : Word := 0) (w3 : Word := 0) : Dev :=
  d.onCore (·.event s code w0 w1 w2 w3)
/-- A rejected command (R57). -/
def Dev.reject (d : Dev) (r : Requester) (p : Page) (n off reason : Nat) : Dev := d.onCore (·.reject r p n off reason)
/-- Answer a read. -/
def Dev.answer (d : Dev) (ws : List Word) : Dev := d.onCore (·.answer ws)
/-- Device time passes up to an instant. -/
def Dev.advance (d : Dev) (t : Nat) : Dev := d.onCore (·.advance t)

/-! Shared: free values within bounds -/

/-- The next free value as a number. -/
def Dev.freeNat (d : Dev) : Nat := d.core.freeNow.toNat
/-- The next free value as an integer from −b to b. -/
def Dev.freeWithin (d : Dev) (b : Nat) : Int := ((d.core.freeNow.toNat % (2 * b + 1) : Nat) : Int) - b
/-- Move on to the next free value. -/
def Dev.freeStep (d : Dev) : Dev := d.onCore (·.freeNext)

/-! Shared: transitions under way (R501, R511, R512) -/

/-- A transition is in progress: MODE_STAT.BUSY. -/
def Dev.moving (d : Dev) : Bool := d.bit .pwr 0 Off.PWR_MODE_STAT 0

/-- What an entry into BIVOUAC or SHUTDOWN waits for at step 2 has ended: block operations, FMEM transfers, Rope channels and rank
migrations (R512). -/
def Dev.workDone (d : Dev) : Bool :=
  d.blt.op.isNone && d.blt.fences.isEmpty && d.xfer.isNone && d.mc.mig.isNone && d.rope.chans.all fun x => x.2.isNone

/-- Step 2 of an entry ends as soon as it can (R512). -/
def Dev.moveStep (d : Dev) : Dev :=
  match d.power.move with
  | some (.entry _) => if d.workDone then d.onPower fun x => { x with stopping := true } else d
  | _ => d

/-- A meaning that changes the device and leaves the queue. -/
def State.on (s : State) (f : Dev → Dev) : State := { s with dev := f s.dev }

end Sys2Proof.Machine
end

