-- ==== Sys2Proof/Machine/Format.lean ====
section
/-! DEFINITION. Layer formats, plane layouts and the buffer descriptor ("Layer buffers, pixel formats and buffer lifetime"). -/

namespace Sys2Proof.Machine

/-- The layer formats of R70. -/
inductive Fmt where
  | rgba8 | bgra8 | rgb10a2 | rgba16 | rgba16f | l8 | l16
  | y8_420 | y8_422 | y16_420 | y16_422 | y16_444 | y10p_420 | y10p_422
deriving DecidableEq, Repr

/-- The format a code selects; any other code is illegal (R70). -/
def Fmt.ofCode : Nat → Option Fmt
  | 0x01 => some .rgba8 | 0x02 => some .bgra8 | 0x03 => some .rgb10a2 | 0x04 => some .rgba16 | 0x05 => some .rgba16f
  | 0x08 => some .l8 | 0x09 => some .l16 | 0x10 => some .y8_420 | 0x11 => some .y8_422 | 0x12 => some .y16_420
  | 0x13 => some .y16_422 | 0x14 => some .y16_444 | 0x15 => some .y10p_420 | 0x16 => some .y10p_422
  | _ => none

/-- YCbCr formats. -/
def Fmt.ycc : Fmt → Bool
  | .y8_420 | .y8_422 | .y16_420 | .y16_422 | .y16_444 | .y10p_420 | .y10p_422 => true
  | _ => false

/-- Packed 10-bit formats, which are linear only (R77). -/
def Fmt.packed : Fmt → Bool
  | .y10p_420 | .y10p_422 => true
  | _ => false

/-- Formats with chroma at half height. -/
def Fmt.half : Fmt → Bool
  | .y8_420 | .y16_420 | .y10p_420 => true
  | _ => false

/-- Planes, the alpha plane apart (R70). -/
def Fmt.planes (f : Fmt) : Nat := if f = .y16_444 then 3 else if f.ycc then 2 else 1

/-- Width and height granules (R76). -/
def Fmt.granule : Fmt → Nat × Nat
  | .y8_420 | .y16_420 => (2, 2)
  | .y8_422 | .y16_422 => (2, 1)
  | .y10p_420 => (6, 2)
  | .y10p_422 => (6, 1)
  | _ => (1, 1)

/-- Bytes per element of a plane: packed formats hold three samples in one element (R76). -/
def Fmt.elem (f : Fmt) (plane : Nat) : Nat :=
  match f with
  | .rgba8 | .bgra8 | .rgb10a2 => 4
  | .rgba16 | .rgba16f => 8
  | .l8 => 1
  | .l16 => 2
  | .y8_420 | .y8_422 => if plane = 0 then 1 else 2
  | .y16_420 | .y16_422 => if plane = 0 then 2 else 4
  | .y16_444 => 2
  | .y10p_420 | .y10p_422 => 4

/-- Tile width and height in elements, by element size (R76). -/
def tileShape (bpe : Nat) : Nat × Nat :=
  if bpe = 8 then (32, 16) else if bpe = 4 then (32, 32) else if bpe = 2 then (64, 32) else (64, 64)

/-- Elements per row of a plane for a source width (R76): chroma planes of two-plane formats hold pairs. -/
def Fmt.rowElems (f : Fmt) (plane w : Nat) : Nat :=
  if f.packed then w / 3 else if f.ycc ∧ f ≠ .y16_444 ∧ plane = 1 then w / 2 else w

/-- Rows of a plane for a source height. -/
def Fmt.rows (f : Fmt) (plane h : Nat) : Nat := if f.half ∧ plane = 1 then h / 2 else h

/-- Bytes per element of an alpha plane: 0b01 A8, 0b10 A16 (R74). -/
def alphaElem (code : Nat) : Nat := if code = 1 then 1 else 2

/-! The descriptor, a list of the 25 words at 0x100 to 0x160 (R79) -/

/-- A descriptor word by its page offset. -/
def descW (desc : List Word) (off : Nat) : Word := desc.getD ((off - 0x100) / 4) 0

/-- A 40-bit address from its LO register's offset. -/
def descAddr (desc : List Word) (off : Nat) : Nat := (descW desc off).toNat + bitsOf (descW desc (off + 4)) 0 8 * 2 ^ 32

/-- A 64-bit value from its LO register's offset. -/
def descVal (desc : List Word) (off : Nat) : Nat := (descW desc off).toNat + (descW desc (off + 4)).toNat * 2 ^ 32

/-- The format of a descriptor. -/
def descFmt (desc : List Word) : Option Fmt := Fmt.ofCode (bitsOf (descW desc 0x100) 0 8)
/-- DEPTH. -/
def descDepth (desc : List Word) : Nat := bitsOf (descW desc 0x100) 8 2
/-- LAYOUT: tiled. -/
def descTiled (desc : List Word) : Bool := bitOf (descW desc 0x100) 10
/-- ALPHA_PLANE. -/
def descAlpha (desc : List Word) : Nat := bitsOf (descW desc 0x100) 12 2
/-- Source width. -/
def descWidth (desc : List Word) : Nat := bitsOf (descW desc 0x104) 0 15
/-- Source height. -/
def descHeight (desc : List Word) : Nat := bitsOf (descW desc 0x104) 16 15
/-- Base of a plane; plane 3 is the alpha plane. -/
def descBase (desc : List Word) (plane : Nat) : Nat := descAddr desc (0x108 + 8 * plane)
/-- Stride of a plane; plane 3 is the alpha plane (R81). -/
def descStride (desc : List Word) (plane : Nat) : Nat := bitsOf (descW desc (0x128 + 4 * plane)) 0 22
/-- HOLD_MODE (R82). -/
def descHold (desc : List Word) : Nat := bitsOf (descW desc 0x160) 4 2

/-- The planes of a descriptor, the alpha plane as plane 3. -/
def descPlanes (desc : List Word) : List Nat :=
  match descFmt desc with
  | none => []
  | some f => List.range f.planes ++ (if descAlpha desc = 1 ∨ descAlpha desc = 2 then [3] else [])

/-- Bytes per element of a plane of a descriptor. -/
def descElem (desc : List Word) (plane : Nat) : Nat :=
  if plane = 3 then alphaElem (descAlpha desc) else match descFmt desc with | none => 1 | some f => f.elem plane

/-- Elements per row and rows of a plane of a descriptor. -/
def descDims (desc : List Word) (plane : Nat) : Nat × Nat :=
  if plane = 3 then (descWidth desc, descHeight desc)
  else match descFmt desc with
    | none => (0, 0)
    | some f => (f.rowElems plane (descWidth desc), f.rows plane (descHeight desc))

/-- ⌈a / b⌉. -/
def ceilDiv (a b : Nat) : Nat := (a + b - 1) / b

/-- The extent of a plane in bytes: stride × rows, or stride × tile rows (R75). -/
def descExtent (desc : List Word) (plane : Nat) : Nat :=
  if descTiled desc then descStride desc plane * ceilDiv (descDims desc plane).2 (tileShape (descElem desc plane)).2
  else descStride desc plane * (descDims desc plane).2

/-- Address of element (x, y) of a plane (R69, R75). -/
def descElemAddr (desc : List Word) (plane x y : Nat) : Nat :=
  let bpe := descElem desc plane
  if descTiled desc then
    let t := tileShape bpe
    descBase desc plane + y / t.2 * descStride desc plane + x / t.1 * 4096 + (y % t.2 * t.1 + x % t.1) * bpe
  else descBase desc plane + y * descStride desc plane + x * bpe

/-- Orientation codes that swap the axes (R77, R112). -/
def orientSwaps (o : Nat) : Bool := o % 2 == 1

/-- The checks of one plane: alignment, stride unit and maximum, stride minimum (R75, R83). -/
def planeReason (desc : List Word) (plane : Nat) : Option Nat :=
  let st := descStride desc plane
  let bpe := descElem desc plane
  if descTiled desc then
    if descBase desc plane % 4096 ≠ 0 then some 0x04
    else if st % 4096 ≠ 0 ∨ 2 ^ 21 < st then some 0x05
    else if st < ceilDiv (descDims desc plane).1 (tileShape bpe).1 * 4096 then some 0x06 else none
  else
    if descBase desc plane % 256 ≠ 0 then some 0x04
    else if st % 256 ≠ 0 ∨ 2 ^ 20 < st then some 0x05
    else if st < (descDims desc plane).1 * bpe then some 0x06 else none

/-- The lowest of several reasons. -/
def firstReason (l : List (Option Nat)) : Option Nat := (l.filterMap id).min?

/-- The first failing reason of a descriptor, in ascending order of code (R83); `orient` is LAYER_CTRL.ORIENT. -/
def descReason (desc : List Word) (orient installed : Nat) : Option Nat :=
  match descFmt desc with
  | none => some 0x01
  | some f =>
    let w := descWidth desc
    let h := descHeight desc
    let ctl := descW desc 0x160
    let fw := descW desc 0x100
    let depthBad := if f = .y16_420 ∨ f = .y16_422 ∨ f = .y16_444 then decide (2 ≤ descDepth desc) else decide (descDepth desc ≠ 0)
    let sitingBad := f.ycc && ((decide (2 ≤ bitsOf fw 16 2) && f != .y16_444) || (decide (2 ≤ bitsOf fw 18 2) && f.half))
    let matrixBad := f.ycc && decide (4 ≤ bitsOf fw 20 3)
    let fences := (if bitOf ctl 0 then [(0x138, 8)] else []) ++ (if bitOf ctl 1 then [(0x148, 8)] else [])
      ++ (if bitOf ctl 2 then [(0x158, 64)] else [])
    if w = 0 ∨ 16384 < w ∨ h = 0 ∨ 16384 < h then some 0x02
    else if w % f.granule.1 ≠ 0 ∨ h % f.granule.2 ≠ 0 then some 0x03
    else match firstReason ((descPlanes desc).map (planeReason desc)) with
      | some r => some r
      | none =>
        if descTiled desc ∧ f.packed then some 0x07
        else if (descAlpha desc = 1 ∨ descAlpha desc = 2) ∧ !f.ycc then some 0x08
        else if depthBad ∨ descAlpha desc = 3 ∨ sitingBad ∨ matrixBad ∨ descHold desc = 3 then some 0x09
        else if fences.any fun x => decide (descAddr desc x.1 % x.2 ≠ 0) then some 0x0A
        else if ((descPlanes desc).any fun k => decide (installed < descBase desc k + descExtent desc k))
            || fences.any (fun x => decide (installed < descAddr desc x.1 + x.2)) then some 0x0B
        else if orientSwaps orient ∧ !descTiled desc then some 0x0C else none

end Sys2Proof.Machine
end

