-- ==== Sys2Proof/Machine/Crc.lean ====
section
/-! DEFINITION. The CRC-32 of R161: IEEE 802.3 polynomial, reflected, initial value and final XOR 0xFFFF_FFFF. -/

namespace Sys2Proof.Machine

/-- `n` bits of the register go through the reflected polynomial. -/
def crcShift : Nat → Word → Word
  | 0, c => c
  | n + 1, c => crcShift n (if bitOf c 0 then (c >>> 1) ^^^ 0xEDB88320 else c >>> 1)

/-- The register after one byte. -/
def crcByte (c : Word) (b : BitVec 8) : Word := crcShift 8 (c ^^^ b.zeroExtend 32)

/-- The register after a list of bytes. -/
def crcBytes (c : Word) : List (BitVec 8) → Word
  | [] => c
  | b :: r => crcBytes (crcByte c b) r

/-- CRC-32 of a list of bytes. -/
def crc32 (bs : List (BitVec 8)) : Word := crcBytes 0xFFFFFFFF bs ^^^ 0xFFFFFFFF

end Sys2Proof.Machine
end

