-- ==== Sys2Proof/Machine/F20.lean ====
section
/-! DEFINITION. The working format F20, binary16, and the blend arithmetic of R176. A value is an integer in units of 2⁻⁴³. -/

namespace Sys2Proof.Machine

/-- 1.0 in units of 2⁻⁴³. -/
def f20One : Nat := 2 ^ 43

/-- The largest magnitude (R132). -/
def f20Max : Nat := 16383 * 2 ^ 62

/-- a / b to the nearest, ties to even. -/
def roundEven (a b : Nat) : Nat :=
  let q := a / b
  let r := a % b
  if 2 * r < b then q else if b < 2 * r then q + 1 else q + q % 2

/-- The F20 magnitude nearest to a / b (R132): 14 significant bits, subnormals in whole units, saturating. -/
def f20Mag (a b : Nat) : Nat :=
  let s := (a / b).log2 - 13
  min f20Max (roundEven a (b * 2 ^ s) * 2 ^ s)

/-- a / b rounded to F20 (R132). -/
def f20 (a : Int) (b : Nat) : Int := if 0 ≤ a then (f20Mag a.natAbs b : Int) else -(f20Mag a.natAbs b : Int)

/-- The product of two F20 values, rounded. -/
def f20Mul (a b : Int) : Int := f20 (a * b) f20One

/-- The quotient of two F20 values, rounded; 0 where the divisor is not above 0. -/
def f20Div (a b : Int) : Int := if 0 < b then f20 (a * f20One) b.natAbs else 0

/-- The sum of two F20 values, rounded. -/
def f20Add (a b : Int) : Int := f20 (a + b) 1

/-- A binary16 in the same units (R102): a NaN is 0 and an infinity is the largest F20 magnitude. -/
def f16Val (v : Nat) : Int :=
  let m := v % 1024
  let e := v / 1024 % 32
  let x : Int := if e = 31 then (if m = 0 then f20Max else 0) else if e = 0 then m * 2 ^ 19 else (1024 + m) * 2 ^ (e + 18)
  if v / 32768 % 2 = 1 then -x else x

/-- The binary16 magnitude nearest to a value, ties to even (R197); beyond its range it is the largest finite one. -/
def f16Mag (a : Nat) : Nat :=
  let s := max 19 (a.log2 - 10)
  let q := roundEven a (2 ^ s)
  min 0x7BFF (if s = 19 then q else (s - 19) * 1024 + q)

/-- A value as binary16. -/
def f16Of (a : Int) : Nat := (if a < 0 then 32768 else 0) + f16Mag a.natAbs

/-- A 16-bit or smaller unorm as F20. -/
def unorm (code limit : Nat) : Int := f20 (code * f20One) limit

/-- A pixel on its way: colour, alpha, and whether a poisoned sample touched it (R129). -/
structure Px where
  r : Int
  g : Int
  b : Int
  a : Int
  bad : Bool := false
deriving DecidableEq, Repr

/-- The three channels, changed. -/
def Px.map (p : Px) (f : Int → Int) : Px := { p with r := f p.r, g := f p.g, b := f p.b }

/-- One channel of the blender (R176): mode, destination, delivered colour, alpha and global alpha. -/
def blend (mode : Nat) (c s a g : Int) : Int :=
  if mode ≤ 1 then f20Add (f20Mul g s) (f20Mul (f20Add f20One (-(f20Mul g a))) c)
  else if mode = 2 then f20Add c (f20Mul g s)
  else f20Add (f20Mul g (f20Div s a)) (f20Mul (f20Add f20One (-g)) c)

/-- A layer over a canvas pixel. -/
def Px.over (mode : Nat) (g : Int) (c s : Px) : Px :=
  { c with r := blend mode c.r s.r s.a g, g := blend mode c.g s.g s.a g, b := blend mode c.b s.b s.a g, bad := c.bad || s.bad }

end Sys2Proof.Machine
end

