-- ==== Sys2Proof/Machine/Commit.lean ====
section
/-! DEFINITION. Boundaries and their cut-offs, arming and cancelling pages, and scene-group commits
("Register pages, commits and access control"). -/

namespace Sys2Proof.Machine

/-! Scenes and ports as timing sources -/

/-- One nanosecond in the units of tick times (R246). -/
def nsUnit : Nat := 2 ^ 32

/-- Scene `s` leads an active pair (R178). -/
def Dev.pairLead (d : Dev) (s : Nat) : Bool := decide (s % 2 = 0) && d.useB .scn s Off.SCN_SCN_CTRL 1

/-- Scene `s` is the odd half of an active pair, whose timing does not run (R178). -/
def Dev.oddHalf (d : Dev) (s : Nat) : Bool := decide (s % 2 = 1) && d.pairLead (s - 1)

/-- A scene offset of the ANCH page (R265). -/
def cadOff (s off : Nat) : Nat := off + 0x40 * s

/-- The timing of a scene runs: its ticks are boundaries (R245). -/
def Dev.timingRuns (d : Dev) (s : Nat) : Bool := d.bit .anch 0 (cadOff s Off.ANCH_CAD_CTRL) 0 && !d.oddHalf s

/-- BOUNDARY.IDLE of a page of a scene: its timing is stopped, except in BIVOUAC, where commits keep waiting (R39, R513). -/
def Dev.sceneIdle (d : Dev) (s : Nat) : Bool := !d.timingRuns s && d.mode != 9

/-- The scene a port names, by its configuration in use (R228); a pair's ports follow the even scene (R250). -/
def Dev.portScene (d : Dev) (p : Nat) : Nat := d.useF .scan p Off.SCAN_SCAN_CTRL 1 2

/-- A port shows the scene it names (R228). -/
def Dev.portShows (d : Dev) (p s : Nat) : Bool :=
  decide (d.portScene p = s) && d.useB .scan p Off.SCAN_SCAN_CTRL 0 && !d.useB .scan p Off.SCAN_SCAN_CTRL 3

/-- The transport of a port is enabled, by its configuration in use. -/
def Dev.portEnabled (d : Dev) (p : Nat) : Bool := d.useB .xpt p Off.XPT_XPT_CTRL 0

/-- Raster fields in use (R248). -/
def Dev.hActive (d : Dev) (p : Nat) : Nat := d.useF .scan p Off.SCAN_H_TIMING 0 16
def Dev.hTotal (d : Dev) (p : Nat) : Nat := d.useF .scan p Off.SCAN_H_TIMING 16 16
def Dev.vActive (d : Dev) (p : Nat) : Nat := d.useF .scan p Off.SCAN_V_TIMING 0 16
def Dev.vTotal (d : Dev) (p : Nat) : Nat := d.useF .scan p Off.SCAN_V_TIMING 16 16

/-- The port is the chase reference of the scene it shows, which runs in chase mode (R185, R252). -/
def Dev.isChaseRef (d : Dev) (p : Nat) : Bool :=
  (d.scene (d.portScene p)).chaseMode && decide (d.useF .stim (d.portScene p) Off.STIM_MODE 1 3 = p)

/-- The scene of a port runs in chase mode with that port as its reference, so its raster is placed by LEAD (R185, R252). -/
def Dev.chasePlaced (d : Dev) (p : Nat) : Bool :=
  (d.scene (d.portScene p)).chaseOn && decide (d.useF .stim (d.portScene p) Off.STIM_MODE 1 3 = p)

/-- Phase offset in pixels of the raster: LINES × H_TOTAL + PIX, or the chase placement of R252. -/
def Dev.phasePix (d : Dev) (p : Nat) : Nat :=
  if d.chasePlaced p then
    (d.useF .stim (d.portScene p) Off.STIM_MODE 8 9 + d.vTotal p - (d.vTotal p - d.vActive p)) % d.vTotal p * d.hTotal p
  else d.useF .scan p Off.SCAN_PHASE 0 16 * d.hTotal p + d.useF .scan p Off.SCAN_PHASE 16 16

/-- The phase offset φ for a frame period, in the same units (R250). -/
def Dev.phase (d : Dev) (p period : Nat) : Nat := period * d.phasePix p / (d.hTotal p * d.vTotal p)

/-- The first number of a list that is at least `a`, else the last. -/
def firstFrom (a : Nat) (l : List Nat) : Nat := (l.find? fun x => decide (a ≤ x)).getD (l.getLastD a)

/-- The number of a list that is nearest to `a`. -/
def nearest (a : Nat) : List Nat → Nat
  | [] => a
  | [x] => x
  | x :: r => let y := nearest a r; if ((x : Int) - a).natAbs ≤ ((y : Int) - a).natAbs then x else y

/-- The instants that a scene's ticks and a phase in pixels give a port, ns: those of the latest tick and of the three after it. -/
def Dev.vblankTimes (d : Dev) (p s pix : Nat) : List Nat :=
  let c := d.cad s
  let φ := c.period * pix / (d.hTotal p * d.vTotal p)
  [c.last, c.next, c.next + c.period, c.next + 2 * c.period].map fun t => (t + φ) / nsUnit

/-- When the next VBLANK_START of a port falls, ns (R250): a frame period and the added blanking after the latest one, at a tick plus
φ; the first one after the port starts is the first such instant to come (R306). -/
def Dev.nextVblank (d : Dev) (p : Nat) : Nat :=
  let x := d.port p
  if x.lastV = 0 then firstFrom d.now (d.vblankTimes p (d.portScene p) (d.phasePix p))
  else nearest ((((x.lastV * nsUnit + x.framePeriod : Nat) : Int) + x.extra) / nsUnit).toNat
    ((d.vblankTimes p x.tickScene x.phasePix).filter fun t => decide (x.lastV < t))

/-- Duration of `n` lines of a port, ns. -/
def Dev.linesNs (d : Dev) (p n : Nat) : Nat := (d.cad (d.portScene p)).period * n / d.vTotal p / nsUnit

/-- When the coming boundary of a scene falls, ns. -/
def Dev.nextBoundary (d : Dev) (s : Nat) : Nat := (d.cad s).next / nsUnit

/-- Whether the FRAME cut-off of the coming boundary of a scene has passed (R41, R171). -/
def Dev.frameCutPassed (d : Dev) (s : Nat) : Bool :=
  d.timingRuns s && decide (d.nextBoundary s ≤ d.now + 1000 * (d.cad s).guard)

/-- A port is in the vertical blanking that its latest VBLANK_START began. -/
def Dev.inBlanking (d : Dev) (p : Nat) : Bool := decide ((d.now : Int) < (d.port p).lastV + d.linesNs p (d.vTotal p - d.vActive p) + (d.port p).extra / nsUnit)

/-- Whether the VBL cut-off of the coming VBLANK_START has passed (R41, R234). -/
def Dev.vblCutPassed (d : Dev) (p : Nat) : Bool := decide (d.nextVblank p ≤ d.now + d.linesNs p (d.port p).guard)

/-! Pages and their boundary sources (R39) -/

/-- The port an encoder serves (R317). -/
def Dev.served (d : Dev) (e : Nat) : Option Nat :=
  if d.bit .dsc e Off.DSC_DSC_STAT 3 then some (d.fld .dsc e Off.DSC_DSC_STAT 0 3) else none

/-- Bit `e` of ASSIGN_LO and ASSIGN_HI in a copy of the SCN page. -/
def assignBit (lo hi : Word) (e : Nat) : Bool := if e < 32 then bitOf lo e else bitOf hi (e - 32)

/-- The scene asks for the engine, by its configuration in use (R172). -/
def Dev.assigned (d : Dev) (s e : Nat) : Bool := assignBit (d.use .scn s Off.SCN_ASSIGN_LO) (d.use .scn s Off.SCN_ASSIGN_HI) e

/-- The engine waits for reassignment to a scene (R48). -/
def Dev.waitsFor (d : Dev) (e s : Nat) : Bool :=
  decide ((d.eng e).scene ≠ some s) &&
    (d.assigned s e || ((d.armOf .scn s).isSome && assignBit (d.rd .scn s Off.SCN_ASSIGN_LO) (d.rd .scn s Off.SCN_ASSIGN_HI) e))

/-- The scene whose boundary applies an engine's LENG page: the one it waits for, else its own (R39, R48). -/
def Dev.lengScene (d : Dev) (e : Nat) : Option Nat :=
  match (List.range 4).find? (d.waitsFor e) with
  | some s => some s
  | none => (d.eng e).scene

/-- A trained DRAM channel: TRAIN_STAT.RESULT says that DDR5 passed training (R335, R336). -/
def Dev.trained (d : Dev) : Bool := let r := d.fld .mcg 0 Off.MCG_TRAIN_STAT 0 3; decide ((2 ≤ r ∧ r ≤ 4) ∨ r = 6)

/-- Where a shadowed page's boundary comes from: the source number and whether it is idle (R39). -/
def Dev.source (d : Dev) (p : Page) (n : Nat) : Nat × Bool :=
  match p with
  | .leng => match d.lengScene n with
    | some s => (s, d.sceneIdle s)
    | none => (0, true)
  | .scn | .tone | .stim | .schk => (n, d.sceneIdle n)
  | .scan | .padp | .xpt | .ppll => (n, !d.portEnabled n)
  | .dsc => match d.served n with
    | some q => (q, !d.portEnabled q)
    | none => (0, true)
  | .mcc => (n, !d.trained)
  | .rpp => (n, !d.useB .rpp n Off.RPP_PORT_CTRL 0)
  | .safe | .bly => (0, (List.range 4).all d.sceneIdle)
  | _ => (0, false)

/-- BOUNDARY (R39). -/
def Dev.boundaryWord (d : Dev) (p : Page) (n : Nat) : Word :=
  let code := match p.boundary with | .imm => 0 | .frame => 1 | .vbl => 2 | .op => 3 | .link => 4 | .refresh => 5
  if p.shadowed then BitVec.ofNat 32 (code + (d.source p n).1 * 16 + (d.source p n).2.toNat * 256) else 0

/-- The present count of a page's boundary source (R42, R46). -/
def Dev.presentCount (d : Dev) (p : Page) (n : Nat) : Nat :=
  match p.boundary with
  | .frame => match p with
    | .leng => match d.lengScene n with | some s => (d.cad s).frame | none => 0
    | .safe | .bly => 0
    | _ => (d.cad n).frame
  | .vbl => match p with
    | .dsc => match d.served n with | some q => (d.port q).pframe | none => 0
    | _ => (d.port n).pframe
  | .link => match p with | .ppll => d.count .xpt n | _ => d.count p n
  | _ => d.count p n

/-! Arming one page (R41 to R45) -/

/-- Write COMMIT_STAT, keeping TAG (R45). -/
def Dev.commitStat (d : Dev) (p : Page) (n : Nat) (armed late applied cancelled targeted team : Bool) : Dev :=
  d.setF p n Off.COMMIT_STAT 0 6 (flagsNat [armed, late, applied, cancelled, targeted, team])

/-- COMMIT_LATE of the port that a DSC page serves (R234). -/
def Dev.dscLate (d : Dev) (n : Nat) : Dev :=
  match d.served n with
  | some q =>
    let s := 458 + 16 * q
    let d1 := d.onCore (·.record s 2 0 0 0 0)
    if d.bit .dsc n Off.PAGE_EVT_EN 2 then d1.onCore (·.raise s) else d1
  | none => d

/-- A commit misses its first cut-off: COMMIT_STAT.LATE and PAGE_STAT flag 2 (R41). -/
def Dev.markLate (d : Dev) (p : Page) (n : Nat) : Dev :=
  let d1 := (d.setB p n Off.COMMIT_STAT 1 true).flag p n 2
  if p = .dsc then d1.dscLate n else d1

/-- Arm a page (R44): what it waits for, whether it is late, and the group or team it is armed through. -/
def Dev.armPage (d : Dev) (p : Page) (n : Nat) (a : Arm) (late team : Bool) : Dev :=
  let targeted := match a.wait with
    | .frame _ => true
    | .group s => (d.group s).target.isSome
    | _ => false
  let d1 := (d.commitStat p n true false false false targeted team).setArm p n (some a)
  if late then d1.markLate p n else d1

/-- How an ARM for the next boundary is taken: at once when the source is idle, or waiting, and whether it is late (R41, R42). -/
inductive ArmPlan where
  | atOnce
  | wait (w : Wait) (late : Bool)
deriving DecidableEq, Repr

/-- The wait for the coming FRAME boundary of a scene (R41). -/
def Dev.framePlan (d : Dev) (s : Nat) : ArmPlan :=
  if d.frameCutPassed s then .wait (.next 1) true else .wait (.next 0) false

/-- The wait for the coming VBLANK_START of a port (R41, R234). -/
def Dev.vblPlan (d : Dev) (p : Nat) : ArmPlan :=
  if d.inBlanking p then .wait (.next 0) true else if d.vblCutPassed p then .wait (.next 1) true else .wait (.next 0) false

/-- The portions of SAFE or BLY, each with the scene that applies it (R29). -/
def Dev.portionsOf (d : Dev) (p : Page) : List Portion :=
  if p = .safe then (List.range 4).map fun s =>
    { index := s, scene := s, skip := (d.frameCutPassed s).toNat, done := d.sceneIdle s }
  else (List.range 8).map fun q =>
    { index := q, scene := d.portScene q, skip := (d.frameCutPassed (d.portScene q)).toNat, done := d.sceneIdle (d.portScene q) }

/-- How an ARM of a page is taken. -/
def Dev.armPlan (d : Dev) (p : Page) (n : Nat) : ArmPlan :=
  if (d.source p n).2 then .atOnce
  else match p with
    | .leng => d.framePlan (d.source p n).1
    | .scn | .tone | .stim | .schk => d.framePlan n
    | .scan | .padp => d.vblPlan n
    | .dsc => d.vblPlan (d.source p n).1
    | .safe | .bly => .wait (.portions (d.portionsOf p)) ((d.portionsOf p).any fun x => x.skip != 0 && !x.done)
    | _ => .wait (.next 0) false

/-- An arm for a stated frame number (R44). -/
def Dev.targetedArm (d : Dev) (a : Arm) : Bool :=
  match a.wait with
  | .frame _ => true
  | .group s => (d.group s).target.isSome
  | _ => false

/-- Disarm a page; its shadow keeps its values (R44). -/
def Dev.disarm (d : Dev) (p : Page) (n : Nat) : Dev :=
  ((d.setB p n Off.COMMIT_STAT 0 false).setB p n Off.COMMIT_STAT 3 true).setArm p n none

/-- Whether a page armed on its own has reached the cut-off of the boundary it waits for (R44, R29). -/
def Dev.cutReached (d : Dev) (p : Page) (n : Nat) (a : Arm) : Bool :=
  match a.wait with
  | .next 0 => match p with
    | .leng => d.frameCutPassed (d.source p n).1
    | .scn | .tone | .stim | .schk => d.frameCutPassed n
    | .scan | .padp => d.vblCutPassed n && !d.inBlanking n
    | .dsc => d.vblCutPassed (d.source p n).1 && !d.inBlanking (d.source p n).1
    | _ => false
  | .next _ => false
  | .frame k => match p with
    | .leng => decide (k ≤ (d.cad (d.source p n).1).frame + 1) && d.frameCutPassed (d.source p n).1
    | _ => decide (k ≤ (d.cad n).frame + 1) && d.frameCutPassed n
  | .group _ => false
  | .portions l => l.any fun x => x.done || (decide (x.skip = 0) && d.frameCutPassed x.scene)

/-! Scene groups (R49 to R53) -/

/-- The pages that a scene group can hold. -/
def groupCandidates : List (Page × Nat) :=
  (List.range 4).flatMap (fun s => [(.scn, s), (.tone, s), (.stim, s), (.schk, s)])
    ++ (List.range 64).map (fun e => (.leng, e))
    ++ (List.range 8).flatMap (fun p => [(.scan, p), (.padp, p)])
    ++ (List.range 4).map (fun e => (.dsc, e))

/-- Whether a page belongs to a scene, as a group arm judges it (R49). -/
def Dev.belongs (d : Dev) (s : Nat) (joinBit : Nat) (p : Page) (n : Nat) : Bool :=
  match p with
  | .scn | .tone | .stim | .schk => decide (n = s)
  | .leng =>
    let newly := d.bit .scn s Off.PAGE_CTRL joinBit
      && assignBit (d.rd .scn s Off.SCN_ASSIGN_LO) (d.rd .scn s Off.SCN_ASSIGN_HI) n && decide ((d.eng n).scene ≠ some s)
    d.waitsFor n s || newly || (decide ((d.eng n).scene = some s) && (List.range 4).all fun t => t == s || !d.waitsFor n t)
  | .scan | .padp => d.portShows n s
  | .dsc => match d.served n with | some q => d.portShows q s | none => false
  | _ => false

/-- The pages of the group of a scene: GROUP_JOIN for a group commit, TEAM_FOLLOW for a team commit (R49, R53). -/
def Dev.groupPages (d : Dev) (s : Nat) (joinBit : Nat) : List (Page × Nat) :=
  groupCandidates.filter fun x => d.bit x.1 x.2 Off.PAGE_CTRL joinBit && d.belongs s joinBit x.1 x.2

/-- The pages armed through the group of a scene. -/
def Dev.armedGroup (d : Dev) (s : Nat) : List (Page × Nat) :=
  groupCandidates.filter fun x => match d.armOf x.1 x.2 with
    | some a => a.group == some s
    | none => false

/-- Why a group arm for a stated frame number is refused: 0x05 TARGET_PASSED or 0x06 TARGET_FAR (R42, R52). -/
def Dev.targetReason (d : Dev) (s target : Nat) : Option Nat :=
  let f := (d.cad s).frame
  if target ≤ f ∨ (target = f + 1 ∧ d.frameCutPassed s) then some 0x05
  else if f + 65535 < target then some 0x06 else none

/-- Arm one page of a group; a page armed already for the next boundary joins the group's timing (R50, R51). -/
def Dev.armMember (d : Dev) (s : Nat) (target : Option Nat) (skip : Nat) (late team : Bool) (x : Page × Nat) : Dev :=
  let w : Wait := if x.1.boundary = .vbl then .group s else match target with | some t => .frame t | none => .next skip
  d.armPage x.1 x.2 { wait := w, group := some s } late team

/-- A group arm of one scene: a reason, or the device with its pages armed (R50 to R53), and the pages whose source is idle, which
apply at once unless the arm is for a stated frame number (R42). -/
def Dev.groupArmOne (d : Dev) (s : Nat) (target : Option Nat) (team : Bool) : Except Nat (Dev × List (Page × Nat)) :=
  let pages := d.groupPages s (if team then 1 else 0)
  if pages.any (fun x => match d.armOf x.1 x.2 with | some a => d.targetedArm a | none => false) then .error 0x07
  else match target.bind (d.targetReason s) with
    | some e => .error e
    | none =>
      let late := target.isNone && d.frameCutPassed s
      let skip := if late then 1 else 0
      let d1 := d.setGroup s { phase := .armed, target := target, skip := skip, team := team }
      let d2 := pages.foldl (fun x y => x.armMember s target skip late team y) d1
      let d3 := ((d2.setB .sys 0 Off.SYS_GROUP_STAT s true).setB .sys 0 Off.SYS_GROUP_STAT (4 + s) late).setB
        .sys 0 Off.SYS_GROUP_STAT (8 + s) false
      let idle := fun (x : Page × Nat) => if x.1.boundary = .vbl then (d.source x.1 x.2).2 else d.sceneIdle s
      .ok (d3, if target.isNone then pages.filter idle else [])

/-- A group write that names one half of an active pair without the other (R51). -/
def Dev.pairSplit (d : Dev) (scenes : Nat) : Bool :=
  [0, 2].any fun s => d.pairLead s && (scenes / 2 ^ s % 2 != scenes / 2 ^ (s + 1) % 2)

/-- Whether the group of a scene may still be cancelled: its FRAME cut-off has not been reached (R59). -/
def Dev.groupCancellable (d : Dev) (s : Nat) : Bool :=
  match (d.group s).phase with
  | .armed => match (d.group s).target with
    | some t => !(decide (t ≤ (d.cad s).frame + 1) && d.frameCutPassed s)
    | none => decide ((d.group s).skip ≠ 0) || !d.frameCutPassed s
  | _ => false

/-- Disarm every page of an armed group (R59). -/
def Dev.groupDisarm (d : Dev) (s : Nat) : Dev :=
  let d1 := (d.armedGroup s).foldl (fun x y => x.disarm y.1 y.2) d
  (d1.setGroup s {}).setB .sys 0 Off.SYS_GROUP_STAT s false

/-- CANCEL_SCN of one scene (R59). -/
def Dev.groupCancelOne (d : Dev) (r : Requester) (s : Nat) : Dev :=
  match (d.group s).phase with
  | .idle => d
  | _ => if d.groupCancellable s then d.groupDisarm s else d.reject r .sys 0 Off.SYS_GROUP_COMMIT 0x03

/-- CANCEL written to COMMIT of one page (R44, R59). -/
def Dev.commitCancel (d : Dev) (r : Requester) (p : Page) (n : Nat) : Dev :=
  match d.armOf p n with
  | none => d
  | some a => match a.group with
    | some s => if d.groupCancellable s then d.groupDisarm s else d.reject r p n Off.COMMIT 0x03
    | none => if d.cutReached p n a then d.reject r p n Off.COMMIT 0x03 else d.disarm p n

/-! Applying -/

/-- What a page reports when its commit applies at a number of its boundary's source (R45, R46, R47). -/
def Dev.applyReport (d : Dev) (p : Page) (n number : Nat) : Dev :=
  let d1 := { d.setArm p n none with applied := Tbl.set (fun _ => 0) d.applied (p.slot n) number }
  (((d1.setB p n Off.COMMIT_STAT 0 false).setB p n Off.COMMIT_STAT 2 true).setF p n Off.COMMIT_STAT 16 16 number).flag p n 1

/-- A commit applies: every shadow register is copied to the active copy together (R40). -/
def Dev.applyPage (d : Dev) (p : Page) (n number : Nat) : Dev := (d.onCore (·.copyShadow p n)).applyReport p n number

/-! Shadow and status writes -/

/-- A write of a shadow register: it changes only the shadow, and is dropped while the page is armed (R40, R43). -/
def Dev.writeShadow (d : Dev) (r : Requester) (p : Page) (n off : Nat) (v : Word) : Dev :=
  if (d.armOf p n).isSome then d.reject r p n off 0x01
  else match p.desc off with
    | none => d
    | some x => d.wr p n off (v &&& BitVec.ofNat 32 (x.mask &&& (0xFFFFFFFF - x.rom)))

/-- A write of a status register with sequence clears the flags written as 1 if the sequence matches (R54). -/
def Core.sqClear (c : Core) (p : Page) (n off : Nat) (v : Word) : Core :=
  let w := c.rd p n off
  if bitsOf w 24 8 = bitsOf v 24 8 then c.wr p n off (w &&& ~~~ (v &&& 0xFFFFFF)) else c

end Sys2Proof.Machine
end

