-- ==== Sys2Proof/Machine/Flags.lean ====
section
/-! DEFINITION. Status bits that the device computes from other state: the SMBus alert and STATUS word (R573, R575), GPIO levels (R576),
and the pages' wake conditions. The flags of PAGE_STAT and of the other status registers with sequence are set by Core.flag and cleared by
Core.sqClear. -/

namespace Sys2Proof.Machine

/-- The causes of SMB_ALERT_n (R575): a latched fault, THERM_WARN, BELAY. -/
def Dev.alertCauses (d : Dev) : Nat :=
  flagsNat [decide (d.fld .safe 0 Off.SAFE_FAULT_STAT 0 24 ≠ 0), d.bit .pwr 0 Off.PAGE_STAT 11, d.mode == 8]

/-- A cause that has gone no longer counts as answered (R575). -/
def Dev.alertSettle (d : Dev) : Dev := d.onBoard fun b => { b with acked := b.acked &&& d.alertCauses }

/-- SMB_ALERT_n is driven low (R575). -/
def Dev.alertLow (d : Dev) : Bool :=
  d.bit .pcie 0 Off.PCIE_SMB_CTRL 9 && d.alertCauses &&& (7 - d.board.acked % 8) != 0

/-- STATUS of the SMBus target (R573): the mode, a latched fault, THERM_WARN, and the PCI Express link. -/
def Dev.smbStatusWord (d : Dev) : Word :=
  BitVec.ofNat 32 (d.mode + flagsNat [decide (d.fld .safe 0 Off.SAFE_FAULT_STAT 0 24 ≠ 0), d.bit .pwr 0 Off.PAGE_STAT 11,
    d.bit .pcie 0 Off.PCIE_LINK_STAT 8] * 16)

/-- GPIO pin levels: an output drives its pin, an open-drain one only low (R576, R580). -/
def Dev.gpioIn (d : Dev) : Word :=
  let dir := d.rd .pcie 0 Off.PCIE_GPIO_DIR
  let out := d.rd .pcie 0 Off.PCIE_GPIO_OUT
  let drives := dir &&& ~~~ (d.rd .pcie 0 Off.PCIE_GPIO_OD &&& out)
  ((out &&& drives) ||| (d.rd .pcie 0 Off.PCIE_GPIO_IN &&& ~~~ drives)) &&& 0xFFFF

/-- The level causes of GPIO0 to GPIO3 that are enabled and true (R441, R453). -/
def Dev.gpioWake (d : Dev) : Nat :=
  let ctl := d.rd .intc 0 Off.INTC_WAKE_CTRL
  flagsNat ((List.range 4).map fun n =>
    bitOf ctl n && !bitOf ctl (8 + n) && bitOf d.gpioIn n == bitOf ctl (4 + n))

end Sys2Proof.Machine
end

