-- ==== Sys2Proof/Machine/Fault.lean ====
section
/-! DEFINITION. Entering a mode, faults and the reaction controller ("Functional safety and Belay", R479 to R484; R501, R502). -/

namespace Sys2Proof.Machine

/-! Modes (R11, R498, R501, R502) -/

/-- Modes in which composition runs (R498). -/
def composeModes : List Nat := [5, 6, 7, 8, 10]

/-- Modes from which a DEVICE action enters BELAY at once (R483, R502): READY, RUN, RUN_DEGRADED, TEST. -/
def belayFrom : List Nat := [4, 5, 6, 10]

/-- MODE takes a new code; the mode left is PREV, and BELAY, BIVOUAC and HANDOVER note the mode they return to. -/
def Dev.putMode (d : Dev) (m : Nat) : Dev :=
  let prev := d.mode
  let back := if m = 7 ∨ m = 8 ∨ m = 9 then prev else d.fld .pwr 0 Off.PWR_MODE 8 4
  let d1 := ((d.wrN .pwr 0 Off.PWR_MODE (m + prev * 16 + back * 256)).flag .pwr 0 8).alertSettle
  if composeModes.contains m && !composeModes.contains prev then { d1 with runSince := d1.now } else d1

/-- A mode is entered; a DEVICE action that waited for the end of a transition then enters BELAY (R483, R484). -/
def Dev.setMode (d : Dev) (m : Nat) : Dev :=
  let d1 := d.putMode m
  if d1.safe.deviceDue && belayFrom.contains m then (d1.onSafe fun x => { x with deviceDue := false }).putMode 8 else d1

/-- A bit of DEGRADE sets, and RUN becomes RUN_DEGRADED (R502, R510). -/
def Dev.degrade (d : Dev) (bit : Nat) : Dev :=
  if d.bit .pwr 0 Off.PWR_DEGRADE bit then d
  else
    let d1 := (d.setB .pwr 0 Off.PWR_DEGRADE bit true).flag .pwr 0 12
    if d1.mode = 5 then d1.setMode 6 else d1

/-- A bit of DEGRADE clears, and RUN_DEGRADED becomes RUN when it was the last (R502). -/
def Dev.undegrade (d : Dev) (bit : Nat) : Dev :=
  let d1 := d.setB .pwr 0 Off.PWR_DEGRADE bit false
  if d1.mode = 6 ∧ d1.rd .pwr 0 Off.PWR_DEGRADE = 0 then d1.setMode 5 else d1

/-! Scopes -/

/-- A port sends active video (R186, R324). -/
def Dev.sendsVideo (d : Dev) (p : Nat) : Bool := d.portEnabled p && d.bit .xpt p Off.XPT_LINK_STAT 11

/-- The ports in the scope of a fault (R479): 0 device, 1 scene, 2 port, 3 region of a port. -/
def Dev.scopePorts (d : Dev) (scope unit : Nat) : List Nat :=
  if scope = 0 then List.range 8 else if scope = 1 then (List.range 8).filter fun p => d.portShows p unit else [unit]

/-- A port is in Belay. -/
def Dev.inBelay (d : Dev) (p : Nat) : Bool := d.bit .safe 0 Off.SAFE_BELAY_STAT p

/-- Mechanisms whose fault makes a port use its pattern: SM03, SM08, SM10, SM12 and SM20 (R481). -/
def patternFault (sm : Nat) : Bool := sm == 3 || sm == 8 || sm == 10 || sm == 12 || sm == 20

/-- Put a port into Belay: its bit sets and BELAY_ENTERED is raised (R480, R496). -/
def Dev.belayEnter (d : Dev) (p : Nat) : Dev :=
  let d1 := d.onSafe fun x => { x with due := x.due.filter (· ≠ p), clears := x.clears.filter (· ≠ p) }
  if d1.inBelay p then d1 else (d1.setB .safe 0 Off.SAFE_BELAY_STAT p true).event (455 + 16 * p) 0xFF

/-- The reaction puts a port into Belay: at once where no active video is sent, else at BELAY_ENTRY (R479, R480). A clear that was
accepted before is overtaken (R484). -/
def Dev.belayPort (d : Dev) (p : Nat) : Dev :=
  let d1 := d.onSafe fun x => { x with clears := x.clears.filter (· ≠ p) }
  if d1.inBelay p then d1
  else if d1.sendsVideo p then d1.onSafe fun x => { x with due := if x.due.contains p then x.due else x.due ++ [p] }
  else d1.belayEnter p

/-- Ports whose content must be the pattern from now on. -/
def Dev.usePattern (d : Dev) (ps : List Nat) : Dev :=
  d.onSafe fun x => { x with pattern := x.pattern ++ ps.filter fun p => !x.pattern.contains p }

/-- The entry into BIVOUAC is abandoned: scenes have boundaries again, and the ports that had ended start their links again (R515). -/
def Dev.abandonEntry (d : Dev) : Dev :=
  (d.wrN .pwr 0 Off.PWR_MODE_STAT 0).onPower fun x =>
    { x with move := none, stopping := false, stopped := [], parked := [], restart := x.parked, wakeDue := false }

/-- The action of a mechanism (R479, R483, R515). -/
def Dev.react (d : Dev) (sm scope unit : Nat) : Dev :=
  let action := d.fld .safe 0 (Off.SAFE_REACT + 4 * (sm - 1)) 0 2
  let ports := d.scopePorts scope unit
  let d1 := if patternFault sm then d.usePattern ports else d
  if action = 1 then
    (ports.foldl Dev.belayPort d1).onSafe fun x => { x with own := x.own ++ ports.filter fun p => !x.own.contains p }
  else if action = 2 then
    let d2 := ((List.range 8).foldl Dev.belayPort d1).setB .safe 0 Off.SAFE_BELAY_STAT 16 true
    let d3 := if d.bit .safe 0 Off.SAFE_BELAY_STAT 16 then d2 else d2.flag .safe 0 9
    if d3.mode = 8 then d3
    else if belayFrom.contains d3.mode && !d3.moving then d3.putMode 8
    else if d3.power.move = some (.entry false) then d3.abandonEntry.putMode 8
    else d3.onSafe fun x => { x with deviceDue := true }
  else d1

/-- A fault of a mechanism (R479): FAULT_STAT, FAULT_INFO and FAULT_TIME, the safety record and its sources, then the action unless
it was injected without one (R486). -/
def Dev.fault (d : Dev) (sm scope unit region : Nat) (react : Bool := true) (test : Bool := false) : Dev :=
  let stat := d.rd .safe 0 Off.SAFE_FAULT_STAT
  let count := if bitsOf stat 0 24 = 0 then 1 else min 255 (d.fld .safe 0 Off.SAFE_FAULT_INFO 16 8 + 1)
  let d1 := (d.wr .safe 0 Off.SAFE_FAULT_STAT (sqSet stat (2 ^ (sm - 1)))).wrN .safe 0 Off.SAFE_FAULT_INFO
    (sm + scope * 32 + unit * 256 + region * 4096 + count * 65536)
  let d2 := d1.onSafe fun x => { x with faultAt := d.now
                                        latched := x.latched ++ [{ sm := sm, scope := scope, unit := unit, test := test }] }
  let d3 := (d2.event (63 + sm) 0xFF).flag .safe 0 8
  let d4 := if scope = 2 ∨ scope = 3 then
      (if sm = 1 ∨ sm = 2 ∨ sm = 4 then d3.event (462 + 16 * unit) 0xFF
       else if sm = 3 ∨ sm = 5 ∨ sm = 6 ∨ sm = 12 ∨ sm = 17 then d3.event (463 + 16 * unit) 0xFF else d3)
    else d3
  if react then d4.react sm scope unit else d4

/-- The fault bits follow FAULT_STAT: a fault whose bit was cleared is no longer latched (R482). -/
def Dev.faultsCleared (d : Dev) : Dev :=
  d.onSafe fun x => { x with latched := x.latched.filter fun f => d.bit .safe 0 Off.SAFE_FAULT_STAT (f.sm - 1) }

/-- A latched fault's scope includes a port (R482). -/
def Dev.faultHolds (d : Dev) (p : Nat) : Bool := d.safe.latched.any fun f => (d.scopePorts f.scope f.unit).contains p

/-- BELAY_ENTRY: the first line whose fetch deadline falls at least 2 µs after the decision (R480). -/
def Dev.belayArrives (d : Dev) (p : Nat) : Dev := if d.safe.due.contains p then d.belayEnter p else d

/-- A rejection on the SAFE page (R495). -/
def Dev.safeReject (d : Dev) (r : Requester) (off reason : Nat) : Dev :=
  (d.wrN .safe 0 Off.SAFE_SAFE_REJECT reason).reject r .safe 0 off reason

/-- A write of BELAY_CLEAR: each port named returns at its next VBLANK_START, unless a fault of its scope is latched or the device is in
BELAY (R482). A port that places no VBLANK_START returns at once. -/
def Dev.belayClear (d : Dev) (r : Requester) (ports : Nat) : Dev :=
  let l := bitsSet ports 8
  if l.isEmpty then d
  else if d.mode = 8 ∨ l.any d.faultHolds then d.safeReject r Off.SAFE_BELAY_CLEAR 0x39
  else d.onSafe fun x => { x with clears := x.clears ++ l.filter fun p => d.inBelay p && !x.clears.contains p
                                  due := x.due.filter fun p => !l.contains p }

/-- A port returns to its source (R482, R483). -/
def Dev.belayLeave (d : Dev) (p : Nat) : Dev :=
  (d.setB .safe 0 Off.SAFE_BELAY_STAT p false).onSafe fun x =>
    { x with clears := x.clears.filter (· ≠ p), own := x.own.filter (· ≠ p), pattern := x.pattern.filter (· ≠ p) }

/-- BELAY is left: every port returns at its next VBLANK_START but those that hold their own (R483). -/
def Dev.belayModeLeft (d : Dev) : Dev :=
  (d.setB .safe 0 Off.SAFE_BELAY_STAT 16 false).onSafe fun x =>
    { x with clears := (List.range 8).filter fun p => x.clears.contains p || (d.inBelay p && !x.own.contains p)
             due := x.due.filter fun p => x.own.contains p }

/-! Indications that cover a timing monitor (R476) -/

/-- The cadence of a scene is in holdover, slewing, snapping or a ramp. -/
def Dev.cadenceCovered (d : Dev) (s : Nat) : Bool :=
  let w := d.rd .anch 0 (cadOff s Off.ANCH_CAD_STAT)
  (decide (3 ≤ bitsOf w 0 3) && decide (bitsOf w 0 3 ≤ 6)) || bitOf w 3

/-- A port's relock, realignment or cadence is indicated. -/
def Dev.timingCovered (d : Dev) (p : Nat) : Bool :=
  decide (d.fld .anch 0 (Off.ANCH_PORT_TSTAT + 4 * p) 1 2 ≠ 0) || d.cadenceCovered (d.portScene p)

/-- The supervision of the PLLs (R462, R476): SM13 of an enabled port's PLL, SM14 of a system PLL. -/
def Dev.pllFault (d : Dev) (k : Nat) : Dev :=
  if 8 ≤ k then d.fault 14 0 0 0 else if d.portEnabled k && !d.timingCovered k then d.fault 13 2 k 0 else d

/-- LINK_DOWN or TRAIN_FAIL of a port, and SM19 where it is enabled (R462). -/
def Dev.linkFault (d : Dev) (p bit : Nat) (reason : Nat := 0) : Dev :=
  let d1 := d.flag .xpt p bit reason
  if d1.portEnabled p then d1.fault 19 2 p 0 else d1

end Sys2Proof.Machine
end

