-- ==== Sys2Proof/Machine/Pll.lean ====
section
/-! DEFINITION. The ten phase-locked loops and the clock outputs ("Clock synthesis"). -/

namespace Sys2Proof.Machine

/-- a / b to the nearest, halves up. -/
def roundDiv (a b : Nat) : Nat := (2 * a + b) / (2 * b)

/-! Registers of a PLL -/

/-- The page of a PLL (R269). -/
def pllPage (k : Nat) : Page := if k < 8 then .ppll else .spll
/-- Its instance. -/
def pllInst (k : Nat) : Nat := if k < 8 then k else k - 8
/-- PLL_STAT, BAND, LOCK_US and PIN_RISE. -/
def pllStatOff (k : Nat) : Nat := if k < 8 then Off.PPLL_PLL_STAT else Off.SPLL_PLL_STAT
def pllBandOff (k : Nat) : Nat := if k < 8 then Off.PPLL_BAND else Off.SPLL_BAND
def pllLockOff (k : Nat) : Nat := if k < 8 then Off.PPLL_LOCK_US else Off.SPLL_LOCK_US
def pllRiseOff (k : Nat) : Nat := if k < 8 then Off.PPLL_PIN_RISE else Off.SPLL_PIN_RISE

/-- A bit of PLL_STAT: 4 PATH, 5 INT_LOCK, 6 DECLARED, 7 PIN_FAULT (R291). -/
def Dev.pllBit (d : Dev) (k i : Nat) : Bool := d.bit (pllPage k) (pllInst k) (pllStatOff k) i
def Dev.setPllBit (d : Dev) (k i : Nat) (b : Bool) : Dev := d.setB (pllPage k) (pllInst k) (pllStatOff k) i b
/-- STATE (R291): 0 OFF, 1 SEARCH, 2 ACQUIRE, 3 LOCKED, 4 HOLDOVER, 5 PARKED, 6 RETRY_WAIT, 7 SWITCHING. -/
def Dev.pllState (d : Dev) (k : Nat) : Nat := d.fld (pllPage k) (pllInst k) (pllStatOff k) 0 4
def Dev.setPllState (d : Dev) (k v : Nat) : Dev := d.setF (pllPage k) (pllInst k) (pllStatOff k) 0 4 v
/-- A flag of a PLL's page sets. -/
def Dev.pllFlag (d : Dev) (k bit : Nat) (reason : Nat := 0) : Dev := d.flag (pllPage k) (pllInst k) bit reason

/-- The 25 MHz reference is present (R293). -/
def Dev.refOk (d : Dev) : Bool := d.bit .spll 1 Off.SPLL_REF_STAT 0

/-! Frequencies of port PLLs (R271, R272, R280) -/

/-- The active rate of a scene, numerator and denominator (R265). -/
def Dev.activeNum (d : Dev) (s : Nat) : Nat := d.fld .anch 0 (cadOff s Off.ANCH_ACTIVE_NUM) 0 20
def Dev.activeDen (d : Dev) (s : Nat) : Nat := d.fld .anch 0 (cadOff s Off.ANCH_ACTIVE_DEN) 0 16

/-- The scene whose timing a port follows: a paired scene's ports follow the even scene (R250). -/
def Dev.timingScene (d : Dev) (p : Nat) : Nat := if d.oddHalf (d.portScene p) then d.portScene p - 1 else d.portScene p

/-- A port follows a scene: its transport is enabled and it names the scene (R250). -/
def Dev.follows (d : Dev) (p s : Nat) : Bool := d.portEnabled p && decide (d.timingScene p = s)

/-- Pixels of a port's raster, blanking included. -/
def Dev.rasterPix (d : Dev) (p : Nat) : Nat := d.hTotal p * d.vTotal p

/-- The stream clock of a raster at a rate, Hz (R271). -/
def streamHz (pix num den : Nat) : Nat := roundDiv (pix * num) (4 * den)

/-- D: 7,200 MHz over the stream clock, rounded, from 4 to 1,536 (R271). -/
def outDivider (pix num den : Nat) : Nat := max 4 (min 1536 (roundDiv (28800000000 * den) (pix * num)))

/-- N at the active rate, in units of 2⁻³² (R271). -/
def ratioAtRate (pix num den div : Nat) : Nat := roundDiv (pix * num * div * 2 ^ 32) (den * 10 ^ 8)

/-- N at a tick period in units of 2⁻³² ns, in units of 2⁻³² (R272). -/
def ratioAtPeriod (pix period div : Nat) : Nat := roundDiv (pix * 2 ^ 64 * 10 * div) period

/-- Show a ratio and divider: FREQ_INT, FREQ_FRAC and STREAM_HZ (R290). -/
def Dev.showFreq (d : Dev) (p ratio div : Nat) : Dev :=
  (((d.setPll p { d.pll p with ratio := ratio }).wrN .ppll p Off.PPLL_FREQ_INT (ratio / 2 ^ 32 % 1024 + div % 2048 * 65536)).wrN
    .ppll p Off.PPLL_FREQ_FRAC (ratio % 2 ^ 32)).wrN .ppll p Off.PPLL_STREAM_HZ (roundDiv (ratio * 25000000) (2 ^ 32 * div))

/-- D in use. -/
def Dev.pllDiv (d : Dev) (p : Nat) : Nat := d.fld .ppll p Off.PPLL_FREQ_INT 16 11

/-- The better of two fall-back pairs for a ratio, the first one when equal (R280). -/
def betterPair (ratio : Nat) (a b : Nat × Nat) : Nat × Nat :=
  let err := fun (x : Nat × Nat) => ((x.1 * 2 ^ 32 : Nat) - (ratio * x.2 : Nat) : Int).natAbs
  if err b * a.2 < err a * b.2 then b else a

/-- N_FB and M_FB nearest a ratio, the smaller M_FB among equals (R280). -/
def fallbackPair (ratio : Nat) : Nat × Nat :=
  (List.range 1023).foldl (fun a i => betterPair ratio a (roundDiv (ratio * (i + 1)) (2 ^ 32), i + 1)) (roundDiv ratio (2 ^ 32), 1)

/-- Take a fall-back pair (R280, R290). -/
def Dev.showPair (d : Dev) (p ratio : Nat) : Dev :=
  let x := fallbackPair ratio
  (d.wrN .ppll p Off.PPLL_FB_RATIO (x.1 % 2 ^ 20 + x.2 * 2 ^ 20)).showFreq p (x.1 * 2 ^ 32 / x.2) (d.pllDiv p)

/-! Clock outputs (R289) -/

/-- Frequency of a CKO source code in Hz; none for a pulse source. -/
def Dev.ckoSource (d : Dev) (code : Nat) : Option Nat :=
  if code < 8 then some (if d.pllState code = 3 ∨ d.pllState code = 4 then (d.rd .ppll code Off.PPLL_STREAM_HZ).toNat else 0)
  else if code = 0x09 then some 1000000000
  else if code = 0x0A then some 400000000
  else if code = 0x0B then some 25000000
  else none

/-- A legal SOURCE code. -/
def ckoLegal (code : Nat) : Bool := decide (code < 8) || decide (9 ≤ code ∧ code ≤ 11) || decide (0x10 ≤ code ∧ code ≤ 0x1B)

/-- The maximum output of a FORMAT, Hz. -/
def ckoMax (f : Nat) : Nat := if f = 0 then 800000000 else if f = 1 then 400000000 else if f = 2 then 250000000 else 125000000

/-- Whether a divided output is above its format's maximum. -/
def Dev.ckoTooFast (d : Dev) (ctrl div : Word) : Bool :=
  bitOf ctrl 0 && match d.ckoSource (bitsOf ctrl 8 5) with
    | some f => decide (ckoMax (bitsOf ctrl 1 3) * bitsOf div 0 16 < f)
    | none => false

/-- CKO number `c` is output j of SPLL instance i. -/
def Dev.ckoCtrl (d : Dev) (c : Nat) : Word := d.rd .spll (c / 2) (Off.SPLL_CKO_CTRL + 8 * (c % 2))
def Dev.ckoDiv (d : Dev) (c : Nat) : Word := d.rd .spll (c / 2) (Off.SPLL_CKO_DIV + 8 * (c % 2))
def Dev.ckoIsHeld (d : Dev) (c : Nat) : Bool := Tbl.get (fun _ => false) d.ckoHeld c

/-- CKO_HZ: the present output frequency, 0 when off, held or pulsed (R293); every CKO is off in BIVOUAC. -/
def Dev.ckoHz (d : Dev) (c : Nat) : Nat :=
  if !bitOf (d.ckoCtrl c) 0 || d.ckoIsHeld c || d.mode == 9 then 0
  else match d.ckoSource (bitsOf (d.ckoCtrl c) 8 5) with
    | some f => f / bitsOf (d.ckoDiv c) 0 16
    | none => 0

/-- A clock output is held off when its frequency passes its format's maximum, and resumes when it is legal again (R289). -/
def Dev.ckoWatch (d : Dev) (c : Nat) : Dev :=
  let fast := d.ckoTooFast (d.ckoCtrl c) (d.ckoDiv c)
  let d1 := { d with ckoHeld := Tbl.set (fun _ => false) d.ckoHeld c fast }
  if fast && !d.ckoIsHeld c then d1.flag .spll (c / 2) 9 else d1

/-- Every clock output is looked at after a change of frequency. -/
def Dev.ckoAll (d : Dev) : Dev := [0, 1, 2, 3].foldl Dev.ckoWatch d

/-- The reason that rejects a clock output's configuration (R292). -/
def Dev.ckoReason (d : Dev) (ctrl div : Word) : Option Nat :=
  if !ckoLegal (bitsOf ctrl 8 5) || decide (4 ≤ bitsOf ctrl 1 3) || decide (bitsOf div 0 16 = 0) then some 0x93
  else if d.ckoTooFast ctrl div then some 0x94 else none

/-- PLL_CONFIG by a rejected command: its record carries no flag bit of its own (R294). -/
def Dev.pllCommandReject (d : Dev) (r : Requester) (p : Page) (n off rejOff reason : Nat) : Dev :=
  ((d.wrN p n rejOff reason).reject r p n off reason).event 639 (256 * reason)

/-- A write of CKO_CTRL (`div` false) or CKO_DIV of an output (R289, R292). -/
def Dev.ckoWrite (d : Dev) (r : Requester) (c : Nat) (div : Bool) (v : Word) : Dev :=
  let off := (if div then Off.SPLL_CKO_DIV else Off.SPLL_CKO_CTRL) + 8 * (c % 2)
  let new := v &&& (if div then 0xFFFF else 0x1F1F)
  match d.ckoReason (if div then d.ckoCtrl c else new) (if div then new else d.ckoDiv c) with
  | some e => d.pllCommandReject r .spll (c / 2) off Off.SPLL_SPLL_REJECT e
  | none => (d.wr .spll (c / 2) off new).ckoWatch c

/-! Locks (R274 to R279) -/

/-- Stop the pin current (R276); the declaration falls later. -/
def Dev.pinOff (d : Dev) (k : Nat) : Dev := d.setPll k { d.pll k with pinAt := none }

/-- The frequency a lock takes: of a port PLL by its raster and its scene's rate, of system PLL 0 by the DDR5 data rate in MT/s,
of system PLL 1 fixed (R269, R271). -/
def Dev.takeFreq (d : Dev) (k : Nat) : Dev :=
  if k < 8 then
    let s := d.timingScene k
    let pix := d.rasterPix k
    let div := outDivider pix (d.activeNum s) (d.activeDen s)
    (d.showFreq k (ratioAtRate pix (d.activeNum s) (d.activeDen s) div) div).setPll k
      { (d.showFreq k (ratioAtRate pix (d.activeNum s) (d.activeDen s) div) div).pll k with
        searchHz := streamHz pix (d.activeNum s) (d.activeDen s) }
  else if k = 9 then d.wrN .spll 1 Off.SPLL_FREQ (320 + 8000 * 65536)
  else d

/-- A cold lock starts on the main path: its loop opens, TUNE is at mid-scale and the band search begins (R274, R278). -/
def Dev.coldLock (d : Dev) (k : Nat) : Dev :=
  let d1 := ((d.setPllState k 1).setPllBit k 4 false).setPllBit k 5 false
  let d2 := d1.setPll k { d1.pll k with reqAt := d.now, pinAt := none, warm := false, lost := false }
  ((d2.setF (pllPage k) (pllInst k) (pllBandOff k) 16 16 32768).takeFreq k).ckoAll

/-- PLL_BAND_SEARCH_DONE: a band, or BAND_FAIL and a retry (R274). -/
def Dev.bandSearchDone (d : Dev) (k : Nat) (band : Option (Fin 64)) : Dev :=
  if d.pllState k ≠ 1 then d
  else match band with
    | some b => (d.setF (pllPage k) (pllInst k) (pllBandOff k) 0 6 b.val).setPllState k 2
    | none => (d.setPllState k 6).pllFlag k 10

/-- PLL_INTERNAL_LOCK: the internal detector reports lock, TUNE as the loop found it (R276). -/
def Dev.internalLock (d : Dev) (k : Nat) (tune : BitVec 16) : Dev :=
  if d.pllState k ≠ 2 then d
  else (d.setPllBit k 5 true).setF (pllPage k) (pllInst k) (pllBandOff k) 16 16 tune.toNat

/-- A PLL is parked: it keeps its band, ratio and TUNE, and its pin current (R279). -/
def Dev.park (d : Dev) (k : Nat) : Dev :=
  if d.pllState k = 0 then d
  else if d.pllBit k 5 || d.pllState k = 5 then ((d.setPllState k 5).setPllBit k 5 false).ckoAll
  else ((d.setPllState k 0).pinOff k).ckoAll

/-- A parked PLL starts a warm relock (R279). -/
def Dev.unpark (d : Dev) (k : Nat) : Dev :=
  if d.pllState k ≠ 5 then d
  else (d.setPllState k 2).setPll k { d.pll k with reqAt := d.now, warm := true }

/-- WARM_RELOCK_TIMEOUT: no internal lock 20 µs after unparking (R279). -/
def Dev.warmTimeout (d : Dev) (k : Nat) : Dev :=
  if (d.pll k).warm ∧ d.pllState k = 2 ∧ !d.pllBit k 5 then (d.advance ((d.pll k).reqAt + 20000)).coldLock k else d

/-- The alignment edge: the output is released, STATE reads LOCKED, and the pin current starts (R275, R278). -/
def Dev.aligned (d : Dev) (k : Nat) : Dev :=
  let x := d.pll k
  let d1 := (d.setPllState k 3).setPll k { x with pinAt := some (x.pinAt.getD d.now), warm := false, everLocked := true, lost := false }
  d1.ckoAll

/-- Lock is declared (R276, R277): LOCK_US and, for system PLL 1, the start of the time base from 0 (R278). -/
def Dev.declare (d : Dev) (k : Nat) : Dev :=
  let d1 := (d.setPllBit k 6 true).wrN (pllPage k) (pllInst k) (pllLockOff k) ((d.now - (d.pll k).reqAt) / 1000)
  if k = 9 ∧ !d1.core.timeRuns then d1.onCore fun c => { c with timeRuns := true, time := 0 } else d1

/-- PIN_FAULT of a PLL; on a port PLL it is a fault of SM13 (R277, R462). -/
def Dev.pinFault (d : Dev) (k : Nat) : Dev :=
  let d1 := d.pllFlag k 11
  if k < 8 then d1.pllFault k else d1

/-- LOCK_PIN_CROSSING: the comparator rises `us` µs after the current started (R277). -/
def Dev.pinCrossing (d : Dev) (k us : Nat) : Dev :=
  match (d.pll k).pinAt with
  | none => d
  | some t =>
    if d.pllBit k 6 then d
    else
      let d1 := ((d.advance (t + 1000 * us)).wrN (pllPage k) (pllInst k) (pllRiseOff k) (min us 0xFFFE))
      let d2 := if us * 10 < 9000 then (d1.setPllBit k 7 true).pinFault k else d1.setPllBit k 7 false
      d2.declare k

/-- LOCK_PIN_TIMEOUT: no crossing 3.0 ms after the current started (R277). -/
def Dev.pinTimeout (d : Dev) (k : Nat) : Dev :=
  match (d.pll k).pinAt with
  | none => d
  | some t =>
    if d.pllBit k 6 || !d.pllBit k 5 then d
    else
      let d1 := (d.advance (t + 3000000)).wrN (pllPage k) (pllInst k) (pllRiseOff k) 0xFFFF
      ((d1.setPllBit k 7 true).pinFault k).declare k

/-! Losing lock (R280 to R283) -/

/-- A PLL that cannot fall back stops its output and its pin current, and waits to retry (R283). -/
def Dev.lockLost (d : Dev) (k : Nat) : Dev :=
  (((((d.setPllBit k 5 false).setPllState k 6).pinOff k).pllFlag k 8).pllFault k).ckoAll

/-- A port PLL switches to its fall-back path (R280). -/
def Dev.startSwitch (d : Dev) (k : Nat) : Dev := ((((d.setPllBit k 5 false).setPllState k 7).pinOff k).showPair k (d.pll k).ratio).ckoAll

/-- Whether a port PLL may fall back (R280). -/
def Dev.mayFallBack (d : Dev) (k : Nat) : Bool := decide (k < 8) && d.useB .ppll k Off.PPLL_PLL_CTRL 2 && !d.pllBit k 4

/-- What PLL_INTERNAL_LOSS does to the PLL itself. -/
def Dev.internalLoss (d : Dev) (k : Nat) : Dev :=
  if d.pllState k = 3 ∨ d.pllState k = 2 then (if d.mayFallBack k then d.startSwitch k else d.lockLost k)
  else if d.pllState k = 7 then d.lockLost k
  else if d.pllState k = 4 ∧ d.pllBit k 5 then
    ((((d.setPllBit k 5 false).pinOff k).setPll k { (d.pinOff k).pll k with lost := true }).pllFlag k 8).pllFault k
  else d

/-- What FALLBACK_LOCK does to the PLL itself: the clock resumes on the fall-back path (R280). -/
def Dev.fallbackLock (d : Dev) (k : Nat) : Dev :=
  if d.pllState k ≠ 7 then d
  else
    let d1 := ((d.setPllBit k 4 true).setPllBit k 5 true).aligned k
    ((d1.inc .ppll k Off.PPLL_FB_COUNT).wrN .ppll k Off.PPLL_SLIP_COUNT 0).pllFlag k 9

/-- PLL_RETRY: a PLL that waits takes a cold lock (R283). -/
def Dev.pllRetry (d : Dev) (k : Nat) : Dev :=
  if d.pllState k = 6 ∧ (8 ≤ k ∨ d.portEnabled k) then d.coldLock k else d

/-- DECLARATION_LOSS: the pin falls below the comparator's threshold after its current stopped (R276). -/
def Dev.declarationLoss (d : Dev) (k : Nat) : Dev :=
  if (d.pll k).pinAt.isSome || !d.pllBit k 6 then d
  else
    let d1 := d.setPllBit k 6 false
    if k < 8 then d1.pllFault k else d1

/-! Reference loss (R286, R287) -/

/-- One PLL enters holdover. -/
def Dev.holdover (d : Dev) (k : Nat) : Dev :=
  if d.pllState k = 0 ∨ d.pllState k = 4 ∨ d.pllState k = 5 then d
  else
    let d1 := (d.setPll k { d.pll k with lost := decide (d.pllState k ≠ 3) }).setPllState k 4
    d1.onCore (·.flagOnly (pllPage k) (pllInst k) 12)

/-- The numbers of the PLLs. -/
def pllList : List Nat := List.range 10

/-- REFERENCE_LOSS: every PLL in holdover, REF_LOST once, and a fault of SM16 (R286, R294, R462). -/
def Dev.referenceLoss (d : Dev) : Dev :=
  if !d.refOk then d
  else
    let d1 := (d.setB .spll 1 Off.SPLL_REF_STAT 0 false).setF .spll 1 Off.SPLL_REF_STAT 16 16
      (min 0xFFFF (d.fld .spll 1 Off.SPLL_REF_STAT 16 16 + 1))
    let d2 := (pllList.foldl Dev.holdover d1).onCore (·.record 638 12 0 0 0 0)
    let d3 := if pllList.any fun k => d.bit (pllPage k) (pllInst k) Off.PAGE_EVT_EN 12 then d2.onCore (·.raise 638) else d2
    d3.fault 16 0 0 0

/-- One PLL leaves holdover: from its frozen TUNE, or by a cold lock (R287). -/
def Dev.leaveHoldover (d : Dev) (k : Nat) : Dev :=
  if d.pllState k ≠ 4 then d else if (d.pll k).lost then d.coldLock k else d.setPllState k 3

/-- REFERENCE_RETURN (R287); each port that keeps its lock realigns (R281). -/
def Dev.referenceReturn (d : Dev) : Dev :=
  if d.refOk then d
  else
    let d1 := pllList.foldl Dev.leaveHoldover (d.setB .spll 1 Off.SPLL_REF_STAT 0 true)
    (List.range 8).foldl (fun x p => if d.pllState p = 4 ∧ x.pllState p = 3 then x.setB .anch 0 (Off.ANCH_PORT_TSTAT + 4 * p) 2 true else x) d1

/-! Steering (R272, R281, R284, R285) -/

/-- The points of the ramp profile in use (R284). -/
def Dev.profile (d : Dev) (p : Nat) : List Nat :=
  (List.range 8).map fun k => d.useF .ppll p (Off.PPLL_PROF_0 + 4 * (k / 2)) (16 * (k % 2)) 16

/-- The steepest segment of a profile. -/
def steepest : Nat → List Nat → Nat
  | _, [] => 0
  | a, b :: r => max (b - a) (steepest b r)

/-- Whether a change of ratio over a frame period, shaped by the profile, exceeds MAX_SLOPE ppm per ms at some point (R285). -/
def Dev.rampClips (d : Dev) (p old new period : Nat) : Bool :=
  let change := ((new : Int) - old).natAbs
  decide (d.useF .ppll p Off.PPLL_RAMP_CTRL 0 8 * old * 65535 * period
    < change * 1000000 * (8 * steepest 0 (d.profile p)) * (1000000 * nsUnit))

/-- The steering of a port PLL at a tick of its scene (R272, R281): the phase error it adds is at most 1 ppm, a free value; on
the fall-back path the slip is one, unless the pair is exact. -/
def Dev.steer (d : Dev) (p : Nat) : Dev :=
  let period := (d.cad (d.timingScene p)).period
  if d.pllState p ≠ 3 ∨ period = 0 then d
  else
    let n := ratioAtPeriod (d.rasterPix p) period (d.pllDiv p)
    if d.pllBit p 4 then
      let d1 := d.showPair p n
      let x := fallbackPair n
      let d2 := if d.useB .ppll p Off.PPLL_PLL_CTRL 3 ∧ x.1 * 2 ^ 32 ≠ n * x.2 then
          (d1.wr .ppll p Off.PPLL_SLIP_COUNT (d1.core.freeNow.truncate 32)).freeStep
        else d1
      d2.ckoAll
    else
      let m := ((n : Int) + d.freeWithin (n / 1000000)).toNat
      let d1 := (d.showFreq p m (d.pllDiv p)).freeStep
      let d2 := if d.rampClips p (d.pll p).ratio m period then d1.onCore (·.flagOnly .ppll p 14) else d1
      d2.ckoAll

/-- A ramp would carry a port PLL more than 3 % from the frequency of its last band search (R273). -/
def Dev.rampRelocks (d : Dev) (p num den : Nat) : Bool :=
  let f := (d.pll p).searchHz
  decide (3 * f < 100 * ((streamHz (d.rasterPix p) num den : Int) - f).natAbs)

/-! The PPLL page -/

/-- The reason that makes a PPLL configuration illegal (R292). -/
def Dev.pllReason (d : Dev) (p : Nat) : Option Nat :=
  let pts := (List.range 8).map fun k => d.actF .ppll p (Off.PPLL_PROF_0 + 4 * (k / 2)) (16 * (k % 2)) 16
  if d.actF .ppll p Off.PPLL_PLL_CTRL 0 2 = 3 ∨ d.actF .ppll p Off.PPLL_RAMP_CTRL 0 8 = 0 ∨ d.actF .ppll p Off.PPLL_LANE_CTRL 8 8 = 0
  then some 0x90
  else if (pts.zip (pts.drop 1)).any (fun x => decide (x.2 < x.1)) ∨ pts.getD 7 0 ≠ 65535 then some 0x91 else none

/-- The check of a PPLL commit (R292). -/
def Dev.pllCheck (d : Dev) (p : Nat) : Dev :=
  match d.pllReason p with
  | none => d.onCore (·.bringIntoUse .ppll p)
  | some e => (d.wrN .ppll p Off.PPLL_PPLL_REJECT e).flag .ppll p 13 e

end Sys2Proof.Machine
end

