-- ==== Sys2Proof/Machine/Dram.lean ====
section
/-! DEFINITION. Bytes of DDR5 and of frame memory, hold windows and stalled writes (R69, R92 to R97, R334, R350, R352). -/

namespace Sys2Proof.Machine

/-! Bytes of a memory: a canonical list of address and byte, whose unlisted bytes read as 0 -/

/-- What an unlisted byte reads as. -/
def memDefault : Nat → BitVec 8 := fun _ => 0

/-- The canonical form of a memory: addresses strictly rising, and no entry equal to what an unlisted address reads as. -/
def Memory.wf (m : List Host.Cell) : Bool := Tbl.wf memDefault m

/-- Read one byte. -/
def readByte (m : List Host.Cell) (a : Nat) : BitVec 8 := Tbl.get memDefault m a

/-- Write one byte. -/
def writeByte (m : List Host.Cell) (a : Nat) (b : BitVec 8) : List Host.Cell := Tbl.set memDefault m a b

/-- Write bytes at consecutive addresses. -/
def writeBytes (m : List Host.Cell) (a : Nat) : List (BitVec 8) → List Host.Cell
  | [] => m
  | b :: r => writeBytes (writeByte m a b) (a + 1) r

/-- Read `n` bytes at consecutive addresses. -/
def readBytes (m : List Host.Cell) (a n : Nat) : List (BitVec 8) := (List.range n).map fun i => readByte m (a + i)

/-- Little-endian value of bytes (R69). -/
def leNat : List (BitVec 8) → Nat
  | [] => 0
  | b :: r => b.toNat + 256 * leNat r

/-- `n` little-endian bytes of a value (R69). -/
def leBytes : Nat → Nat → List (BitVec 8)
  | 0, _ => []
  | n + 1, v => BitVec.ofNat 8 v :: leBytes n (v / 256)

/-- The 64-byte lines that an access touches. -/
def linesOf (a n : Nat) : List Nat := if n = 0 then [] else (List.range ((a + n - 1) / 64 - a / 64 + 1)).map (· + a / 64)

/-! DDR5 -/

/-- Self-refresh is left: its clock relocks (R359). -/
def Dev.srLeave (d : Dev) : Dev := (d.setF .mcg 0 Off.MCG_SR_STAT 0 2 3).unpark 8

/-- A request arrives: it abandons an entry into self-refresh, or starts an exit and waits for it (R358, R359). -/
def Dev.memWake (d : Dev) : Dev :=
  let w := fun (x : Dev) => if x.mc.srReq.isSome then x else x.onMc fun m => { m with srReq := some x.now }
  match d.fld .mcg 0 Off.MCG_SR_STAT 0 2 with
  | 0 => d
  | 1 => d.setF .mcg 0 Off.MCG_SR_STAT 0 2 0
  | 2 => w d.srLeave
  | _ => w d

/-- A poisoned line. -/
def Dev.linePoisoned (d : Dev) (l : Nat) : Bool := Tbl.get (fun _ => false) d.poison l

/-- Set or clear the poison of a line. -/
def Dev.setPoison (d : Dev) (l : Nat) (b : Bool) : Dev := { d with poison := Tbl.set (fun _ => false) d.poison l b }

/-- A request outside installed DRAM is not served: it is counted and reported (R334). -/
def Dev.rangeError (d : Dev) (r : Requester) (a : Nat) : Dev :=
  (d.inc .mcg 0 Off.MCG_RANGE_ERR).flag .mcg 0 11 0 (BitVec.ofNat 32 r.id) (BitVec.ofNat 32 a) (BitVec.ofNat 32 (a / 2 ^ 32))

/-- Bytes retire in DDR5: a whole 64-byte write clears the poison of its line, a smaller one leaves it (R352). Bytes written as poison
mark their lines. -/
def Dev.landBytes (d : Dev) (a : Nat) (bs : List (BitVec 8)) (bad : Bool := false) : Dev :=
  let d1 := { d with mem := writeBytes d.mem a bs }
  (linesOf a bs.length).foldl
    (fun x l => if bad then x.setPoison l true
      else if a ≤ 64 * l ∧ 64 * (l + 1) ≤ a + bs.length then x.setPoison l false else x) d1

/-- A write of the block engine or of a Rope channel that is dropped is counted by its operation (R379, R406). -/
def Dev.noteDrop (d : Dev) (r : Requester) (a : Nat) : Dev :=
  match r with
  | .blt | .rpl => { d with dropped := d.dropped ++ [(r, a)] }
  | _ => d

/-- A read of DDR5: none where any of its lines is poisoned or lies outside installed DRAM (R334). -/
def Dev.dramBytes (d : Dev) (a n : Nat) : Option (List (BitVec 8)) :=
  if d.core.installed < a + n ∨ (linesOf a n).any d.linePoisoned then none else some (readBytes d.mem a n)

/-- A read of DDR5 by a requester that MWIN and the installed range check, with its reports; the answer is none where it is
denied or poisoned. -/
def Dev.dramRead (d : Dev) (r : Requester) (a n : Nat) : Dev × Option (List (BitVec 8)) :=
  if !d.core.mwinAllows r a n false then (d.onCore (·.denyMem r a false), none)
  else if d.core.installed < a + n then (d.rangeError r a, none)
  else (d.memWake, d.dramBytes a n)

/-! Hold windows -/

/-- The uses of an engine that can hold windows: those that have ended and await their last reads, the extended one, the
present one (R93). -/
def Eng.uses (e : Eng) : List Use := e.ending ++ e.old.toList ++ e.use.toList

/-- The mode in which a use's windows act: 1 STALL, 2 REJECT (R94, R95). -/
def Use.holdMode (u : Use) : Nat := if u.rejecting then 2 else descHold u.desc

/-- Whether a write overlaps a hold window of a use: one window per plane, over its extent (R92). -/
def Use.overlaps (u : Use) (a n : Nat) : Bool :=
  u.held && decide (u.holdMode ≠ 0) && (descPlanes u.desc).any fun k =>
    decide (a < descBase u.desc k + descExtent u.desc k) && decide (descBase u.desc k < a + n)

/-- Every hold window that a write overlaps, as engine, use and mode. -/
def Dev.windowsAt (d : Dev) (a n : Nat) : List (Nat × Nat × Nat) :=
  d.engs.flatMap fun x => (x.2.uses.filter (·.overlaps a n)).map fun u => (x.1, u.id, u.holdMode)

/-- Requesters whose writes no hold window checks (R94). -/
def Requester.holdExempt : Requester → Bool
  | .comp | .mnt => true
  | _ => false

/-- A write dropped by a window, reported in the layer's registers (R94, R95, R98). -/
def Dev.violation (d : Dev) (r : Requester) (a e : Nat) (timeout : Bool) : Dev :=
  let d1 := d.wr .leng e Off.LENG_BUF_STAT (sqSet (d.rd .leng e Off.LENG_BUF_STAT) 8)
  let d2 := (d1.wrN .leng e Off.LENG_VIOL_ADDR_LO a).wrN .leng e Off.LENG_VIOL_INFO
    (a / 2 ^ 32 % 256 + r.id * 256 + timeout.toNat * 4096)
  (d2.inc .leng e Off.LENG_VIOL_COUNT).event (130 + 4 * e) 3 (BitVec.ofNat 32 r.id) (BitVec.ofNat 32 a)
    (BitVec.ofNat 32 (a / 2 ^ 32))

/-- A write stalled by a use's window: counted in STALL_COUNT, logged once per episode (R94, R131). -/
def Dev.stallReport (d : Dev) (e : Nat) : Dev :=
  let d1 := (d.wr .leng e Off.LENG_BUF_STAT (sqSet (d.rd .leng e Off.LENG_BUF_STAT) 16)).inc .leng e Off.LENG_STALL_COUNT
  if (d1.eng e).stalling then d1
  else (d1.setEng e { d1.eng e with stalling := true }).onCore (·.record (130 + 4 * e) 4 0 0 0 0)

/-- Posted writes of one requester keep their order behind a stalled one (R96). -/
def Dev.behindStall (d : Dev) (r : Requester) : Bool := d.stalled.any fun x => x.who == r && !(x.who.isCpu)

/-- What becomes of a checked write. -/
inductive WriteFate where
  | landed | denied | outside | dropped | stalled
deriving DecidableEq, Repr

/-- Put a write behind the stalled ones. -/
def Dev.stallWrite (d : Dev) (r : Requester) (a : Nat) (bs : List (BitVec 8)) (uses : List (Nat × Nat)) (bad : Bool := false) :
    Dev :=
  { d with stalled := d.stalled ++ [{ who := r, addr := a, data := bs, uses := uses, since := d.now, bad := bad }] }

/-- The hold-window check of a write, and its landing (R94). -/
def Dev.holdCheck (d : Dev) (r : Requester) (a : Nat) (bs : List (BitVec 8)) (bad : Bool := false) : Dev × WriteFate :=
  let ws := if r.holdExempt then [] else d.windowsAt a bs.length
  let rej := ws.filter fun w => w.2.2 == 2
  if !rej.isEmpty then (((rej.map fun w => w.1)).foldl (fun x e => x.violation r a e false) (d.noteDrop r a), .dropped)
  else if !ws.isEmpty then
    ((ws.foldl (fun x w => x.stallReport w.1) d).stallWrite r a bs (ws.map fun w => (w.1, w.2.1)) bad, .stalled)
  else (d.memWake.landBytes a bs bad, .landed)

/-- A write to DDR5: MWIN, the installed range, the order behind a stalled write of the requester, then the hold windows
(R65, R94, R96, R334). -/
def Dev.dramWrite (d : Dev) (r : Requester) (a : Nat) (bs : List (BitVec 8)) (bad : Bool := false) : Dev × WriteFate :=
  if !d.core.mwinAllows r a bs.length true then ((d.onCore (·.denyMem r a true)).noteDrop r a, .denied)
  else if d.core.installed < a + bs.length then ((d.rangeError r a).noteDrop r a, .outside)
  else if d.behindStall r then (d.stallWrite r a bs [] bad, .stalled)
  else d.holdCheck r a bs bad

/-- Whether a use still holds its windows. -/
def Dev.useHeld (d : Dev) (x : Nat × Nat) : Bool := (d.eng x.1).uses.any fun u => u.id == x.2 && u.held

/-- The first stalled write that may go on: its windows are gone, and no write of its requester is ahead of it (R94, R96). -/
def Dev.resumable (d : Dev) : List Stalled → List Requester → Option Nat
  | [], _ => none
  | x :: r, seen =>
    if x.uses.all (fun u => !d.useHeld u) && (x.who.isCpu || !(seen.contains x.who)) then some seen.length
    else Dev.resumable d r (seen ++ [x.who])

/-- Whether writes are still stalled on an engine's windows. -/
def Dev.stallsOn (d : Dev) (e : Nat) : Bool := d.stalled.any fun x => x.uses.any fun u => u.1 == e && d.useHeld u

/-- Close the stall episodes that have ended (R94). -/
def Dev.closeEpisodes (d : Dev) : Dev :=
  (d.engs.map Prod.fst).foldl
    (fun x e => if (x.eng e).stalling && !x.stallsOn e then x.setEng e { x.eng e with stalling := false } else x) d

/-- STALLED_WRITE_RESUME: the first write whose windows are all gone is taken again; one that never met a window is now
checked against them (R97). -/
def Dev.resumeWrite (d : Dev) : Dev :=
  match d.resumable d.stalled [] with
  | none => d
  | some i =>
    match d.stalled[i]? with
    | none => d
    | some w =>
      let d1 := { d with stalled := d.stalled.eraseIdx i }
      let d2 := if w.uses.isEmpty then (d1.holdCheck w.who w.addr w.data w.bad).1 else d1.landBytes w.addr w.data w.bad
      d2.closeEpisodes

/-- Make a use's windows act as REJECT (R95). -/
def Eng.rejectUse (e : Eng) (id : Nat) : Eng :=
  let f := fun (u : Use) => if u.id = id then { u with rejecting := true } else u
  { e with use := e.use.map f, old := e.old.map f, ending := e.ending.map f }

/-- HOLD_STALL_TIMEOUT: the stalled write of an index is dropped at the bound of one use, which alone reports it; the use's
windows then reject (R95). -/
def Dev.stallTimeout (d : Dev) (i : Nat) (e id : Nat) : Dev :=
  match d.stalled[i]? with
  | none => d
  | some w =>
    if w.uses.contains (e, id) ∧ d.useHeld (e, id) then
      let d1 := { d with stalled := d.stalled.eraseIdx i }
      let d2 := (d1.noteDrop w.who w.addr).violation w.who w.addr e true
      (d2.setEng e ((d2.eng e).rejectUse id)).closeEpisodes
    else d

/-- A Function Level Reset discards the writes stalled from that function, and the requests behind them (R96, R567). -/
def Dev.discardStalled (d : Dev) (k : Fin 8) : Dev :=
  { d with stalled := d.stalled.filter (fun x => x.who != Requester.pf k), deferred := d.deferred.filter (fun x => x.1 % 8 != k.val) }.closeEpisodes

/-- Whether a requester is a host function with a stalled write ahead of it (R96). -/
def Dev.fnStalled (d : Dev) (r : Requester) : Bool :=
  match r with
  | .pf k => (d.stalled.any fun x => x.who == Requester.pf k) || d.deferred.any fun x => x.1 == k.val
  | _ => false

/-- A command of a host function: it waits behind that function's stalled write (R96), and is carried out otherwise. -/
def State.posted (s : State) (r : Requester) (i : Instr) (f : Dev → Dev) : State :=
  match r with
  | .pf k => if s.dev.fnStalled r then s.on fun d => { d with deferred := d.deferred ++ [(k.val, i)] } else s.on f
  | _ => s.on f

/-! Frame memory -/

/-- Whether any 64-byte access of a range of frame memory reads uncorrectable (R226). -/
def Dev.fmUncorrectable (d : Dev) (a n : Nat) : Bool := (linesOf a n).any fun l => Tbl.get (fun _ => false) d.fmBad l

/-- Bytes written to frame memory; the lines written are good again. -/
def Dev.fmWrite (d : Dev) (a : Nat) (bs : List (BitVec 8)) : Dev :=
  { d with fm := writeBytes d.fm a bs
           fmBad := (linesOf a bs.length).foldl (fun t l => Tbl.set (fun _ => false) t l false) d.fmBad }

end Sys2Proof.Machine
end

