-- ==== Sys2Proof/Machine/Mem.lean ====
section
/-! DEFINITION. The external memory controller: the address map, port queues, row disturbance, errors, migration, refresh and
self-refresh ("External memory controller"). -/

namespace Sys2Proof.Machine

/-! Address map (R337, R338) -/

/-- Whether a number has an odd count of bits set below `n`. -/
def oddBits (v : Nat) : Nat → Bool
  | 0 => false
  | n + 1 => xor (v / 2 ^ n % 2 == 1) (oddBits v n)

/-- Output k of a map (R337). -/
def AddrMap.out (m : AddrMap) (a k : Nat) : Nat := (oddBits (a &&& m.masks.getD k 0) 40).toNat

/-- A run of address bits. -/
def run (a pos len : Nat) : Nat := a / 2 ^ pos % 2 ^ len

/-- The DRAM location of a device address: its rank is the logical one (R337). -/
def AddrMap.locOf (m : AddrMap) (a : Nat) : Loc :=
  let ch := m.out a 0 + 2 * m.out a 1 + 4 * m.out a 2
  { sub := 2 * ch + m.out a 3
    rank := run a m.rankPos m.k
    bank := (m.out a 4 + 2 * m.out a 5 + 4 * m.out a 6) * 4 + m.out a 7 + 2 * m.out a 8
    row := run a m.rowPos m.r
    col := run a 6 2 + 4 * run a m.colPos (m.c - 2) }

/-- Bits of the map: A (R337). -/
def AddrMap.width (m : AddrMap) : Nat := 15 + m.c + m.r + m.k

/-- The lowest set bit of a mask, 64 for none. -/
def lowBit (v : Nat) : Nat := ((List.range 40).find? fun i => v / 2 ^ i % 2 == 1).getD 64

/-- The nine outputs of a location, in the order of R337. -/
def Loc.outs (l : Loc) : List Nat :=
  [l.sub / 2 % 2, l.sub / 4 % 2, l.sub / 8 % 2, l.sub % 2, l.bank / 4 % 2, l.bank / 8 % 2, l.bank / 16 % 2, l.bank % 2, l.bank / 2 % 2]

/-- The device address of a location: the runs, then each base bit as its output asks. -/
def AddrMap.addrOf (m : AddrMap) (l : Loc) : Nat :=
  let a := l.col % 4 * 64 + l.col / 4 * 2 ^ m.colPos + l.row * 2 ^ m.rowPos + (if m.k = 0 then 0 else l.rank * 2 ^ m.rankPos)
  (m.masks.zip l.outs).foldl (fun x y => if (oddBits (a &&& y.1) 40).toNat = y.2 then x else x + 2 ^ lowBit y.1) a

/-- The positions of the runs. -/
def AddrMap.runs (m : AddrMap) : List (Nat × Nat) :=
  [(m.colPos, m.c - 2), (m.rowPos, m.r)] ++ if m.k = 0 then [] else [(m.rankPos, m.k)]

/-- A bit lies inside a run. -/
def AddrMap.inRun (m : AddrMap) (b : Nat) : Bool := m.runs.any fun x => decide (x.1 ≤ b ∧ b < x.1 + x.2)

/-- No two runs overlap. -/
def runsApart : List (Nat × Nat) → Bool
  | [] => true
  | x :: r => (r.all fun y => decide (x.1 + x.2 ≤ y.1 ∨ y.1 + y.2 ≤ x.1)) && runsApart r

/-- The numbers of a list differ. -/
def allDiffer : List Nat → Bool
  | [] => true
  | x :: r => !r.contains x && allDiffer r

/-- A map meets R338; `three` says that three ranks are mapped. -/
def AddrMap.legal (m : AddrMap) (three : Bool) : Bool :=
  let bases := m.masks.map lowBit
  (m.runs.all fun x => decide (8 ≤ x.1 ∧ x.1 + x.2 ≤ m.width)) && runsApart m.runs
    && (bases.all fun b => decide (8 ≤ b ∧ b < m.width) && !m.inRun b) && allDiffer bases
    && (m.masks.all fun v => (List.range 40).all fun i => v / 2 ^ i % 2 == 0 || i == lowBit v || m.inRun i)
    && (!three || m.rankPos == m.width - 2)

/-- Where the default map folds a row bit into output k, from the start of the row run (R335, worked example). -/
def foldBits (k : Nat) : List Nat := if k < 4 then [5 + k, 9 + k] else [k - 4]

/-- The default map of a configuration (R335, worked example). -/
def defaultMap (c r k : Nat) : AddrMap :=
  let row := 15 + c
  { masks := (List.range 9).map fun i => 2 ^ (8 + i) + ((foldBits i).map fun b => 2 ^ (row + b)).sum
    colPos := 17, rowPos := row, rankPos := row + r, c := c, r := r, k := k }

/-- C of the installed devices (R332). -/
def Dev.colBits (d : Dev) : Nat := if d.bit .mcg 0 Off.MCG_DRAM_CFG 0 then 6 else 7
/-- R of the installed devices (R332). -/
def Dev.rowBits (d : Dev) : Nat := if d.bit .mcg 0 Off.MCG_DRAM_CFG 1 then 17 else 16
/-- Installed ranks per subchannel. -/
def Dev.rankCount (d : Dev) : Nat := d.fld .mcg 0 Off.MCG_DRAM_CFG 2 3

/-- K: the rank bits of a number of mapped ranks (R337). -/
def rankBits (mapped : Nat) : Nat := if mapped ≤ 1 then 0 else if mapped = 2 then 1 else 2

/-- The map that the registers describe, with K of the active one. -/
def Dev.mapWritten (d : Dev) (k : Nat) : AddrMap :=
  { masks := (List.range 9).map fun i =>
      (d.rd .mcg 0 (Off.MCG_MAP_XOR_LO + 8 * i)).toNat + d.fld .mcg 0 (Off.MCG_MAP_XOR_HI + 8 * i) 0 8 * 2 ^ 32
    colPos := d.fld .mcg 0 Off.MCG_MAP_FIELDS 0 6, rowPos := d.fld .mcg 0 Off.MCG_MAP_FIELDS 8 6
    rankPos := d.fld .mcg 0 Off.MCG_MAP_FIELDS 16 6, c := d.colBits, r := d.rowBits, k := k }

/-- Show a map in the map registers. -/
def Dev.showMap (d : Dev) (m : AddrMap) : Dev :=
  let d1 := d.wrN .mcg 0 Off.MCG_MAP_FIELDS (m.colPos + m.rowPos * 256 + m.rankPos * 65536)
  (List.range 9).foldl (fun x i =>
    (x.wrN .mcg 0 (Off.MCG_MAP_XOR_LO + 8 * i) (m.masks.getD i 0 % 2 ^ 32)).wrN .mcg 0 (Off.MCG_MAP_XOR_HI + 8 * i)
      (m.masks.getD i 0 / 2 ^ 32)) d1

/-- MAP_STAT, whose PENDING compares the registers with the active map (R339, R362). -/
def Dev.mapStat (d : Dev) : Word :=
  match d.mc.map with
  | none => 0
  | some m => BitVec.ofNat 32 (1 + (decide (d.mapWritten m.k ≠ m)).toNat * 2 + m.width * 256)

/-- A rejection on MCG (R363). -/
def Dev.mcgReject (d : Dev) (r : Requester) (off reason : Nat) : Dev :=
  (d.wrN .mcg 0 Off.MCG_MCG_REJECT reason).reject r .mcg 0 off reason

/-- The bytes of DDR5 stay in their physical lines when the map changes: each gets the device address that now names its line. -/
def moveBytes (o n : AddrMap) (m : List Host.Cell) : List Host.Cell :=
  m.foldl (fun t e => writeByte t (n.addrOf (o.locOf e.1) + e.1 % 64) e.2) []

/-- The same of poisoned lines. -/
def movePoison (o n : AddrMap) (t : Tbl Bool) : Tbl Bool :=
  t.foldl (fun u e => Tbl.set (fun _ => false) u (n.addrOf (o.locOf (64 * e.1)) / 64) e.2) []

/-- MAP_CMD.APPLY (R338, R339). -/
def Dev.mapApply (d : Dev) (r : Requester) : Dev :=
  let scenes := (List.range 4).any fun s => d.useB .scn s Off.SCN_SCN_CTRL 0
  if !(d.mode == 3 || d.mode == 4) || scenes || d.mc.mig.isSome then d.mcgReject r Off.MCG_MAP_CMD 0xC0
  else match d.mc.map with
    | none => d.mcgReject r Off.MCG_MAP_CMD 0xC1
    | some o =>
      let n := d.mapWritten o.k
      if !n.legal (o.k == 2 && decide (d.core.installed < 2 ^ o.width)) then d.mcgReject r Off.MCG_MAP_CMD 0xC1
      else
        let d1 := { d with mem := moveBytes o n d.mem, poison := movePoison o n d.poison }.onMc fun m => { m with map := some n }
        d1.flag .mcg 0 8

/-! Weights (R344) -/

/-- Sum of the four byte fields of a word. -/
def byteSum (w : Word) : Nat := bitsOf w 0 8 + bitsOf w 8 8 + bitsOf w 16 8 + bitsOf w 24 8

/-- WEIGHT_WRITE: register 0 WEIGHT_RT, 1 WEIGHT_BULK, 2 WEIGHT_MNT (R344). -/
def Dev.weightWrite (d : Dev) (r : Requester) (which : Nat) (v : Word) : Dev :=
  let off := if which = 0 then Off.MCG_WEIGHT_RT else if which = 1 then Off.MCG_WEIGHT_BULK else Off.MCG_WEIGHT_MNT
  let new := if which = 2 then BitVec.ofNat 32 (max 1 (bitsOf v 0 8)) else v
  let pick := fun k o => if which = k then new else d.rd .mcg 0 o
  let sum := byteSum (pick 0 Off.MCG_WEIGHT_RT) + byteSum (pick 1 Off.MCG_WEIGHT_BULK) + byteSum (pick 2 Off.MCG_WEIGHT_MNT)
  if 64 < sum then d.mcgReject r off 0xC2 else d.wr .mcg 0 off new

/-! Ranks (R353) -/

/-- State of a physical rank of a subchannel: 0 ABSENT, 1 IN_SERVICE, 2 SPARE, 3 FAILING, 4 RETIRED, 5 FAILED. -/
def Dev.rankState (d : Dev) (u k : Nat) : Nat := d.fld .mcc (u / 2) Off.MCC_RANK_STATE (3 * k + 16 * (u % 2)) 3
def Dev.setRank (d : Dev) (u k v : Nat) : Dev := d.setF .mcc (u / 2) Off.MCC_RANK_STATE (3 * k + 16 * (u % 2)) 3 v

/-- The spare rank of a subchannel. -/
def Dev.spareOf (d : Dev) (u : Nat) : Option Nat := (List.range 4).find? fun k => d.rankState u k == 2

/-- The physical rank that a logical rank maps to. -/
def Dev.physRank (d : Dev) (u l : Nat) : Nat := Tbl.get (fun k => k % 4) d.mc.ranks (4 * u + l)

/-- Number of a line within its rank, in the order that migration copies (R354; the order of the parts is a DESIGN CHOICE). -/
def Loc.line (l : Loc) (c : Nat) : Nat := (l.row * 32 + l.bank) * 2 ^ c + l.col

/-- The location of a line number of a logical rank. -/
def lineLoc (u rank n c : Nat) : Loc :=
  { sub := u, rank := rank, bank := n / 2 ^ c % 32, row := n / 2 ^ c / 32, col := n % 2 ^ c }

/-- Lines of a rank. -/
def Dev.rankLines (d : Dev) : Nat := 2 ^ (5 + d.colBits + d.rowBits)

/-- The physical rank that serves a location: the spare below MIG_PTR, the failing rank from there on (R354). -/
def Dev.servedBy (d : Dev) (l : Loc) : Nat :=
  let p := d.physRank l.sub l.rank
  match d.mc.mig with
  | some m => if m.sub = l.sub ∧ m.rank = p ∧ l.line d.colBits < m.ptr then m.spare else p
  | none => p

/-- SPARE_STAT follows the rank states (R361): bit q a spare, bit 16 + q on its spare or with a FAILED rank. -/
def Dev.showSpares (d : Dev) : Dev :=
  let has := (List.range 16).map fun u => (d.spareOf u).isSome
  let used := (List.range 16).map fun u => (List.range 4).any fun k => [3, 4, 5].contains (d.rankState u k)
  d.wrN .mcg 0 Off.MCG_SPARE_STAT (flagsNat has + flagsNat used * 65536)

/-- MIG_STAT and MIG_PTR of a migration. -/
def Dev.showMig (d : Dev) (m : Mig) (busy : Bool) : Dev :=
  (d.wrN .mcg 0 Off.MCG_MIG_STAT (busy.toNat + m.sub * 2 + m.rank * 32 + m.ptr * 100 / d.rankLines * 256
    + min m.poison 0xFFFF * 65536)).wrN .mcg 0 Off.MCG_MIG_PTR m.ptr

/-- A migration of a rank to its subchannel's spare begins (R353, R355). -/
def Dev.migBegin (d : Dev) (u k spare : Nat) : Dev :=
  let m : Mig := { sub := u, rank := k, spare := spare, ptr := 0, poison := 0 }
  let d1 := ((d.setRank u k 3).onMc fun x => { x with mig := some m }).showMig m true
  let d2 := (d1.setB .mcg 0 Off.MCG_SPARE_STAT u false).setB .mcg 0 Off.MCG_SPARE_STAT (16 + u) true
  (d2.flag .mcc (u / 2) 12).degrade 0

/-- A rank with no spare left becomes FAILED (R356). -/
def Dev.rankFailed (d : Dev) (u k : Nat) : Dev :=
  if d.rankState u k ≠ 1 then d
  else (((((d.setRank u k 5).setB .mcg 0 Off.MCG_SPARE_STAT (16 + u) true).flag .mcc (u / 2) 14).degrade 1)).fault 9 0 0 0

/-- An automatic migration trigger (R353, R356, R357). -/
def Dev.migTrigger (d : Dev) (u k : Nat) : Dev :=
  if d.rankState u k ≠ 1 then d
  else match d.mc.mig with
    | some m =>
      if m.sub = u then d.rankFailed u k
      else if (d.spareOf u).isNone then d.rankFailed u k
      else if d.mc.migQueue.contains (u, k) then d
      else d.onMc fun x => { x with migQueue := x.migQueue ++ [(u, k)] }
    | none => match d.spareOf u with
      | some sp => d.migBegin u k sp
      | none => d.rankFailed u k

/-- MIG_START: MIG_CMD.START by software (R353, R363). -/
def Dev.migStart (d : Dev) (r : Requester) (u k : Nat) : Dev :=
  if d.mc.mig.isSome || !(d.mode == 4 || d.mode == 5 || d.mode == 6) || d.rankState u k != 1 then d.mcgReject r Off.MCG_MIG_CMD 0xC4
  else match d.spareOf u with
    | some sp => d.migBegin u k sp
    | none => d.mcgReject r Off.MCG_MIG_CMD 0xC4

/-! Errors (R350) -/

/-- Load ERR_ADDR_LO and ERR_INFO of a channel, count and report an uncorrectable error. -/
def Dev.reportUe (d : Dev) (who : Nat) (a u k : Nat) (migrating : Bool) : Dev :=
  let c := u / 2
  let info := a / 2 ^ 32 % 256 + u % 2 * 256 + k * 512 + who * 2048 + migrating.toNat * 32768
  let d1 := (d.wrN .mcc c Off.MCC_ERR_ADDR_LO a).wrN .mcc c Off.MCC_ERR_INFO info
  let lo := 16 * (u % 2)
  (d1.setF .mcc c Off.MCC_UE_COUNT lo 16 (min 0xFFFF (d1.fld .mcc c Off.MCC_UE_COUNT lo 16 + 1))).flag .mcc c 9 0
    (BitVec.ofNat 32 a) (BitVec.ofNat 32 info)

/-- A corrected error of a rank: counted and raised, and a migration trigger above CE_THRESH within 60 s (R350, R353). -/
def Dev.reportCe (d : Dev) (u k : Nat) : Dev :=
  let d1 := (d.inc .mcc (u / 2) (if u % 2 = 0 then Off.MCC_CE_COUNT_0 else Off.MCC_CE_COUNT_1)).flag .mcc (u / 2) 8
  let key := 4 * u + k
  let recent := (d1.mc.ces ++ [(key, d1.now)]).filter fun x => decide (d1.now < x.2 + 60000000000)
  let d2 := d1.onMc fun m => { m with ces := recent }
  if d2.bit .mcg 0 Off.MCG_SPARE_CTRL 3
      && decide (d2.fld .mcg 0 Off.MCG_SPARE_CTRL 16 16 < (recent.filter fun x => x.1 == key).length)
  then d2.migTrigger u k else d2

/-- A read of a line ends with what its check code found (R350): corrections are counted; an uncorrectable line is poisoned from then
on, reported, a fault of SM09 and a migration trigger. `scene` is the scene of a fetch port. -/
def Dev.lineEcc (d : Dev) (who : Nat) (scene : Option Nat) (a : Nat) (l : Loc) (ecc : Ecc) : Dev :=
  let k := d.servedBy l
  match ecc with
  | .good => d
  | .corrected => d.reportCe l.sub k
  | .uncorrectable =>
    let d1 := (d.setPoison (a / 64) true).reportUe who a l.sub k false
    let d2 := match scene with
      | some s => d1.fault 9 1 s 0
      | none => d1.fault 9 0 0 0
    if (match d2.mc.mig with | some m => m.sub == l.sub && m.spare == k | none => false) then d2 else d2.migTrigger l.sub k

/-! Row disturbance (R346, R348, R349) -/

/-- Key of a bank. -/
def bankKey (u k bank : Nat) : Nat := (4 * u + k) * 32 + bank

/-- The THROTTLED bits of a channel. -/
def Dev.showThrottled (d : Dev) (c : Nat) : Dev :=
  d.wrN .mcc c Off.MCC_THROTTLED (flagsNat ((List.range 9).map fun p =>
    d.mc.throttles.any fun t => t.port == p && t.bank / 256 == c))

/-- A throttle episode begins, once per bank and port (R349). -/
def Dev.throttle (d : Dev) (key p : Nat) : Dev :=
  if d.mc.throttles.any fun t => t.bank == key && t.port == p then d
  else
    let c := key / 256
    let d1 := (d.onMc fun m => { m with throttles := m.throttles ++ [{ bank := key, port := p, since := d.now }] }).showThrottled c
    (d1.setF .mcc c Off.MCC_RH_STAT 16 16 (min 0xFFFF (d1.fld .mcc c Off.MCC_RH_STAT 16 16 + 1))).flag .mcc c 11

/-- The entries with the lowest count. -/
def lowest (l : List RowTrack) : List RowTrack := l.filter fun x => l.all fun y => decide (x.count ≤ y.count)

/-- A bank's table with a row's activation counted, and the row's entry: an untracked row replaces the entry with the lowest count, one
that a free value picks among equals; the share of the count it takes over is a free value (R348). -/
def trackRow (l : List RowTrack) (row : Nat) (rt : Bool) (port free : Nat) : List RowTrack × RowTrack :=
  let last := fun (o : Option Nat) => if rt then o else some port
  match l.find? (fun x => x.row == row) with
  | some x =>
    let y : RowTrack := { row := row, count := x.count + 1, rt := x.rt + rt.toNat, last := last x.last }
    (l.map fun z => if z.row = row then y else z, y)
  | none =>
    if l.length < 32 then
      let y : RowTrack := { row := row, count := 1, rt := rt.toNat, last := last none }
      (l ++ [y], y)
    else
      let low := lowest l
      match low[free % low.length]? with
      | none => (l, { row := row, count := 1, rt := rt.toNat, last := last none })
      | some o =>
        let y : RowTrack := { row := row, count := o.count + 1, rt := free / 64 % (o.count + 1) + rt.toNat, last := last none }
        (l.map fun z => if z.row = o.row then y else z, y)

/-- Refresh the neighbours of a row: its count resets to 0 (R349). -/
def Dev.neighbourRefresh (d : Dev) (key row : Nat) : Dev :=
  let c := key / 256
  let clear := fun (l : List RowTrack) => l.map fun (z : RowTrack) => if z.row = row then { z with count := 0, rt := 0 } else z
  let d1 := d.onMc fun m => { m with rows := Tbl.modify (fun _ => []) m.rows key clear }
  (d1.setF .mcc c Off.MCC_RH_STAT 0 16 (min 0xFFFF (d1.fld .mcc c Off.MCC_RH_STAT 0 16 + 1))).flag .mcc c 10

/-- A row is activated by a port: it is tracked, and THRESH or twice THRESH acts (R348, R349). -/
def Dev.activateRow (d : Dev) (key row port : Nat) : Dev :=
  let l := Tbl.get (fun _ => []) d.mc.rows key
  let before := match l.find? (fun x => x.row == row) with | some x => x.count | none => 0
  let (l1, y) := trackRow l row (decide (port < 4)) port d.freeNat
  let d1 := (d.onMc fun m => { m with rows := Tbl.set (fun _ => []) m.rows key l1 }).freeStep
  let th := d.useF .mcc (key / 256) Off.MCC_RH_CTRL 0 16
  if before < 2 * th ∧ 2 * th ≤ y.count then d1.neighbourRefresh key row
  else if before < th ∧ th ≤ y.count then
    if y.count ≤ 2 * y.rt then d1.neighbourRefresh key row
    else match y.last with
      | some p => d1.throttle key p
      | none => d1
  else d1

/-- A request meets its bank: an open row serves it, and any other row is activated (R346). -/
def Dev.touchRow (d : Dev) (l : Loc) (port : Nat) : Dev :=
  let key := bankKey l.sub (d.servedBy l) l.bank
  let idle := d.useF .mcc (l.sub / 2) Off.MCC_PAGE_CTRL 0 16
  let queued := d.mc.queue.any fun q => q.loc.sub == l.sub && q.loc.rank == l.rank && q.loc.bank == l.bank && q.loc.row == l.row
  let hit := match Tbl.get (fun _ => none) d.mc.openRow key with
    | some (row, t) => decide (row = l.row) && (queued || (decide (idle ≠ 0) && decide (d.now ≤ t + idle)))
    | none => false
  let d1 := if hit then d else d.activateRow key l.row port
  d1.onMc fun m => { m with openRow := Tbl.set (fun _ => none) m.openRow key (some (l.row, d.now)) }

/-- THROTTLE_EPISODE_END: the oldest episode of a channel ends 16 ms after it began (R349). -/
def Dev.throttleEnd (d : Dev) (c : Nat) : Dev :=
  match d.mc.throttles.find? fun t => t.bank / 256 == c with
  | none => d
  | some t =>
    ((d.advance (t.since + 16000000)).onMc fun m => { m with throttles := m.throttles.erase t }).showThrottled c

/-- Half of a count, an odd one rounded by a bit. -/
def halfBy (n b : Nat) : Nat := (n + n % 2 * (b % 2)) / 2

/-- RH_COUNT_HALVING: every tracked count is halved, an odd one to a neighbour that a free value names (R348). -/
def Dev.rhHalve (d : Dev) : Dev :=
  let half := fun (k : Nat) (z : RowTrack) =>
    let b := (Config.freeValue (d.core.free + k)).toNat / 2 ^ (z.row % 32)
    let n := halfBy z.count b
    ({ z with count := n, rt := min n (halfBy z.rt (b / 2 ^ 32)) } : RowTrack)
  (d.onMc fun m => { m with rows := m.rows.map fun e => (e.1, e.2.map (half e.1)) }).onCore fun c => { c with free := c.free + 2048 }

/-! Port queues (R340 to R342) -/

/-- The port of a requester; COMP has one for each scene (R340). -/
def memPort (r : Requester) (scene : Nat) : Nat :=
  match r with
  | .comp => scene
  | .pf _ => 4
  | .blt => 5
  | .rpl | .remote => 6
  | .cpu _ | .smbus => 7
  | .mnt => 8

/-- A request enters its port queue: the rows it opens, and the hazard episode that a read starts (R342). -/
def Dev.enqueue (d : Dev) (r : Requester) (port a : Nat) (write : Bool) (data : Option (List (BitVec 8))) : Dev :=
  match d.mc.map with
  | none => d
  | some m =>
    let l := m.locOf a
    let same := fun (q : MemReq) => q.write && q.loc.sub == l.sub && q.loc.rank == l.rank && q.loc.bank == l.bank && q.loc.row == l.row
    let hit := if write then none else (d.mc.queue.filter same).getLast?
    let d1 := d.touchRow l port
    let d2 := match hit with
      | some w =>
        if d1.mc.hazards.any fun h => h.write == w.id then d1
        else (d1.onMc fun x => { x with hazards := x.hazards ++ [({ write := w.id, since := d.now } : Hazard)] }).inc .mcg 0 Off.MCG_HAZARD_COUNT
      | none => d1
    let req : MemReq := { id := d2.mc.nextId, port := port, who := r, write := write, addr := a, data := data, loc := l }
    d2.onMc fun x => { x with nextId := x.nextId + 1, queue := x.queue ++ [req] }

/-- What a denied read returns (R67): zero data to a host function, BLT or RPL, poison to COMP. -/
def deniedWords (r : Requester) (n : Nat) : List Word :=
  match r with
  | .comp => []
  | _ => List.replicate n 0

/-- DRAM_READ_ENQUEUE: a read of one 64-byte line (R334, R342). The data it will return is that of its place in global arrival order. -/
def Dev.readEnqueue (d : Dev) (r : Requester) (scene a : Nat) : Dev :=
  let a := a / 64 * 64
  if !d.core.mwinAllows r a 64 false then (d.onCore (·.denyMem r a false)).answer (deniedWords r 16)
  else match d.dramRead r a 64 with
    | (d1, x) => if d.core.installed < a + 64 then d1.answer [] else d1.enqueue r (memPort r scene) a false x

/-- DRAM_WRITE_ENQUEUE: a write of up to a line (R65, R94, R334). -/
def Dev.writeEnqueue (d : Dev) (r : Requester) (scene a : Nat) (bs : List (BitVec 8)) : Dev :=
  match d.dramWrite r a bs with
  | (d1, .landed) => d1.enqueue r (memPort r scene) a true none
  | (d1, _) => d1

/-- DDR5 serves commands: it is not in self-refresh or leaving it. -/
def Dev.ddrActive (d : Dev) : Bool := decide (d.fld .mcg 0 Off.MCG_SR_STAT 0 2 < 2)

/-- The request that a port may retire now: its oldest, and in a subchannel with a hazard the oldest of all (R341, R342). -/
def Dev.retirable (d : Dev) (port : Nat) : Option MemReq :=
  match d.mc.queue.find? fun q => q.port == port with
  | none => none
  | some q =>
    let hazard := d.mc.queue.any fun w => w.loc.sub == q.loc.sub && d.mc.hazards.any fun h => h.write == w.id
    let first := (d.mc.queue.find? fun x => x.loc.sub == q.loc.sub) == some q
    if d.ddrActive && (!hazard || first) then some q else none

/-- Take a request from the queue; a write ends the hazard episode it caused (R342). -/
def Dev.retire (d : Dev) (q : MemReq) : Dev :=
  let long := (d.mc.hazards.filter fun h => h.write == q.id).map fun h => d.now - h.since
  let d1 := d.onMc fun m => { m with queue := m.queue.filter fun x => x.id != q.id
                                     hazards := m.hazards.filter fun h => h.write != q.id }
  long.foldl (fun x t => x.wr .mcg 0 Off.MCG_HAZARD_MAX (satWord (max (x.rd .mcg 0 Off.MCG_HAZARD_MAX).toNat t))) d1

/-- Little-endian words of bytes. -/
def wordsOf : List (BitVec 8) → List Word
  | a :: b :: c :: e :: r => BitVec.ofNat 32 (leNat [a, b, c, e]) :: wordsOf r
  | [] => []
  | l => [BitVec.ofNat 32 (leNat l)]

/-- DRAM_READ_RETURN: a port's oldest request is a read whose data returns, with what its check code found (R350, R351). -/
def Dev.readReturn (d : Dev) (port : Nat) (ecc : Ecc) : Dev :=
  match d.retirable port with
  | none => d
  | some q =>
    if q.write then d
    else
      let d1 := d.retire q
      match q.data with
      | none => d1.answer []
      | some bs =>
        let d2 := d1.lineEcc q.who.id (if port < 4 then some port else none) q.addr q.loc ecc
        d2.answer (if ecc = .uncorrectable then [] else wordsOf bs)

/-- DRAM_WRITE_RETIRE: a port's oldest request is a write, accepted into its subchannel's write buffer (R341). -/
def Dev.writeRetire (d : Dev) (port : Nat) : Dev :=
  match d.retirable port with
  | none => d
  | some q => if q.write then d.retire q else d

/-- DRAM_PATROL_SCRUB of an installed line through MNT (R351, R352). -/
def Dev.patrolScrub (d : Dev) (a : Nat) (ecc : Ecc) : Dev :=
  let a := a / 64 * 64
  match d.mc.map with
  | none => d
  | some m =>
    if d.core.installed < a + 64 then d
    else
      let d1 := d.memWake.touchRow (m.locOf a) 8
      if d1.linePoisoned (a / 64) then d1 else d1.lineEcc Requester.mnt.id none a (m.locOf a) ecc

/-! Migration (R354, R355) -/

/-- The logical rank that a physical rank serves. -/
def Dev.logicalOf (d : Dev) (u k : Nat) : Nat := ((List.range 4).find? fun l => d.physRank u l == k).getD k

/-- MIG_LINE_COPY: the line at MIG_PTR is copied to the spare (R354). -/
def Dev.migCopy (d : Dev) (ecc : Ecc) : Dev :=
  match d.mc.mig, d.mc.map with
  | some m, some mp =>
    if d.rankLines ≤ m.ptr then d
    else
      let l := lineLoc m.sub (d.logicalOf m.sub m.rank) m.ptr d.colBits
      let a := mp.addrOf l
      let d1 := d.memWake.touchRow l 8
      let was := d1.linePoisoned (a / 64)
      let bad := was || ecc = .uncorrectable
      let d2 := if was then d1
        else match ecc with
          | .good => d1
          | .corrected => d1.reportCe m.sub m.rank
          | .uncorrectable => ((d1.setPoison (a / 64) true).reportUe Requester.mnt.id a m.sub m.rank true).fault 9 0 0 0
      let d3 := if bad then d2.flag .mcc (m.sub / 2) 17 0 (BitVec.ofNat 32 a) (BitVec.ofNat 32 (a / 2 ^ 32)) else d2
      let m1 := { m with ptr := m.ptr + 1, poison := m.poison + bad.toNat }
      (d3.onMc fun x => { x with mig := some m1 }).showMig m1 true
  | _, _ => d

/-- Start the first queued migration that can still run. -/
def Dev.migNext (d : Dev) : List (Nat × Nat) → Dev
  | [] => d.onMc fun x => { x with migQueue := [] }
  | (u, k) :: r =>
    match d.spareOf u with
    | some sp => if d.rankState u k = 1 then (d.onMc fun x => { x with migQueue := r }).migBegin u k sp else Dev.migNext d r
    | none => Dev.migNext (d.rankFailed u k) r

/-- MIG_DONE: the pointer has passed the last line, and service moves to the spare (R354, R355). -/
def Dev.migDone (d : Dev) : Dev :=
  match d.mc.mig with
  | none => d
  | some m =>
    if m.ptr < d.rankLines then d
    else
      let l := d.logicalOf m.sub m.rank
      let d1 := (d.setRank m.sub m.spare 1).setRank m.sub m.rank 4
      let d2 := d1.onMc fun x => { x with mig := none, ranks := Tbl.set (fun k => k % 4) x.ranks (4 * m.sub + l) m.spare }
      let d3 := ((d2.showMig m false).showSpares).flag .mcc (m.sub / 2) 13
      d3.migNext d3.mc.migQueue

/-! Refresh (R347) -/

/-- The reason that keeps an MCC configuration out of use (R366). -/
def Dev.mccReason (d : Dev) (c : Nat) : Option Nat :=
  let rh := d.act .mcc c Off.MCC_RH_CTRL
  let nb := d.actF .mcc c Off.MCC_RH_MODE 0 2
  if d.actF .mcc c Off.MCC_REF_CTRL 0 2 = 3 then some 0xC8
  else if bitsOf rh 0 16 < 128 ∨ 16384 < bitsOf rh 0 16 ∨ bitsOf rh 16 8 = 0 ∨ bitsOf rh 24 8 = 0 ∨ nb = 3
      ∨ (nb = 2 ∧ !d.bit .mcg 0 Off.MCG_DRAM_CFG 7) then some 0xC9
  else if 1000 < d.actF .mcc c Off.MCC_SCRUB_CTRL 0 16 then some 0xCA else none

/-- An MCC commit that applied: a legal configuration comes into use, an illegal one is reported (R366). -/
def Dev.mccCheck (d : Dev) (c : Nat) : Dev :=
  match d.mccReason c with
  | none => d.onCore (·.bringIntoUse .mcc c)
  | some e => (d.wrN .mcc c Off.MCC_MCC_REJECT e).flag .mcc c 15 e

/-- A refresh boundary of a channel: it is counted, and an armed MCC page applies (R347). -/
def Dev.refreshBoundary (d : Dev) (c : Nat) : Dev :=
  let d1 := d.countUp .mcc c
  if (d1.armOf .mcc c).isSome then (d1.applyPage .mcc c (d1.count .mcc c)).mccCheck c else d1

/-- Close the rows of the banks of a channel that a test picks. -/
def Dev.closeRows (d : Dev) (c : Nat) (f : Nat → Bool) : Dev :=
  d.onMc fun m => { m with openRow := m.openRow.filter fun e => !(decide (e.1 / 256 = c) && f (e.1 % 32)) }

/-- DRAM_REFRESH: a refresh interval of a channel elapses; in same-bank mode `bank` is the bank refreshed in every bank group (R347). -/
def Dev.dramRefresh (d : Dev) (c bank : Nat) : Dev :=
  if !d.trained || !d.ddrActive || !(d.pllState 8 == 3 || d.pllState 8 == 4) then d
  else if d.useF .mcc c Off.MCC_REF_CTRL 0 2 = 2 ∧ (d.armOf .mcc c).isNone then d.closeRows c fun b => b % 4 == bank
  else (d.closeRows c fun _ => true).refreshBoundary c

/-- DRAM_TEMP_POLL: the hottest rank of a channel, °C (R347). -/
def Dev.dramTemp (d : Dev) (c temp : Nat) : Dev :=
  let twice := d.useB .mcc c Off.MCC_REF_CTRL 8 && decide (85 < temp)
  let d1 := d.wrN .mcc c Off.MCC_TEMP (temp % 256 + twice.toNat * 256)
  if twice && !d.bit .mcc c Off.MCC_TEMP 8 then d1.flag .mcc c 16 else d1

/-! Self-refresh (R358 to R360) -/

/-- Every scene is held or disabled. -/
def Dev.scenesQuiet (d : Dev) : Bool :=
  (List.range 4).all fun s => !d.useB .scn s Off.SCN_SCN_CTRL 0 || ((d.scene s).lastHeld && (d.scene s).comp.isNone)

/-- SR_ENTRY: the conditions of R358 have held for IDLE_US, or the device is in BIVOUAC, which needs no SR_CTRL.EN. -/
def Dev.srEntry (d : Dev) : Dev :=
  if d.trained && decide (d.fld .mcg 0 Off.MCG_SR_STAT 0 2 = 0) && (d.bit .mcg 0 Off.MCG_SR_CTRL 0 || d.mode == 9) && d.scenesQuiet
      && d.mc.queue.isEmpty && d.mc.mig.isNone
  then d.setF .mcg 0 Off.MCG_SR_STAT 0 2 1 else d

/-- SR_ENTERED: entry completes; clocks stop and system PLL 0 parks (R359). -/
def Dev.srEntered (d : Dev) : Dev :=
  if d.fld .mcg 0 Off.MCG_SR_STAT 0 2 ≠ 1 then d
  else
    let d1 := (List.range 8).foldl (fun x c => x.closeRows c fun _ => true) d
    let d2 := (d1.setF .mcg 0 Off.MCG_SR_STAT 0 2 2).setF .mcg 0 Off.MCG_SR_STAT 16 16 (d1.fld .mcg 0 Off.MCG_SR_STAT 16 16 + 1)
    ((d2.park 8).onMc fun m => { m with srSince := d.now, srReq := none }).flag .mcg 0 9

/-- A FRAME commit of a scene is armed for its next boundary (R358). -/
def Dev.frameArmed (d : Dev) (s : Nat) : Bool :=
  groupCandidates.any fun x => decide (x.1.boundary = .frame) && decide ((d.source x.1 x.2).1 = s) &&
    match d.armOf x.1 x.2 with
    | some a => match a.wait with
      | .next 0 => true
      | .frame n => n == (d.cad s).frame + 1
      | _ => false
    | none => false

/-- SR_PREWAKE: PREWAKE_US before a boundary at which an armed FRAME commit will apply (R358). -/
def Dev.srPrewake (d : Dev) (s : Nat) : Dev :=
  if d.fld .mcg 0 Off.MCG_SR_STAT 0 2 = 2 ∧ d.timingRuns s ∧ d.frameArmed s then
    (d.advance (d.nextBoundary s - 1000 * d.fld .mcg 0 Off.MCG_SR_CTRL 8 8)).srLeave
  else d

/-- SR_EXIT: a request or a trigger starts the exit (R359). -/
def Dev.srExit (d : Dev) : Dev := if d.fld .mcg 0 Off.MCG_SR_STAT 0 2 = 2 then d.memWake else d

/-- SR_RESIDENCY: ms in self-refresh since reset (R359). -/
def Dev.srResidency (d : Dev) : Word :=
  let s := d.fld .mcg 0 Off.MCG_SR_STAT 0 2
  satWord ((d.mc.srNs + if 2 ≤ s then d.now - d.mc.srSince else 0) / 1000000)

/-- SR_EXITED: exit completes once system PLL 0 has relocked (R359). -/
def Dev.srExited (d : Dev) : Dev :=
  if d.fld .mcg 0 Off.MCG_SR_STAT 0 2 = 3 ∧ (d.pllState 8 = 3 ∨ d.pllState 8 = 4) then
    let wait := match d.mc.srReq with | some t => d.now - t | none => 0
    let d1 := (d.setF .mcg 0 Off.MCG_SR_STAT 0 2 0).onMc fun m =>
      { m with srNs := m.srNs + (d.now - m.srSince), srReq := none }
    (d1.wr .mcg 0 Off.MCG_SR_EXIT_MAX (satWord (max (d1.rd .mcg 0 Off.MCG_SR_EXIT_MAX).toNat wait))).flag .mcg 0 10
  else d

/-- CLOCK_LOSS: system PLL 0 has been without lock for 16 ms while DDR5 is active (R360). -/
def Dev.clockLoss (d : Dev) : Dev :=
  if d.trained ∧ d.fld .mcg 0 Off.MCG_SR_STAT 0 2 = 0 ∧ !(d.pllState 8 = 3 ∨ d.pllState 8 = 4) then
    (d.flag .mcg 0 13).fault 9 0 0 0
  else d

/-! TRAINING (R332 to R336) -/

/-- The rate ceiling of a population, MT/s (R333). -/
def rateCeiling (topology ranks : Nat) : Nat :=
  if topology = 2 then (if ranks = 4 then 5600 else 6400) else if ranks = 1 then 8800 else 8000

/-- The chosen rate: the highest of R333 that is not above the limit. -/
def rateOf (limit : Nat) : Nat := ([4800, 5600, 6400, 7200, 8000, 8800].filter (· ≤ limit)).getLastD 0

/-- A supported configuration (R332, R333). -/
def TrainReport.supported (t : TrainReport) : Bool :=
  let ranks := 2 ^ t.ranksLog.val
  !(ranks == 4 && !t.x8 && t.gb32) && (ranks != 4 || t.topology == 2) && (t.topology != 2 || ranks != 1) && decide (rateOf t.rate ≠ 0)

/-- RESULT of TRAINING (R336, R362): the spare replaces a failed rank where it trained. -/
def trainResult (t : TrainReport) (spare : Option Nat) : Nat :=
  let fixed : Bool := match spare with
    | some k => t.fails.all (fun f => f.2.val != k) && allDiffer (t.fails.map fun f => f.1.val)
    | none => (false : Bool)
  if !t.supported then 5
  else if t.fails.isEmpty then (if t.hbmFailed then 6 else if t.restored then 2 else 3)
  else if fixed then (if t.hbmFailed then 6 else 4)
  else if t.retryPassed then (if t.hbmFailed then 6 else 3) else 5

/-- The state of a physical rank after TRAINING. -/
def rankAfter (ranks : Nat) (spare : Option Nat) (failed : Option Nat) (k : Nat) : Nat :=
  if ranks ≤ k then 0
  else if failed = some k then 4
  else if spare = some k then (if failed.isSome then 1 else 2) else 1

/-- Log₂ of a rank's capacity in GiB (R332). -/
def rankGibLog (x8 gb32 : Bool) : Nat := 3 + (!x8).toNat + gb32.toNat

/-- The rank states and the ranks that logical ranks map to. -/
def Dev.setRanks (d : Dev) (ranks : Nat) (spare : Option Nat) (fails : List (Fin 16 × Fin 4)) : Dev :=
  let d1 := (List.range 16).foldl (fun x u =>
    let f := (fails.find? fun y => y.1.val == u).map fun y => y.2.val
    let mapped := (List.range ranks).filter fun k => spare != some k
    let phys := mapped.map fun k => if f = some k then spare.getD k else k
    let x1 := (List.range 4).foldl (fun y k => y.setRank u k (rankAfter ranks spare f k)) x
    let put := fun (t : Tbl Nat) (y : Nat × Nat) => Tbl.set (fun k => k % 4) t (4 * u + y.2) y.1
    x1.onMc fun m => { m with ranks := (phys.zip (List.range 4)).foldl put m.ranks }) d
  d1.showSpares

/-- The map of the settings where they hold a legal one, else the default map. -/
def trainMap (t : TrainReport) (c r k : Nat) (three : Bool) : AddrMap :=
  match t.map with
  | none => defaultMap c r k
  | some (w, l) =>
    let m : AddrMap := { masks := (List.range 9).map fun i => (l.getD i 0).toNat, colPos := bitsOf w 0 6, rowPos := bitsOf w 8 6
                         rankPos := bitsOf w 16 6, c := c, r := r, k := k }
    if m.legal three then m else defaultMap c r k

/-- What TRAINING leaves in the memory controller and the memories (R334 to R336). -/
def Dev.trainMemory (d : Dev) (t : TrainReport) : Dev :=
  let ranks := 2 ^ t.ranksLog.val
  let spare := if d.bit .mcg 0 Off.MCG_SPARE_CTRL 0 && decide (2 ≤ ranks) && decide (d.fld .mcg 0 Off.MCG_SPARE_CTRL 1 2 < ranks)
    then some (d.fld .mcg 0 Off.MCG_SPARE_CTRL 1 2) else none
  let result := trainResult t spare
  let fails := if result = 4 ∨ (result = 6 ∧ !t.retryPassed) then t.fails else []
  let mapped := ranks - spare.isSome.toNat
  let c := if t.x8 then 6 else 7
  let r := if t.gb32 then 17 else 16
  let m := trainMap t c r (rankBits mapped) (mapped == 3)
  let gib := if result = 5 then 0 else mapped * 16 * 2 ^ rankGibLog t.x8 t.gb32
  let rate := rateOf (min t.rate (rateCeiling t.topology.val ranks))
  let d1 := d.wrN .mcg 0 Off.MCG_DRAM_CFG
    (t.x8.toNat + t.gb32.toNat * 2 + ranks * 4 + t.topology.val * 32 + t.drfm.toNat * 128 + rate * 65536)
  let first := match t.fails with | f :: _ => f.1.val * 16 + f.2.val * 256 | [] => 0
  let d2 := (d1.wrN .mcg 0 Off.MCG_INSTALLED (gib + (if result = 5 then 0 else m.width * 65536))).wrN .mcg 0 Off.MCG_TRAIN_STAT
    (result + first + min t.ms 0xFFFF * 65536)
  let d3 := { d2 with mem := [], poison := [], fm := [], fmBad := [] }
  let d4 := if result = 5 then d3.onMc fun x => { x with map := none }
    else ((d3.showMap m).setRanks ranks spare fails).onMc fun x => { x with map := some m }
  let d5 := (List.range 8).foldl (fun x i => if t.drfm then x.setB .mcc i Off.PAGE_CAP 8 true else x) d4
  let d6 := if result = 4 ∨ !fails.isEmpty then d5.degrade 0 else (d5.undegrade 0).undegrade 1
  if 5 ≤ result then d6.flag .mcg 0 12 else d6

end Sys2Proof.Machine
end

