-- ==== Sys2Proof/Machine/BltConf.lean ====
section
/-! DEFINITION. The block engine's surfaces, parameter checks and conversions ("Block copy and fill engine"). -/

namespace Sys2Proof.Machine

/-! Surfaces (R375) -/

/-- A surface and a rectangle of it, in pixels of plane 0. -/
structure Surf where
  code : Nat
  depth : Nat
  tiled : Bool
  x : Nat
  y : Nat
  w : Nat
  h : Nat
  bases : List Nat
  strides : List Nat
deriving DecidableEq, Repr

/-- A 40-bit address in use on the BLT page. -/
def Dev.bltAddr (d : Dev) (off : Nat) : Nat := (d.use .blt 0 off).toNat + d.useF .blt 0 (off + 4) 0 8 * 2 ^ 32

/-- The source (`dst` false) or destination rectangle of the operation in use. -/
def Dev.bltSurf (d : Dev) (dst : Bool) : Surf :=
  let f := if dst then Off.BLT_DST_FORMAT else Off.BLT_SRC_FORMAT
  let p := if dst then Off.BLT_DST_POS else Off.BLT_SRC_POS
  let b := if dst then Off.BLT_DST_PLANE_LO else Off.BLT_SRC_PLANE_LO
  let s := if dst then Off.BLT_DST_STRIDE else Off.BLT_SRC_STRIDE
  { code := d.useF .blt 0 f 0 8, depth := d.useF .blt 0 f 8 2, tiled := d.useB .blt 0 f 10
    x := d.useF .blt 0 p 0 15, y := d.useF .blt 0 p 16 15
    w := d.useF .blt 0 Off.BLT_SIZE 0 15, h := d.useF .blt 0 Off.BLT_SIZE 16 15
    bases := [0, 1, 2].map fun k => d.bltAddr (b + 8 * k)
    strides := [0, 1, 2].map fun k => d.useF .blt 0 (s + 4 * k) 0 22 }

/-- The format of a surface; a code outside R70 is checked before this is read. -/
def Surf.fmt (s : Surf) : Fmt := (Fmt.ofCode s.code).getD .rgba8
/-- Planes it uses. -/
def Surf.planes (s : Surf) : List Nat := List.range s.fmt.planes
def Surf.base (s : Surf) (k : Nat) : Nat := s.bases.getD k 0
def Surf.stride (s : Surf) (k : Nat) : Nat := s.strides.getD k 0

/-- Elements of a plane's rectangle: its first element and row, its elements per row and its rows. -/
def Surf.rect (s : Surf) (k : Nat) : Nat × Nat × Nat × Nat :=
  (s.fmt.rowElems k s.x, s.fmt.rows k s.y, s.fmt.rowElems k s.w, s.fmt.rows k s.h)

/-- Address of element (i, j) of a plane (R69, R75). -/
def Surf.addr (s : Surf) (k i j : Nat) : Nat :=
  let bpe := s.fmt.elem k
  if s.tiled then
    let t := tileShape bpe
    s.base k + j / t.2 * s.stride k + i / t.1 * 4096 + (j % t.2 * t.1 + i % t.1) * bpe
  else s.base k + j * s.stride k + i * bpe

/-- The byte range of a plane's rectangle, first and last byte (R377). -/
def Surf.range (s : Surf) (k : Nat) : Nat × Nat :=
  let (i, j, n, m) := s.rect k
  if s.tiled then
    let t := (tileShape (s.fmt.elem k)).2
    (s.base k + j / t * s.stride k, s.base k + ((j + m - 1) / t + 1) * s.stride k - 1)
  else (s.addr k i j, s.addr k (i + n) (j + m - 1) - 1)

/-! Parameter checks (R384) -/

/-- The format's conversion class: 0 RGB, 1 L, 2 YCbCr (R374). -/
def Fmt.convClass (f : Fmt) : Nat := if f.ycc then 2 else if f = .l8 ∨ f = .l16 then 1 else 0

/-- A format with depth in the high bits of 16-bit words (R71). -/
def Fmt.hasDepth (f : Fmt) : Bool := f == .y16_420 || f == .y16_422 || f == .y16_444

/-- A code of R70 with a legal DEPTH. -/
def Surf.formatOk (s : Surf) : Bool :=
  match Fmt.ofCode s.code with
  | none => false
  | some f => if f.hasDepth then decide (s.depth < 2) else decide (s.depth = 0)

/-- The stride rules of R375. -/
def Surf.strideOk (s : Surf) (k : Nat) : Bool :=
  let e := s.fmt.elem k
  let n := s.fmt.rowElems k (s.x + s.w)
  if s.tiled then
    decide (s.stride k % 4096 = 0 ∧ s.stride k ≤ 2 ^ 21 ∧ ceilDiv n (tileShape e).1 * 4096 ≤ s.stride k)
  else decide (s.stride k % 64 = 0 ∧ s.stride k ≤ 2 ^ 20 ∧ n * e ≤ s.stride k)

/-- Positions and sizes are multiples of their granules. -/
def Surf.granuleOk (s : Surf) : Bool :=
  let g := s.fmt.granule
  decide (s.x % g.1 = 0 ∧ s.w % g.1 = 0 ∧ s.y % g.2 = 0 ∧ s.h % g.2 = 0)

/-- Δ split into rows and bytes: Δy nearest Δ / S, ties toward zero, and Δx (R378). -/
def splitDelta (delta : Int) (stride : Nat) : Int × Int :=
  let m := (2 * delta.natAbs + stride - 1) / (2 * stride)
  let y : Int := if delta < 0 then -(m : Int) else m
  (y, delta - y * stride)

/-- The overlapping pairs of source and destination planes (R377). -/
def overlaps (s t : Surf) : List (Nat × Nat) :=
  (s.planes.flatMap fun a => t.planes.map fun b => (a, b)).filter fun x =>
    decide ((s.range x.1).1 ≤ (t.range x.2).2 ∧ (t.range x.2).1 ≤ (s.range x.1).2)

/-- Δy and Δx of an overlapping plane (R378). -/
def planeDelta (s t : Surf) (k : Nat) : Int × Int := splitDelta ((t.range k).1 - (s.range k).1) (s.stride k)

/-- Why an overlap is illegal (R377, R378). -/
def overlapReason (op : Nat) (s t : Surf) : Option Nat :=
  let l := overlaps s t
  if l.isEmpty then none
  else if op = 2 then some 0xDD
  else if l.any fun x => s.stride x.1 != t.stride x.2 then some 0xDE
  else if s.tiled || t.tiled then some 0xDF
  else if l.any fun x => x.1 != x.2 then some 0xE0
  else if l.any fun x => decide (s.stride x.1 < (s.rect x.1).2.2.1 * s.fmt.elem x.1 + (planeDelta s t x.1).2.natAbs) then some 0xE1
  else none

/-- The first failing check of the operation in use, in ascending order of its code (R371, R384). -/
def Dev.bltReason (d : Dev) : Option Nat :=
  let op := d.useF .blt 0 Off.BLT_OP_CTRL 0 2
  let t := d.bltSurf true
  let s := d.bltSurf false
  let used := if op = 0 then [t] else [s, t]
  let fence := d.bltAddr Off.BLT_DONE_ADDR_LO
  let done := d.useB .blt 0 Off.BLT_OP_CTRL 2
  if op = 3 then some 0xD2
  else if used.any fun x => !x.formatOk then some 0xD3
  else if op = 1 ∧ (s.code ≠ t.code ∨ s.depth ≠ t.depth) then some 0xD4
  else if op = 2 ∧ s.fmt.convClass ≠ t.fmt.convClass then some 0xD5
  else if used.any fun x => x.tiled && x.fmt.packed then some 0xD6
  else if used.any fun x => x.planes.any fun k => x.base k % (if x.tiled then 4096 else 64) != 0 then some 0xD7
  else if used.any fun x => x.planes.any fun k => !x.strideOk k then some 0xD8
  else if used.any fun x => decide (x.w = 0 ∨ x.h = 0 ∨ 16384 < x.x + x.w ∨ 16384 < x.y + x.h) then some 0xD9
  else if used.any fun x => !x.granuleOk then some 0xDA
  else if used.any (fun x => x.planes.any fun k => decide (d.core.installed ≤ (x.range k).2))
      || (done && decide (d.core.installed < fence + 8)) then some 0xDB
  else if done && fence % 8 != 0 then some 0xDC
  else if op = 0 then none else overlapReason op s t

/-! Samples -/

/-- A sample code read from the source, and whether it came from a poisoned line. -/
abbrev Samp := Nat × Bool

/-- An element of the source: zero where MWIN denies its line, marked where the line reads poison (R379). -/
def Dev.bltElem (d : Dev) (s : Surf) (k i j : Nat) : Samp :=
  let a := s.addr k i j
  if !d.core.mwinAllows .blt (a / 64 * 64) 64 false then (0, false)
  else (leNat (readBytes d.mem a (s.fmt.elem k)), d.linePoisoned (a / 64))

/-- Bits of a component of an RGB or L format: index 0 to 3 for R, G, B, A. -/
def Fmt.compBits (f : Fmt) (c : Nat) : Nat :=
  match f with
  | .rgba8 | .bgra8 | .l8 => 8
  | .rgb10a2 => if c = 3 then 2 else 10
  | _ => 16

/-- First bit of a component of an RGB or L format. -/
def Fmt.compPos (f : Fmt) (c : Nat) : Nat :=
  match f with
  | .rgba8 => 8 * c
  | .bgra8 => 8 * (if c = 0 then 2 else if c = 2 then 0 else c)
  | .rgb10a2 => 10 * c
  | .rgba16 | .rgba16f => 16 * c
  | _ => 0

/-- Components of an RGB or L format. -/
def Fmt.comps (f : Fmt) : Nat := if f = .l8 ∨ f = .l16 then 1 else 4

/-- Bits of a YCbCr sample (R71). -/
def Surf.bits (s : Surf) : Nat :=
  if s.fmt.hasDepth then (if s.depth = 1 then 12 else 10) else if s.fmt.packed then 10 else 8

/-- a / b to the nearest, halves up. -/
def halfUp (a b : Nat) : Nat := (2 * a + b) / (2 * b)

/-- The binary16 nearest to a / b from 0 to 1, ties to even. -/
def f16Ratio (a b : Nat) : Nat :=
  let v := a * 2 ^ 24
  let s := (v / b).log2 - 10
  s * 1024 + roundEven v (b * 2 ^ s)

/-- A component converted between RGB or L formats (R374). -/
def convComp (f g : Fmt) (c v : Nat) : Nat :=
  let n := f.compBits c
  let m := g.compBits c
  if f = .rgba16f then
    if g = .rgba16f then v
    else
      let x := f16Val v
      halfUp ((max 0 (min (f20One : Int) x)).toNat * (2 ^ m - 1)) f20One
  else if g = .rgba16f then f16Ratio v (2 ^ n - 1)
  else halfUp (v * (2 ^ m - 1)) (2 ^ n - 1)

/-- A YCbCr code moved from n to m bits (R374). -/
def convCode (n m v : Nat) : Nat := if n ≤ m then v * 2 ^ (m - n) else min ((v + 2 ^ (n - m - 1)) / 2 ^ (n - m)) (2 ^ m - 1)

/-- A sample of a YCbCr element: its container of `size` bits at `pos`, the code in its high bits. -/
def codeAt (e : Samp) (pos size bits : Nat) : Samp := (e.1 / 2 ^ pos % 2 ^ size / 2 ^ (size - bits), e.2)

/-- Luma code of pixel (x, y) of the rectangle. -/
def Dev.bltLuma (d : Dev) (s : Surf) (x y : Nat) : Samp :=
  let (i, j, _, _) := s.rect 0
  if s.fmt.packed then codeAt (d.bltElem s 0 (i + x / 3) (j + y)) (10 * (x % 3)) 10 10
  else codeAt (d.bltElem s 0 (i + x) (j + y)) 0 (8 * s.fmt.elem 0) s.bits

/-- Chroma code `c` (0 Cb, 1 Cr) of chroma sample (x, y) of the rectangle, at the source's own resolution. -/
def Dev.bltChroma (d : Dev) (s : Surf) (c x y : Nat) : Samp :=
  let (i, j, _, _) := s.rect 1
  if s.fmt.packed then codeAt (d.bltElem s 1 (i + (2 * x + c) / 3) (j + y)) (10 * ((2 * x + c) % 3)) 10 10
  else if s.fmt = .y16_444 then codeAt (d.bltElem s (1 + c) (i + x) (j + y)) 0 16 s.bits
  else codeAt (d.bltElem s 1 (i + x) (j + y)) (4 * s.fmt.elem 1 * c) (4 * s.fmt.elem 1) s.bits

/-- (a + b + 1) >> 1. -/
def avg (a b : Samp) : Samp := ((a.1 + b.1 + 1) / 2, a.2 || b.2)

/-- Chroma of the destination at (x, y) of its own resolution: depth first, then columns, then rows; upsampling replicates (R374). -/
def Dev.bltChromaTo (d : Dev) (s t : Surf) (c x y : Nat) : Samp :=
  let at_ := fun (i j : Nat) => let v := d.bltChroma s c i j; ((convCode s.bits t.bits v.1, v.2) : Samp)
  let sh := s.fmt != .y16_444
  let th := t.fmt != .y16_444
  let col := fun (j : Nat) => if sh == th then at_ x j else if th then avg (at_ (2 * x) j) (at_ (2 * x + 1) j) else at_ (x / 2) j
  if s.fmt.half == t.fmt.half then col y else if t.fmt.half then avg (col (2 * y)) (col (2 * y + 1)) else col (y / 2)

/-- A YCbCr code in its container, the bits below it as `low` gives them. -/
def inContainer (size bits low v : Nat) : Nat := v * 2 ^ (size - bits) + low % 2 ^ (size - bits)

/-- An element of a YCbCr destination from its luma and chroma codes; `pad` gives the bits that no reader uses (R71). -/
def Surf.yccElem (t : Surf) (luma : Nat → Nat → Samp) (chroma : Nat → Nat → Nat → Samp) (pad k i j : Nat) : Samp :=
  if t.fmt.packed then
    let l := [0, 1, 2].map fun q => if k = 0 then luma (3 * i + q) j else chroma ((3 * i + q) % 2) ((3 * i + q) / 2) j
    ((l.getD 0 (0, false)).1 + (l.getD 1 (0, false)).1 * 2 ^ 10 + (l.getD 2 (0, false)).1 * 2 ^ 20 + pad % 4 * 2 ^ 30, l.any (·.2))
  else
    let size := 8 * t.fmt.elem 0
    if k = 0 then let v := luma i j; (inContainer size t.bits pad v.1, v.2)
    else if t.fmt = .y16_444 then let v := chroma (k - 1) i j; (inContainer size t.bits pad v.1, v.2)
    else
      let a := chroma 0 i j
      let b := chroma 1 i j
      (inContainer size t.bits pad a.1 + inContainer size t.bits (pad / 65536) b.1 * 2 ^ size, a.2 || b.2)

/-- Component c of the FILL registers (R373). -/
def Dev.fillComp (d : Dev) (c : Nat) : Nat := d.useF .blt 0 (if c < 2 then Off.BLT_FILL_01 else Off.BLT_FILL_23) (16 * (c % 2)) 16

/-- The element that an operation writes at (i, j) of a plane of the destination rectangle (R372 to R374). -/
def Dev.bltValue (d : Dev) (op : Nat) (s t : Surf) (k i j : Nat) : Samp :=
  let (x, y, _, _) := t.rect k
  let pad := Config.ignoredBits d.core.free (t.addr k (x + i) (y + j))
  let g := t.fmt
  if op = 1 then
    let (u, v, _, _) := s.rect k
    d.bltElem s k (u + i) (v + j)
  else if g.ycc then
    if op = 0 then
      let code := fun c => ((convCode 16 t.bits (d.fillComp c), false) : Samp)
      t.yccElem (fun _ _ => code 0) (fun c _ _ => code (1 + c)) pad k i j
    else
      t.yccElem (fun a b => let v := d.bltLuma s a b; (convCode s.bits t.bits v.1, v.2)) (d.bltChromaTo s t) pad k i j
  else
    let src := if op = 0 then (0, false) else d.bltElem s 0 (s.x + i) (s.y + j)
    let f := if op = 0 then Fmt.rgba16 else s.fmt
    let comp := fun c =>
      if op = 0 then (if g = .rgba16f then d.fillComp c else convComp f g c (d.fillComp c))
      else convComp f g c (src.1 / 2 ^ f.compPos c % 2 ^ f.compBits c)
    (((List.range g.comps).map fun c => comp c * 2 ^ g.compPos c).sum, src.2)

end Sys2Proof.Machine
end

