-- ==== Sys2Proof/Machine/Blt.lean ====
section
/-! DEFINITION. The block engine's operations: start, abort, end and done fence ("Block copy and fill engine"). -/

namespace Sys2Proof.Machine

/-- BLT_STAT: busy, result, and the order chosen for plane 0 (R383). -/
def Dev.bltStat (d : Dev) (busy : Bool) (result : Nat) (up right : Bool) : Dev :=
  d.wrN .blt 0 Off.BLT_BLT_STAT (busy.toNat + result * 2 + up.toNat * 16 + right.toNat * 32)

/-- A plane's order: rows bottom to top, and pixels right to left (R378). -/
def Dev.bltOrder (d : Dev) (k : Nat) : Bool × Bool :=
  if d.useF .blt 0 Off.BLT_OP_CTRL 0 2 ≠ 1 then (false, false)
  else
    let s := d.bltSurf false
    let t := d.bltSurf true
    if (overlaps s t).contains (k, k) then
      let x := planeDelta s t k
      (decide (0 < x.1), decide (0 < x.2))
    else (false, false)

/-- BLT_START: an armed commit applies, the operation is counted and checked, and runs from the active values (R369 to R371). -/
def Dev.bltStart (d : Dev) (r : Requester) : Dev :=
  if d.blt.op.isSome then d.reject r .blt 0 Off.BLT_CMD 0xD0
  else if !([4, 5, 6, 7, 8, 10].contains d.mode) then d.reject r .blt 0 Off.BLT_CMD 0xD1
  else if d.moving then d.reject r .blt 0 Off.BLT_CMD 0x1A
  else
    let d1 := d.countUp .blt 0
    let d2 := if (d1.armOf .blt 0).isSome then (d1.applyPage .blt 0 (d1.count .blt 0)).onCore (·.bringIntoUse .blt 0) else d1
    let d3 := ((((d2.wrN .blt 0 Off.BLT_ROWS_DONE 0).wrN .blt 0 Off.BLT_BYTES_LAST 0).wrN .blt 0 Off.BLT_TIME_NS 0).wrN
      .blt 0 Off.BLT_POISON_LINES 0).wrN .blt 0 Off.BLT_DROP_COUNT 0
    match d3.bltReason with
    | some e => ((d3.bltStat false 4 false false).wrN .blt 0 Off.BLT_BLT_REJECT e).flag .blt 0 9 e
    | none =>
      let o := d3.bltOrder 0
      { d3.bltStat true 0 o.1 o.2 with blt := { d3.blt with op := some { start := d3.now } } }

/-- BLT_ABORT: the engine stops issuing requests (R370, R380). -/
def Dev.bltAbort (d : Dev) : Dev :=
  match d.blt.op with
  | none => d
  | some o => { d with blt := { d.blt with op := some { o with abort := true } } }

/-! Moving the data -/

/-- The rows of the destination in the order they are written: plane and row (R378). -/
def Dev.bltRows (d : Dev) : List (Nat × Nat) :=
  let t := d.bltSurf true
  t.planes.flatMap fun k =>
    let l := List.range (t.rect k).2.2.2
    (if (d.bltOrder k).1 then l.reverse else l).map fun j => (k, j)

/-- One 64-byte access of a row: its address, bytes, and whether it is written as poison. -/
structure Piece where
  addr : Nat
  bytes : List (BitVec 8)
  bad : Bool
deriving DecidableEq, Repr

/-- Add an element's bytes to the accesses of its row: consecutive elements of one line join. -/
def addElem (l : List Piece) (a : Nat) (bs : List (BitVec 8)) (bad : Bool) : List Piece :=
  match l with
  | p :: r =>
    if p.addr / 64 = a / 64 ∧ p.addr + p.bytes.length = a then { p with bytes := p.bytes ++ bs, bad := p.bad || bad } :: r
    else { addr := a, bytes := bs, bad := bad } :: l
  | [] => [{ addr := a, bytes := bs, bad := bad }]

/-- The accesses that write elements `lo` up to below `hi` of a row of the destination, in ascending order, as a device reads its sources. -/
def Dev.rowPieces (d : Dev) (k j lo hi : Nat) : List Piece :=
  let op := d.useF .blt 0 Off.BLT_OP_CTRL 0 2
  let s := d.bltSurf false
  let t := d.bltSurf true
  let (x, y, _, _) := t.rect k
  ((List.range (hi - lo)).foldl (fun l q =>
    let v := d.bltValue op s t k (lo + q) j
    addElem l (t.addr k (x + lo + q) (y + j)) (leBytes (t.fmt.elem k) v.1) v.2) []).reverse

/-- The source rows that a destination row is made from: plane and row of the source rectangle. -/
def rowSources (op : Nat) (s t : Surf) (k j : Nat) : List (Nat × Nat) :=
  if op = 0 then []
  else if op = 1 ∨ k = 0 then [(k, j)]
  else
    let rows := if s.fmt.half == t.fmt.half then [j] else if t.fmt.half then [2 * j, 2 * j + 1] else [j / 2]
    (s.planes.filter fun q => q != 0 && (s.fmt != .y16_444 || t.fmt != .y16_444 || q == k)).flatMap fun q => rows.map fun r => (q, r)

/-- The source lines that rows of the destination read. -/
def Dev.sourceLines (d : Dev) (rows : List (Nat × Nat)) : List Nat :=
  let op := d.useF .blt 0 Off.BLT_OP_CTRL 0 2
  let s := d.bltSurf false
  let t := d.bltSurf true
  let src := (rows.flatMap fun r => rowSources op s t r.1 r.2).eraseDups
  (src.flatMap fun r =>
    let (x, y, n, _) := s.rect r.1
    (List.range n).map fun i => s.addr r.1 (x + i) (y + r.2) / 64).eraseDups

/-- Reads that MWIN denies are reported one by one (R67, R379). -/
def Dev.bltReads (d : Dev) (lines : List Nat) : Dev × Nat :=
  let bad := lines.filter fun l => !d.core.mwinAllows .blt (64 * l) 64 false
  (bad.foldl (fun x l => x.onCore (·.denyMem .blt (64 * l) false)) d, bad.length)

/-- Write the accesses of a row in turn. -/
def Dev.bltWrites (d : Dev) (sum : BltSum) : List Piece → Dev × BltSum
  | [] => (d, sum)
  | p :: r =>
    let (d1, f) := d.dramWrite .blt p.addr p.bytes p.bad
    let wrote := f == .landed || f == .stalled
    Dev.bltWrites d1 { sum with bytes := sum.bytes + if wrote then p.bytes.length else 0
                                poison := sum.poison + p.bad.toNat
                                first := if p.bad then some (sum.first.getD (p.addr / 64 * 64)) else sum.first } r

/-- The rows that an operation writes whole, `full` of them in its own order, and the next one if it writes a part of it. -/
def Dev.bltFull (d : Dev) (full : Nat) : List (Nat × Nat) := d.bltRows.take full
def Dev.bltNext (d : Dev) (full part : Nat) : List (Nat × Nat) := (d.bltRows.drop full).take (if part = 0 then 0 else 1)

/-- All the accesses of an operation: `full` rows, then `part` elements of the next, both in its own order. -/
def Dev.bltPieces (d : Dev) (full part : Nat) : List Piece :=
  let t := d.bltSurf true
  let whole := (d.bltFull full).flatMap fun r => d.rowPieces r.1 r.2 0 (t.rect r.1).2.2.1
  let rest := (d.bltNext full part).flatMap fun r =>
    let n := (t.rect r.1).2.2.1
    let m := min part n
    if (d.bltOrder r.1).2 then d.rowPieces r.1 r.2 (n - m) n else d.rowPieces r.1 r.2 0 m
  whole ++ rest

/-- Make the accesses of an operation. What is written is derived from the sources as they stand before the first write: no legal overlap
gives another result (R377). -/
def Dev.bltMove (d : Dev) (full part : Nat) : Dev × BltSum :=
  let (d1, denied) := d.bltReads (d.sourceLines (d.bltFull full ++ d.bltNext full part))
  let (d2, sum) := d1.bltWrites { rows := ((d.bltFull full).filter fun r => r.1 == 0).length } (d.bltPieces full part)
  (d2, { sum with drops := denied })

/-! The end -/

/-- Writes of the block engine still stalled. -/
def Dev.bltStalled (d : Dev) : Bool := d.stalled.any fun w => w.who == Requester.blt

/-- Publish the result of an operation (R371 step 5, R379, R383). -/
def Dev.bltPublish (d : Dev) (o : BltOp) (sum : BltSum) : Dev :=
  let drops := sum.drops + (d.dropped.filter fun x => x.1 == Requester.blt).length
  let result := if o.abort then 5 else if drops ≠ 0 then 3 else if sum.poison ≠ 0 then 2 else 1
  let w := d.rd .blt 0 Off.BLT_BLT_STAT
  let d1 := { d.bltStat false result (bitOf w 4) (bitOf w 5) with
    dropped := d.dropped.filter fun x => x.1 != Requester.blt, blt := { d.blt with op := none } }
  let d2 := ((((d1.wrN .blt 0 Off.BLT_ROWS_DONE sum.rows).wr .blt 0 Off.BLT_BYTES_LAST (satWord sum.bytes)).wr
    .blt 0 Off.BLT_TIME_NS (satWord (d.now - o.start))).wr .blt 0 Off.BLT_POISON_LINES (satWord sum.poison)).wr
    .blt 0 Off.BLT_DROP_COUNT (satWord drops)
  let d3 := match sum.first with
    | some a => d2.flag .blt 0 10 0 (BitVec.ofNat 32 a) (BitVec.ofNat 32 (a / 2 ^ 32))
    | none => d2
  let d4 := if drops ≠ 0 then d3.flag .blt 0 11 else d3
  let d5 := if o.abort then d4.flag .blt 0 12 else d4
  if d5.useB .blt 0 Off.BLT_OP_CTRL 2 && (result == 1 || result == 2) then
    let v := (d5.use .blt 0 Off.BLT_DONE_VAL_LO).toNat + (d5.use .blt 0 Off.BLT_DONE_VAL_HI).toNat * 2 ^ 32
    { d5 with blt := { d5.blt with fences := d5.blt.fences ++ [(d5.bltAddr Off.BLT_DONE_ADDR_LO, v, false)] } }
  else d5.flag .blt 0 8

/-- The accesses of an operation are made, unless they have been: an aborted one stops after `full` rows and `part` elements. -/
def Dev.bltRun (d : Dev) (o : BltOp) (full part : Nat) : Dev × BltSum :=
  match o.moved with
  | some s => (d, s)
  | none => if o.abort then d.bltMove full part else d.bltMove d.bltRows.length 0

/-- BLT_OP_DONE: the operation's accesses are made, and it ends once none of its writes is stalled. An aborted one has written `full` rows,
and `part` elements of the next (R379, R380). -/
def Dev.bltOpDone (d : Dev) (full part : Nat) : Dev :=
  match d.blt.op with
  | none => d
  | some o =>
    let (d1, sum) := d.bltRun o full part
    let d2 := { d1 with blt := { d1.blt with op := some { o with moved := some sum } } }
    let d3 := { d2 with core := { d2.core with free := d2.core.free + 1 } }
    if d3.bltStalled then d3 else d3.bltPublish o sum

/-- BLT_DONE_FENCE: the oldest done fence is written, and DONE sets once the write has retired (R371 step 6); a dropped fence write sets
flag 11 (R379). -/
def Dev.bltFence (d : Dev) : Dev :=
  match d.blt.fences with
  | [] => d
  | (a, v, issued) :: r =>
    let done := fun (x : Dev) => ({ x with blt := { x.blt with fences := r } } : Dev)
    if issued then
      if d.bltStalled then d
      else if d.dropped.any (fun x => x.1 == Requester.blt) then
        (done { d with dropped := d.dropped.filter fun x => x.1 != Requester.blt }).flag .blt 0 11
      else (done d).flag .blt 0 8
    else match d.dramWrite .blt a (leBytes 8 v) with
      | (d1, .landed) => (done d1).flag .blt 0 8
      | (d1, .stalled) => { d1 with blt := { d1.blt with fences := (a, v, true) :: r } }
      | (d1, _) => (done { d1 with dropped := d1.dropped.filter fun x => x.1 != Requester.blt }).flag .blt 0 11

end Sys2Proof.Machine
end

