-- ==== Sys2Proof/Machine/Xpt.lean ====
section
/-! DEFINITION. Rasters and their checks, link transports, training, hot plug, sideband and DSC encoders ("Raster timing",
"Output ports and link transports"). -/

namespace Sys2Proof.Machine

/-- A reading of a page's configuration: active values or values in use. -/
abbrev Reader := Page → Nat → Nat → Word

/-- The values in use. -/
def Dev.inUseReader (d : Dev) : Reader := d.use
/-- Active values on one page, values in use on every other. -/
def Dev.mixedReader (d : Dev) (q : Page) : Reader := fun p n off => if p = q then d.act p n off else d.use p n off
/-- A field through a reader. -/
def Reader.f (g : Reader) (p : Page) (n off lo len : Nat) : Nat := bitsOf (g p n off) lo len

/-! Raster checks (R249) -/

/-- Pixels per frame of a raster read by a reader. -/
def Reader.pix (g : Reader) (p : Nat) : Nat := g.f .scan p Off.SCAN_H_TIMING 16 16 * g.f .scan p Off.SCAN_V_TIMING 16 16

/-- A pixel rate outside 25 Mpix/s to 4.8 Gpix/s (R249). -/
def pixRateBad (pix num den : Nat) : Bool := decide (pix * num < 25000000 * den) || decide (4800000000 * den < pix * num)

/-- The reason that fails a raster at a rate (R249). -/
def rasterReason (g : Reader) (p num den : Nat) : Option Nat :=
  let ha := g.f .scan p Off.SCAN_H_TIMING 0 16
  let ht := g.f .scan p Off.SCAN_H_TIMING 16 16
  let va := g.f .scan p Off.SCAN_V_TIMING 0 16
  let vt := g.f .scan p Off.SCAN_V_TIMING 16 16
  let hs := g.f .scan p Off.SCAN_H_SYNC 0 16
  let hw := g.f .scan p Off.SCAN_H_SYNC 16 16
  let vs := g.f .scan p Off.SCAN_V_SYNC 0 16
  let vw := g.f .scan p Off.SCAN_V_SYNC 16 16
  let lines := g.f .scan p Off.SCAN_PHASE 0 16
  let px := g.f .scan p Off.SCAN_PHASE 16 16
  if ha < 64 ∨ 16384 < ha ∨ va < 64 ∨ 16384 < va ∨ ha % 2 = 1 then some 0x80
  else if ht % 2 = 1 ∨ 32768 < ht ∨ ht < ha + 32 ∨ 32768 < vt ∨ vt < va + 3 ∨ (vt - va) * den * 10000000 < 25 * num * vt then some 0x81
  else if hw = 0 ∨ vw = 0 ∨ ht < ha + hs + hw ∨ vt < va + vs + vw then some 0x82
  else if pixRateBad (ht * vt) num den then some 0x83
  else if vt ≤ lines ∨ ht ≤ px ∨ px % 4 ≠ 0 then some 0x84 else none

/-- A failure of a port's SCAN page or raster is reported (R242, R249). -/
def Dev.scanReject (d : Dev) (p reason : Nat) : Dev := (d.wrN .scan p Off.SCAN_SCAN_REJECT reason).flag .scan p 11 reason

/-- The raster in use is checked at the scene's active rate (R249). -/
def Dev.rasterRecheck (d : Dev) (p : Nat) : Dev :=
  let s := d.timingScene p
  match rasterReason d.inUseReader p (d.activeNum s) (d.activeDen s) with
  | none => d.setPort p { d.port p with rasterKnown := true, rasterOk := true }
  | some e => (d.setPort p { d.port p with rasterOk := false }).scanReject p e

/-! DSC encoders (R317, R318) -/

/-- The encoder whose configuration in use names a port: the lowest-numbered one (R317). -/
def Dev.encNaming (d : Dev) (p : Nat) : Option Nat :=
  (List.range 4).find? fun e => d.useB .dsc e Off.DSC_DSC_CTRL 0 && d.useF .dsc e Off.DSC_DSC_CTRL 1 3 == p

/-- The encoder that serves a port (R326). -/
def Dev.encServing (d : Dev) (p : Nat) : Option Nat :=
  (List.range 4).find? fun e => d.bit .dsc e Off.DSC_DSC_STAT 3 && d.fld .dsc e Off.DSC_DSC_STAT 0 3 == p

/-- PIX_ENC of a MODE: 4:4:4 serves RGB and YCbCr 4:4:4 (R301, R318). -/
def dscModeFits (mode enc : Nat) : Bool := if mode = 0 then decide (enc ≤ 1) else decide (enc = mode + 1)

/-- The reason that fails an encoder's parameters for the port they name (R318, R328). -/
def dscReason (d : Dev) (g : Reader) (e : Nat) : Option Nat :=
  let bpc := g.f .dsc e Off.DSC_DSC_CFG 0 2
  let mode := g.f .dsc e Off.DSC_DSC_CFG 2 2
  let bpp := g.f .dsc e Off.DSC_DSC_CFG 8 10
  let slices := g.f .dsc e Off.DSC_DSC_SLICE 0 5
  let h := g.f .dsc e Off.DSC_DSC_SLICE 16 13
  let bits := 8 + 2 * bpc
  let p := g.f .dsc e Off.DSC_DSC_CTRL 1 3
  let named := bitOf (g .dsc e Off.DSC_DSC_CTRL) 0
  let ha := d.hActive p
  let va := d.vActive p
  let s := d.timingScene p
  let range := if mode = 0 then (128, 48 * bits) else if mode = 1 then (112, 32 * bits) else (96, 24 * bits)
  if bpc = 3 ∨ mode = 3 then some 0xB0
  else if bpp < range.1 ∨ range.2 < bpp then some 0xB1
  else if slices % 4 ≠ 0 ∨ slices = 0 ∨ 16 < slices ∨ h < 8 ∨ (mode = 2 ∧ h % 2 = 1) then some 0xB2
  else if !named then none
  else if ha % slices ≠ 0 ∨ ha / slices < 64 ∨ 2560 < ha / slices ∨ va % h ≠ 0 then some 0xB2
  else if bpc ≠ d.useF .xpt p Off.XPT_PIX_CFG 2 2 ∨ !dscModeFits mode (d.useF .xpt p Off.XPT_PIX_CFG 0 2) then some 0xB3
  else if 4400000000 * d.activeDen s < d.rasterPix p * d.activeNum s then some 0xB5 else none

/-- A rejection of an encoder's configuration; RATE_HIGH sets for DSC_RATE (R327, R328). -/
def Dev.dscReject (d : Dev) (e reason : Nat) : Dev :=
  let d1 := (d.wrN .dsc e Off.DSC_DSC_REJECT reason).flag .dsc e 8 reason
  if reason = 0xB5 then d1.flag .dsc e 10 reason else d1

/-- The PPS is built anew; the spec leaves its bytes to DSC 1.2a: free values (R319). -/
def Dev.buildPps (d : Dev) (e : Nat) : Dev :=
  (List.range 32).foldl (fun x i => (x.wr .dsc e (Off.DSC_PPS + 4 * i) (x.core.freeNow.truncate 32)).freeStep) d

/-- The check of a DSC commit (R318). -/
def Dev.dscCheck (d : Dev) (e : Nat) : Dev :=
  let d1 := d.setEnc e { d.enc e with conflictTold := false }
  match dscReason d1 (d1.mixedReader .dsc) e with
  | none => ((d1.onCore (·.bringIntoUse .dsc e)).setEnc e { d1.enc e with dark := false }).buildPps e
  | some r => (if r = 0xB5 then d1.setEnc e { d1.enc e with dark := true } else d1).dscReject e r

/-- The encoder that serves a port is checked again after a change of raster or rate (R318). -/
def Dev.dscRecheck (d : Dev) (p : Nat) : Dev :=
  match d.encServing p with
  | none => d
  | some e => match dscReason d d.inUseReader e with
    | none => d.setEnc e { d.enc e with dark := false }
    | some r => (d.setEnc e { d.enc e with dark := true }).dscReject e r

/-! Transport configuration (R296 to R305, R311) -/

/-- Lanes of a LANES code of DisplayPort. -/
def laneCount (c : Nat) : Nat := if c = 0 then 1 else if c = 1 then 2 else 4

/-- Capacity of a DisplayPort or FRL link in b/s (R296, R302). -/
def linkCap (proto rate lanes : Nat) (fec : Bool) : Nat :=
  if proto = 0 then
    laneCount lanes * (if rate = 0 then 5400 else if rate = 1 then 8100 else if rate = 2 then 10000 else if rate = 3 then 13500 else 20000)
      * (if 2 ≤ rate then 940606 else if fec then 776000 else 800000)
  else (if rate ≤ 1 then 3 else 4)
    * (if rate = 0 then 3000 else if rate ≤ 2 then 6000 else if rate = 3 then 8000 else if rate = 4 then 10000 else 12000) * 862222

/-- Bits per pixel × 16 that a stream takes (R302). -/
def Dev.streamBits (d : Dev) (g : Reader) (p : Nat) : Nat :=
  let enc := g.f .xpt p Off.XPT_PIX_CFG 0 2
  let bpc := 8 + 2 * g.f .xpt p Off.XPT_PIX_CFG 2 2
  if bitOf (g .xpt p Off.XPT_PIX_CFG) 8 then
    match d.encNaming p with
    | some e => d.useF .dsc e Off.DSC_DSC_CFG 8 10
    | none => 0
  else if enc ≤ 1 then 48 * bpc
  else if enc = 2 then (if g.f .xpt p Off.XPT_XPT_CTRL 1 3 = 0 then 32 * bpc else 24 * 16)
  else 24 * bpc

/-- NEED × 16 × den, in b/s (R302). -/
def Dev.need16 (d : Dev) (g : Reader) (p : Nat) : Nat :=
  d.hActive p * d.streamBits g p * d.vTotal p * d.activeNum (d.timingScene p)

/-- NEED within a capacity in b/s. -/
def Dev.needFits (d : Dev) (g : Reader) (p cap : Nat) : Bool :=
  decide (d.need16 g p ≤ cap * 16 * d.activeDen (d.timingScene p))

/-- NEED_MBPS: rounded up; 0 for TMDS and SDI (R302, R323). -/
def Dev.needMbps (d : Dev) (p : Nat) : Nat :=
  let proto := d.useF .xpt p Off.XPT_XPT_CTRL 1 3
  if proto = 0 ∨ proto = 2 then
    let q := 16 * d.activeDen (d.timingScene p) * 1000000
    (d.need16 d.inUseReader p + q - 1) / q
  else 0

/-- The nominal rate of R304 that equals a rate, in Hz: 24, 25, 30, 50 or 60, or one of 24, 30 and 60 divided by 1.001. -/
def sdiRate (num den : Nat) : Option Nat :=
  match [24, 25, 30, 50, 60].find? (fun r => num == r * den) with
  | some r => some r
  | none => [24, 30, 60].find? fun r => num * 1001 == r * 1000 * den

/-- H_TOTAL of an SDI mode at a nominal rate (R304); none where the mode has no such rate. -/
def sdiTotal (mode rate : Nat) : Option Nat :=
  let base := if rate = 24 then 2750 else if rate = 25 ∨ rate = 50 then 2640 else 2200
  if mode = 0 then (if rate ≤ 30 then some base else none)
  else if mode = 1 then some base
  else if mode = 2 then (if 50 ≤ rate then some base else none)
  else if mode = 3 then some (2 * base) else some (4 * base)

/-- A raster and rate of the table of R304. -/
def sdiFits (mode ha ht va vt num den : Nat) : Bool :=
  let k := if mode ≤ 2 then 1 else if mode = 3 then 2 else 4
  match sdiRate num den with
  | none => false
  | some r => decide (sdiTotal mode r = some ht) && decide (va = 1080 * k) && decide (vt = 1125 * k)
    && (decide (ha = 1920 * k) || decide (ha = 2048 * k))

/-- The lane map is a permutation of 0 to 3 (R297). -/
def lanePermutation (m : Word) : Bool := (List.range 4).all fun l => (List.range 4).any fun k => bitsOf m (2 * k) 2 == l

/-- The TMDS lane rate lies from 1.485 to 6 Gb/s (R303); units of b/s × 8 × den. -/
def tmdsFits (enc bpc pix num den : Nat) : Bool :=
  let lane := pix * num * 10 * (if enc ≤ 1 then 2 * bpc else if enc = 2 then 16 else bpc)
  decide (1485000000 * 16 * den ≤ lane) && decide (lane ≤ 6000000000 * 16 * den)

/-- The reason that fails a transport configuration (R325). -/
def xptReason (d : Dev) (g : Reader) (p : Nat) : Option Nat :=
  let proto := g.f .xpt p Off.XPT_XPT_CTRL 1 3
  let rate := g.f .xpt p Off.XPT_LINK_CFG 0 4
  let lanes := g.f .xpt p Off.XPT_LINK_CFG 4 2
  let fec := bitOf (g .xpt p Off.XPT_LINK_CFG) 6
  let enc := g.f .xpt p Off.XPT_PIX_CFG 0 2
  let bpcCode := g.f .xpt p Off.XPT_PIX_CFG 2 2
  let bpc := 8 + 2 * bpcCode
  let dsc := bitOf (g .xpt p Off.XPT_PIX_CFG) 8
  let sdi := g .xpt p Off.XPT_SDI_CFG
  let s := d.timingScene p
  let num := d.activeNum s
  let den := d.activeDen s
  let laneCtrl := g .ppll p Off.PPLL_LANE_CTRL
  if 4 ≤ proto ∨ (proto = 0 ∧ 4 < rate) ∨ (proto = 2 ∧ 5 < rate) ∨ (proto = 3 ∧ 4 < rate) ∨ (proto = 0 ∧ lanes = 3) ∨ bpcCode = 3
      ∨ 4 ≤ g.f .xpt p Off.XPT_PIX_CFG 4 3 ∨ g.f .xpt p Off.XPT_AVI_CFG 8 2 = 3 ∨ bitsOf sdi 2 2 = 3
      ∨ bitsOf sdi 16 5 < 9 ∨ 20 < bitsOf sdi 16 5 ∨ !lanePermutation (g .xpt p Off.XPT_LANE_MAP) then some 0xA0
  else if (proto = 0 ∧ dsc ∧ rate ≤ 1 ∧ !fec) ∨ ((proto = 1 ∨ proto = 3) ∧ dsc)
      ∨ (proto = 3 ∧ !((enc = 2 ∧ bpcCode = 1) ∨ (enc ≤ 1 ∧ bpcCode = 2 ∧ rate ≠ 0 ∧ rate ≠ 2 ∧ num ≤ 30 * den))) then some 0xA1
  else if (proto = 0 ∨ proto = 2) ∧ bitOf laneCtrl 0 then some 0xA2
  else if (proto = 1 ∨ proto = 3) ∧ (!bitOf laneCtrl 0 ∨ bitsOf laneCtrl 8 8 ≠ 16) then some 0xA2
  else if (proto = 0 ∨ proto = 2) ∧ !d.needFits g p (linkCap proto rate lanes fec) then some 0xA3
  else if proto = 1 ∧ !tmdsFits enc bpc (d.rasterPix p) num den then some 0xA4
  else if proto = 3 ∧ (!sdiFits rate (d.hActive p) (d.hTotal p) (d.vActive p) (d.vTotal p) num den) then some 0xA5
  else if bitOf sdi 1 ∧ !(proto = 3 ∧ rate = 0 ∧ num ≤ 30 * den) then some 0xA5 else none

/-- A failing transport configuration is reported (R311). -/
def Dev.xptReject (d : Dev) (p reason : Nat) : Dev := (d.wrN .xpt p Off.XPT_XPT_REJECT reason).flag .xpt p 12 reason

/-- LINK_STAT.STATE (R324): 0 OFF, 1 LOCKING, 2 NO_SINK, 3 TRAINING, 4 UP, 5 FAILED, 6 RELOCK. -/
def Dev.linkState (d : Dev) (p : Nat) : Nat := d.fld .xpt p Off.XPT_LINK_STAT 0 4
def Dev.setLinkState (d : Dev) (p v : Nat) : Dev := d.setF .xpt p Off.XPT_LINK_STAT 0 4 v
/-- Active video stops: VIDEO and DSC read 0. -/
def Dev.stopVideo (d : Dev) (p : Nat) : Dev := d.setF .xpt p Off.XPT_LINK_STAT 11 2 0
/-- PROTOCOL in use. -/
def Dev.proto (d : Dev) (p : Nat) : Nat := d.useF .xpt p Off.XPT_XPT_CTRL 1 3

/-- The configuration in use is checked again: a failing one keeps its link and sends no active video (R311). -/
def Dev.xptRecheck (d : Dev) (p : Nat) : Dev :=
  match xptReason d d.inUseReader p with
  | none => d.setXp p { d.xp p with bad := false }
  | some e => ((d.setXp p { d.xp p with bad := true }).stopVideo p).xptReject p e

/-- The check of an XPT commit (R311). -/
def Dev.xptCheck (d : Dev) (p : Nat) : Dev :=
  match xptReason d (d.mixedReader .xpt) p with
  | none => (d.onCore (·.bringIntoUse .xpt p)).setXp p { d.xp p with bad := false }
  | some e => d.xptReject p e

/-- Everything of a port that depends on the raster and the rate is checked again (R249, R311, R318). -/
def Dev.portRecheck (d : Dev) (p : Nat) : Dev :=
  let d1 := if d.portEnabled p then ((d.rasterRecheck p).xptRecheck p) else d
  let d2 := if d1.portEnabled p && !(d1.port p).rasterOk then d1.stopVideo p else d1
  d2.dscRecheck p

/-- Relock of a port (R251, R312): no active video, and its PLL moves to the new pixel rate. -/
def Dev.relock (d : Dev) (p : Nat) : Dev :=
  if !d.portEnabled p then d
  else
    let d1 := ((d.stopVideo p).setF .anch 0 (Off.ANCH_PORT_TSTAT + 4 * p) 0 2 2).coldLock p
    let d2 := if (d1.proto p = 1 ∨ d1.proto p = 3) ∧ d1.linkState p = 4 then d1.setLinkState p 6 else d1
    d2.xptRecheck p

/-! Retraining (R306, R307) -/

/-- A sink is present, or the protocol does not wait for one (R307, R314). -/
def Dev.sinkReady (d : Dev) (p : Nat) : Bool := d.proto p == 3 || d.bit .xpt p Off.XPT_HPD_STAT 1

/-- Step 4 and 5 of a retrain: training, or waiting for a sink. -/
def Dev.enterTraining (d : Dev) (p : Nat) : Dev :=
  if d.sinkReady p then
    (d.setLinkState p 3).setXp p { d.xp p with trainAt := d.now, attempt := none, candidates := [], skipped := false }
  else d.setLinkState p 2

/-- The PLL of a port holds declared lock. -/
def Dev.pllReady (d : Dev) (p : Nat) : Bool := decide (d.pllState p = 3) && d.pllBit p 6

/-- Steps 2 to 4 of a retrain, after the checks. -/
def Dev.startLink (d : Dev) (p : Nat) (wasEnabled : Bool) : Dev :=
  let d := if d.portEnabled p && wasEnabled then d else d.setPort p { d.port p with lastV := 0 }
  if !d.portEnabled p then
    (((d.setF .xpt p Off.XPT_LINK_STAT 0 20 0).setXp p { d.xp p with started := false }).setF .anch 0
      (Off.ANCH_PORT_TSTAT + 4 * p) 0 3 0).park p
  else if !wasEnabled || d.pllState p = 0 || d.pllState p = 5 then ((d.setF .xpt p Off.XPT_LINK_STAT 0 20 1).coldLock p).setF .anch 0
      (Off.ANCH_PORT_TSTAT + 4 * p) 0 2 2
  else if d.pllReady p then (d.setF .xpt p Off.XPT_LINK_STAT 0 20 0).enterTraining p
  else d.setF .xpt p Off.XPT_LINK_STAT 0 20 1

/-- A LINK page of a port waits for the coming retrain. -/
def Dev.linkArmed (d : Dev) (p : Page) (n : Nat) : Bool := (d.armOf p n).isSome

/-- A retrain of a port (R307): the count advances, active video stops, armed XPT and PPLL pages apply together, and their
configurations are checked. -/
def Dev.retrain (d : Dev) (p : Nat) : Dev :=
  let wasEnabled := d.portEnabled p
  let up := d.linkState p = 4 ∨ d.linkState p = 6
  let d1 := (d.countUp .xpt p).stopVideo p
  let d2 := if up then d1.linkFault p 9 else d1
  let k := d2.count .xpt p
  let ppll := d2.linkArmed .ppll p
  let xpt := d2.linkArmed .xpt p
  let d3 := if xpt then d2.applyPage .xpt p k else d2
  let d4 := if ppll then (d3.applyPage .ppll p k).pllCheck p else d3
  let d5 := if xpt then d4.xptCheck p else d4.xptRecheck p
  let d6 := if d5.portEnabled p && !wasEnabled then d5.rasterRecheck p else d5
  d6.startLink p wasEnabled

/-- A link is lost (R310): a retrain under AUTO_TRAIN, else FAILED. -/
def Dev.linkLost (d : Dev) (p : Nat) : Dev :=
  let d1 := d.inc .xpt p Off.XPT_LINK_LOSS
  if d.useB .xpt p Off.XPT_XPT_CTRL 4 then d1.retrain p
  else ((d1.stopVideo p).setLinkState p 5).linkFault p 9

/-- A link that is up is lost. -/
def Dev.linkLossEvent (d : Dev) (p : Nat) : Dev := if d.linkState p = 4 ∨ d.linkState p = 6 then d.linkLost p else d

/-- A write of CMD.RETRAIN (R306). -/
def Dev.retrainCmd (d : Dev) (r : Requester) (p : Nat) : Dev :=
  if d.portEnabled p then d.retrain p
  else (d.wrN .xpt p Off.XPT_XPT_REJECT 0xA8).reject r .xpt p Off.XPT_CMD 0xA8

/-! Training (R308, R309) -/

/-- Training fails (R310). -/
def Dev.trainFail (d : Dev) (p fail : Nat) : Dev := ((d.setLinkState p 5).setF .xpt p Off.XPT_LINK_STAT 16 4 fail).linkFault p 11 fail

/-- The fall-back order of DisplayPort for a configured lane code (R308). -/
def dpOrder (lanes : Nat) : List (Nat × Nat) :=
  (if lanes = 2 then [2, 1, 0] else if lanes = 1 then [1, 0] else [0]).flatMap fun l => [4, 3, 2, 1, 0].map fun r => (r, l)

/-- Whether a link configuration is the one asked for, or lowered to a sink's maximum. -/
def Dev.firstAttempt (d : Dev) (p sinkRate sinkLanes : Nat) : Nat × Nat :=
  let rate := d.useF .xpt p Off.XPT_LINK_CFG 0 4
  let lanes := d.useF .xpt p Off.XPT_LINK_CFG 4 2
  if d.proto p = 0 then (min rate sinkRate, min lanes sinkLanes) else if d.proto p = 2 then (min rate sinkRate, lanes) else (rate, lanes)

/-- The attempt under way, known once the sink's capabilities are. -/
def Dev.attempt (d : Dev) (p sinkRate sinkLanes : Nat) : Nat × Nat := ((d.xp p).attempt).getD (d.firstAttempt p sinkRate sinkLanes)

/-- FEC runs at a DisplayPort rate. -/
def Dev.fecAt (d : Dev) (p rate : Nat) : Bool := decide (2 ≤ rate) || d.useB .xpt p Off.XPT_LINK_CFG 6

/-- NEED fits a link. -/
def Dev.linkFits (d : Dev) (p rate lanes : Nat) : Bool :=
  d.needFits d.inUseReader p (linkCap (d.proto p) rate lanes (d.fecAt p rate))

/-- The next candidate, those left after it, and whether one was passed over (R308). -/
def Dev.nextCandidate (d : Dev) (p sinkRate sinkLanes : Nat) : List (Nat × Nat) → Bool → Option ((Nat × Nat) × List (Nat × Nat)) × Bool
  | [], sk => (none, sk)
  | x :: r, sk =>
    if d.linkFits p x.1 x.2 ∧ x.1 ≤ sinkRate ∧ x.2 ≤ sinkLanes then (some (x, r), sk) else d.nextCandidate p sinkRate sinkLanes r true

/-- The device cannot lower the link to what the sink supports. -/
def Dev.capsRefused (d : Dev) (p sinkRate sinkLanes : Nat) : Bool :=
  decide (d.proto p = 0) && !d.useB .xpt p Off.XPT_XPT_CTRL 5
    && (decide (sinkRate < d.useF .xpt p Off.XPT_LINK_CFG 0 4) || decide (sinkLanes < d.useF .xpt p Off.XPT_LINK_CFG 4 2))

/-- TRAINING_ATTEMPT_FAIL with the cause and what the sink supports or, for FRL, the rate it asks for (R308, R309). -/
def Dev.attemptFail (d : Dev) (p why sinkRate sinkLanes : Nat) : Dev :=
  if d.linkState p ≠ 3 then d
  else if d.capsRefused p sinkRate sinkLanes then d.trainFail p 1
  else
    let fb := d.useB .xpt p Off.XPT_XPT_CTRL 5
    let a := d.attempt p sinkRate sinkLanes
    let x := d.xp p
    if d.proto p = 0 ∧ fb then
      let rest := if x.attempt.isSome then x.candidates else ((dpOrder (d.useF .xpt p Off.XPT_LINK_CFG 4 2)).dropWhile (· != a)).drop 1
      match d.nextCandidate p sinkRate sinkLanes rest x.skipped with
      | (some (y, r), sk) => d.setXp p { x with attempt := some y, candidates := r, skipped := sk }
      | (none, sk) => d.trainFail p (if sk then 5 else why)
    else if d.proto p = 2 ∧ sinkRate < (x.attempt.getD (d.useF .xpt p Off.XPT_LINK_CFG 0 4, 0)).1 then
      if fb ∧ d.linkFits p sinkRate 0 then d.setXp p { x with attempt := some (sinkRate, 0) } else d.trainFail p 5
    else d.trainFail p why

/-- LINK_UP: training ends after `us` µs, NEED is checked against the trained link, and the link is up (R307). Codes that the spec
does not give for a protocol are free values. -/
def Dev.linkUp (d : Dev) (p us sinkRate sinkLanes : Nat) : Dev :=
  if d.linkState p ≠ 3 then d
  else if d.capsRefused p sinkRate sinkLanes then d.trainFail p 1
  else
    let a := d.attempt p sinkRate sinkLanes
    let proto := d.proto p
    if (proto = 0 ∨ proto = 2) ∧ !d.linkFits p a.1 a.2 then d.trainFail p 5
    else
      let d0 := d.advance ((d.xp p).trainAt + 1000 * us)
      let f := d0.freeNat
      let d1 := (d0.freeStep.setLinkState p 4).setF .xpt p Off.XPT_LINK_STAT 4 4 (if proto = 1 then f else a.1)
      let d2 := d1.setF .xpt p Off.XPT_LINK_STAT 8 2 (if proto = 0 then a.2 else f / 16)
      let d3 := d2.setB .xpt p Off.XPT_LINK_STAT 10 (if proto = 0 then d.fecAt p a.1 else decide (f / 64 % 2 = 1))
      let d4 := d3.wrN .xpt p Off.XPT_CAP_MBPS
        (if proto = 0 ∨ proto = 2 then linkCap proto a.1 a.2 (d.fecAt p a.1) / 1000000 else f / 128)
      (d4.wr .xpt p Off.XPT_TRAIN_US (satWord us)).flag .xpt p 8

/-! Hot plug (R308, R309, R313, R314) -/

/-- HPD_STAT.LEVEL and PRESENT. -/
def Dev.setHpd (d : Dev) (p : Nat) (b : Bool) : Dev := d.setF .xpt p Off.XPT_HPD_STAT 0 2 (if b then 3 else 0)

/-- HPD_QUALIFIED. -/
def Dev.hpdQualified (d : Dev) (p : Nat) : Dev :=
  if d.proto p = 3 then d
  else
    let d1 := (d.setHpd p true).flag .xpt p 10
    if !d1.portEnabled p then d1
    else if d1.linkState p = 2 then d1.enterTraining p
    else if d1.useB .xpt p Off.XPT_XPT_CTRL 4 ∧ d1.linkState p ≠ 1 then d1.retrain p
    else d1

/-- HPD_UNPLUG. -/
def Dev.hpdUnplug (d : Dev) (p : Nat) : Dev :=
  if d.proto p = 3 then d
  else
    let d1 := (d.setHpd p false).flag .xpt p 10
    if d1.linkState p = 4 ∨ d1.linkState p = 6 then d1.linkLost p
    else if d1.linkState p = 3 then d1.setLinkState p 2
    else d1

/-- IRQ_HPD, with what the device reads of the sink's link status. -/
def Dev.irqHpd (d : Dev) (p : Nat) (lost : Bool) : Dev :=
  if d.proto p ≠ 0 then d
  else
    let d1 := (d.setF .xpt p Off.XPT_HPD_STAT 8 8 (d.fld .xpt p Off.XPT_HPD_STAT 8 8 + 1)).flag .xpt p 10
    if lost ∧ d1.linkState p = 4 then d1.linkLost p else d1

/-- SCDC_POLL of an FRL link that is up, with whether the sink asks to retrain (R309). -/
def Dev.scdcPoll (d : Dev) (p : Nat) (ask : Bool) : Dev :=
  if ask ∧ d.proto p = 2 ∧ d.linkState p = 4 then d.linkLost p else d

/-! Sideband (R315, R316) -/

/-- SB_GO. -/
def Dev.sbGo (d : Dev) (r : Requester) (p : Nat) : Dev :=
  let op := d.fld .xpt p Off.XPT_SB_CTRL 0 3
  let rej := fun (e : Nat) => (d.wrN .xpt p Off.XPT_XPT_REJECT e).reject r .xpt p Off.XPT_CMD e
  if d.bit .xpt p Off.XPT_SB_STAT 0 then rej 0xA9
  else if d.proto p = 3 ∨ 6 ≤ op ∨ (d.proto p ≠ 0 ∧ op ≤ 3) ∨ (d.proto p = 0 ∧ 4 ≤ op) then rej 0xAA
  else d.setF .xpt p Off.XPT_SB_STAT 0 2 1

/-- A byte of SB_DATA. -/
def Dev.setSbByte (d : Dev) (p i : Nat) (b : BitVec 8) : Dev :=
  d.setF .xpt p (Off.XPT_SB_DATA + 4 * (i / 4)) (8 * (i % 4)) 8 b.toNat

/-- The operation reads. -/
def Dev.sbReads (d : Dev) (p : Nat) : Bool := d.fld .xpt p Off.XPT_SB_CTRL 0 1 == 1

/-- SB_DONE: the transaction ends with a result and the bytes that were transferred. -/
def Dev.sbDone (d : Dev) (p result : Nat) (bytes : List (BitVec 8)) : Dev :=
  if !d.bit .xpt p Off.XPT_SB_STAT 0 then d
  else
    let bs := bytes.take 16
    let d1 := if d.sbReads p then bs.zipIdx.foldl (fun x b => x.setSbByte p b.2 b.1) d else d
    (d1.setF .xpt p Off.XPT_SB_STAT 0 9 (2 + result % 4 * 4 + bs.length * 16)).flag .xpt p 15

/-! Timecode generator (R322) -/

/-- TC_LOAD. -/
def Dev.tcLoad (d : Dev) (r : Requester) (p : Nat) : Dev :=
  if d.useF .xpt p Off.XPT_SDI_CFG 2 2 ≠ 2 then (d.wrN .xpt p Off.XPT_XPT_REJECT 0xAB).reject r .xpt p Off.XPT_CMD 0xAB
  else d.setXp p { d.xp p with tcLoad := true }

/-- Two BCD digits. -/
def bcd (v : Nat) : Nat := v / 16 % 16 * 10 + v % 16
def toBcd (n : Nat) : Nat := n / 10 * 16 + n % 10

/-- A BCD timecode as hours, minutes, seconds, frames (R90). -/
def tcSplit (w : Word) : Nat × Nat × Nat × Nat := (bcd (bitsOf w 24 8), bcd (bitsOf w 16 8), bcd (bitsOf w 8 8), bcd (bitsOf w 0 8))
def tcJoin (h m s f : Nat) : Word := BitVec.ofNat 32 (toBcd h * 2 ^ 24 + toBcd m * 2 ^ 16 + toBcd s * 2 ^ 8 + toBcd f)

/-- The next timecode at `fps` frames per second; drop-frame numbering leaves out frames 0 and 1 of each minute but every tenth. -/
def tcNext (w : Word) (fps : Nat) (drop : Bool) : Word :=
  let (h, m, s, f) := tcSplit w
  if f + 1 < fps then tcJoin h m s (f + 1)
  else if s + 1 < 60 then tcJoin h m (s + 1) 0
  else
    let m1 := (m + 1) % 60
    let h1 := if m + 1 < 60 then h else (h + 1) % 24
    tcJoin h1 m1 0 (if drop ∧ m1 % 10 ≠ 0 then 2 else 0)

/-- Frame counts of the generator at a rate: the frames of a second that it numbers, and whether it counts pairs. -/
def tcBase (num den : Nat) : Nat × Bool :=
  let r := roundDiv num den
  if 30 * den < num then ((r + 1) / 2, true) else (r, false)

/-- The generator at a VBLANK_START (R322). -/
def Dev.tcStep (d : Dev) (p : Nat) : Dev :=
  let x := d.xp p
  let s := d.timingScene p
  let (num, den) := (d.activeNum s, d.activeDen s)
  let drop := d.useB .xpt p Off.XPT_SDI_CFG 4 && (num * 1001 == 30000 * den || num * 1001 == 60000 * den)
  let b := tcBase num den
  if x.tcLoad then d.setXp p { x with tcLoad := false, tc := d.rd .xpt p Off.XPT_TC_PRESET, tcSecond := false }
  else if b.2 ∧ !x.tcSecond then d.setXp p { x with tcSecond := true }
  else d.setXp p { x with tc := tcNext x.tc b.1 drop, tcSecond := false }

/-! What the PLL's events do to its port (R307, R312) -/

/-- Declared lock: a port that waits goes on, and lanes that follow the stream clock restart. -/
def Dev.portDeclared (d : Dev) (p : Nat) : Dev :=
  if d.linkState p = 1 then d.enterTraining p else if d.linkState p = 6 then d.setLinkState p 4 else d

/-- A PLL's lock declaration reaches its port. -/
def Dev.afterDeclare (d : Dev) (k : Nat) : Dev := if k < 8 ∧ d.pllReady k then d.portDeclared k else d

/-- The pin current of a PLL flows and its lock is not declared yet. -/
def Dev.awaitsPin (d : Dev) (k : Nat) : Bool := (d.pll k).pinAt.isSome && !d.pllBit k 6

/-- LOCK_PIN_CROSSING and LOCK_PIN_TIMEOUT with their ports. -/
def Dev.lockCrossing (d : Dev) (k us : Nat) : Dev := if d.awaitsPin k then (d.pinCrossing k us).afterDeclare k else d
def Dev.lockTimeout (d : Dev) (k : Nat) : Dev := if d.awaitsPin k && d.pllBit k 5 then (d.pinTimeout k).afterDeclare k else d

/-- PLL_INTERNAL_LOSS with its port: no active video while its clock stops. -/
def Dev.pllLoss (d : Dev) (k : Nat) : Dev :=
  let d1 := d.internalLoss k
  if k < 8 ∧ d1.pllState k ≠ d.pllState k then
    (d1.stopVideo k).setXp k { d1.xp k with gap := decide (d1.pllState k = 7) && d.bit .xpt k Off.XPT_LINK_STAT 11 }
  else d1

/-- FALLBACK_LOCK with its port: video resumes at the first line after the stream clock resumes (R312). -/
def Dev.fallbackResume (d : Dev) (k : Nat) : Dev :=
  let d1 := d.fallbackLock k
  if k < 8 ∧ d.pllState k = 7 ∧ (d1.xp k).gap then
    (d1.setF .xpt k Off.XPT_LINK_STAT 11 2 (1 + 2 * (d1.useB .xpt k Off.XPT_PIX_CFG 8).toNat)).setXp k { d1.xp k with gap := false }
  else d1

/-- PLL_ALIGNMENT_EDGE with its port: a warm relock that kept its declaration lets the port go on (R275, R279). -/
def Dev.alignmentEdge (d : Dev) (k : Nat) : Dev :=
  if d.pllState k = 2 ∧ d.pllBit k 5 then (d.aligned k).afterDeclare k else d

/-- PPLL.CMD.RETRY_MAIN (R282). -/
def Dev.retryMain (d : Dev) (r : Requester) (p : Nat) : Dev :=
  if !d.pllBit p 4 then d.pllCommandReject r .ppll p Off.PPLL_CMD Off.PPLL_PPLL_REJECT 0x95 else d.relock p

end Sys2Proof.Machine
end

