-- ==== Sys2Proof/Machine/Timing.lean ====
section
/-! DEFINITION. Cadence generators, genlock and rate changes ("Raster timing, anchor inputs and genlock"). -/

namespace Sys2Proof.Machine

/-! Registers of a cadence -/

/-- A field of CAD_CTRL. -/
def Dev.cadCtl (d : Dev) (s lo len : Nat) : Nat := d.fld .anch 0 (cadOff s Off.ANCH_CAD_CTRL) lo len
/-- CAD_CTRL.RUN. -/
def Dev.cadRun (d : Dev) (s : Nat) : Bool := d.bit .anch 0 (cadOff s Off.ANCH_CAD_CTRL) 0
/-- CAD_CTRL.SOURCE (R253): 0 FREE, 1 and 2 the anchors, 3 TEAM. -/
def Dev.cadSource (d : Dev) (s : Nat) : Nat := d.cadCtl s 1 2
/-- CAD_STAT.STATE (R266): 0 FREE, 1 ACQUIRING, 2 LOCKED, 3 HOLDOVER, 4 AWAIT_ACK, 5 SLEWING, 6 SNAP_PENDING, 7 TEAM. -/
def Dev.cadState (d : Dev) (s : Nat) : Nat := d.fld .anch 0 (cadOff s Off.ANCH_CAD_STAT) 0 3
def Dev.setCadState (d : Dev) (s v : Nat) : Dev := d.setF .anch 0 (cadOff s Off.ANCH_CAD_STAT) 0 3 v
/-- A bit of CAD_STAT: 3 RAMP, 4 WRONG_RATE, 5 LINE_LOCK. -/
def Dev.setCadBit (d : Dev) (s i : Nat) (b : Bool) : Dev := d.setB .anch 0 (cadOff s Off.ANCH_CAD_STAT) i b
/-- WINDOW in ns. -/
def Dev.cadWindow (d : Dev) (s : Nat) : Nat := 1000 * d.fld .anch 0 (cadOff s Off.ANCH_WINDOW) 0 16
/-- REF_OFFSET in ns. -/
def Dev.refOffset (d : Dev) (s : Nat) : Int := signedOf (d.rd .anch 0 (cadOff s Off.ANCH_REF_OFFSET)).toNat 32
/-- TARGET, 48 bits. -/
def Dev.cadTarget (d : Dev) (s : Nat) : Nat :=
  (d.rd .anch 0 (cadOff s Off.ANCH_TARGET_LO)).toNat + d.fld .anch 0 (cadOff s Off.ANCH_TARGET_HI) 0 16 * 2 ^ 32
/-- A flag of a scene on the ANCH page: 0 REF_LOST, 1 REF_RETURN, 2 AWAIT_ACK, 3 RATE_DONE. -/
def Dev.cadFlag (d : Dev) (s k : Nat) (w0 : Word := 0) : Dev := d.flag .anch 0 (8 + 4 * s + k) 0 w0
/-- A rejection on the ANCH page (R267). -/
def Dev.anchReject (d : Dev) (r : Requester) (s off reason : Nat) : Dev :=
  (d.wrN .anch 0 Off.ANCH_ANCH_REJECT (reason + s * 256)).reject r .anch 0 (cadOff s off) reason

/-! Periods (R246, R255, R263) -/

/-- The period of a rate, in units of 2⁻³² ns. -/
def periodOf (num den : Nat) : Nat := den * 10 ^ 9 * nsUnit / num

/-- The modes in which cadence generators run (R245). -/
def cadModes : List Nat := [4, 5, 6, 7, 8, 10]

/-- One free-running step: the period and the remainder that the accumulator keeps, at a trim in units of 0.01 ppm (R246, R253). -/
def freeRun (num den : Nat) (trim : Int) (rem : Nat) : Nat × Nat :=
  let total := den * 10 ^ 9 * nsUnit * 10 ^ 8 + rem
  let div := (num * (10 ^ 8 + trim)).toNat
  (total / div, total % div)

/-- The rate that the reference is expected at: the new rate once a change has begun (R263). -/
def Dev.loopRate (d : Dev) (s : Nat) : Nat × Nat :=
  match (d.cad s).change with
  | some x => if x.begun ≠ 0 then (x.num, x.den) else (d.activeNum s, d.activeDen s)
  | none => (d.activeNum s, d.activeDen s)

/-- REF_MUL or REF_DIV: 0 means 16 (R266). -/
def ratioField (n : Nat) : Nat := if n = 0 then 16 else n

/-- The reference period in units of 2⁻³² ns: the rate × DIV / MUL (R255). -/
def Dev.refPeriod (d : Dev) (s : Nat) : Nat :=
  periodOf (d.loopRate s).1 (d.loopRate s).2 * ratioField (d.cadCtl s 8 4) / ratioField (d.cadCtl s 12 4)

/-- An interval in ns within ±100 ppm of a period in units of 2⁻³² ns (R255). -/
def nearPeriod (ns period : Nat) : Bool := decide (((ns * nsUnit : Nat) - period : Int).natAbs * 10000 ≤ period)

/-- Every interval of a list of edges, newest first, is near the period. -/
def intervalsNear (period : Nat) : List Nat → Bool
  | a :: b :: r => nearPeriod (a - b) period && intervalsNear period (b :: r)
  | _ => true

/-! The generator -/

/-- Show PERIOD, in units of 1/16 ns (R265). -/
def Dev.showPeriod (d : Dev) (s : Nat) : Dev := d.wrN .anch 0 (cadOff s Off.ANCH_PERIOD) (roundDiv (d.cad s).period (2 ^ 28))

/-- A cadence generator starts: its first tick falls one period later (the spec does not place it). -/
def Dev.startCadence (d : Dev) (s : Nat) : Dev :=
  if (d.cad s).going then d
  else
    let p := periodOf (d.activeNum s) (d.activeDen s)
    (d.setCad s { d.cad s with going := true, last := d.now * nsUnit, next := d.now * nsUnit + p, period := p, rem := 0,
                               guard := d.fld .stim s Off.STIM_GUARD 0 11 }).showPeriod s

/-- Every cadence generator starts or stops with the mode (R245). -/
def Dev.stopCadences (d : Dev) : Dev := [0, 1, 2, 3].foldl (fun x s => x.setCad s { x.cad s with going := false }) d
def Dev.startCadences (d : Dev) : Dev := [0, 1, 2, 3].foldl Dev.startCadence d

/-- Duration of a line of LINE_PORT, or 1/1,125 of the period (R261), in units of 2⁻³² ns. -/
def Dev.snapLine (d : Dev) (s : Nat) : Nat :=
  let p := d.cadCtl s 24 3
  if d.follows p s then (d.cad s).period / d.vTotal p else (d.cad s).period / 1125

/-- The least vertical blanking of a port in units of 2⁻³² ns (RAS_BLANK, R249). -/
def Dev.leastBlank (d : Dev) (p period : Nat) : Nat := max (3 * period / d.vTotal p) (2500 * nsUnit)

/-- The vertical blanking of a port. -/
def Dev.blankTime (d : Dev) (p period : Nat) : Nat := period * (d.vTotal p - d.vActive p) / d.vTotal p

/-- By how much a snap of `e` ns lengthens the frame and every port's blanking, in units of 2⁻³² ns (R261). -/
def Dev.snapBy (d : Dev) (s period : Nat) (e : Int) : Int :=
  let x := e * nsUnit
  if (List.range 8).any fun p => d.follows p s && decide ((d.blankTime p period : Int) + x < d.leastBlank p period) then period + x else x

/-- Add blanking to the port frames that begin at the coming tick plus φ (R251, R261). -/
def Dev.lengthenPorts (d : Dev) (s : Nat) (x : Int) : Dev :=
  (List.range 8).foldl (fun y p => if y.follows p s then y.setPort p { y.port p with lengthen := (y.port p).lengthen + x } else y) d

/-- The frame that begins at this tick: its period by the source, a steered one being a free value (R246, R254, R256, R259). -/
def Dev.plainPeriod (d : Dev) (s : Nat) : Dev × Nat :=
  let c := d.cad s
  let st := d.cadState s
  if st = 0 ∨ (st = 1 ∧ c.expected.isNone) then
    let trim := if st = 0 then signedOf (d.fld .anch 0 (cadOff s Off.ANCH_FREE_TRIM) 0 16) 16 else 0
    let x := freeRun (d.activeNum s) (d.activeDen s) trim c.rem
    (d.setCad s { c with rem := x.2 }, x.1)
  else if st = 7 then
    match c.teamNext with
    | some (t, _) => if c.last < t * nsUnit then (d, t * nsUnit - c.last) else (d, c.est)
    | none => (d, c.est)
  else if st = 3 ∨ st = 4 ∨ st = 6 then (d, c.est)
  else (d.freeStep, d.freeNat)

/-! Rate changes (R263, R264) -/

/-- The device as it would be at another active rate of a scene. -/
def Dev.withRate (d : Dev) (s num den : Nat) : Dev :=
  (d.wrN .anch 0 (cadOff s Off.ANCH_ACTIVE_NUM) num).wrN .anch 0 (cadOff s Off.ANCH_ACTIVE_DEN) den

/-- Acquire the reference afresh (R258, R263). -/
def Dev.reacquire (d : Dev) (s : Nat) : Dev :=
  if d.cadSource s = 1 ∨ d.cadSource s = 2 then
    (d.setCadState s 1).setCad s { d.cad s with edges := [], expected := none, good := 0, strays := [], snap := none, slew := 0,
                                                sinceAligned := 0, lineExpected := none }
  else d

/-- What a rate change does at its target boundary (R263, R273, R311). -/
def Dev.rateTarget (d : Dev) (s : Nat) (x : RateChange) : Dev :=
  let d1 := d.reacquire s
  if x.frames = 0 then d1
  else (List.range 8).foldl (fun y p =>
      if !y.follows p s then y
      else
        let y1 := match xptReason (y.withRate s x.num x.den) y.inUseReader p with
          | some e => ((y.setXp p { y.xp p with bad := true }).stopVideo p).xptReject p e
          | none => y
        if y1.rampRelocks p x.num x.den then y1.relock p else y1) d1

/-- The ports that follow a scene after its active rate changed: checks, and a relock where the rate stepped (R249, R263). -/
def Dev.ratePorts (d : Dev) (s : Nat) (step : Bool) : Dev :=
  (List.range 8).foldl (fun y p =>
    if y.follows p s then (if step then (y.portRecheck p).relock p else y.portRecheck p) else y) d

/-- A rate change is complete: ACTIVE takes the new values and RATE_DONE sets. -/
def Dev.rateDone (d : Dev) (s : Nat) (x : RateChange) : Dev :=
  let d1 := (d.withRate s x.num x.den).setCad s { d.cad s with change := none, rem := 0 }
  ((d1.setCadBit s 3 false).ratePorts s (decide (x.frames = 0))).cadFlag s 3

/-- The rate change of a scene at a tick; answers the period of a ramp frame. -/
def Dev.changeStep (d : Dev) (s : Nat) : Dev × Option Nat :=
  let c := d.cad s
  match c.change with
  | none => (d, none)
  | some x =>
    let due := decide (x.begun ≠ 0) || !d.cadRun s || (match x.target with | some t => decide (t ≤ c.frame) | none => decide (x.skip = 0))
    if due then
      if x.begun < x.frames then
        let k := x.begun + 1
        let t0 := periodOf (d.activeNum s) (d.activeDen s)
        let t1 := periodOf x.num x.den
        let d1 := d.setCad s { c with change := some { x with begun := k } }
        let d2 := if x.begun = 0 then d1.rateTarget s x else d1
        let d3 := (d2.setCadBit s 3 true).setF .anch 0 (cadOff s Off.ANCH_CAD_STAT) 16 8 (x.frames - k)
        (d3, some ((t0 : Int) - ((t0 : Int) - t1) * k / x.frames).toNat)
      else ((if x.frames = 0 then d.rateTarget s x else d).rateDone s x, none)
    else (d.setCad s { c with change := some { x with skip := x.skip - 1 } }, none)

/-! The phase error and its correction (R256, R260, R261) -/

/-- e for an edge at `t` ns: where the tick should fall minus where it falls, wrapped into ± half a period, in ns. -/
def Dev.phaseError (d : Dev) (s t : Nat) : Int :=
  let c := d.cad s
  let x := (((t : Int) + d.refOffset s) * nsUnit - c.last) % c.period
  (if (c.period : Int) < 2 * x then x - c.period else x) / nsUnit

/-- Show PHASE_ERR, saturating. -/
def Dev.showError (d : Dev) (s : Nat) (e : Int) : Dev :=
  d.wrN .anch 0 (cadOff s Off.ANCH_PHASE_ERR) (ofSigned (max (-(2 ^ 31)) (min (2 ^ 31 - 1) e)) 32)

/-- An error below 100 ns. -/
def smallError (e : Int) : Bool := decide (e.natAbs < 100)

/-- Correct by slewing: SLEWING until the error is below 100 ns. -/
def Dev.slewBy (d : Dev) (s : Nat) (e : Int) : Dev :=
  (d.setCad s { d.cad s with slew := e }).setCadState s (if smallError e then 2 else 5)

/-- Correct at the next boundary. -/
def Dev.snapNext (d : Dev) (s : Nat) (e : Int) : Dev := (d.setCad s { d.cad s with snap := some e }).setCadState s 6

/-- An error below SNAP_THRESHOLD lines always slews. -/
def Dev.belowThreshold (d : Dev) (s : Nat) (e : Int) : Bool :=
  decide (e.natAbs * nsUnit < d.fld .anch 0 (cadOff s Off.ANCH_SLEW) 16 16 * d.snapLine s)

/-- Correct by the return policy (R261). -/
def Dev.correct (d : Dev) (s : Nat) (e : Int) : Dev :=
  let policy := d.cadCtl s 4 2
  if d.belowThreshold s e ∨ d.cadSource s = 3 ∨ policy = 0 ∨ policy = 3 then d.slewBy s e
  else if policy = 1 then d.snapNext s e
  else (d.setCadState s 4).cadFlag s 2

/-- A reference returns: REF_RETURN with e, and its correction, which waits for the end of a ramp (R260, R262). -/
def Dev.refReturn (d : Dev) (s t : Nat) : Dev :=
  let e := d.phaseError s t
  let d1 := (d.setCad s { d.cad s with strays := [], good := 0, sinceAligned := 0,
                                       expected := some (t + d.refPeriod s / nsUnit) }).showError s e
  let d2 := d1.cadFlag s 1 (BitVec.ofNat 32 (ofSigned e 32))
  match (d2.cad s).change with
  | some x => if x.begun ≠ 0 then d2.setCad s { d2.cad s with returnDue := true } else d2.correct s e
  | none => d2.correct s e

/-- Align the ticks to the reference at once (R258). -/
def Dev.alignTicks (d : Dev) (s t : Nat) : Dev :=
  let c := d.cad s
  let want := (((t : Int) + d.refOffset s) * nsUnit - d.now * nsUnit) % c.period
  let next := d.now * nsUnit + (if want = 0 then c.period else want.toNat)
  (d.setCad s { c with last := next - c.period, next := next, fresh := false, good := 1, sinceAligned := 0,
                       expected := some (t + d.refPeriod s / nsUnit) }).showError s 0

/-- The reference is lost: holdover at the loop's estimate, a free value (R259). -/
def Dev.loseRef (d : Dev) (s : Nat) : Dev :=
  let d1 := (d.setCad s { d.cad s with snap := none, slew := 0, est := d.freeNat, good := 0, expected := none }).freeStep
  ((d1.setCadState s 3).setCadBit s 5 false).cadFlag s 0

/-- A stray edge: RETURN_COUNT of them near the reference period are a return, a loss coming first (R255, R260). -/
def Dev.strayEdge (d : Dev) (s t : Nat) : Dev :=
  let c := d.cad s
  let l := match c.strays with
    | [] => [t]
    | a :: r => if nearPeriod (t - a) (d.refPeriod s) then t :: a :: r else [t]
  let d1 := d.setCad s { c with strays := l, edges := (t :: c.edges).take 4 }
  if max 2 (d.cadCtl s 16 8) ≤ l.length then (if d1.cadState s = 3 then d1 else d1.loseRef s).refReturn s t else d1

/-- A qualified edge: every DIV-th aligns and gives a phase error (R255, R256). -/
def Dev.qualifiedEdge (d : Dev) (s t : Nat) : Dev :=
  let c := d.cad s
  let n := c.sinceAligned + 1
  let d1 := (d.setCad s { c with edges := (t :: c.edges).take 4, expected := some (t + d.refPeriod s / nsUnit), strays := [],
                                 sinceAligned := if ratioField (d.cadCtl s 12 4) ≤ n then 0 else n }).setCadBit s 4 false
  if ratioField (d.cadCtl s 12 4) ≤ n then
    let e := d.phaseError s t
    let g := if smallError e then c.good + 1 else 0
    let d2 := (d1.setCad s { d1.cad s with good := g }).showError s e
    if (d2.cadState s = 1 ∧ 16 ≤ g) ∨ (d2.cadState s = 5 ∧ smallError e) then d2.setCadState s 2 else d2
  else d1

/-- A counted frame edge reaches the loop of a scene that selects its input (R255, R258). -/
def Dev.frameEdge (d : Dev) (s t : Nat) : Dev :=
  let c := d.cad s
  let st := d.cadState s
  let d0 := (d.setCadBit s 5 (c.lineSeen && d.cadCtl s 3 1 == 1)).setCad s { c with lineSeen := false }
  if st = 1 then
    let edges := (t :: c.edges).take 4
    if edges.length = 4 ∧ intervalsNear (d.refPeriod s) edges then
      if c.expected.isSome then d0.qualifiedEdge s t
      else
        let d1 := (d0.setCad s { d0.cad s with edges := edges }).setCadBit s 4 false
        if c.fresh ∨ !d.cadRun s then d1.alignTicks s t else d1.refReturn s t
    else (d0.setCad s { d0.cad s with edges := edges, expected := none, good := 0 }).setCadBit s 4 true
  else if st = 3 then d0.strayEdge s t
  else match c.expected with
    | none => d0
    | some x => if ((t : Int) - x).natAbs ≤ d.cadWindow s then d0.qualifiedEdge s t else d0.strayEdge s t

/-- A counted edge of an anchor input: IN_COUNT and IN_PERIOD (R254, R265). -/
def Dev.countEdge (d : Dev) (k : Nat) : Dev :=
  let prev := Tbl.get (fun _ => 0) d.anchors k
  let gap := d.now + 1 - prev
  let d1 := { d with anchors := Tbl.set (fun _ => 0) d.anchors k (d.now + 1) }
  (d1.onCore (·.incWrap .anch 0 (Off.ANCH_IN_COUNT + 4 * k))).wrN .anch 0 (Off.ANCH_IN_PERIOD + 4 * k)
    (if prev = 0 ∨ 1000000000 < gap then 0 else gap)

/-- IN_PERIOD as it reads: 0 if no two edges were counted in the last second (R265). -/
def Dev.inPeriod (d : Dev) (k : Nat) : Word :=
  if 1000000000 < d.now + 1 - Tbl.get (fun _ => 0) d.anchors k then 0 else d.rd .anch 0 (Off.ANCH_IN_PERIOD + 4 * k)

/-- ANCHOR_EDGE of ANCFk, timestamped now. -/
def Dev.anchorEdge (d : Dev) (k : Nat) : Dev :=
  if !d.bit .anch 0 (Off.ANCH_IN_CTRL + 4 * k) 0 then d
  else [0, 1, 2, 3].foldl (fun x s => if x.cadSource s = k + 1 then x.frameEdge s d.now else x) (d.countEdge k)

/-- A counted line edge reaches the loop of a scene (R257): its phase sample steers the loop. -/
def Dev.lineEdge (d : Dev) (s t : Nat) : Dev :=
  let c := d.cad s
  let line := d.refPeriod s / nsUnit / d.fld .anch 0 (cadOff s Off.ANCH_WINDOW) 16 16
  if c.expected.isNone then d
  else
    let ok := match c.lineExpected with | none => true | some x => decide (((t : Int) - x).natAbs ≤ d.cadWindow s)
    let d1 := d.setCad s { c with lineExpected := some (t + line), lineSeen := c.lineSeen || ok }
    if ok then d1.setCadBit s 5 true else d1

/-- ANCHOR_LINE_EDGE of ANCLk, timestamped now. -/
def Dev.anchorLineEdge (d : Dev) (k : Nat) : Dev :=
  if !d.bit .anch 0 (Off.ANCH_IN_CTRL + 4 * (2 + k)) 0 then d
  else [0, 1, 2, 3].foldl (fun x s => if x.cadSource s = k + 1 ∧ x.cadCtl s 3 1 = 1 then x.lineEdge s d.now else x) (d.countEdge (2 + k))

/-- REF_LOST: no qualified frame edge by its expected time plus WINDOW (R259). -/
def Dev.refLost (d : Dev) (s : Nat) : Dev :=
  match (d.cad s).expected with
  | none => d
  | some x =>
    if d.cadSource s = 1 ∨ d.cadSource s = 2 then
      let d1 := d.advance (x + d.cadWindow s)
      if d.cadState s = 1 then d1.setCad s { d1.cad s with expected := none, edges := [], good := 0 } else d1.loseRef s
    else d

/-! Commands on the ANCH page -/

/-- ACK_SLEW and ACK_SNAP, with the error measured now from the latest edge (R261, R262). -/
def Dev.ackReturn (d : Dev) (r : Requester) (s : Nat) (snap : Bool) : Dev :=
  if d.cadState s ≠ 4 then d.anchReject r s Off.ANCH_CAD_CMD 0x8D
  else
    let e := d.phaseError s ((d.cad s).edges.headD d.now)
    let d1 := d.showError s e
    if snap && !d1.belowThreshold s e then d1.snapNext s e else d1.slewBy s e

/-- PRESET (R247). -/
def Dev.presetFrame (d : Dev) (r : Requester) (s : Nat) : Dev :=
  if d.cadRun s then d.anchReject r s Off.ANCH_CAD_CMD 0x8F else d.setCad s { d.cad s with frame := d.cadTarget s }

/-- The device is a member of a rope team (R391), and its lead. -/
def Dev.teamMember (d : Dev) : Bool := decide (d.fld .rpg 0 Off.RPG_TEAM_STAT 0 3 = 4)
def Dev.teamLead (d : Dev) : Bool := d.teamMember && d.bit .rpg 0 Off.RPG_TEAM_STAT 3

/-- COMMIT_LAT plus TEAM_GUARD, ns (R403). -/
def Dev.teamNotice (d : Dev) : Nat := d.fld .rpg 0 Off.RPG_COMMIT_LAT 0 24 + 1000 * d.fld .rpg 0 Off.RPG_TEAM_GUARD 0 11

/-- Time from now to the boundary of a scene with a frame number, ns. -/
def Dev.boundaryIn (d : Dev) (s n : Nat) : Nat :=
  let c := d.cad s
  (c.next + (n - (c.frame + 1)) * c.period) / nsUnit - d.now

/-- The cadence scene of a lead that has other members, whose rate is the team's (R401). -/
def Dev.ratesTeam (d : Dev) (s : Nat) : Bool := d.teamLead && decide (d.rope.cadScene = s)

/-- The reason that rejects APPLY_RATE (R264, R401). -/
def Dev.rateReason (d : Dev) (s : Nat) (atFrame : Bool) : Option Nat :=
  let num := d.fld .anch 0 (cadOff s Off.ANCH_RATE_NUM) 0 20
  let den := d.fld .anch 0 (cadOff s Off.ANCH_RATE_DEN) 0 16
  let f := d.fld .anch 0 (cadOff s Off.ANCH_RAMP) 0 8
  let n0 := d.activeNum s
  let d0 := d.activeDen s
  match if atFrame ∧ d.cadRun s then d.targetReason s (d.cadTarget s) else none with
  | some e => some e
  | none =>
    if den = 0 ∨ num * 1001 < 24000 * den ∨ 240 * den < num
        ∨ (0 < f ∧ 100 * f * (d0 * num) < ((d0 * num : Nat) - (den * n0 : Nat) : Int).natAbs * 1000000) then some 0x89
    else if (List.range 8).any fun p => d.follows p s && pixRateBad (d.rasterPix p) num den then some 0x8A
    else if (d.cad s).change.isSome then some 0x8B
    else if d.cadSource s = 3 then some 0x8C
    else if d.ratesTeam s ∧ atFrame ∧ d.cadRun s ∧ d.boundaryIn s (d.cadTarget s) < d.teamNotice then some 0xE9 else none

/-- Boundaries that an APPLY_RATE without AT_FRAME lets pass: on the lead, until one meets the team's notice (R263, R401). -/
def Dev.rateSkip (d : Dev) (s : Nat) : Nat :=
  if d.ratesTeam s then
    let c := d.cad s
    max (d.frameCutPassed s).toNat ((d.teamNotice * nsUnit + (c.period - 1) - (c.next - d.now * nsUnit)) / max 1 c.period)
  else (d.frameCutPassed s).toNat

/-- APPLY_RATE (R263). -/
def Dev.applyRate (d : Dev) (r : Requester) (s : Nat) (atFrame : Bool) : Dev :=
  match d.rateReason s atFrame with
  | some e => d.anchReject r s Off.ANCH_CAD_CMD e
  | none =>
    let f := d.fld .anch 0 (cadOff s Off.ANCH_RAMP) 0 8
    let x : RateChange := { num := d.fld .anch 0 (cadOff s Off.ANCH_RATE_NUM) 0 20, den := d.fld .anch 0 (cadOff s Off.ANCH_RATE_DEN) 0 16
                            frames := f, target := if atFrame then some (d.cadTarget s) else none
                            skip := d.rateSkip s, begun := 0 }
    (((d.setCad s { d.cad s with change := some x }).setCadBit s 3 (decide (0 < f))).setF .anch 0 (cadOff s Off.ANCH_CAD_STAT) 16 8 f)

/-- The value that CAD_CTRL stores (R266). -/
def cadStored (v : Word) : Word := putBits (v &&& 0x07FFFFFF) 16 8 (max 2 (bitsOf v 16 8))

/-- What a change of SOURCE, or of the ratio under an anchor source, does to the loop (R253, R254, R258). -/
def Dev.sourceChange (d : Dev) (s : Nat) (wasRunning : Bool) : Dev :=
  let d1 := d.setCad s { d.cad s with fresh := (d.cad s).fresh || !wasRunning, rem := 0, snap := none, slew := 0, expected := none, edges := [],
                                      strays := [], good := 0, returnDue := false, lineExpected := none, est := (d.cad s).period }
  let d2 := (d1.setCadBit s 4 false).setCadBit s 5 false
  d2.setCadState s (if d.cadSource s = 0 then 0 else if d.cadSource s = 3 then 7 else 1)

/-- CAD_CTRL_WRITE (R245, R253, R258, R267). -/
def Dev.cadCtrlWrite (d : Dev) (r : Requester) (s : Nat) (v : Word) : Dev :=
  if bitsOf v 4 2 = 3 ∨ bitsOf v 6 2 = 3 then d.anchReject r s Off.ANCH_CAD_CTRL 0x88
  else if bitsOf v 1 2 = 3 ∧ (!d.teamMember ∨ (d.teamLead ∧ d.rope.cadScene = s)) then d.anchReject r s Off.ANCH_CAD_CTRL 0x8E
  else
    let old := d.rd .anch 0 (cadOff s Off.ANCH_CAD_CTRL)
    let new := cadStored v
    let d1 := d.wr .anch 0 (cadOff s Off.ANCH_CAD_CTRL) new
    let d2 := if bitsOf old 1 2 ≠ bitsOf new 1 2 then d1.sourceChange s (bitOf old 0)
      else if bitsOf old 8 8 ≠ bitsOf new 8 8 then d1.reacquire s else d1
    if bitOf new 0 ∧ !bitOf old 0 then d2.setCad s { d2.cad s with guard := d2.fld .stim s Off.STIM_GUARD 0 11 } else d2

/-! A tick (R245, R261) -/

/-- The timing of a tick: the frame that begins gets its period, the next tick its time, and port PLLs their steering. The frame
number has advanced already where the tick is a boundary. -/
def Dev.tickTiming (d : Dev) (s : Nat) : Dev :=
  let d1 := d.setCad s { d.cad s with last := (d.cad s).next }
  let (d2, ramp) := d1.changeStep s
  let (d3, plain) := match ramp with
    | some p => (d2, p)
    | none => d2.plainPeriod s
  let (d4, frame) := match (d3.cad s).snap with
    | some e =>
      let x := d3.snapBy s plain e
      (((d3.setCad s { d3.cad s with snap := none }).setCadState s 2).lengthenPorts s x, ((plain : Int) + x).toNat)
    | none => (d3, plain)
  let d5 := (d4.setCad s { d4.cad s with period := plain, next := (d4.cad s).last + frame }).showPeriod s
  let d6 := if (d5.cad s).returnDue ∧ (d5.cad s).change.isNone then
      (d5.setCad s { d5.cad s with returnDue := false }).correct s (d5.phaseError s ((d5.cad s).edges.headD d5.now))
    else d5
  (List.range 8).foldl (fun y p => if y.follows p s then (y.setXp p { y.xp p with started := true }).steer p else y) d6

end Sys2Proof.Machine
end

