-- ==== Sys2Proof/Machine/Fmem.lean ====
section
/-! DEFINITION. The allocation table of frame memory, the transfer engine, slot scheduling and errors ("Frame memory and
scan-out"). -/

namespace Sys2Proof.Machine

/-! The allocation table (R214 to R218) -/

/-- Registers of entry `e`. -/
def Dev.entBase (d : Dev) (e : Nat) : Nat := d.fld .fmem 0 (Off.FMEM_ENT_BASE + 16 * e) 0 13
def Dev.entValid (d : Dev) (e : Nat) : Bool := d.bit .fmem 0 (Off.FMEM_ENT_BASE + 16 * e) 31
def Dev.entSize (d : Dev) (e : Nat) : Nat := d.fld .fmem 0 (Off.FMEM_ENT_SIZE + 16 * e) 0 13
def Dev.entKind (d : Dev) (e : Nat) : Nat := d.fld .fmem 0 (Off.FMEM_ENT_DESC + 16 * e) 0 2
def Dev.entOwner (d : Dev) (e : Nat) : Nat := d.fld .fmem 0 (Off.FMEM_ENT_DESC + 16 * e) 4 2
def Dev.entSlot (d : Dev) (e : Nat) : Nat := d.fld .fmem 0 (Off.FMEM_ENT_DESC + 16 * e) 8 2
def Dev.entW (d : Dev) (e : Nat) : Nat := d.fld .fmem 0 (Off.FMEM_ENT_DIM + 16 * e) 0 15
def Dev.entH (d : Dev) (e : Nat) : Nat := d.fld .fmem 0 (Off.FMEM_ENT_DIM + 16 * e) 16 15
/-- The entries. -/
def entList : List Nat := List.range 64
/-- Byte address of an entry (R210). -/
def Dev.entAddr (d : Dev) (e : Nat) : Nat := d.entBase e * 2097152
/-- Bytes of an entry. -/
def Dev.entBytes (d : Dev) (e : Nat) : Nat := d.entSize e * 2097152

/-- The valid entry of a kind, owner and slot (R214). -/
def Dev.findEntry (d : Dev) (kind owner slot : Nat) : Option Nat :=
  entList.find? fun e => d.entValid e && d.entKind e == kind && d.entOwner e == owner && d.entSlot e == slot

/-- The entry whose region holds a frame-memory address. -/
def Dev.entryAt (d : Dev) (a : Nat) : Option Nat :=
  entList.find? fun e => d.entValid e && decide (d.entAddr e ≤ a) && decide (a < d.entAddr e + d.entBytes e)

/-- The valid entry is a Belay frame. -/
def Dev.belayEntry (d : Dev) (e : Nat) : Bool := d.entValid e && d.entKind e == 2

/-- The Belay configuration in use of a port selects an entry (R481). -/
def Dev.belaySelects (d : Dev) (p e : Nat) : Bool :=
  !d.useB .bly 0 (Off.BLY_BLY_CTRL + 0x60 * p) 0 && d.useF .bly 0 (Off.BLY_BLY_CTRL + 0x60 * p) 8 6 == e

/-- A port shows a still from an entry (R228). -/
def Dev.showsStill (d : Dev) (p e : Nat) : Bool :=
  d.useB .scan p Off.SCAN_SCAN_CTRL 0 && d.useB .scan p Off.SCAN_SCAN_CTRL 3 && d.useF .scan p Off.SCAN_SCAN_CTRL 8 6 == e

/-- A surface number of a scene is used by its flatten cache. -/
def Scene.flatUses (x : Scene) (k : Nat) : Bool :=
  (match x.flat with | some f => f.surface == k | none => false) || (match x.build with | some f => f.surface == k | none => false)

/-- ENT_DESC.PINNED. -/
def Dev.entPinned (d : Dev) (e : Nat) : Bool := match d.xfer with | some x => x.pinned && x.entry == e | none => false

/-- ENT_DESC.IN_USE (R216). -/
def Dev.entInUse (d : Dev) (e : Nat) : Bool :=
  let owner := d.entOwner e
  d.entValid e &&
    ((d.entKind e == 0 && (d.useB .scn owner Off.SCN_SCN_CTRL 0 || (List.range 8).any fun p => d.portShows p owner))
      || (d.entKind e == 1 && (d.scene owner).flatUses (d.entSlot e))
      || (d.entKind e == 2 && (List.range 8).any fun p => d.showsStill p e || d.belaySelects p e)
      || (match d.xfer with | some x => x.entry == e | none => false))

/-- ENT_DESC as it reads (R239). -/
def Dev.entDesc (d : Dev) (e : Nat) : Word :=
  putBit (putBit (d.rd .fmem 0 (Off.FMEM_ENT_DESC + 16 * e)) 17 (d.entInUse e)) 18 (d.entPinned e)

/-- The length of the free run that begins at a granule. -/
def Dev.freeRun (d : Dev) (g : Nat) : Nat :=
  if entList.any fun e => d.entValid e && decide (d.entBase e ≤ g) && decide (g < d.entBase e + d.entSize e) then 0
  else entList.foldl (fun m e => if d.entValid e ∧ g ≤ d.entBase e then min m (d.entBase e - g) else m) (8128 - g)

/-- FREE follows the table (R239). -/
def Dev.showFree (d : Dev) : Dev :=
  let used := entList.foldl (fun m e => if d.entValid e then m + d.entSize e else m) 0
  let largest := (0 :: entList.map fun e => if d.entValid e then d.entBase e + d.entSize e else 0).foldl (fun m g => max m (d.freeRun g)) 0
  d.wrN .fmem 0 Off.FMEM_FREE ((8128 - used) % 8192 + largest % 8192 * 65536)

/-- ALLOC_STAT of the latest command. -/
def Dev.allocStat (d : Dev) (reason i : Nat) : Dev := d.wrN .fmem 0 Off.FMEM_ALLOC_STAT (reason + i * 256)

/-- The reason that rejects an install (R215). -/
def Dev.installReason (d : Dev) (i : Nat) : Option Nat :=
  let base := d.fld .fmem 0 Off.FMEM_NEW_BASE 0 13
  let size := d.fld .fmem 0 Off.FMEM_NEW_SIZE 0 13
  let desc := d.rd .fmem 0 Off.FMEM_NEW_DESC
  let kind := bitsOf desc 0 2
  let owner := bitsOf desc 4 2
  let slot := bitsOf desc 8 2
  let w := d.fld .fmem 0 Off.FMEM_NEW_DIM 0 15
  let h := d.fld .fmem 0 Off.FMEM_NEW_DIM 16 15
  if d.entValid i then some 0x70
  else if size = 0 ∨ 8128 < base + size then some 0x71
  else if entList.any fun e => d.entValid e && decide (base < d.entBase e + d.entSize e) && decide (d.entBase e < base + size) then some 0x72
  else if kind ≤ 1 ∧ (d.findEntry kind owner slot).isSome then some 0x73
  else if kind = 3 ∨ (kind = 0 ∧ 2 < slot) ∨ (kind = 1 ∧ 1 < slot)
      ∨ (kind = 2 ∧ (w = 0 ∨ 16384 < w ∨ h = 0 ∨ 16384 < h ∨ size * 2097152 < w * h * 6)) then some 0x74 else none

/-- ALLOC_INSTALL (R215). -/
def Dev.allocInstall (d : Dev) (r : Requester) (i : Nat) : Dev :=
  match d.installReason i with
  | some e => (d.allocStat e i).reject r .fmem 0 Off.FMEM_ALLOC_CMD e
  | none =>
    let d1 := (d.wr .fmem 0 (Off.FMEM_ENT_BASE + 16 * i) (putBit (d.rd .fmem 0 Off.FMEM_NEW_BASE) 31 true)).wr .fmem 0
      (Off.FMEM_ENT_SIZE + 16 * i) (d.rd .fmem 0 Off.FMEM_NEW_SIZE)
    let d2 := (d1.wr .fmem 0 (Off.FMEM_ENT_DESC + 16 * i) (d.rd .fmem 0 Off.FMEM_NEW_DESC)).wr .fmem 0
      (Off.FMEM_ENT_DIM + 16 * i) (d.rd .fmem 0 Off.FMEM_NEW_DIM)
    ((d2.setBuf i {}).showFree).allocStat 0 i

/-- An entry becomes invalid. -/
def Dev.dropEntry (d : Dev) (i : Nat) : Dev :=
  (([Off.FMEM_ENT_BASE, Off.FMEM_ENT_SIZE, Off.FMEM_ENT_DESC, Off.FMEM_ENT_DIM].foldl (fun x o => x.wr .fmem 0 (o + 16 * i) 0) d).setBuf
    i {}).showFree

/-- ALLOC_FREE (R215). -/
def Dev.allocFree (d : Dev) (r : Requester) (i : Nat) : Dev :=
  if !d.entValid i then d.allocStat 0 i
  else if d.entInUse i then (d.allocStat 0x75 i).reject r .fmem 0 Off.FMEM_ALLOC_CMD 0x75
  else (d.dropEntry i).allocStat 0 i

/-! Slot scheduling (R222 to R224) -/

/-- Slots that an enabled port reserves (R223). -/
def Dev.portSlots (d : Dev) (p : Nat) : Nat :=
  let s := d.timingScene p
  if d.portEnabled p then ceilDiv (15 * d.rasterPix p * d.activeNum s) (4096 * d.activeDen s * 1000000) else 0

/-- SLOT_RESV as it reads (R239). -/
def Dev.slotResv (d : Dev) : Word :=
  BitVec.ofNat 32 ((List.range 8).foldl (fun m p => m + d.portSlots p) 0 % 512 + 320 * 65536)

/-- Give slots in order of precedence: what is left, and each grant. -/
def giveSlots : Nat → List Nat → List Nat
  | _, [] => []
  | left, x :: r => min left x :: giveSlots (left - min left x) r

/-- HBM_ROUND: the slots that each port and each class of R224 asks for in the round of a pseudo-channel. Ports take their
reservations, the classes what is left; scrub gets a slot at least every 16 rounds. -/
def Dev.hbmRound (d : Dev) (ports classes : List Nat) : Dev :=
  let h := d.hbm
  let port := (List.range 8).map fun p => min (ports.getD p 0) (d.portSlots p)
  let used := port.foldl (· + ·) 0
  let due := decide (15 ≤ h.sinceScrub) && decide (0 < classes.getD 3 0)
  let cl := giveSlots (320 - used - due.toNat) ((List.range 3).map fun i => classes.getD i 0)
  let left := 320 - used - cl.foldl (· + ·) 0
  let scrub := min (classes.getD 3 0) left
  let total := used + cl.foldl (· + ·) 0 + scrub
  let d1 := { d with hbm := { grants := port ++ cl ++ [scrub], rounds := (h.rounds + 1) % 1000
                              sum := if h.rounds = 999 then 0 else h.sum + total
                              sinceScrub := if 0 < scrub then 0 else h.sinceScrub + 1 } }
  if h.rounds = 999 then d1.wrN .fmem 0 Off.FMEM_SLOT_BUSY ((h.sum + total) / 1000) else d1

/-! Errors in frame memory (R226, R227) -/

/-- An uncorrectable error at an address, found by a reader of R239. -/
def Dev.fmError (d : Dev) (a reader : Nat) : Dev :=
  let ent := match d.entryAt a with | some e => 128 + e * 256 | none => 0
  let info := a / 2 ^ 32 % 4 + reader * 16 + ent
  (((d.inc .fmem 0 Off.FMEM_UNCORR_COUNT).wrN .fmem 0 Off.FMEM_ERR_ADDR_LO a).wrN .fmem 0 Off.FMEM_ERR_INFO info).flag .fmem 0 9 0
    (BitVec.ofNat 32 a) (BitVec.ofNat 32 info)

/-- Mark a Belay frame BAD. -/
def Dev.setBad (d : Dev) (e : Nat) (b : Bool) : Dev := d.setB .fmem 0 (Off.FMEM_ENT_DESC + 16 * e) 16 b

/-- The newest complete frame-store buffer of a scene: its entry and frame (R231). -/
def Dev.newest (d : Dev) (s : Nat) : Option (Nat × Nat) :=
  entList.foldl (fun best e =>
    if d.entValid e ∧ d.entKind e = 0 ∧ d.entOwner e = s ∧ (d.buf e).complete then
      match best with
      | some (b, f) => if f < (d.buf e).frame then some (e, (d.buf e).frame) else some (b, f)
      | none => some (e, (d.buf e).frame)
    else best) none

/-- Keep the next boundary of a scene from being held (R207, R227). -/
def Dev.recompose (d : Dev) (s : Nat) : Dev := d.setScene s { d.scene s with recompose := true }

/-- FM_SCRUB_READ of the 64-byte access at an address, with what its code finds (R226, R227). -/
def Dev.fmScrub (d : Dev) (a : Nat) (ecc : Ecc) : Dev :=
  let d1 := if a / 64 = 2 ^ 28 - 1 then d.setF .fmem 0 Off.FMEM_SCRUB_STAT 0 16 (d.fld .fmem 0 Off.FMEM_SCRUB_STAT 0 16 + 1) else d
  match ecc with
  | .good => d1
  | .corrected => (d1.inc .fmem 0 Off.FMEM_CORR_COUNT).flag .fmem 0 8
  | .uncorrectable =>
    let d2 := { d1 with fmBad := Tbl.set (fun _ => false) d1.fmBad (a / 64) true }.fmError a 5
    match d2.entryAt a with
    | none => d2
    | some e =>
      if d2.entKind e = 2 then d2.setBad e true
      else if d2.entKind e = 0 ∧ (d2.newest (d2.entOwner e)).map Prod.fst = some e then d2.recompose (d2.entOwner e)
      else d2

/-! Transfers (R219 to R221) -/

/-- Bytes per pixel of an entry's surface (R213). -/
def Dev.pixBytes (d : Dev) (e : Nat) : Nat := if d.entKind e = 1 then 8 else 6

/-- Width and height of an entry's surface: ENT_DIM of a Belay frame, else the canvas recorded when it was last written. -/
def Dev.surfaceDim (d : Dev) (e : Nat) : Option (Nat × Nat) :=
  if !d.entValid e then none
  else if d.entKind e = 2 then some (d.entW e, d.entH e)
  else if (d.buf e).written then some ((d.buf e).w, (d.buf e).h) else none

/-- XFER_DRAM. -/
def Dev.xferDram (d : Dev) : Nat := (d.rd .fmem 0 Off.FMEM_XFER_DRAM_LO).toNat + d.fld .fmem 0 Off.FMEM_XFER_DRAM_HI 0 8 * 2 ^ 32

/-- The transfer parameters for an entry are legal (R219). -/
def Dev.xferLegal (d : Dev) (e : Nat) : Bool :=
  let stride := d.fld .fmem 0 Off.FMEM_XFER_STRIDE 0 21
  let first := d.fld .fmem 0 Off.FMEM_XFER_ROWS 0 15
  let count := d.fld .fmem 0 Off.FMEM_XFER_ROWS 16 15
  match d.surfaceDim e with
  | none => false
  | some (w, h) =>
    decide (d.xferDram % 256 = 0) && decide (stride % 256 = 0) && decide (w * d.pixBytes e ≤ stride) && decide (stride ≤ 2 ^ 20)
      && decide (count ≠ 0) && decide (first + count ≤ h)
      && decide (d.xferDram + (count - 1) * stride + w * d.pixBytes e ≤ d.core.installed)

/-- Begin a transfer. -/
def Dev.xferBegin (d : Dev) (capture : Bool) (e : Nat) (pinned : Bool) (chase : Option Nat) : Dev :=
  let w := match d.surfaceDim e with | some x => x.1 | none => 0
  let x : Xfer := { capture := capture, entry := e, pinned := pinned, first := d.fld .fmem 0 Off.FMEM_XFER_ROWS 0 15
                    count := d.fld .fmem 0 Off.FMEM_XFER_ROWS 16 15, rowBytes := w * d.pixBytes e, dram := d.xferDram
                    stride := d.fld .fmem 0 Off.FMEM_XFER_STRIDE 0 21, chase := chase }
  ({ d with xfer := some x }.wrN .fmem 0 Off.FMEM_XFER_STAT 1).wrN .fmem 0 Off.FMEM_XFER_BYTES 0

/-- A rejected START. -/
def Dev.xferReject (d : Dev) (r : Requester) (e : Nat) : Dev := d.reject r .fmem 0 Off.FMEM_XFER_CTRL e

/-- XFER_UPLOAD into an entry. -/
def Dev.xferUpload (d : Dev) (r : Requester) (e : Nat) : Dev :=
  if d.moving then d.xferReject r 0x1A
  else if d.belayEntry e && d.entInUse e then d.xferReject r 0x75
  else if d.xfer.isSome then d.xferReject r 0x76
  else if !d.belayEntry e || !d.xferLegal e then d.xferReject r 0x77
  else d.xferBegin false e false none

/-- XFER_CAPTURE of an entry. -/
def Dev.xferCapture (d : Dev) (r : Requester) (e : Nat) : Dev :=
  if d.moving then d.xferReject r 0x1A
  else if d.xfer.isSome then d.xferReject r 0x76
  else if !d.xferLegal e then d.xferReject r 0x77
  else d.xferBegin true e false none

/-- XFER_CAPTURE_FROM_PORT (R220): the buffer shown is pinned, unless it is a chase buffer. -/
def Dev.xferFromPort (d : Dev) (r : Requester) (p : Nat) : Dev :=
  if d.moving then d.xferReject r 0x1A
  else if d.xfer.isSome then d.xferReject r 0x76
  else match (d.port p).shown with
    | .buffer e s _ _ chase =>
      if !d.xferLegal e then d.xferReject r 0x77 else d.xferBegin true e (!chase) (if chase then some s else none)
    | .still e => if !d.xferLegal e then d.xferReject r 0x77 else d.xferBegin true e true none
    | _ => d.xferReject r 0x77

/-- Frame-memory address of a row of a transfer. -/
def Dev.xferRow (d : Dev) (x : Xfer) (i : Nat) : Nat := d.entAddr x.entry + (x.first + i) * x.rowBytes

/-- Upload a row, unless an earlier one failed: the bytes read so far, and whether DRAM returned poison or refused (R221). -/
def Dev.uploadRow (x : Xfer) (y : Dev × List (BitVec 8) × Bool) (i : Nat) : Dev × List (BitVec 8) × Bool :=
  if y.2.2 then y
  else match y.1.dramRead (.cpu 0) (x.dram + i * x.stride) x.rowBytes with
    | (d, none) => (d, y.2.1, true)
    | (d, some bs) => (d.fmWrite (d.xferRow x i) bs, y.2.1 ++ bs, false)

/-- Capture rows; a source that reads uncorrectable is captured with its DRAM lines as poison (R221). -/
def Dev.captureRows (d : Dev) (x : Xfer) : List Nat → List (BitVec 8) → Bool → Dev × List (BitVec 8) × Bool
  | [], acc, bad => (d, acc, bad)
  | i :: r, acc, bad =>
    let a := d.xferRow x i
    let bs := readBytes d.fm a x.rowBytes
    let d1 := (d.dramWrite (.cpu 0) (x.dram + i * x.stride) bs).1
    let d2 := (List.range x.rowBytes).foldl (fun y k =>
      if y.fmUncorrectable (a + k) 1 then y.setPoison ((x.dram + i * x.stride + k) / 64) true else y) d1
    let u := d.fmUncorrectable a x.rowBytes
    Dev.captureRows (if u then d2.fmError a 3 else d2) x r (acc ++ bs) (bad || u)

/-- The generation a chase row carries (R186). -/
def Dev.rowTag (d : Dev) (s row : Nat) : Nat := Tbl.get (fun _ => 0) d.rowGen (16384 * s + row)

/-- Rows of more than one generation (R220). -/
def Dev.mixedRows (d : Dev) (x : Xfer) : Bool :=
  match x.chase with
  | none => false
  | some s => (List.range x.count).any fun i => d.rowTag s (x.first + i) != d.rowTag s x.first

/-- XFER_DONE: the transfer's rows move, and its CRC and status are published (R221). -/
def Dev.xferDone (d : Dev) : Dev :=
  match d.xfer with
  | none => d
  | some x =>
    let (d1, bs, bad) := if x.capture then d.captureRows x (List.range x.count) [] false else (List.range x.count).foldl (Dev.uploadRow x) (d, [], false)
    let whole := decide (x.first = 0) && decide (x.count = d.entH x.entry)
    let d2 := if x.capture then d1 else if bad then d1.setBad x.entry true else if whole then d1.setBad x.entry false else d1
    let d3 := { d2 with xfer := none }.wrN .fmem 0 Off.FMEM_XFER_STAT (2 + 4 * bad.toNat + 8 * (d.mixedRows x).toNat)
    let d4 := ((d3.wr .fmem 0 Off.FMEM_XFER_CRC (crc32 bs)).wr .fmem 0 Off.FMEM_XFER_BYTES (satWord bs.length)).flag .fmem 0 10
    if bad then d4.flag .fmem 0 11 else d4

end Sys2Proof.Machine
end

