-- ==== Sys2Proof/Machine/Leng.lean ====
section
/-! DEFINITION. Layer engines: configuration checks, gangs, buffer uses, fences and release ("Layer engines", "Layer buffers"). -/

namespace Sys2Proof.Machine

/-! Configuration in use of an engine -/

/-- The descriptor in use. -/
def Dev.desc (d : Dev) (e : Nat) : List Word := (List.range 25).map fun i => d.use .leng e (0x100 + 4 * i)
def Dev.layerEnabled (d : Dev) (e : Nat) : Bool := d.useB .leng e Off.LENG_LAYER_CTRL 0
def Dev.layerSolid (d : Dev) (e : Nat) : Bool := d.useB .leng e Off.LENG_LAYER_CTRL 1
def Dev.orient (d : Dev) (e : Nat) : Nat := d.useF .leng e Off.LENG_LAYER_CTRL 2 3
def Dev.cropX (d : Dev) (e : Nat) : Nat := d.useF .leng e Off.LENG_CROP_POS 0 15
def Dev.cropY (d : Dev) (e : Nat) : Nat := d.useF .leng e Off.LENG_CROP_POS 16 15
def Dev.cropW (d : Dev) (e : Nat) : Nat := d.useF .leng e Off.LENG_CROP_SIZE 0 15
def Dev.cropH (d : Dev) (e : Nat) : Nat := d.useF .leng e Off.LENG_CROP_SIZE 16 15
def Dev.dstX (d : Dev) (e : Nat) : Int := signedOf (d.useF .leng e Off.LENG_DST_POS 0 16) 16
def Dev.dstY (d : Dev) (e : Nat) : Int := signedOf (d.useF .leng e Off.LENG_DST_POS 16 16) 16
def Dev.dstW (d : Dev) (e : Nat) : Nat := d.useF .leng e Off.LENG_DST_SIZE 0 15
def Dev.dstH (d : Dev) (e : Nat) : Nat := d.useF .leng e Off.LENG_DST_SIZE 16 15
def Dev.canvasW (d : Dev) (s : Nat) : Nat := d.useF .scn s Off.SCN_CANVAS 0 15
def Dev.canvasH (d : Dev) (s : Nat) : Nat := d.useF .scn s Off.SCN_CANVAS 16 15

/-- Width and height of the oriented image, W′ and H′ (R112). -/
def Dev.oriented (d : Dev) (e : Nat) : Nat × Nat :=
  if orientSwaps (d.orient e) then (d.cropH e, d.cropW e) else (d.cropW e, d.cropH e)

/-- An extent after the automatic pre-decimation (R118). -/
def preDec (src dst : Nat) : Nat := if 4 * dst < src then ceilDiv src 2 else src

/-- STEP of R119: round(W″ × 2²⁰ / dst), halves up. -/
def scaleStep (src dst : Nat) : Nat := (2 * src * 2 ^ 20 + dst) / (2 * dst)

/-- Source position of an output column or row, in units of 2⁻²⁰ (R119). -/
def scalePos (step i : Nat) (init : Int) : Int := ((i * step + step / 2 : Nat) : Int) - 2 ^ 19 + init

/-- H_INIT or V_INIT (R108). -/
def Dev.scaleInit (d : Dev) (e off : Nat) : Int := signedOf (d.useF .leng e off 0 24) 24

/-- A ratio within 1/8 to 32 (R117). -/
def ratioOk (src dst : Nat) : Bool := decide (src ≤ 8 * dst) && decide (dst ≤ 32 * src)

/-- Vertical filtering is active (R121). -/
def Dev.vFilter (d : Dev) (e : Nat) : Bool :=
  decide (scaleStep (preDec (d.oriented e).2 (d.dstH e)) (d.dstH e) ≠ 2 ^ 20) || decide (d.scaleInit e Off.LENG_V_INIT ≠ 0)

/-- Strip width of a gang of `g` engines (R116). -/
def stripWidth (w g : Nat) : Nat := ceilDiv w (64 * g) * 64

/-- Columns of strip `k` of `g` of the destination: first and count (R116). -/
def stripCols (w g k : Nat) : Nat × Nat :=
  if g ≤ 1 then (0, w) else (k * stripWidth w g, if k + 1 = g then w - (g - 1) * stripWidth w g else stripWidth w g)

/-- Destination columns `x0` up to below `x1` that lie inside the canvas. -/
def clipCols (dx : Int) (x0 x1 canvas : Nat) : Nat × Nat :=
  (max x0 (-dx).toNat, min x1 ((canvas : Int) - dx).toNat)

/-- Source margins beyond the crop on the low and high side of the oriented columns (R112, R119). -/
def Dev.margins (d : Dev) (e : Nat) : Nat × Nat :=
  let l := d.cropX e
  let r := d.useF .leng e Off.LENG_SRC_SIZE 0 15 - d.cropX e - d.cropW e
  let t := d.cropY e
  let b := d.useF .leng e Off.LENG_SRC_SIZE 16 15 - d.cropY e - d.cropH e
  match d.orient e with
  | 0 | 6 => (l, r)
  | 2 | 4 => (r, l)
  | 3 | 5 => (t, b)
  | _ => (b, t)

/-- Stored line width of strip `k` of `g`: the smaller of its source span and its columns, inside the canvas (R121). -/
def Dev.lineWidth (d : Dev) (e g k canvas : Nat) : Nat :=
  let w2 := preDec (d.oriented e).1 (d.dstW e)
  let c := stripCols (d.dstW e) g k
  let x := clipCols (d.dstX e) c.1 (c.1 + c.2) canvas
  if x.2 ≤ x.1 then 0
  else
    let step := scaleStep w2 (d.dstW e)
    let init := d.scaleInit e Off.LENG_H_INIT
    let m := if d.useB .leng e Off.LENG_SCALE_CTRL 8 then d.margins e else (0, 0)
    let lo : Int := max (scalePos step x.1 init / 2 ^ 20 - 3) (-(m.1 : Int))
    let hi : Int := min (scalePos step (x.2 - 1) init / 2 ^ 20 + 4) (((w2 + m.2 : Nat) : Int) - 1)
    min (x.2 - x.1) (hi - lo + 1).toNat

/-! Gangs (R114 to R116) -/

/-- Engines in the gang that an engine's configuration asks for. -/
def Dev.gangSize (d : Dev) (e : Nat) : Nat := d.useF .leng e Off.LENG_GANG 0 2 + 1

/-- The reason a lead's gang is rejected, apart from overlap (R130). -/
def Dev.gangReason (d : Dev) (e : Nat) : Option Nat :=
  let g := d.gangSize e
  if g = 1 then none
  else if 4 < e % 4 + g then some 0x26
  else if !((List.range g).all fun k => decide ((d.eng (e + k)).scene = (d.eng e).scene) && (d.eng e).scene.isSome) then some 0x27
  else if d.dstW e ≤ (g - 1) * stripWidth (d.dstW e) g then some 0x28
  else none

/-- Go through an aligned group of four engines in ascending order: engines below `upto` follow `lead` (R115). -/
def Dev.gangWalk (d : Dev) (base : Nat) : List Nat → Nat × Nat → List (Nat × Nat)
  | [], _ => []
  | i :: r, (lead, upto) =>
    let e := base + i
    if e < upto then (e, lead) :: Dev.gangWalk d base r (lead, upto)
    else if 1 < d.gangSize e ∧ (d.gangReason e).isNone then Dev.gangWalk d base r (e, e + d.gangSize e)
    else Dev.gangWalk d base r (lead, upto)

/-- The lead whose valid gang an engine follows. -/
def Dev.gangLead (d : Dev) (e : Nat) : Option Nat :=
  ((d.gangWalk (e - e % 4) [0, 1, 2, 3] (0, 0)).find? fun x => x.1 == e).map Prod.snd

/-- Engines of the valid gang of a lead: 1 without a gang. -/
def Dev.gangOf (d : Dev) (e : Nat) : Nat := if (d.gangReason e).isSome || (d.gangLead e).isSome then 1 else d.gangSize e

/-! Configuration checks (R83, R130) -/

/-- NaN or infinity in binary16. -/
def f16NonFinite (v : Nat) : Bool := decide (v / 1024 % 32 = 31)

/-- A negative binary16 other than −0. -/
def f16Negative (v : Nat) : Bool := decide (32768 ≤ v) && decide (v % 32768 ≠ 0)

/-- KEY_PARAM (R123). -/
def Dev.keyBad (d : Dev) (e : Nat) : Bool :=
  let mode := d.useF .leng e Off.LENG_KEY_CTRL 0 2
  let clip := d.useF .leng e Off.LENG_KEY_CLIP 0 16
  let soft := d.useF .leng e Off.LENG_KEY_CLIP 16 16
  let gain := d.useF .leng e Off.LENG_KEY_GAIN 0 16
  let u := d.useF .leng e Off.LENG_KEY_COLOUR 0 16
  let v := d.useF .leng e Off.LENG_KEY_COLOUR 16 16
  decide (mode = 3) || (decide (mode ≠ 0) && ([clip, soft, gain, u, v].any f16NonFinite || f16Negative soft || f16Negative gain))

/-- The first failing reason of an engine's configuration in a scene; `colourBad` is the check of its colour block. -/
def Dev.lengReason (d : Dev) (s e : Nat) (colourBad : Bool) : Option Nat :=
  let solid := d.layerSolid e
  let w := d.cropW e
  let h := d.cropH e
  let desc := d.desc e
  let g := match descFmt desc with | some f => f.granule | none => (1, 1)
  let dst := decide (d.dstW e = 0) || decide (16384 < d.dstW e) || decide (d.dstH e = 0) || decide (16384 < d.dstH e)
  let gang := if (d.gangLead e).isSome ∧ 1 < d.gangSize e then some 0x29 else d.gangReason e
  if solid then
    if dst then some 0x22 else match gang with
      | some r => some r
      | none => if d.keyBad e then some 0x2A else none
  else match descReason desc (d.orient e) d.core.installed with
    | some r => some r
    | none =>
      if w = 0 ∨ h = 0 ∨ descWidth desc < d.cropX e + w ∨ descHeight desc < d.cropY e + h then some 0x20
      else if d.cropX e % g.1 ≠ 0 ∨ w % g.1 ≠ 0 ∨ d.cropY e % g.2 ≠ 0 ∨ h % g.2 ≠ 0 then some 0x21
      else if dst then some 0x22
      else if !ratioOk (d.oriented e).1 (d.dstW e) ∨ !ratioOk (d.oriented e).2 (d.dstH e) then some 0x23
      else if d.vFilter e ∧ (List.range (d.gangOf e)).any (fun k => decide (6656 < d.lineWidth e (d.gangOf e) k (d.canvasW s)))
      then some 0x24
      else if 5 ≤ d.useF .leng e Off.LENG_SCALE_CTRL 0 3 ∨ 5 ≤ d.useF .leng e Off.LENG_SCALE_CTRL 3 3 then some 0x25
      else match gang with
        | some r => some r
        | none =>
          if d.keyBad e then some 0x2A
          else if d.useF .leng e Off.LENG_POLICY 0 2 = 3 then some 0x2B
          else if colourBad then some 0x30 else none

/-- A flag of BUF_STAT sets (R98). -/
def Dev.bufFlag (d : Dev) (e bit : Nat) : Dev := d.wr .leng e Off.LENG_BUF_STAT (sqSet (d.rd .leng e Off.LENG_BUF_STAT) (2 ^ bit))

/-- An illegal configuration is reported: BUF_REJECT, flag 7 and CONFIG_REJECT (R83, R131). -/
def Dev.lengReject (d : Dev) (e reason : Nat) : Dev :=
  ((d.wrN .leng e Off.LENG_BUF_REJECT reason).bufFlag e 7).event (131 + 4 * e) (7 + 256 * reason)

/-! Uses (R84) -/

/-- The words whose change ends a use: FORMAT to READY_VAL (R84). -/
def useKey (desc : List Word) : List Word := desc.take 18

/-- Remove a use's hold windows (R92). -/
def Use.release (u : Use) : Use := { u with held := false }

/-- Every use of an engine ends (R84). -/
def Eng.endUses (e : Eng) : Eng := { e with use := none, old := none, ending := e.ending ++ e.old.toList ++ e.use.toList }

/-- The extended use ends (R84, R193). -/
def Eng.endOld (e : Eng) : Eng := { e with old := none, ending := e.ending ++ e.old.toList }

/-- A new use of a descriptor; it is ready when it becomes active if READY_EN is 0 (R82, R92). -/
def newUse (id : Nat) (desc : List Word) : Use :=
  { id := id, desc := desc, ready := !bitOf (descW desc 0x160) 0, held := decide (descHold desc ≠ 0) }

/-- A use begins and replaces the present one; one never found ready ends unseen, and gives up its windows first (R84, R93). -/
def Eng.beginUse (e : Eng) (u : Use) : Eng :=
  match e.use with
  | none => { e with use := some u }
  | some v =>
    if v.ready then { e with use := some u, old := some v, ending := e.ending ++ e.old.toList }
    else { e with use := some u, ending := e.ending ++ [v.release] }

/-- The use of an engine at a boundary of its scene, by whether a slot names it and by its configuration in use. -/
def Dev.trackUse (d : Dev) (e : Nat) (named : Bool) (reason : Option Nat) : Dev :=
  let x := d.eng e
  let descBad := match reason with | some r => decide (r < 0x20) | none => false
  if !named || !d.layerEnabled e || d.layerSolid e || (d.gangLead e).isSome || descBad then d.setEng e x.endUses
  else
    let desc := d.desc e
    match x.use with
    | some u => if useKey u.desc = useKey desc then d else { d.setEng e (x.beginUse (newUse d.useId desc)) with useId := d.useId + 1 }
    | none => { d.setEng e (x.beginUse (newUse d.useId desc)) with useId := d.useId + 1 }

/-- USE_STAT of an engine (R98): the current use is the extended one where a successor waits, and that successor the newer one. -/
def Eng.useStat (e : Eng) : Word :=
  let cur := match e.old with | some u => some u | none => e.use
  let is := fun (f : Use → Bool) (u : Option Use) => match u with | some x => f x | none => false
  BitVec.ofNat 32 (flagsNat [is (·.ready) cur, is (·.held) cur, is (!·.ready) e.use, !e.ending.isEmpty])

/-- The read of a READY fence (R85, R86): denied or poisoned, it counts as not ready. -/
def Dev.readFence (d : Dev) (e : Nat) : Dev :=
  match (d.eng e).use with
  | none => d
  | some u =>
    if u.ready then d
    else match d.dramRead .comp (descAddr u.desc 0x138) 8 with
      | (d1, none) => (d1.bufFlag e 1).event (128 + 4 * e) 1
      | (d1, some bs) =>
        if descVal u.desc 0x140 ≤ leNat bs then d1.setEng e { d1.eng e with use := some { u with ready := true } } else d1

/-- RELEASE_WRITE: the oldest ended use of an engine writes its RELEASE fence, and its windows are removed (R89, R92). -/
def Dev.releaseOldest (d : Dev) (e : Nat) : Dev :=
  match (d.eng e).ending with
  | [] => d
  | u :: r =>
    let d1 := if bitOf (descW u.desc 0x160) 1 then
        match d.dramWrite .comp (descAddr u.desc 0x148) (leBytes 8 (descVal u.desc 0x150)) with
        | (x, .denied) => x.bufFlag e 2
        | (x, _) => x
      else d
    d1.setEng e { d1.eng e with ending := r }

/-! Metadata (R90, R91) -/

/-- A 16-bit field of a metadata block. -/
def metaHalf (bs : List (BitVec 8)) (i : Nat) : Nat := leNat ((bs.drop i).take 2)

/-- The fields taken from a good block; a field whose VALID bit is 0 keeps its value. -/
def metaTake (m : Meta) (bs : List (BitVec 8)) : Meta :=
  let v := metaHalf bs 2
  { maxLum := if v / 4 % 2 = 1 then metaHalf bs 16 else m.maxLum
    avgLum := if v / 4 % 2 = 1 then metaHalf bs 18 else m.avgLum
    minLum := if v / 4 % 2 = 1 then metaHalf bs 20 else m.minLum
    lumValid := m.lumValid || v / 4 % 2 == 1
    timecode := if v / 8 % 2 = 1 then BitVec.ofNat 32 (leNat ((bs.drop 24).take 4)) else m.timecode
    seq := if v % 2 = 1 then BitVec.ofNat 32 (leNat ((bs.drop 4).take 4)) else m.seq }

/-- META_READ_DONE: the block of the present use is taken, or ignored with META_BAD (R90, R91). -/
def Dev.readMeta (d : Dev) (e : Nat) : Dev :=
  match (d.eng e).use with
  | none => d
  | some u =>
    if !u.ready || u.metaRead || !bitOf (descW u.desc 0x160) 2 then d
    else
      let bad := fun (x : Dev) => (x.bufFlag e 5).onCore (·.record (128 + 4 * e) 5 0 0 0 0)
      match d.dramRead .comp (descAddr u.desc 0x158) 64 with
      | (d1, none) => (bad d1).setEng e { (bad d1).eng e with use := some { u with metaRead := true } }
      | (d1, some bs) =>
        let d2 := if (bs.getD 0 0) = 1 then d1.setEng e { d1.eng e with info := metaTake (d1.eng e).info bs } else bad d1
        let tc := if (bs.getD 0 0) = 1 ∧ (bs.getD 2 0).toNat / 8 % 2 = 1 then some (BitVec.ofNat 32 (leNat ((bs.drop 24).take 4))) else none
        d2.setEng e { d2.eng e with use := some { u with metaRead := true, timecode := tc } }

/-- PIXEL_READ_RETURN: a poisoned or denied 64-byte read is counted once per read, and FETCH_POISON is set; the record of the
frame carries the first address and the count (R129). -/
def Dev.pixelReturn (d : Dev) (e a : Nat) : Dev :=
  match d.dramRead .comp (a - a % 64) 64 with
  | (d1, some _) => d1
  | (d1, none) =>
    let x := d1.eng e
    let d2 := (d1.inc .leng e Off.LENG_POISON_READS).setEng e
      { x with poisonAt := some (x.poisonAt.getD (a - a % 64)), poisonReads := x.poisonReads + 1 }
    if x.poisonAt.isSome then d2.onCore (·.flagOnly .leng e 8)
    else d2.flag .leng e 8 0 (BitVec.ofNat 32 (a - a % 64)) (BitVec.ofNat 32 (a / 2 ^ 32)) 1

end Sys2Proof.Machine
end

