-- ==== Sys2Proof/Machine/Pixel.lean ====
section
/-! DEFINITION. The pixels of a layer: samples, chroma upsampling, decoding, gamut, tone LUT, scaling, keying and culling
("Layer engines: fetch, scaling and keying", "Colour processing and tone mapping"). -/

namespace Sys2Proof.Machine

/-! Samples (R70 to R76) -/

/-- A 64-byte pixel read of an engine returns poison: denied, out of range or poisoned (R129). -/
def Dev.compLineBad (d : Dev) (l : Nat) : Bool :=
  !d.core.mwinAllows .comp (64 * l) 64 false || decide (d.core.installed < 64 * l + 64) || d.linePoisoned l

/-- Element (x, y) of a plane, and whether it is marked. -/
def Dev.element (d : Dev) (desc : List Word) (plane x y : Nat) : Nat × Bool :=
  let a := descElemAddr desc plane x y
  (leNat (readBytes d.mem a (descElem desc plane)), d.compLineBad (a / 64))

/-- Bits `lo` to `lo + len - 1` of an element. -/
def field (v lo len : Nat) : Nat := v / 2 ^ lo % 2 ^ len

/-- Bits of a sample of a YCbCr format (R71). -/
def sampleBits (desc : List Word) : Nat :=
  match descFmt desc with
  | some .y8_420 | some .y8_422 => 8
  | some .y10p_420 | some .y10p_422 => 10
  | _ => if descDepth desc = 1 then 12 else 10

/-- The luma code at a position. -/
def Dev.lumaAt (d : Dev) (desc : List Word) (x y : Nat) : Nat × Bool :=
  match descFmt desc with
  | some .y8_420 | some .y8_422 => d.element desc 0 x y
  | some .y10p_420 | some .y10p_422 =>
    let e := d.element desc 0 (x / 3) y
    (field e.1 (10 * (x % 3)) 10, e.2)
  | _ =>
    let e := d.element desc 0 x y
    (e.1 / 2 ^ (16 - sampleBits desc), e.2)

/-- Chroma code `c` (0 Cb, 1 Cr) of chroma sample (x, y). -/
def Dev.chromaAt (d : Dev) (desc : List Word) (c x y : Nat) : Nat × Bool :=
  match descFmt desc with
  | some .y8_420 | some .y8_422 =>
    let e := d.element desc 1 x y
    (field e.1 (8 * c) 8, e.2)
  | some .y16_444 =>
    let e := d.element desc (1 + c) x y
    (e.1 / 2 ^ (16 - sampleBits desc), e.2)
  | some .y10p_420 | some .y10p_422 =>
    let e := d.element desc 1 ((2 * x + c) / 3) y
    (field e.1 (10 * ((2 * x + c) % 3)) 10, e.2)
  | _ =>
    let e := d.element desc 1 x y
    (field e.1 (16 * c) 16 / 2 ^ (16 - sampleBits desc), e.2)

/-- The chroma samples that a luma position takes along one direction, with weights in quarters (R134): `half` for subsampled
chroma, siting, filter, and the range of chroma samples inside the crop. -/
def chromaTaps (half : Bool) (siting : Nat) (replicate : Bool) (x lo hi : Nat) : List (Nat × Nat) :=
  let cl := fun (i : Int) => (max (lo : Int) (min (hi : Int) i)).toNat
  let k : Int := (x / 2 : Nat)
  if !half then [(x, 4)]
  else if replicate then [(cl k, 4)]
  else if siting = 0 then (if x % 2 = 0 then [(cl k, 4)] else [(cl k, 2), (cl (k + 1), 2)])
  else if x % 2 = 0 then [(cl (k - 1), 1), (cl k, 3)] else [(cl k, 3), (cl (k + 1), 1)]

/-- A chroma value at full resolution in sixteenths, and whether a marked sample was used. -/
def Dev.chromaFull (d : Dev) (desc : List Word) (c : Nat) (tx ty : List (Nat × Nat)) : Nat × Bool :=
  (ty.flatMap fun y => tx.map fun x => (d.chromaAt desc c x.1 y.1, x.2 * y.2)).foldl
    (fun m s => (m.1 + s.1.1 * s.2, m.2 || s.1.2)) (0, false)

/-- Kr and Kb of a preset matrix in units of 10⁻⁴ (R135). -/
def matrixK (m : Nat) : Int × Int := if m = 0 then (2990, 1140) else if m = 1 then (2126, 722) else (2627, 593)

/-- Non-linear R′, G′ and B′ as F20 from Y, Cb and Cr over one denominator (R135); `prog` is the programmable matrix. -/
def yccToRgb (m : Nat) (prog : List Int) (y cb cr : Int) (den : Nat) : Int × Int × Int :=
  if m = 3 then
    let row := fun (r : Nat) =>
      f20 ((prog.getD (3 * r) 0 * y + prog.getD (3 * r + 1) 0 * cb + prog.getD (3 * r + 2) 0 * cr) * f20One) (den * 2 ^ 20)
    (row 0, row 1, row 2)
  else
    let k := matrixK m
    let r := 10000 * y + 2 * (10000 - k.1) * cr
    let b := 10000 * y + 2 * (10000 - k.2) * cb
    let g := 100000000 * y - k.1 * r - k.2 * b
    (f20 (r * f20One) (10000 * den), f20 (g * f20One) ((10000 * (10000 - k.1 - k.2)).toNat * den), f20 (b * f20One) (10000 * den))

/-- A coefficient register in S3.20. -/
def s320 (w : Word) : Int := signedOf (bitsOf w 0 24) 24

/-- The YCbCr pixel at a source position; chroma neighbours stay inside the rectangle (x0, y0) to (x1, y1) (R72 to R74, R134). -/
def Dev.yccPixel (d : Dev) (e : Nat) (desc : List Word) (f : Fmt) (x y x0 y0 x1 y1 : Nat) : Px :=
  let fw := descW desc 0x100
  let n := sampleBits desc
  let k : Nat := 2 ^ (n - 8)
  let hx := f != .y16_444
  let cup := d.use .leng e Off.LENG_CUP_CTRL
  let tx := chromaTaps hx (bitsOf fw 16 2) (bitOf cup 0) x (x0 / 2) (x1 / 2)
  let ty := chromaTaps f.half (bitsOf fw 18 2) (bitOf cup 1) y (y0 / 2) (y1 / 2)
  let l := d.lumaAt desc x y
  let cb := d.chromaFull desc 0 tx ty
  let cr := d.chromaFull desc 1 tx ty
  let al := if descAlpha desc = 0 then (1, false) else d.element desc 3 x y
  let alim := if descAlpha desc = 0 then 1 else if descAlpha desc = 1 then 255 else 65535
  let prog := (List.range 9).map fun i => s320 (d.use .leng e (Off.LENG_YCC + 4 * i))
  let rgb :=
    if bitOf fw 23 then
      yccToRgb (bitsOf fw 20 3) prog (16 * l.1) ((cb.1 : Int) - 16 * 2 ^ (n - 1)) ((cr.1 : Int) - 16 * 2 ^ (n - 1)) (16 * (2 ^ n - 1))
    else
      yccToRgb (bitsOf fw 20 3) prog (((l.1 : Int) - 16 * k) * 3584) (((cb.1 : Int) - 2048 * k) * 219) (((cr.1 : Int) - 2048 * k) * 219)
        (219 * 3584 * k)
  { r := rgb.1, g := rgb.2.1, b := rgb.2.2, a := unorm al.1 alim, bad := l.2 || cb.2 || cr.2 || al.2 }

/-- The RGB or luminance pixel at a source position, as stored (R70, R102). -/
def Dev.rgbPixel (d : Dev) (desc : List Word) (f : Fmt) (x y : Nat) : Px :=
  let e := d.element desc 0 x y
  let v := e.1
  let p := fun (r g b a : Nat) (m am : Nat) => { r := unorm r m, g := unorm g m, b := unorm b m, a := unorm a am, bad := e.2 : Px }
  let q : Px := match f with
    | .rgba8 => p (field v 0 8) (field v 8 8) (field v 16 8) (field v 24 8) 255 255
    | .bgra8 => p (field v 16 8) (field v 8 8) (field v 0 8) (field v 24 8) 255 255
    | .rgb10a2 => p (field v 0 10) (field v 10 10) (field v 20 10) (field v 30 2) 1023 3
    | .rgba16 => p (field v 0 16) (field v 16 16) (field v 32 16) (field v 48 16) 65535 65535
    | .rgba16f => { r := f16Val (field v 0 16), g := f16Val (field v 16 16), b := f16Val (field v 32 16)
                    a := f16Val (field v 48 16), bad := e.2 }
    | .l8 => p v v v 1 255 1
    | _ => p v v v 1 65535 1
  if bitOf (descW desc 0x100) 11 then { q with a := f20One } else q

/-- The layer is an L mask (R70). -/
def descMask (desc : List Word) : Bool :=
  bitOf (descW desc 0x100) 24 && (match descFmt desc with | some .l8 | some .l16 => true | _ => false)

/-! Decoding and gamut (R136 to R140) -/

/-- The decode of three channels (R136, R137). -/
def Dev.decodePx (d : Dev) (e : Nat) (p : Px) : Px :=
  let t := d.useF .leng e Off.LENG_CLR_CTRL 0 3
  let sdr := d.use .leng e Off.LENG_SDR_PARAM
  let hlg := d.use .leng e Off.LENG_HLG_PARAM
  if t = 0 then p.map fun v => f20Mul v (f16Val (d.useF .leng e Off.LENG_LIN_SCALE 0 16))
  else if t = 4 then
    { p with r := f20 (Config.decodeHlg hlg 0 p.r p.g p.b) 1, g := f20 (Config.decodeHlg hlg 1 p.r p.g p.b) 1
             b := f20 (Config.decodeHlg hlg 2 p.r p.g p.b) 1 }
  else if t = 3 then p.map fun v => f20 (Config.decodeCurve t sdr (max 0 (min (f20One : Int) v))) 1
  else p.map fun v => if v < 0 then -(f20 (Config.decodeCurve t sdr (-v)) 1) else f20 (Config.decodeCurve t sdr v) 1

/-- Divide colour by alpha; 0 where alpha is 0. -/
def Px.straight (p : Px) : Px := p.map fun v => f20Div v p.a

/-- Multiply colour by alpha; 0 where alpha is 0 (R101). -/
def Px.premultiply (p : Px) : Px := p.map fun v => f20Mul v p.a

/-- Stage 5 for a blend setting that reads stored colour as premultiplied, or as straight (R138). -/
def Dev.decodeStage (d : Dev) (e : Nat) (premul : Bool) (p : Px) : Px :=
  if premul && decide (d.useF .leng e Off.LENG_CLR_CTRL 0 3 ≠ 0) && !d.useB .leng e Off.LENG_CLR_CTRL 6 then
    (d.decodePx e p.straight).premultiply
  else d.decodePx e p

/-- The rows of a preset gamut matrix in units of 10⁻⁶ (R140). -/
def gamutRows (g : Nat) : List Int :=
  if g = 1 then [627404, 329283, 43313, 69097, 919540, 11362, 16391, 88013, 895595]
  else [753833, 198597, 47570, 45744, 941777, 12479, -1210, 17601, 983608]

/-- Stage 6, and the multiplication of straight colour by alpha (R101, R140). -/
def Dev.gamutStage (d : Dev) (e : Nat) (premul : Bool) (p : Px) : Px :=
  let g := d.useF .leng e Off.LENG_CLR_CTRL 4 2
  let q : Px :=
    if g = 0 then p
    else if g = 3 then
      let m := fun (i : Nat) => s320 (d.use .leng e (Off.LENG_MAT + 4 * i))
      let al : Int := if premul then p.a else f20One
      let row := fun (r : Nat) => f20 (m (4 * r) * p.r + m (4 * r + 1) * p.g + m (4 * r + 2) * p.b + m (4 * r + 3) * al) (2 ^ 20)
      { p with r := row 0, g := row 1, b := row 2 }
    else
      let m := fun (i : Nat) => (gamutRows g).getD i 0
      let row := fun (r : Nat) => f20 (m (3 * r) * p.r + m (3 * r + 1) * p.g + m (3 * r + 2) * p.b) 1000000
      { p with r := row 0, g := row 1, b := row 2 }
  if premul then (if q.a = 0 then q.map fun _ => 0 else q) else q.premultiply

/-! Tone LUTs (R144, R145) -/

/-- Entry `i` of a LUT of `n` entries, in units of 1/65535. -/
def Lut.entry (l : Lut) (n i : Nat) : Nat :=
  if l.key.curve = 2 then l.codes.getD i 0
  else Config.toneCurve n l.key.curve l.key.exposure l.peak (bitsOf l.key.src 16 16) l.key.dst i % 65536

/-- T(v) of R144. -/
def Lut.apply (l : Lut) (n : Nat) (v : Int) : Int :=
  let pos : Nat := min (2 ^ 32) (Config.pqCode v) * (n - 1)
  let i : Nat := pos / 2 ^ 32
  let f : Nat := pos % 2 ^ 32
  let a := l.entry n i
  let y : Int := if i = n - 1 then ((a * 2 ^ 32 : Nat) : Int) else ((a * 2 ^ 32 : Nat) : Int) + (f : Int) * ((l.entry n (i + 1) : Int) - (a : Int))
  f20 (Config.pqLight (y.toNat / 65535)) 1

/-- A tone LUT on straight colour. -/
def Lut.onStraight (l : Lut) (n : Nat) (p : Px) : Px :=
  if l.key.mode = 2 then p.map fun c => if 0 < c then l.apply n c else c
  else
    let m := max p.r (max p.g p.b)
    if 0 < m then p.map fun c => f20 (c * l.apply n m) m.natAbs else p

/-- A tone LUT on premultiplied colour (R144). -/
def Lut.onPx (l : Lut) (n : Nat) (p : Px) : Px := if l.key.mode = 0 then p else (l.onStraight n p.straight).premultiply

/-! One source pixel, stages 2 to 7 -/

/-- FILL as a pixel with an alpha (R109). -/
def Dev.fillPx (d : Dev) (e : Nat) (al : Int) : Px :=
  { r := f16Val (d.useF .leng e Off.LENG_FILL_RG 0 16), g := f16Val (d.useF .leng e Off.LENG_FILL_RG 16 16)
    b := f16Val (d.useF .leng e Off.LENG_FILL_BA 0 16), a := al }

/-- Colour is read as premultiplied by alpha under a blend mode (R175). -/
def premulMode (mode : Nat) : Bool := mode == 0 || mode == 2

/-- The crop pixel of an oriented pixel, which may lie beyond the crop (R112). -/
def orientPos (o : Nat) (w h u v : Int) : Int × Int :=
  match o with
  | 0 => (u, v) | 1 => (v, h - 1 - u) | 2 => (w - 1 - u, h - 1 - v) | 3 => (w - 1 - v, u)
  | 4 => (w - 1 - u, v) | 5 => (v, u) | 6 => (u, h - 1 - v) | _ => (w - 1 - v, h - 1 - u)

/-- An integer held between two limits. -/
def clampI (lo hi x : Int) : Int := max lo (min hi x)

/-- The pixel of a layer at an oriented position after stages 2 to 7: a position beyond the crop replicates the crop's edge, or
reads the source with EDGE (R108, R116, R119); `tone` is the layer's LUT. -/
def Dev.sourcePixel (d : Dev) (e : Nat) (desc : List Word) (mode : Nat) (tone : Lut) (edge : Bool) (u v : Int) : Px :=
  let w : Int := d.cropW e
  let h : Int := d.cropH e
  let wh := d.oriented e
  let p := orientPos (d.orient e) w h (if edge then u else clampI 0 (wh.1 - 1) u) (if edge then v else clampI 0 (wh.2 - 1) v)
  let x := clampI 0 (descWidth desc - 1) (p.1 + d.cropX e)
  let y := clampI 0 (descHeight desc - 1) (p.2 + d.cropY e)
  let inside := decide (0 ≤ p.1 ∧ p.1 < w ∧ 0 ≤ p.2 ∧ p.2 < h)
  let x0 := if inside then d.cropX e else 0
  let y0 := if inside then d.cropY e else 0
  let x1 := if inside then d.cropX e + d.cropW e - 1 else descWidth desc - 1
  let y1 := if inside then d.cropY e + d.cropH e - 1 else descHeight desc - 1
  match descFmt desc with
  | none => { r := 0, g := 0, b := 0, a := 0 }
  | some f =>
    let s := if f.ycc then d.yccPixel e desc f x.toNat y.toNat x0 y0 x1 y1 else d.rgbPixel desc f x.toNat y.toNat
    if descMask desc then
      let m : Px := { d.fillPx e s.r with bad := s.bad }
      if premulMode mode then (if m.a = 0 then m.map fun _ => 0 else m) else m.premultiply
    else tone.onPx 1024 (d.gamutStage e (premulMode mode) (d.decodeStage e (premulMode mode) s))

/-! Scaling (R117 to R122) -/

/-- Coefficient registers hold two taps each (R122). -/
def Dev.progTap (d : Dev) (e : Nat) (vertical : Bool) (phase tap : Nat) : Int :=
  let n := if vertical then 6 else 8
  let pt := if phase ≤ 32 then (phase, tap) else (64 - phase, n - 1 - tap)
  let off := if vertical then Off.LENG_VCOEF + 12 * pt.1 + 4 * (pt.2 / 2) else Off.LENG_HCOEF + 16 * pt.1 + 4 * (pt.2 / 2)
  signedOf (d.useF .leng e off (16 * (pt.2 % 2)) 14) 14

/-- A tap of the coefficient set in use (R117): a built-in phase sums to 4,096, which fixes its floor tap. -/
def Dev.scaleTap (d : Dev) (e : Nat) (vertical : Bool) (src dst phase tap : Nat) : Int :=
  let n := if vertical then 6 else 8
  let c := n / 2 - 1
  let set := d.useF .leng e Off.LENG_SCALE_CTRL (if vertical then 3 else 0) 3
  let band := if src ≤ dst then 0 else if src ≤ 2 * dst then 1 else 2
  if set = 4 then d.progTap e vertical phase tap
  else if set = 3 then (if tap = (if phase < 32 then c else c + 1) then 4096 else 0)
  else if set = 2 then (if tap = c then 4096 - 64 * phase else if tap = c + 1 then 64 * phase else 0)
  else if tap = c then
    4096 - ((List.range n).filter (· != c)).foldl (fun m t => m + Config.scalerTap vertical set band phase t) 0
  else Config.scalerTap vertical set band phase tap

/-- The weighted sum of pixels, over a divisor, rounded to F20. -/
def mixPx (l : List (Int × Px)) (den : Nat) : Px :=
  { r := f20 (l.foldl (fun m x => m + x.1 * x.2.r) 0) den, g := f20 (l.foldl (fun m x => m + x.1 * x.2.g) 0) den
    b := f20 (l.foldl (fun m x => m + x.1 * x.2.b) 0) den, a := f20 (l.foldl (fun m x => m + x.1 * x.2.a) 0) den
    bad := l.any fun x => x.2.bad }

/-- Pre-decimation of a line (R118): pixel k averages 2k and 2k + 1, and the last pixel of an odd extent is duplicated. -/
def decimate (src dst : Nat) (at_ : Int → Px) (k : Int) : Px :=
  if 4 * dst < src then
    let second := if src % 2 = 1 ∧ 2 * k + 1 = src then 2 * k else 2 * k + 1
    mixPx [(1, at_ (2 * k)), (1, at_ second)] 2
  else at_ k

/-- One direction of the scaler: output position `i` from pixels of the pre-decimated line (R119). -/
def Dev.scaleLine (d : Dev) (e : Nat) (vertical : Bool) (src dst i : Nat) (at_ : Int → Px) : Px :=
  let n := if vertical then 6 else 8
  let pos := scalePos (scaleStep (preDec src dst) dst) i (d.scaleInit e (if vertical then Off.LENG_V_INIT else Off.LENG_H_INIT))
  let phase := (pos / 2 ^ 14 % 64).toNat
  mixPx ((List.range n).map fun t =>
    (d.scaleTap e vertical (preDec src dst) dst phase t, at_ (pos / 2 ^ 20 - (n / 2 - 1 : Nat) + t))) 4096

/-- Stages 8 and 9 at a destination pixel (R118 to R121). -/
def Dev.scaledPixel (d : Dev) (e : Nat) (desc : List Word) (mode : Nat) (tone : Lut) (i j : Nat) : Px :=
  let wh := d.oriented e
  let w := d.dstW e
  let h := d.dstH e
  let edge := d.useB .leng e Off.LENG_SCALE_CTRL 8
  let px := d.sourcePixel e desc mode tone edge
  if wh = (w, h) ∧ d.scaleInit e Off.LENG_H_INIT = 0 ∧ d.scaleInit e Off.LENG_V_INIT = 0 then px i j
  else
    let pre := fun (u v : Int) => decimate wh.2 h (fun v' => decimate wh.1 w (fun u' => px u' v') u) v
    if preDec wh.1 w < w then d.scaleLine e false wh.1 w i fun u => d.scaleLine e true wh.2 h j fun v => pre u v
    else d.scaleLine e true wh.2 h j fun v => d.scaleLine e false wh.1 w i fun u => pre u v

/-- Alpha held between 0 and 1.0 after scaling; no colour where it is 0 (R101). -/
def Px.clampAlpha (p : Px) : Px :=
  let q := { p with a := clampI 0 f20One p.a }
  if q.a = 0 then q.map fun _ => 0 else q

/-! Keying (R123, R124) -/

/-- BT.2020 luminance, in units of 2⁻⁴³ × 10⁻⁴. -/
def Px.lum4 (p : Px) : Int := 2627 * p.r + 6780 * p.g + 593 * p.b

/-- s of R124 for a luma key or a chroma key. -/
def Dev.keySignal (d : Dev) (e : Nat) (p : Px) : Int :=
  let y := f20 p.lum4 10000
  if d.useF .leng e Off.LENG_KEY_CTRL 0 2 = 1 then y
  else
    let dd := max y (2 ^ 29)
    let u := f20Div (p.b - y) dd - f16Val (d.useF .leng e Off.LENG_KEY_COLOUR 0 16)
    let v := f20Div (p.r - y) dd - f16Val (d.useF .leng e Off.LENG_KEY_COLOUR 16 16)
    Config.keyRoot (u.natAbs * u.natAbs + v.natAbs * v.natAbs)

/-- Stage 10: alpha and premultiplied colour times k. -/
def Dev.keyStage (d : Dev) (e : Nat) (p : Px) : Px :=
  if d.useF .leng e Off.LENG_KEY_CTRL 0 2 = 0 then p
  else
    let s := d.keySignal e p.straight
    let clip := f16Val (d.useF .leng e Off.LENG_KEY_CLIP 0 16)
    let soft := f16Val (d.useF .leng e Off.LENG_KEY_CLIP 16 16)
    let ramp : Int := if soft = 0 then (if clip ≤ s then f20One else 0) else clampI 0 f20One (f20Div (s - clip) soft)
    let k0 := min (f20One : Int) (f20Mul (f16Val (d.useF .leng e Off.LENG_KEY_GAIN 0 16)) ramp)
    let k := if d.useB .leng e Off.LENG_KEY_CTRL 2 then f20One - k0 else k0
    { (p.map fun c => f20Mul c k) with a := f20Mul p.a k }

/-- What a layer delivers at a destination pixel, before poison substitution: a solid layer its fill, else its use (R109). -/
def Dev.layerPixel (d : Dev) (e : Nat) (desc : Option (List Word)) (mode : Nat) (tone : Lut) (i j : Nat) : Px :=
  match desc with
  | none =>
    let p := d.fillPx e (f16Val (d.useF .leng e Off.LENG_FILL_BA 16 16))
    d.keyStage e (if premulMode mode then p else p.premultiply).clampAlpha
  | some u => d.keyStage e (d.scaledPixel e u mode tone i j).clampAlpha

/-! Coverage culling (R125 to R127) -/

/-- A rectangle: x, y, width, height on the canvas. -/
structure Rect where
  x : Int
  y : Int
  w : Int
  h : Int
deriving DecidableEq, Repr

/-- The intersection of two rectangles. -/
def Rect.meet (a b : Rect) : Rect :=
  let x := max a.x b.x
  let y := max a.y b.y
  { x := x, y := y, w := min (a.x + a.w) (b.x + b.w) - x, h := min (a.y + a.h) (b.y + b.h) - y }

/-- Nothing in it. -/
def Rect.isEmpty (a : Rect) : Bool := decide (a.w ≤ 0) || decide (a.h ≤ 0)

/-- One rectangle lies inside another. -/
def Rect.inside (a b : Rect) : Bool :=
  decide (b.x ≤ a.x) && decide (b.y ≤ a.y) && decide (a.x + a.w ≤ b.x + b.w) && decide (a.y + a.h ≤ b.y + b.h)

/-- The destination of a layer, clipped to the canvas (R113). -/
def Dev.clipRect (d : Dev) (s e : Nat) : Rect :=
  Rect.meet { x := d.dstX e, y := d.dstY e, w := d.dstW e, h := d.dstH e } { x := 0, y := 0, w := d.canvasW s, h := d.canvasH s }

/-- The destination lies wholly outside the canvas. -/
def Dev.offCanvas (d : Dev) (s e : Nat) : Bool := (d.clipRect s e).isEmpty

/-- Opaque rectangle `k`, on the canvas and inside the destination (R126). -/
def Dev.opaqueRect (d : Dev) (s e k : Nat) : Rect :=
  let p := d.use .leng e (Off.LENG_OPQ_POS + 8 * k)
  let z := d.use .leng e (Off.LENG_OPQ_SIZE + 8 * k)
  Rect.meet (d.clipRect s e) { x := d.dstX e + bitsOf p 0 15, y := d.dstY e + bitsOf p 16 15, w := bitsOf z 0 15, h := bitsOf z 16 15 }

/-- A layer is opaque throughout, its blend setting apart (R125). -/
def Dev.opaqueLayer (d : Dev) (e : Nat) (desc : Option (List Word)) : Bool :=
  match desc with
  | none => decide (f16Val (d.useF .leng e Off.LENG_FILL_BA 16 16) = f20One)
  | some u => match descFmt u with
    | none => false
    | some f => decide (descAlpha u = 0) && !descMask u
        && (f.ycc || f == .l8 || f == .l16 || bitOf (descW u 0x100) 11)

/-- A layer covers a tile (R125): its blend mode, its global alpha, and its keyer off. -/
def Dev.coversTile (d : Dev) (s e : Nat) (desc : Option (List Word)) (mode galpha : Nat) (tile : Rect) : Bool :=
  mode != 2 && galpha == 65535 && d.useF .leng e Off.LENG_KEY_CTRL 0 2 == 0
    && ((d.opaqueLayer e desc && tile.inside (d.clipRect s e)) || (List.range 4).any fun k => tile.inside (d.opaqueRect s e k))

end Sys2Proof.Machine
end

