-- ==== Sys2Proof/Machine/Tone.lean ====
section
/-! DEFINITION. Tone mappers: tone states, LUT builds, swaps, dynamic mapping and configuration checks (R143 to R149, R154). -/

namespace Sys2Proof.Machine

/-! Tone states (R146) -/

/-- The number of a scene's tone mapper. -/
def sceneTone (s : Nat) : Nat := 64 + s

/-- The tone state that a reading of a TONE page holds. -/
def sceneKey (g : Nat → Word) : ToneKey :=
  let c := g Off.TONE_TONE_CTRL
  { mode := if bitOf c 0 then 1 + bitsOf c 1 1 else 0, curve := bitsOf c 2 2, dyn := bitsOf c 4 2, exposure := g Off.TONE_EXPOSURE
    src := g Off.TONE_SRC_RANGE, dst := g Off.TONE_DST_RANGE
    table := (g Off.TONE_TABLE_LO).toNat + bitsOf (g Off.TONE_TABLE_HI) 0 8 * 2 ^ 32 }

/-- The tone state that a reading of a LENG page holds. -/
def layerKey (g : Nat → Word) : ToneKey :=
  let c := g Off.LENG_CLR_CTRL
  { mode := bitsOf c 8 2, curve := bitsOf c 10 2, dyn := bitsOf c 12 1, exposure := g Off.LENG_LUT_EXPOSURE
    src := g Off.LENG_LUT_SRC, dst := g Off.LENG_LUT_DST
    table := (g Off.LENG_LUT_TABLE_LO).toNat + bitsOf (g Off.LENG_LUT_TABLE_HI) 0 8 * 2 ^ 32 }

/-- Entries of a tone mapper's LUT (R144). -/
def lutSize (t : Nat) : Nat := if t < 64 then 1024 else 4096

/-- A luminance in cd/m² as a PQ code in units of 2⁻³². -/
def pqOfCd (cd : Nat) : Nat := Config.pqCode (f20 (cd * f20One) 203)

/-- The source peak in cd/m² that a layer's metadata gives its own LUT (R149). -/
def layerPeak (m : Meta) (key : ToneKey) : Nat :=
  max (if m.lumValid then max 1 (min 10000 m.maxLum) else 10000) (bitsOf key.src 16 16 / 10000 + 1)

/-- The source peak that a build starts from. -/
def Dev.buildPeak (d : Dev) (t : Nat) (key : ToneKey) : Nat :=
  if t < 64 ∧ key.dyn = 1 then pqOfCd (layerPeak (d.eng t).info key) else pqOfCd (bitsOf key.src 0 16)

/-! Builds -/

/-- LUT_STAT.BUILDING and WAITING follow (R153). -/
def Dev.showBuilding (d : Dev) (s : Nat) : Dev :=
  let x := d.tone (sceneTone s)
  (d.setB .tone s Off.TONE_LUT_STAT 16 ((d.buildsOf s).any fun b => b.tone == sceneTone s)).setB .tone s Off.TONE_LUT_STAT 17
    (x.back.isSome || x.dynBack.isSome)

/-- Abandon the builds of a tone mapper: every one, or only the dynamic ones. -/
def Dev.abandonBuilds (d : Dev) (t : Nat) (dynOnly : Bool) : Dev :=
  let d1 := [0, 1, 2, 3].foldl (fun x s => (x.setBuilds s ((x.buildsOf s).filter fun b => b.tone != t || (dynOnly && !b.dynamic)))) d
  let d2 := d1.setTone t { d1.tone t with dynBack := none, back := if dynOnly then (d1.tone t).back else none }
  if 64 ≤ t then d2.showBuilding (t - 64) else d2

/-- Queue a build with a scene's sequencer. -/
def Dev.queueBuild (d : Dev) (s : Nat) (b : Build) : Dev := (d.setBuilds s (d.buildsOf s ++ [b])).showBuilding s

/-- An ARM of the owning page completes with a tone state in its shadow (R146). -/
def Dev.toneArm (d : Dev) (s t : Nat) (key : ToneKey) : Dev :=
  let x := d.tone t
  let present := match x.want with | some w => w.key | none => x.front.key
  if key = present then d
  else
    let d1 := d.abandonBuilds t false
    if key = x.front.key then d1.setTone t { d1.tone t with want := none }
    else
      let d2 := d1.setTone t { d1.tone t with want := some { key := key }
                                              back := if key.mode = 0 then some { key := key } else none }
      if key.mode = 0 then d2 else d2.queueBuild s { tone := t, key := key, peak := d.buildPeak t key, dynamic := false }

/-- A tone state that is asked for no longer: by a CANCEL, an illegal configuration or a failed table (R146, R148, R154). -/
def Dev.toneForget (d : Dev) (t : Nat) : Dev :=
  let d1 := d.abandonBuilds t false
  d1.setTone t { d1.tone t with want := none }

/-- Layer slots of the LUT pool that are held: front LUTs, and LUTs that wait for their swap (R147). -/
def Dev.lutSlots (d : Dev) : Nat :=
  (List.range 64).foldl (fun n e =>
    let x := d.tone e
    n + (decide (x.front.key.mode ≠ 0)).toNat + (match x.back with | some l => (decide (l.key.mode ≠ 0)).toNat | none => 0)
      + x.dynBack.isSome.toNat) 0

/-- Swap in a LUT. -/
def Dev.toneSwap (d : Dev) (t : Nat) (l : Lut) : Dev :=
  let x := d.tone t
  let d1 := d.setTone t { x with front := l, want := none, back := none, peak := none }
  if 64 ≤ t then (d1.setF .tone (t - 64) Off.TONE_LUT_STAT 0 16 (d.cad (t - 64)).frame).showBuilding (t - 64) else d1

/-- A build is complete with its LUT: a commit's waits for its boundary, which is now if the timing is stopped. -/
def Dev.buildReady (d : Dev) (s : Nat) (b : Build) (l : Lut) : Dev :=
  let x := d.tone b.tone
  if b.dynamic then (d.setTone b.tone { x with dynBack := some l }).showBuilding s
  else
    let d1 := (d.setTone b.tone { x with back := some l }).showBuilding s
    match x.want with
    | some w => if w.applied && d.sceneIdle s then d1.toneSwap b.tone l else d1
    | none => d1

/-- A table read failed: reason 0x45 with its source (R148). -/
def Dev.tableFailed (d : Dev) (s : Nat) (b : Build) : Dev :=
  let src := if b.tone < 64 then b.tone else 0xFF
  let d1 := d.toneForget b.tone
  (d1.wrN .tone s Off.TONE_TONE_REJECT (0x45 + src * 256)).flag .tone s 11 0x45

/-- Little-endian 16-bit codes. -/
def codes16 : List (BitVec 8) → List Nat
  | a :: b :: r => (a.toNat + 256 * b.toNat) :: codes16 r
  | _ => []

/-- TONE_LUT_BUILD_DONE: the build at the head of a scene's queue ends; a layer build without a free slot waits (R147). -/
def Dev.toneBuildDone (d : Dev) (s ns : Nat) : Dev :=
  match d.buildsOf s with
  | [] => d
  | b :: r =>
    if b.tone < 64 ∧ 96 ≤ d.lutSlots then d
    else
      let d1 := d.setBuilds s r
      let d2 := if b.tone = sceneTone s then d1.wrN .tone s Off.TONE_BUILD_NS ns else d1
      if b.key.curve = 2 then
        match d2.dramRead .comp b.key.table (2 * lutSize b.tone) with
        | (d3, none) => d3.tableFailed s b
        | (d3, some bs) => d3.buildReady s b { key := b.key, peak := b.peak, codes := codes16 bs }
      else d2.buildReady s b { key := b.key, peak := b.peak }

/-! Boundaries -/

/-- The tone mappers of a scene: its own, then those of its engines. -/
def Dev.sceneTones (d : Dev) (s : Nat) : List Nat := sceneTone s :: (List.range 64).filter fun e => decide ((d.eng e).scene = some s)

/-- One tone mapper at a boundary: swap what is complete, tell what waits. Answers whether it swapped and whether it waits. -/
def Dev.toneStep (d : Dev) (t : Nat) : Dev × Bool × Bool :=
  let x := d.tone t
  match x.want, x.back with
  | some w, some l => if w.applied then (d.toneSwap t l, true, false) else (d, false, false)
  | some w, none => (d, false, w.applied)
  | none, _ =>
    match x.dynBack with
    | some l =>
      let d1 := d.setTone t { x with front := l, dynBack := none }
      (if 64 ≤ t then (d1.setF .tone (t - 64) Off.TONE_LUT_STAT 0 16 (d.cad (t - 64)).frame).showBuilding (t - 64) else d1, true, false)
    | none => (if x.front.key.dyn = 1 then d.abandonBuilds t true else d, false, false)

/-- DYN_MISSING at a boundary: the dynamic source of LAYER_META gives no value (R149). -/
def Dev.dynSource (d : Dev) (s : Nat) : Dev :=
  let c := d.use .tone s Off.TONE_TONE_CTRL
  let e := bitsOf c 6 6
  let t := d.tone (sceneTone s)
  let missing := bitsOf c 4 2 == 1 && bitOf c 0 &&
    (decide ((d.eng e).scene ≠ some s) || !d.layerEnabled e
      || (match (d.eng e).use with | some u => !bitOf (descW u.desc 0x160) 2 || (u.metaRead && !(d.eng e).info.lumValid) | none => true))
  let d1 := d.setTone (sceneTone s) { t with missingTold := missing }
  if missing && !t.missingTold then d1.onCore (·.flagOnly .tone s 12) else d1

/-- Every tone mapper of a scene at its boundary; answers whether one swapped (R146, R191). -/
def Dev.toneBoundary (d : Dev) (s : Nat) : Dev × Bool :=
  let (d1, swapped, waits) := (d.sceneTones s).foldl (fun (x : Dev × Bool × List Nat) t =>
    let y := x.1.toneStep t
    (y.1, x.2.1 || y.2.1, if y.2.2 then x.2.2 ++ [t] else x.2.2)) (d, false, [])
  let late := waits.filter (· < 64)
  let mask := late.foldl (fun m e => m + 2 ^ e) 0
  let d2 := (d1.wrN .tone s Off.TONE_LAYER_LATE_LO mask).wrN .tone s Off.TONE_LAYER_LATE_HI (mask / 2 ^ 32)
  let d3 := if waits.contains (sceneTone s) then d2.flag .tone s 8 else d2
  let d4 := if late.isEmpty then d3 else d3.flag .tone s 9
  (d4.dynSource s, swapped)

/-! Dynamic mapping (R149) -/

/-- A new target peak for the scene's mapper: P is smoothed in the PQ domain, and a build begins. -/
def Dev.dynTarget (d : Dev) (s cd : Nat) : Dev :=
  let t := sceneTone s
  let x := d.tone t
  let key := x.front.key
  let target := pqOfCd (max 1 (min 10000 cd))
  let p := x.peak.getD (pqOfCd (bitsOf key.src 0 16))
  let smooth := d.useF .tone s Off.TONE_TONE_CTRL 16 8
  let p1 := ((p : Int) + ((target : Int) - p) * (256 - smooth) / 256).toNat
  if x.want.isSome ∨ key.mode = 0 ∨ key.curve ≠ 0 then d.setTone t { x with peak := some p1 }
  else
    let d1 := d.abandonBuilds t true
    (d1.setTone t { d1.tone t with peak := some p1 }).queueBuild s { tone := t, key := key, peak := p1, dynamic := true }

/-- The metadata of an engine's use was read: what follows it (R149). -/
def Dev.metaTone (d : Dev) (e : Nat) (valid : Bool) : Dev :=
  match (d.eng e).scene with
  | none => d
  | some s =>
    let key := (d.tone e).front.key
    let d1 :=
      if valid && decide (key.dyn = 1 ∧ key.mode ≠ 0 ∧ key.curve = 0) && (d.tone e).want.isNone then
        (d.abandonBuilds e true).queueBuild s { tone := e, key := key, peak := pqOfCd (layerPeak (d.eng e).info key), dynamic := true }
      else d
    let c := d1.use .tone s Off.TONE_TONE_CTRL
    if valid ∧ bitsOf c 4 2 = 1 ∧ bitsOf c 6 6 = e then d1.dynTarget s (d1.eng e).info.maxLum else d1

/-- META_READ_DONE: the block of an engine's use is taken or ignored, and a good block with luminance steers the tone mappers that follow it
(R90, R91, R149). -/
def Dev.metaDone (d : Dev) (e : Nat) : Dev :=
  match (d.eng e).use with
  | none => d
  | some u =>
    if !u.ready || u.metaRead || !bitOf (descW u.desc 0x160) 2 then d
    else match (d.dramRead .comp (descAddr u.desc 0x158) 64).2 with
      | none => d.readMeta e
      | some bs => (d.readMeta e).metaTone e (bs.getD 0 0 == 1 && decide (metaHalf bs 2 / 4 % 2 = 1))

/-! Checks -/

/-- An illegal system gamma: not 0x0000, and NaN, infinite or not above 0 (R143). -/
def gammaBad (v : Nat) : Bool := v != 0 && (f16NonFinite v || decide (32768 ≤ v))

/-- An illegal exposure: NaN, infinite or not above 0. -/
def exposureBad (v : Nat) : Bool := f16NonFinite v || decide (32768 ≤ v) || v == 0

/-- An illegal range: a maximum of 0, or a minimum at or above it. -/
def rangeBad (w : Word) : Bool := decide (bitsOf w 0 16 = 0) || decide (bitsOf w 0 16 * 10000 ≤ bitsOf w 16 16)

/-- An illegal table: not aligned to 64 bytes, or not wholly in installed DRAM. -/
def Dev.tableBad (d : Dev) (a bytes : Nat) : Bool := decide (a % 64 ≠ 0) || decide (d.core.installed < a + bytes)

/-- COLOUR_PARAM: an illegal value in the colour block; what the configuration does not use is not checked (R143). -/
def Dev.colourBad (d : Dev) (e : Nat) : Bool :=
  let t := d.useF .leng e Off.LENG_CLR_CTRL 0 3
  let white := d.useF .leng e Off.LENG_SDR_PARAM 0 16
  let lw := d.useF .leng e Off.LENG_HLG_PARAM 0 16
  let key := layerKey (d.use .leng e)
  decide (5 ≤ t)
    || ((t == 1 || t == 2) && white == 0)
    || (t == 2 && decide (white * 1000 ≤ d.useF .leng e Off.LENG_SDR_PARAM 16 16))
    || (t == 4 && (decide (lw < 100 ∨ 10000 < lw) || gammaBad (d.useF .leng e Off.LENG_HLG_PARAM 16 16)))
    || (t == 0 && (let v := d.useF .leng e Off.LENG_LIN_SCALE 0 16; f16NonFinite v || f16Negative v))
    || key.mode == 3
    || (key.mode != 0 &&
        (key.curve == 3
          || (key.curve != 2 && (exposureBad (bitsOf key.exposure 0 16) || rangeBad key.dst))
          || (key.curve == 0 && (if key.dyn = 1 then decide (10000 * 10000 ≤ bitsOf key.src 16 16) else rangeBad key.src))
          || (key.curve == 2 && d.tableBad key.table 2048)))

/-- The reason that makes a TONE configuration illegal, by its active values (R154). -/
def Dev.toneReason (d : Dev) (s : Nat) : Option Nat :=
  let out := d.act .tone s Off.TONE_OUT_CTRL
  let hlg := d.act .tone s Off.TONE_OUT_HLG
  let key := sceneKey (d.act .tone s)
  let lw := bitsOf hlg 0 16
  if 4 ≤ bitsOf out 0 3 ∨ key.curve = 3 ∨ key.dyn = 3 then some 0x40
  else if exposureBad (bitsOf key.exposure 0 16) || rangeBad key.src || rangeBad key.dst then some 0x41
  else if bitsOf out 16 16 = 0 ∨ lw < 100 ∨ 10000 < lw ∨ gammaBad (bitsOf hlg 16 16) then some 0x42
  else if key.curve = 2 ∧ d.tableBad key.table 8192 then some 0x43 else none

/-- A TONE commit has applied: it is checked; an illegal one leaves the tone state and the encoding as they were (R154). -/
def Dev.toneCheck (d : Dev) (s : Nat) : Dev :=
  match d.toneReason s with
  | some e =>
    let d1 := d.toneForget (sceneTone s)
    (d1.wrN .tone s Off.TONE_TONE_REJECT (e + 0xFF * 256)).flag .tone s 10 e
  | none => d.onCore (·.bringIntoUse .tone s)

/-- The commit that carries a tone state has applied; with the timing stopped a complete LUT swaps at once. -/
def Dev.toneApplied (d : Dev) (s t : Nat) : Dev :=
  let x := d.tone t
  match x.want with
  | none => d
  | some w =>
    let d1 := d.setTone t { x with want := some { w with applied := true } }
    match x.back with
    | some l => if d.sceneIdle s then d1.toneSwap t l else d1
    | none => d1

/-- An encoding result of R150: a code of 16 bits; reference white and black where the spec gives the code (R151). -/
def Dev.fs48 (d : Dev) (s ch : Nat) (p : Px) : Nat :=
  let out := d.use .tone s Off.TONE_OUT_CTRL
  let enc := bitsOf out 0 3
  let v := if ch = 0 then p.r else if ch = 1 then p.g else p.b
  let white := bitsOf out 16 16
  if enc = 0 ∧ v = f20One then 38056
  else if enc = 2 ∧ v ≤ 0 then 0
  else if enc = 2 ∧ (white * f20One : Nat) ≤ v * 203 then 65535
  else Config.encode enc white (d.use .tone s Off.TONE_OUT_HLG) ch p.r p.g p.b % 65536

end Sys2Proof.Machine
end

