-- ==== Sys2Proof/Machine/Adapter.lean ====
section
/-! DEFINITION. The port adapter: its pixel arithmetic, LUT images, staging and swaps (R156 to R167). -/

namespace Sys2Proof.Machine

/-! Pixel arithmetic: values in units of 2⁻²⁴ (R156 asks for at least 18 fractional bits) -/

/-- 1.0 of the adapter. -/
def adOne : Nat := 2 ^ 24

/-- a / b in whole units; which way an inexact value goes is open. -/
def adFix (a : Int) (b : Nat) : Int := a / b + (if a % b = 0 then 0 else if Config.adapterRound a b then 1 else 0)

/-- A 16-bit little-endian word of an image. -/
def imgHalf (bs : List (BitVec 8)) (off : Nat) : Nat := leNat ((bs.drop off).take 2)

/-- A shaper curve that begins at an offset of the image (R157). -/
def shaper (bs : List (BitVec 8)) (off ch : Nat) (x : Int) : Int :=
  let pos : Nat := (clampI 0 adOne x).toNat * 1023
  let i : Nat := min (pos / adOne) 1022
  let f : Nat := pos - i * adOne
  let e := fun (k : Nat) => (imgHalf bs (off + 2048 * ch + 2 * k) : Int)
  adFix (e i * ((adOne : Int) - f) + e (i + 1) * f) 65535

/-- Output `ch` of 3D LUT node (i, j, k) (R161). -/
def lutNode (bs : List (BitVec 8)) (ch i j k : Nat) : Int := (imgHalf bs (6208 + 8 * (i + 33 * j + 1089 * k) + 2 * ch) : Nat)

/-- The tetrahedral case of a cell position: the three weights and the corners A and B (R157). -/
def tetra (dr dg db : Nat) : Nat × Nat × Nat × (Nat × Nat × Nat) × (Nat × Nat × Nat) :=
  if db ≤ dg ∧ dg ≤ dr then (dr, dg, db, (1, 0, 0), (1, 1, 0))
  else if db ≤ dr ∧ dg < db then (dr, db, dg, (1, 0, 0), (1, 0, 1))
  else if dr < db ∧ dg ≤ dr then (db, dr, dg, (0, 0, 1), (1, 0, 1))
  else if dr < dg ∧ db ≤ dr then (dg, dr, db, (0, 1, 0), (1, 1, 0))
  else if db ≤ dg ∧ dr < db then (dg, db, dr, (0, 1, 0), (0, 1, 1))
  else (db, dg, dr, (0, 0, 1), (0, 1, 1))

/-- The 3D LUT (R157). -/
def lut3d (bs : List (BitVec 8)) (v : Int × Int × Int) : Int × Int × Int :=
  let g := fun (x : Int) =>
    let p : Nat := (clampI 0 adOne x).toNat * 32
    let i : Nat := min (p / adOne) 31
    (i, p - i * adOne)
  let r := g v.1
  let gg := g v.2.1
  let b := g v.2.2
  let t := tetra r.2 gg.2 b.2
  let node := fun (ch : Nat) (c : Nat × Nat × Nat) => lutNode bs ch (r.1 + c.1) (gg.1 + c.2.1) (b.1 + c.2.2)
  let out := fun (ch : Nat) =>
    let c0 := node ch (0, 0, 0)
    let a := node ch t.2.2.2.1
    let bb := node ch t.2.2.2.2
    adFix (c0 * adOne + t.1 * (a - c0) + t.2.1 * (bb - a) + t.2.2.1 * (node ch (1, 1, 1) - bb)) 65535
  (out 0, out 1, out 2)

/-- The 8 × 8 Bayer index (R159). -/
def bayer : Nat → Nat → Nat → Nat
  | 0, _, _ => 0
  | n + 1, x, y => 4 * bayer n (x % 2 ^ n) (y % 2 ^ n)
      + (if y / 2 ^ n % 2 = 0 then (if x / 2 ^ n % 2 = 0 then 0 else 2) else if x / 2 ^ n % 2 = 0 then 3 else 1)

/-- t of R159, in 1/128: the dither mode, the pixel's column and row, and the port frame number. -/
def ditherT (mode x y frame : Nat) : Nat :=
  if mode = 0 then 64
  else if mode = 1 then 2 * bayer 3 (x % 8) (y % 8) + 1
  else 2 * bayer 3 ((x + 3 * (frame % 8)) % 8) ((y + 5 * (frame % 8)) % 8) + 1

/-- A field of ADP_CTRL in use. -/
def Dev.adpCtl (d : Dev) (p lo len : Nat) : Nat := d.useF .padp p Off.PADP_ADP_CTRL lo len

/-- Bits of an output component. -/
def Dev.adpDepth (d : Dev) (p : Nat) : Nat := 8 + 2 * d.adpCtl p 4 2

/-- An FS48 pixel of a port's active picture through stages 1 to 7, before subsampling. -/
def Dev.adaptPixel (d : Dev) (p : Nat) (c : Nat × Nat × Nat) (x y : Nat) : Nat × Nat × Nat :=
  let a := d.adp p
  let bs := match a.image with | some i => i.bytes | none => []
  let norm := fun (v : Nat) => adFix ((v * adOne : Nat) : Int) 65535
  let v0 := (norm c.1, norm c.2.1, norm c.2.2)
  let sh := fun (off : Nat) (v : Int × Int × Int) => (shaper bs off 0 v.1, shaper bs off 1 v.2.1, shaper bs off 2 v.2.2)
  let v1 := if a.en % 2 = 1 then sh 64 v0 else v0
  let v2 := if a.en / 2 % 2 = 1 then lut3d bs v1 else v1
  let v3 := if a.en / 4 % 2 = 1 then sh 293704 v2 else v2
  let m := fun (r i : Nat) => s320 (d.use .padp p (Off.PADP_MAT + 4 * (4 * r + i)))
  let row := fun (r : Nat) => adFix (m r 0 * v3.1 + m r 1 * v3.2.1 + m r 2 * v3.2.2 + m r 3 * adOne) (2 ^ 20)
  let v4 := if d.adpCtl p 3 1 = 1 then (row 0, row 1, row 2) else v3
  let top : Nat := 2 ^ d.adpDepth p - 1
  let t : Nat := ditherT (d.adpCtl p 6 2) x y (d.port p).pframe
  let code := fun (k : Nat) (v : Int) =>
    let lim := d.use .padp p (Off.PADP_CLAMP + 4 * k)
    (clampI (bitsOf lim 0 16) (min (bitsOf lim 16 16) top) ((128 * v * top + t * adOne) / (128 * adOne : Nat))).toNat
  (code 0 v4.1, code 1 v4.2.1, code 2 v4.2.2)

/-- Horizontal chroma subsampling of one component at an even column (R160). -/
def chromaH (w : Nat) (g : Nat → Nat) (x : Nat) : Nat :=
  let e := x - x % 2
  let a := g (if e = 0 then 0 else e - 1)
  let c := g (if e + 1 < w then e + 1 else w - 1)
  (a + 2 * g e + c + 2) / 4

/-- The codes of an active line of a port, from its FS48 pixels by column and row (R156 to R160). -/
def Dev.adaptLine (d : Dev) (p : Nat) (pix : Nat → Nat → Nat × Nat × Nat) (y : Nat) : List (Nat × Nat × Nat) :=
  let w := d.hActive p
  let h := d.vActive p
  let q := fun (x y : Nat) => d.adaptPixel p (pix x y) x y
  let mode := d.adpCtl p 8 2
  let c422 := fun (k y x : Nat) => chromaH w (fun x => if k = 1 then (q x y).2.1 else (q x y).2.2) x
  let y0 := y - y % 2
  let y1 := if y0 + 1 < h then y0 + 1 else y0
  let c := fun (k x : Nat) =>
    if mode = 0 then (if k = 1 then (q x y).2.1 else (q x y).2.2)
    else if mode = 1 then c422 k y x
    else (c422 k y0 x + c422 k y1 x + 1) / 2
  (List.range w).map fun x => ((q x y).1, c 1 x, c 2 x)

/-! Configuration (R164 to R166) -/

/-- LUT_ADDR of a reading of the page. -/
def lutAddr (g : Nat → Word) : Nat := (g Off.PADP_LUT_ADDR_LO).toNat + bitsOf (g Off.PADP_LUT_ADDR_HI) 0 8 * 2 ^ 32

/-- The LUT state of a reading of the page. -/
def lutWant (g : Nat → Word) : LutWant := { en := bitsOf (g Off.PADP_ADP_CTRL) 0 3, addr := lutAddr g, seq := g Off.PADP_LUT_SEQ }

/-- Bytes of a LUT image (R161). -/
def imageBytes : Nat := 299848

/-- Show LUT_STAT.STAGING and STAGED (R165). -/
def Dev.showStaging (d : Dev) (p : Nat) : Dev :=
  (d.setB .padp p Off.PADP_LUT_STAT 16 (d.adp p).staging.isSome).setB .padp p Off.PADP_LUT_STAT 17 (d.adp p).staged.isSome

/-- A PADP rejection: ADAPT_REJECT and flag 9 (R166). -/
def Dev.adaptReject (d : Dev) (p reason : Nat) : Dev := (d.wrN .padp p Off.PADP_ADAPT_REJECT reason).flag .padp p 9 reason

/-- A PADP ARM, or PRESTAGE: staging starts if the shadow needs an image that is neither in use nor staged (R162). -/
def Dev.startStaging (d : Dev) (p : Nat) : Dev :=
  let w := lutWant (d.rd .padp p)
  let same := fun (i : Option LutImage) => match i with | some x => x.addr == w.addr && x.seq == w.seq | none => false
  if w.en = 0 || same (d.adp p).image || same (d.adp p).staged then d
  else (d.setAdp p { d.adp p with staging := some (w.addr, w.seq) }).showStaging p

/-- PRESTAGE (R162, R164). -/
def Dev.prestage (d : Dev) (p : Nat) : Dev := d.startStaging p

/-- The reason that makes a PADP configuration illegal, by its active values (R166). -/
def Dev.padpReason (d : Dev) (p : Nat) : Option Nat :=
  let c := d.act .padp p Off.PADP_ADP_CTRL
  let w := lutWant (d.act .padp p)
  let hdr := d.act .padp p Off.PADP_HDR_CTRL
  let lum := d.act .padp p Off.PADP_MASTER_LUM
  let prims := [Off.PADP_PRIM_R, Off.PADP_PRIM_G, Off.PADP_PRIM_B, Off.PADP_WHITE_PT].map (d.act .padp p)
  if bitsOf c 4 2 = 3 ∨ bitsOf c 6 2 = 3 ∨ bitsOf c 8 2 = 3 ∨ (bitsOf c 8 2 ≠ 0 ∧ bitsOf c 3 1 = 0) then some 0x50
  else if w.en ≠ 0 ∧ (w.addr % 4096 ≠ 0 ∨ d.core.installed < w.addr + imageBytes) then some 0x51
  else if 4 ≤ bitsOf hdr 0 3 || (bitOf hdr 3 && (prims.any (fun v => decide (50000 < bitsOf v 0 16 ∨ 50000 < bitsOf v 16 16))
      || decide (bitsOf lum 0 16 * 10000 ≤ bitsOf lum 16 16))) then some 0x56
  else none

/-- The vertical blanking of a port is shorter than 64 µs. -/
def Dev.blankShort (d : Dev) (p : Nat) : Bool :=
  d.portEnabled p && decide (d.linesNs p (d.vTotal p - d.vActive p) < 64000)

/-- The swap of a waiting LUT state: at a VBLANK_START, or at once on a port without them (R162). -/
def Dev.lutSwap (d : Dev) (p : Nat) : Dev :=
  let a := d.adp p
  match a.want with
  | none => d
  | some w =>
    let same := fun (i : Option LutImage) => match i with | some x => x.addr == w.addr && x.seq == w.seq | none => false
    if w.en = 0 || same a.image then
      (d.setAdp p { a with en := w.en, want := none }).setF .padp p Off.PADP_LUT_STAT 0 16 (d.port p).pframe
    else if same a.staged then
      if d.blankShort p then (d.setAdp p { a with want := none }).adaptReject p 0x55
      else
        let d1 := d.setAdp p { a with en := w.en, image := a.staged, staged := none, want := none
                                      reload := some (a.en, a.image, (d.port p).pframe) }
        d1.showStaging p
    else if d.portEnabled p then d.flag .padp p 8 else d

/-- A PADP commit has applied (R162, R166). -/
def Dev.padpApplied (d : Dev) (p : Nat) : Dev :=
  match d.padpReason p with
  | some e => (d.setAdp p { d.adp p with want := none }).adaptReject p e
  | none =>
    let w := lutWant (d.act .padp p)
    let d1 := d.onCore (·.bringIntoUse .padp p)
    let a := d1.adp p
    let same : Bool := match a.image with | some x => x.addr == w.addr && x.seq == w.seq | none => false
    if w.en = a.en ∧ (w.en = 0 ∨ same) then d1.setAdp p { a with want := none }
    else
      let staged : Bool := match a.staged with | some x => x.addr == w.addr && x.seq == w.seq | none => false
      if w.en = 0 || same || staged || a.staging == some (w.addr, w.seq) then
        let d2 := d1.setAdp p { a with want := some w }
        if d.portEnabled p then d2 else d2.lutSwap p
      else d1

/-- A staging error ends staging and leaves the LUT state as it was, for good (R162). -/
def Dev.stagingError (d : Dev) (p reason : Nat) : Dev :=
  ((d.setAdp p { d.adp p with staging := none, want := none }).showStaging p).adaptReject p reason

/-- ADAPTER_STAGING_DONE: the image has been read; it is checked, and staged or rejected (R161, R162, R166). -/
def Dev.stagingDone (d : Dev) (p : Nat) : Dev :=
  match (d.adp p).staging with
  | none => d
  | some (addr, seq) =>
    match d.dramRead .comp addr imageBytes with
    | (d1, none) => d1.stagingError p 0x52
    | (d1, some bs) =>
      let crc := crc32 (bs.drop 64)
      let d2 := d1.wr .padp p Off.PADP_LUT_CRC crc
      if (bs.getD 0 0) ≠ 1 then d2.stagingError p 0x53
      else if BitVec.ofNat 32 (leNat ((bs.drop 4).take 4)) ≠ crc then d2.stagingError p 0x54
      else
        let d3 := (d2.setAdp p { d2.adp p with staging := none, staged := some { addr := addr, seq := seq, bytes := bs } }).showStaging p
        if d3.portEnabled p then d3 else d3.lutSwap p

/-- ADAPTER_RELOAD_DONE with what frame memory's code found, and where: the image is in use, or the swap is abandoned (R162, R226). -/
def Dev.reloadDone (d : Dev) (p : Nat) (ecc : Ecc) (addr : Nat) : Dev :=
  let a := d.adp p
  match a.reload with
  | none => d
  | some (en, image, frame) =>
    match ecc with
    | .uncorrectable =>
      let d1 := (d.fmError addr 4).fault 8 2 p 0
      (d1.setAdp p { a with en := en, image := image, reload := none }).adaptReject p 0x52
    | _ =>
      let d1 := if ecc = .corrected then (d.inc .fmem 0 Off.FMEM_CORR_COUNT).flag .fmem 0 8 else d
      let seq := match a.image with | some i => i.seq | none => 0
      let d2 := (d1.setAdp p { a with reload := none }).wr .padp p Off.PADP_ACTIVE_SEQ seq
      (d2.setF .padp p Off.PADP_LUT_STAT 0 16 frame).setB .padp p Off.PADP_LUT_STAT 18 true

end Sys2Proof.Machine
end

