-- ==== Sys2Proof/Machine/SafeConf.lean ====
section
/-! DEFINITION. The configuration of the checks: SCHK, and the portions of SAFE and BLY (R29, R464, R470, R473, R481, R495). -/

namespace Sys2Proof.Machine

/-! Configuration in use -/

/-- CHECK_EN of a scene (R465). -/
def Dev.checkEn (d : Dev) (s : Nat) : Bool := d.useB .safe 0 (Off.SAFE_SCN_SAFE + 16 * s) 0
/-- SKIP_LIMIT of a scene. -/
def Dev.skipLimit (d : Dev) (s : Nat) : Nat := d.useF .safe 0 (Off.SAFE_SCN_SAFE + 16 * s) 8 8
/-- A field of a region's configuration by a reading of the page. -/
def regF (g : Nat → Word) (r off lo len : Nat) : Nat := bitsOf (g (off + 16 * r)) lo len
/-- A field of a region's configuration in use. -/
def Dev.regUse (d : Dev) (s r off lo len : Nat) : Nat := regF (d.use .schk s) r off lo len
/-- A region is in use: its scene is checked, it is enabled, and it has a legal configuration (R465, R495). -/
def Dev.regionOn (d : Dev) (s r : Nat) : Bool :=
  d.checkEn s && decide (d.regUse s r Off.SCHK_REG_CTRL 0 1 = 1) && !(d.chk s).dead.contains r
/-- The regions in use of a scene. -/
def Dev.regionsOn (d : Dev) (s : Nat) : List Nat := (List.range 16).filter (d.regionOn s)
/-- A field of a port's BLY block in use. -/
def Dev.blyF (d : Dev) (p off lo len : Nat) : Nat := d.useF .bly 0 (off + 0x60 * p) lo len

/-! Checks (R495) -/

/-- The enabled regions up to a region cover more than 2,097,152 pixels. -/
def regionPixels (g : Nat → Word) (r : Nat) : Bool :=
  decide (2097152 < (List.range (r + 1)).foldl (fun m k =>
    if regF g k Off.SCHK_REG_CTRL 0 1 = 1 then m + regF g k Off.SCHK_REG_SIZE 0 15 * regF g k Off.SCHK_REG_SIZE 16 15 else m) 0)

/-- The reason that fails an enabled region. -/
def Dev.regionReason (d : Dev) (g : Nat → Word) (s r : Nat) : Option Nat :=
  let x := regF g r Off.SCHK_REG_POS 0 15
  let y := regF g r Off.SCHK_REG_POS 16 15
  let w := regF g r Off.SCHK_REG_SIZE 0 15
  let h := regF g r Off.SCHK_REG_SIZE 16 15
  let cw := d.useF .scn s Off.SCN_CANVAS 0 15
  let ch := d.useF .scn s Off.SCN_CANVAS 16 15
  let mode := regF g r Off.SCHK_REG_CTRL 2 2
  if regF g r Off.SCHK_REG_CTRL 0 1 = 0 then none
  else if x % 16 ≠ 0 ∨ y % 16 ≠ 0 ∨ w % 16 ≠ 0 ∨ h % 16 ≠ 0 ∨ w = 0 ∨ h = 0 ∨ cw < x + w ∨ ch < y + h then some 0x31
  else if regionPixels g r then some 0x32
  else if mode = 3 ∨ (mode ≠ 0 ∧ !d.assigned s (regF g r Off.SCHK_REG_CTRL 4 6)) then some 0x33 else none

/-- A region's failure is reported. -/
def Dev.schkReject (d : Dev) (s r reason : Nat) : Dev :=
  (d.wrN .schk s Off.SCHK_SCHK_REJECT (reason + r * 256)).flag .schk s 11 reason

/-- The heartbeat of a region. -/
def Chk.beat (c : Chk) (r : Nat) : Beat := c.beats.getD r {}
/-- Set the heartbeat of a region. -/
def Chk.setBeat (c : Chk) (r : Nat) (b : Beat) : Chk :=
  { c with beats := (List.range 16).map fun k => if k = r then b else c.beat k }
/-- A region's configuration became active: its heartbeat starts from this boundary (R470). -/
def Dev.beatRestart (d : Dev) (s r : Nat) : Dev := d.setChk s ((d.chk s).setBeat r { base := (d.cad s).frame })

/-- A region without a legal configuration. -/
def Dev.regionDead (d : Dev) (s r : Nat) (b : Bool) : Dev :=
  let c := d.chk s
  let rest := c.dead.filter (· ≠ r)
  d.setChk s { c with dead := if b then rest ++ [r] else rest }

/-- A region of a SCHK commit that has just applied. -/
def Dev.schkRegion (d : Dev) (s r : Nat) : Dev :=
  match d.regionReason (d.act .schk s) s r with
  | none =>
    let changed := [Off.SCHK_REG_POS, Off.SCHK_REG_SIZE, Off.SCHK_REG_CTRL, Off.SCHK_REG_TOL].any fun o =>
      d.act .schk s (o + 16 * r) != d.use .schk s (o + 16 * r)
    let d1 := (d.onCore (·.bringPartIntoUse .schk s (0x100 + 16 * r) (0x110 + 16 * r))).regionDead s r false
    if changed then d1.beatRestart s r else d1
  | some e => (d.schkReject s r e).regionDead s r (d.regionReason (d.use .schk s) s r).isSome

/-- A SCHK commit has applied: every enabled region is checked. -/
def Dev.schkApplied (d : Dev) (s : Nat) : Dev := (List.range 16).foldl (fun x r => x.schkRegion s r) d

/-- The check of the configurations in use, after a change of canvas, of engine assignment or of CHECK_EN. -/
def Dev.schkRecheck (d : Dev) (s : Nat) : Dev :=
  if !d.checkEn s then d
  else (List.range 16).foldl (fun x r => match x.regionReason (x.use .schk s) s r with
    | some e => if (x.chk s).dead.contains r then x else (x.schkReject s r e).regionDead s r true
    | none => x) d

/-- The reason that fails a port's BLY block: its Belay content always, its rectangles while its scene is checked (R495). -/
def Dev.blyReason (d : Dev) (p : Nat) : Option Nat :=
  let g := fun (o : Nat) => d.act .bly 0 (o + 0x60 * p)
  let c := g Off.BLY_BLY_CTRL
  let rect := fun (k : Nat) =>
    let x := bitsOf (g (Off.BLY_CRC_POS + 12 * k)) 0 15
    let y := bitsOf (g (Off.BLY_CRC_POS + 12 * k)) 16 15
    let w := bitsOf (g (Off.BLY_CRC_SIZE + 12 * k)) 0 15
    let h := bitsOf (g (Off.BLY_CRC_SIZE + 12 * k)) 16 15
    w == 0 || h == 0 || decide (d.hActive p < x + w) || decide (d.vActive p < y + h) || decide (800000 < d.linesNs p h)
  if d.checkEn (d.portScene p) && (List.range 4).any fun k => bitOf (g Off.BLY_CRC_CTRL) k && rect k then some 0x35
  else if (!bitOf c 0 && !d.belayEntry (bitsOf c 8 6)) || bitsOf c 16 2 == 3 then some 0x36 else none

/-- The block of a port on BLY has applied. -/
def Dev.blyApplied (d : Dev) (p : Nat) : Dev :=
  match d.blyReason p with
  | none => d.onCore (·.bringPartIntoUse .bly 0 (0x100 + 0x60 * p) (0x160 + 0x60 * p))
  | some e => (d.wrN .bly 0 Off.BLY_BLY_REJECT (e + p * 256)).flag .bly 0 8 e

/-- SCN_SAFE of a scene has applied: CHECK_EN that becomes 1 starts the heartbeats and checks the regions, and one that becomes 0
clears what they show (R465, R470, R495). -/
def Dev.safeApplied (d : Dev) (s : Nat) : Dev :=
  let was := d.checkEn s
  let d1 := d.onCore (·.bringPartIntoUse .safe 0 (0x100 + 16 * s) (0x110 + 16 * s))
  if d1.checkEn s ∧ !was then (((List.range 16).foldl (fun x r => x.beatRestart s r) d1).schkRecheck s)
  else if was ∧ !d1.checkEn s then
    let d2 := (List.range 16).foldl (fun x r => x.wr .schk s (Off.SCHK_HB_AGE + 4 * r) 0) d1
    let d3 := ((d2.wr .schk s Off.SCHK_SKIP_STAT 0).wr .schk s Off.SCHK_UNCOVERED 0).setChk s
      { d2.chk s with making := none, fallback := [], skipTold := [], last := [] }
    (List.range 8).foldl (fun x p => if x.portScene p = s then x.setPortChk p {} else x) d3
  else d1

/-! Portions (R29) -/

/-- A portion applies. -/
def Dev.portionApply (d : Dev) (p : Page) (x : Portion) : Dev :=
  if p = .safe then (d.onCore (·.copyPart .safe 0 (0x100 + 16 * x.index) (0x110 + 16 * x.index))).safeApplied x.index
  else (d.onCore (·.copyPart .bly 0 (0x100 + 0x60 * x.index) (0x160 + 0x60 * x.index))).blyApplied x.index

/-- APPLY_SCENE of the latest application. -/
def Dev.applyScene (d : Dev) (p : Page) (s : Nat) : Dev :=
  if p = .safe then d.setF .safe 0 Off.SAFE_SAFE_STAT 0 2 s else d.setF .bly 0 Off.BLY_CC_STAT 4 2 s

/-- The portions of an armed page whose scene is `s`, at its boundary; with the last one the commit has applied. -/
def Dev.portionsOfAt (d : Dev) (p : Page) (s : Nat) : Dev :=
  match d.armOf p 0 with
  | some { wait := .portions l, group := g } =>
    let due := l.filter fun x => !x.done && x.scene == s && x.skip == 0
    let l2 := l.map fun x => if x.scene = s then (if x.skip = 0 then { x with done := true } else { x with skip := x.skip - 1 }) else x
    let d1 := due.foldl (fun y x => y.portionApply p x) d
    let d2 := if due.isEmpty then d1 else d1.applyScene p s
    if l2.all fun x => x.done then d2.applyReport p 0 (d.cad s).frame
    else d2.setArm p 0 (some { wait := .portions l2, group := g })
  | _ => d

/-- The portions of SAFE and BLY whose scene is `s` apply at its boundary. -/
def Dev.portionsAt (d : Dev) (s : Nat) : Dev := (d.portionsOfAt .safe s).portionsOfAt .bly s

/-- A boundary that applies no commit lets a later portion come nearer. -/
def Dev.portionsMissed (d : Dev) (s : Nat) : Dev :=
  [Page.safe, Page.bly].foldl (fun y p => match y.armOf p 0 with
    | some { wait := .portions l, group := g } =>
      y.setArm p 0 (some { wait := .portions (l.map fun x => if x.scene = s then { x with skip := x.skip - 1 } else x), group := g })
    | _ => y) d

/-- The portions that apply when the ARM completes, their scene's timing being stopped; with all of them the commit has applied. -/
def Dev.portionsNow (d : Dev) (p : Page) : Dev :=
  match d.armOf p 0 with
  | some { wait := .portions l, group := _ } =>
    let due := l.filter fun x => x.done
    let d1 := due.foldl (fun y x => y.portionApply p x) d
    let s := match due.getLast? with | some x => x.scene | none => 0
    let d2 := if due.isEmpty then d1 else d1.applyScene p s
    if l.all fun x => x.done then d2.applyReport p 0 (d.cad s).frame else d2
  | _ => d

end Sys2Proof.Machine
end

