-- ==== Sys2Proof/Machine/SceneConf.lean ====
section
/-! DEFINITION. What a boundary applies to a scene: commits, their checks, engine membership, gangs and uses ("Scene composition"). -/

namespace Sys2Proof.Machine

/-! Slots -/

/-- SLOT_k in use. -/
def Dev.slotWord (d : Dev) (s k : Nat) : Word := d.use .scn s (Off.SCN_SLOT + 4 * k)
/-- ENGINE, VALID, VOLATILE, BLEND, NO_FLAT and GALPHA of a slot word (R203). -/
def slotEngine (w : Word) : Nat := bitsOf w 0 6
def slotValid (w : Word) : Bool := bitOf w 6
def slotVolatile (w : Word) : Bool := bitOf w 7
def slotBlend (w : Word) : Nat := bitsOf w 8 3
def slotNoFlat (w : Word) : Bool := bitOf w 11
def slotAlpha (w : Word) : Nat := bitsOf w 16 16

/-- The valid slots of a scene, bottom first; a slot that names a follower is ignored (R173, R174). -/
def Dev.slots (d : Dev) (s : Nat) : List Word :=
  ((List.range 32).map (d.slotWord s)).filter fun w => slotValid w && (d.eng (slotEngine w)).lead.isNone

/-- A valid slot of its scene names the engine. -/
def Dev.named (d : Dev) (s e : Nat) : Bool := (d.slots s).any fun w => slotEngine w == e

/-- The scene composes: SCN_CTRL.ENABLE in use. -/
def Dev.sceneEnabled (d : Dev) (s : Nat) : Bool := d.useB .scn s Off.SCN_SCN_CTRL 0

/-- The background of a scene (R177). -/
def Dev.bgPx (d : Dev) (s : Nat) : Px :=
  { r := f16Val (d.useF .scn s Off.SCN_BG_RG 0 16), g := f16Val (d.useF .scn s Off.SCN_BG_RG 16 16)
    b := f16Val (d.useF .scn s Off.SCN_BG_B 0 16), a := f20One }

/-! SCN and STIM checks (R204, R205) -/

/-- The number of engines whose bits are set. -/
def assignCount (lo hi : Word) : Nat := ((List.range 64).filter (assignBit lo hi)).length

/-- Three frame-store buffers hold the canvas (CANVAS_FIT). -/
def Dev.canvasFits (d : Dev) (s w h : Nat) : Bool :=
  [0, 1, 2].all fun k => match d.findEntry 0 s k with
    | some e => decide (w * h * 6 ≤ d.entBytes e)
    | none => false

/-- The first index for which a test holds. -/
def firstIndex (n : Nat) (f : Nat → Bool) : Option Nat := (List.range n).find? f

/-- The pair's conditions are not met (R179). -/
def Dev.pairBad (d : Dev) (s : Nat) : Bool :=
  d.sceneEnabled (s + 1) || decide (assignCount (d.act .scn (s + 1) Off.SCN_ASSIGN_LO) (d.act .scn (s + 1) Off.SCN_ASSIGN_HI) ≠ 0)
    || (List.range 8).any fun p => d.portScene p == s + 1

/-- The reason that makes a SCN configuration illegal, by its active values, and the slot or engine concerned (R205). -/
def Dev.scnReason (d : Dev) (s : Nat) : Option (Nat × Nat) :=
  let g := d.act .scn s
  let c := g Off.SCN_CANVAS
  let w := bitsOf c 0 15
  let h := bitsOf c 16 15
  let slot := fun (k : Nat) => g (Off.SCN_SLOT + 4 * k)
  let lo := g Off.SCN_ASSIGN_LO
  let hi := g Off.SCN_ASSIGN_HI
  let bg := [bitsOf (g Off.SCN_BG_RG) 0 16, bitsOf (g Off.SCN_BG_RG) 16 16, bitsOf (g Off.SCN_BG_B) 0 16]
  let maxD := bitsOf (g Off.SCN_FLAT_CTRL) 8 5
  let minD := bitsOf (g Off.SCN_FLAT_CTRL) 16 5
  let pair := decide (s % 2 = 0) && bitOf (g Off.SCN_SCN_CTRL) 1 && !d.pairLead s && d.pairBad s
  if !bitOf (g Off.SCN_SCN_CTRL) 0 then (if pair then some (0x67, 0) else none)
  else if w = 0 ∨ 16384 < w ∨ h = 0 ∨ 16384 < h then some (0x60, 0)
  else if !d.canvasFits s w h then some (0x61, 0)
  else if 32 < assignCount lo hi then some (0x62, 0)
  else match firstIndex 32 fun k => slotValid (slot k) && !assignBit lo hi (slotEngine (slot k)) with
    | some k => some (0x63, k)
    | none =>
      match firstIndex 32 fun k => slotValid (slot k)
          && (List.range k).any fun j => slotValid (slot j) && slotEngine (slot j) == slotEngine (slot k) with
      | some k => some (0x64, k)
      | none =>
        match firstIndex 32 fun k => slotValid (slot k) && decide (4 ≤ slotBlend (slot k)) with
        | some k => some (0x65, k)
        | none =>
          if bg.any f16NonFinite then some (0x66, 0)
          else if pair then some (0x67, 0)
          else if maxD = 0 ∨ 16 < maxD ∨ minD = 0 ∨ maxD < minD then some (0x68, 0) else none

/-- An illegal SCN or STIM configuration is reported (R204). -/
def Dev.scnReject (d : Dev) (s : Nat) (stim : Bool) (reason index : Nat) : Dev :=
  (d.wrN .scn s Off.SCN_SCN_REJECT (reason + index * 256 + stim.toNat * 16384)).flag .scn s 12 reason

/-- The chase reference shows the scene, by a reading of the STIM page (R185). -/
def Dev.chaseRefShows (d : Dev) (s : Nat) (mode : Word) : Bool := d.portShows (bitsOf mode 1 3) s

/-- A SCN commit has applied: it is checked, and brought into use if legal. Enabling a scene makes its next frame its first. -/
def Dev.scnCheck (d : Dev) (s : Nat) : Dev :=
  match d.scnReason s with
  | some (e, i) => d.scnReject s false e i
  | none =>
    let was := d.sceneEnabled s
    let d1 := d.onCore (·.bringIntoUse .scn s)
    if d1.sceneEnabled s ∧ !was then d1.setScene s { d1.scene s with everComposed := false, composeNs := none } else d1

/-- A STIM commit has applied. -/
def Dev.stimCheck (d : Dev) (s : Nat) : Dev :=
  let m := d.act .stim s Off.STIM_MODE
  let lead := bitsOf m 8 9
  if d.sceneEnabled s ∧ bitOf m 0 ∧ (lead < 4 ∨ 256 < lead) then d.scnReject s true 0x6A 0
  else if d.sceneEnabled s ∧ bitOf m 0 ∧ !d.chaseRefShows s m then d.scnReject s true 0x6B 0
  else d.onCore (·.bringIntoUse .stim s)

/-! Pages of a scene that a boundary applies -/

/-- A page's arm is due at the boundary with number `n`, this boundary being the one it waits for. -/
def armDue (a : Arm) (n : Nat) : Bool :=
  match a.wait with
  | .next k => k == 0
  | .frame t => decide (t ≤ n)
  | _ => false

/-- The FRAME pages whose boundary is that of a scene. -/
def Dev.framePages (d : Dev) (s : Nat) : List (Page × Nat) :=
  [(.scn, s), (.tone, s), (.stim, s), (.schk, s)]
    ++ ((List.range 64).filter fun e => d.lengScene e == some s).map fun e => (.leng, e)

/-- The armed FRAME pages of a scene that are due at its boundary `n`. -/
def Dev.duePages (d : Dev) (s n : Nat) : List (Page × Nat) :=
  (d.framePages s).filter fun x => match d.armOf x.1 x.2 with | some a => armDue a n | none => false

/-- One boundary less to wait for, on each page of a scene that waits for a later one. -/
def Dev.countDown (d : Dev) (s : Nat) : Dev :=
  (d.framePages s).foldl (fun x y => match x.armOf y.1 y.2 with
    | some a => match a.wait with
      | .next (k + 1) => x.setArm y.1 y.2 (some { a with wait := .next k })
      | _ => x
    | none => x) d

/-- The commit of a LENG page: its active copy is brought into use whole; a failing one contributes nothing (R130). -/
def Dev.applyLeng (d : Dev) (e n : Nat) : Dev := (d.applyPage .leng e n).onCore (·.bringIntoUse .leng e)

/-- A page of a scene applies, and is checked. -/
def Dev.applyFramePage (d : Dev) (n : Nat) (x : Page × Nat) : Dev :=
  match x.1 with
  | .scn => (d.applyPage .scn x.2 n).scnCheck x.2
  | .tone => ((d.applyPage .tone x.2 n).toneCheck x.2).toneApplied x.2 (sceneTone x.2)
  | .stim => (d.applyPage .stim x.2 n).stimCheck x.2
  | .schk => (d.applyPage .schk x.2 n).schkApplied x.2
  | .leng => (d.applyLeng x.2 n).toneApplied ((d.eng x.2).scene.getD 0) x.2
  | _ => d

/-! Membership (R172) -/

/-- Show ACTIVE and PENDING of a scene; an engine that begins to wait raises ASSIGN_WAIT once (R203). -/
def Dev.showMembers (d : Dev) (s : Nat) : Dev :=
  let act := (List.range 64).filter fun e => decide ((d.eng e).scene = some s)
  let pend := (List.range 64).filter fun e => d.assigned s e && decide ((d.eng e).scene ≠ some s)
  let mask := fun (l : List Nat) => l.foldl (fun m e => m + 2 ^ e) 0
  let d1 := ((d.wrN .scn s Off.SCN_ACTIVE_LO (mask act)).wrN .scn s Off.SCN_ACTIVE_HI (mask act / 2 ^ 32)).wrN .scn s
    Off.SCN_PENDING_LO (mask pend)
  let d2 := d1.wrN .scn s Off.SCN_PENDING_HI (mask pend / 2 ^ 32)
  let told := (d.scene s).waitRaised
  let d3 := d2.setScene s { d2.scene s with waitRaised := pend }
  pend.foldl (fun x e => if told.contains e then x else x.flag .scn s 17) d3

/-- An engine leaves its scene: its use ends (R84, R172). -/
def Dev.leaveScene (d : Dev) (e : Nat) : Dev := d.setEng e { (d.eng e).endUses with scene := none, lead := none, decision := .none }

/-- The engines that leave a scene: its configuration in use does not ask for them. -/
def Dev.leavers (d : Dev) (s : Nat) : List Nat :=
  (List.range 64).filter fun e => decide ((d.eng e).scene = some s) && !d.assigned s e

/-- A lower-numbered scene waits for the engine, and its boundary falls at this instant. -/
def Dev.lowerClaims (d : Dev) (s e : Nat) : Bool :=
  (List.range s).any fun v => d.assigned v e && d.timingRuns v && d.nextBoundary v == d.now

/-- The engines that join a scene at its boundary. -/
def Dev.joiners (d : Dev) (s : Nat) : List Nat :=
  (List.range 64).filter fun e => d.assigned s e && (d.eng e).scene.isNone && !d.lowerClaims s e

/-- Engines join a scene. -/
def Dev.joinAll (d : Dev) (s : Nat) (l : List Nat) : Dev := l.foldl (fun x e => x.setEng e { x.eng e with scene := some s }) d

/-- Scenes whose boundary fell at this same instant take engines that were just released (R172). -/
def Dev.lateJoins (d : Dev) (s : Nat) : Dev :=
  [0, 1, 2, 3].foldl (fun x v =>
    if v ≠ s ∧ x.timingRuns v ∧ (x.cad v).last / nsUnit = x.now ∧ (x.cad v).frame ≠ 0 then
      let l := x.joiners v
      if l.isEmpty then x
      else ((x.joinAll v l).showMembers v).setScene v { (((x.joinAll v l).showMembers v).scene v) with changed := true }
    else x) d

/-- ENG_INFO but for STATS_TAG (R105). -/
def Dev.showEng (d : Dev) (e : Nat) : Dev :=
  let x := d.eng e
  let leads := x.scene.isSome && x.lead.isNone && decide (1 < d.gangOf e)
  d.setF .leng e Off.LENG_ENG_INFO 0 16 (x.scene.getD 0 + flagsNat [x.scene.isSome, leads, x.lead.isSome] * 4
    + (match x.lead with | some l => e - l | none => 0) * 32)

/-! Gangs, checks and uses -/

/-- Gangs are formed anew in a scene; an engine that becomes a follower sets GANG_MEMBER (R104, R115). -/
def Dev.formGangs (d : Dev) (s : Nat) : Dev :=
  (List.range 64).foldl (fun x e =>
    if (x.eng e).scene = some s then
      let l := x.gangLead e
      let y := x.setEng e { x.eng e with lead := l }
      let z := if l.isSome ∧ (x.eng e).lead.isNone then y.onCore (·.flagOnly .leng e 10) else y
      z.showEng e
    else if (x.eng e).scene.isNone then x.showEng e else x) d

/-- The configuration of an engine is checked; a failure is reported when a commit brought it or when it is new (R130, R121). -/
def Dev.checkEngine (d : Dev) (s e : Nat) (committed : Bool) : Dev :=
  let reason := if d.layerEnabled e then d.lengReason s e (d.colourBad e) else none
  let was := (d.eng e).legal
  let d1 := d.setEng e { d.eng e with legal := reason.isNone }
  let d2 := match reason with
    | some r => if committed || was then d1.lengReject e r else d1
    | none => d1
  d2.trackUse e (d2.named s e) reason

/-- What a set of due pages does to a scene: they apply together, engines leave and join, gangs form, and every engine of the scene
is checked (R40, R48, R172, R201, R204). -/
def Dev.sceneApply (d : Dev) (s n : Nat) (pages : List (Page × Nat)) : Dev :=
  let own := pages.filter fun x => x.1 != .leng
  let lengs := (pages.filter fun x => x.1 == .leng).map Prod.snd
  let d1 := own.foldl (fun x y => x.applyFramePage n y) d
  let leave := d1.leavers s
  let d2 := leave.foldl Dev.leaveScene d1
  let join := d2.joiners s
  let d3 := d2.joinAll s join
  let d4 := if leave.isEmpty then d3 else d3.lateJoins s
  let d5 := d4.showMembers s
  -- a page carried for an engine that still waits to join stays armed (R48)
  let now := lengs.filter fun e => decide ((d5.eng e).scene = some s) || !d5.assigned s e
  let d6 := now.foldl (fun x e => x.applyFramePage n (.leng, e)) d5
  let d7 := d6.formGangs s
  let d8 := (List.range 64).foldl (fun x e =>
    if (x.eng e).scene = some s then x.checkEngine s e (now.contains e || join.contains e) else x) d7
  let moved := d8.use .scn s Off.SCN_CANVAS != d.use .scn s Off.SCN_CANVAS || d8.use .scn s Off.SCN_ASSIGN_LO != d.use .scn s Off.SCN_ASSIGN_LO
    || d8.use .scn s Off.SCN_ASSIGN_HI != d.use .scn s Off.SCN_ASSIGN_HI
  let d9 := if moved then d8.schkRecheck s else d8
  if pages.isEmpty && leave.isEmpty && join.isEmpty then d9
  else d9.setScene s { d9.scene s with changed := true }

/-! Commits that apply at once, their source being idle (R42) -/

/-- A SCAN commit has applied: its raster and its source block are checked apart and brought into use apart (R242, R249). -/
def Dev.scanReason (d : Dev) (p : Nat) : Option Nat :=
  let c := d.act .scan p Off.SCAN_SCAN_CTRL
  let s := bitsOf c 1 2
  let still := bitOf c 3
  let ent := bitsOf c 8 6
  let pos := d.act .scan p Off.SCAN_WIN_POS
  let size := d.act .scan p Off.SCAN_WIN_SIZE
  let place := d.act .scan p Off.SCAN_ACT_POS
  let dim := if still then (d.entW ent, d.entH ent) else (d.canvasW s, d.canvasH s)
  if d.oddHalf s then some 0x7B
  else if !bitOf c 0 then none
  else if still ∧ !d.belayEntry ent then some 0x7A
  else if bitsOf size 0 15 = 0 ∨ bitsOf size 16 15 = 0 ∨ dim.1 < bitsOf pos 0 15 + bitsOf size 0 15
      ∨ dim.2 < bitsOf pos 16 15 + bitsOf size 16 15 then some 0x78
  else if d.hActive p < bitsOf place 0 15 + bitsOf size 0 15 ∨ d.vActive p < bitsOf place 16 15 + bitsOf size 16 15 then some 0x79
  else none

/-- A SCAN commit has applied. A change of sizes, or of scene to one with another active rate, relocks the port; any other takes
effect without it (R251). -/
def Dev.scanApplied (d : Dev) (p : Nat) : Dev :=
  let s := d.timingScene p
  let raster := rasterReason (d.mixedReader .scan) p (d.activeNum s) (d.activeDen s)
  let sized := d.act .scan p Off.SCAN_H_TIMING != d.use .scan p Off.SCAN_H_TIMING
    || d.act .scan p Off.SCAN_V_TIMING != d.use .scan p Off.SCAN_V_TIMING
  let d1 := match raster with
    | some e => if d.portEnabled p then d.scanReject p e else d.onCore (·.bringPartIntoUse .scan p 0x200 0x300)
    | none =>
      let x := d.onCore (·.bringPartIntoUse .scan p 0x200 0x300)
      if d.portEnabled p then x.setPort p { x.port p with rasterKnown := true, rasterOk := true } else x
  let d2 := match d1.scanReason p with
    | some e => d1.scanReject p e
    | none => d1.onCore (·.bringPartIntoUse .scan p 0x100 0x200)
  let t := d2.timingScene p
  let rate := d2.activeNum t * d.activeDen s != d.activeNum s * d2.activeDen t
  if d.portEnabled p && ((sized && raster.isNone) || rate) then
    (if rate then (d2.rasterRecheck p).relock p else d2.relock p).dscRecheck p
  else d2

/-- The device after a page whose source is idle, or that has no wait, has applied at its present count (R42). -/
def Dev.applyIdle (d : Dev) (p : Page) (n : Nat) : Dev :=
  let k := d.presentCount p n
  match p with
  | .scn => d.sceneApply n k [(.scn, n)]
  | .tone | .stim | .schk => d.applyFramePage k (p, n)
  | .leng => match d.lengScene n with
    | some s => d.sceneApply s k [(.leng, n)]
    | none => (d.applyLeng n k).toneApplied 0 n
  | .scan => (d.applyPage .scan n k).scanApplied n
  | .padp => (d.applyPage .padp n k).padpApplied n
  | .dsc => (d.applyPage .dsc n k).dscCheck n
  | _ => d.applyPage p n k

end Sys2Proof.Machine
end

