-- ==== Sys2Proof/Machine/Blend.lean ====
section
/-! DEFINITION. The scene blender: which layers a pixel takes, the flatten surface, and the rows it writes to frame memory
(R125 to R129, R174 to R178, R196 to R200). -/

namespace Sys2Proof.Machine

/-- What a layer contributes from: none, a solid fill, or the descriptor of a use (R174, R193). -/
def Eng.content (x : Eng) : Option (Option (List Word)) :=
  match x.decision with
  | .solid => some none
  | .current => x.use.map fun u => some u.desc
  | .heldUse => x.old.map fun u => some u.desc
  | _ => none

/-- The LUT of a layer: a gang shares the lead's (R147). -/
def Dev.layerLut (d : Dev) (e : Nat) : Lut := (d.tone e).front

/-- The layers that contribute to the frame, bottom first: slot word and content. -/
def Dev.layers (d : Dev) (s : Nat) : List (Word × Option (List Word)) :=
  (d.slots s).filterMap fun w => ((d.eng (slotEngine w)).content).map fun c => (w, c)

/-- The tile of a canvas pixel (R125). -/
def tileOf (x y : Nat) : Rect := { x := (x / 64 * 64 : Nat), y := (y / 64 * 64 : Nat), w := 64, h := 64 }

/-- One of some layers covers the tile; only layers decided at the boundary cover (R127). -/
def Dev.covered (d : Dev) (s : Nat) (covers : List Nat) (tile : Rect) (upper : List (Word × Option (List Word))) : Bool :=
  upper.any fun l => covers.contains (slotEngine l.1)
    && d.coversTile s (slotEngine l.1) l.2 (slotBlend l.1) (slotAlpha l.1) tile

/-- The engine of a gang that processes a destination column (R116). -/
def Dev.stripEngine (d : Dev) (e i : Nat) : Nat :=
  let g := d.gangOf e
  e + ((List.range g).filter fun k => let c := stripCols (d.dstW e) g k; decide (c.1 ≤ i ∧ i < c.1 + c.2)).headD 0

/-- A pixel of the composite: the colour, and the engines whose pixel was substituted for poison. -/
abbrev Comped := Px × List Nat

/-- A layer onto a pixel (R129, R174, R176). `cull` says whether the layers above it may cull it. -/
def Dev.putLayer (d : Dev) (s x y : Nat) (covers : List Nat) (cull : Bool) (upper : List (Word × Option (List Word)))
    (l : Word × Option (List Word)) (c : Comped) : Comped :=
  let e := slotEngine l.1
  let r := d.clipRect s e
  let inside := decide (r.x ≤ x ∧ (x : Int) < r.x + r.w ∧ r.y ≤ y ∧ (y : Int) < r.y + r.h)
  if !inside || (cull && d.covered s covers (tileOf x y) upper) then c
  else
    let i := ((x : Int) - d.dstX e).toNat
    let j := ((y : Int) - d.dstY e).toNat
    let p := d.layerPixel e l.2 (slotBlend l.1) (d.layerLut e) i j
    let q := if p.bad then d.bgPx s else p
    (Px.over (slotBlend l.1) (unorm (slotAlpha l.1) 65535) c.1 { q with bad := false },
      if p.bad then c.2 ++ [d.stripEngine e i] else c.2)

/-- Layers onto a pixel, bottom first. The lowest `build` of them are not culled (R197). -/
def Dev.putLayers (d : Dev) (s x y : Nat) (covers : List Nat) : Nat → List (Word × Option (List Word)) → Comped → Comped
  | _, [], c => c
  | 0, l :: r, c => Dev.putLayers d s x y covers 0 r (d.putLayer s x y covers true r l c)
  | n + 1, l :: r, c => Dev.putLayers d s x y covers n r (d.putLayer s x y covers false r l c)

/-- Address of a pixel of an entry's surface of width `w` and `b` bytes per pixel (R213). -/
def Dev.pixelAddr (d : Dev) (e w b x y : Nat) : Nat := d.entAddr e + (y * w + x) * b

/-- A pixel of a flatten surface: the background where frame memory reads uncorrectable (R197, R226). -/
def Dev.flatPixel (d : Dev) (s surface w x y : Nat) : Px × Bool :=
  match d.findEntry 1 s surface with
  | none => (d.bgPx s, false)
  | some e =>
    let a := d.pixelAddr e w 8 x y
    if d.fmUncorrectable a 8 then (d.bgPx s, true)
    else
      let h := fun (k : Nat) => f16Val (leNat (readBytes d.fm (a + 2 * k) 2))
      ({ r := h 0, g := h 1, b := h 2, a := f20One }, false)

/-- What the pixels of a frame start from, and the layers above it: the background, or the flatten surface in use (R174, R198). -/
def Dev.basePixel (d : Dev) (s w x y : Nat) (covers : List Nat) (ls : List (Word × Option (List Word))) :
    Comped × List (Word × Option (List Word)) × Bool :=
  match (d.scene s).flat with
  | none => ((d.bgPx s, []), ls, false)
  | some f =>
    let upper := ls.filter fun l => !(f.run.any fun r => r.engine == slotEngine l.1)
    if d.covered s covers (tileOf x y) upper then ((d.bgPx s, []), upper, false)
    else
      let p := d.flatPixel s f.surface w x y
      ((p.1, []), upper, p.2)

/-- A canvas pixel of the frame (R176); answers also whether the flatten surface read uncorrectable. -/
def Dev.canvasPixel (d : Dev) (s w : Nat) (covers : List Nat) (ls : List (Word × Option (List Word))) (build : Nat) (x y : Nat) :
    Comped × Bool :=
  let b := d.basePixel s w x y covers ls
  (d.putLayers s x y covers build b.2.1 b.1, b.2.2)

/-- The composite of the lowest layers that a flatten build stores (R197): from the surface in use if it is a part of the run. -/
def Dev.buildPixel (d : Dev) (s w : Nat) (f : Flat) (ls : List (Word × Option (List Word))) (x y : Nat) : Comped :=
  let run := ls.filter fun l => f.run.any fun r => r.engine == slotEngine l.1
  let base := if f.start = 0 then (d.bgPx s, run)
    else match (d.scene s).flat with
      | some g => ((d.flatPixel s g.surface w x y).1, run.filter fun l => !(g.run.any fun r => r.engine == slotEngine l.1))
      | none => (d.bgPx s, run)
  d.putLayers s x y [] base.2.length base.2 (base.1, [])

/-- The six bytes of FS48 of a pixel (R150, R213). -/
def Dev.fsBytes (d : Dev) (s : Nat) (p : Px) : List (BitVec 8) :=
  let t := (d.tone (sceneTone s)).front
  let q := if t.key.mode = 0 then p else t.onStraight 4096 p
  [0, 1, 2].flatMap fun ch => leBytes 2 (d.fs48 s ch q)

/-- The eight bytes of FL64 of a pixel (R197, R213). -/
def flBytes (p : Px) : List (BitVec 8) := leBytes 2 (f16Of p.r) ++ leBytes 2 (f16Of p.g) ++ leBytes 2 (f16Of p.b) ++ leBytes 2 0x3C00

/-- Luminance of a pixel in 10⁻⁴ of 2⁻⁴³, 0 where negative (R152). -/
def Px.lumNat (p : Px) : Nat := p.lum4.toNat

/-- The blender writes canvas row `y` of the frame in progress: its pixels, the flatten build's, and the statistics. -/
def Dev.blendRow (d : Dev) (s : Nat) (c : Comp) (y : Nat) : Dev :=
  let ls := d.layers s
  let build := (d.scene s).build
  let depth := match build with | some f => if f.done then 0 else f.run.length | none => 0
  let px := (List.range c.w).map fun x => d.canvasPixel s c.w c.covers ls depth x y
  let ps := px.map fun p => p.1.1
  let bad := px.flatMap fun p => p.1.2
  let d1 := d.fmWrite (d.pixelAddr c.entry c.w 6 0 y) (ps.flatMap (d.fsBytes s))
  let d2 := bad.foldl (fun x e => x.inc .leng e Off.LENG_POISON_PIX) d1
  let c2 := { c with lumMax := ps.foldl (fun m p => max m (max p.r (max p.g p.b))) c.lumMax
                     lumSum := ps.foldl (fun m p => m + p.lumNat) c.lumSum }
  let sc := d2.scene s
  let flat := sc.flat.map fun f => if px.any fun p => p.2 then { f with poisoned := true } else f
  let d3 := d2.setScene s { sc with comp := some c2, flat := flat }
  let flatEntry := sc.flat.bind fun f => d.findEntry 1 s f.surface
  let d4 := match flatEntry with
    | some e => if px.any fun p => p.2 then (d3.fmError (d.pixelAddr e c.w 8 0 y) 1).fault 8 1 s 0 else d3
    | none => d3
  match build with
  | none => d4
  | some f =>
    if f.done then d4
    else match d.findEntry 1 s f.surface with
      | none => d4
      | some e =>
        let bp := (List.range c.w).map fun x => d.buildPixel s c.w f ls x y
        let d5 := d4.fmWrite (d.pixelAddr e c.w 8 0 y) (bp.flatMap fun p => flBytes p.1)
        let f2 := if bp.any fun p => !p.2.isEmpty then { f with poisoned := true } else f
        d5.setScene s { d5.scene s with build := some f2 }

/-- Rows `y` to `y + n - 1`. -/
def Dev.blendRows (d : Dev) (s y : Nat) : Nat → Dev
  | 0 => d
  | n + 1 => match (d.scene s).comp with
    | none => d
    | some c => Dev.blendRows (d.blendRow s c y) s (y + 1) n

/-! Figures of an engine's frame (R105, R18) -/

/-- Tiles that a layer's clipped destination overlaps, by column and row. -/
def Dev.layerTiles (d : Dev) (s e : Nat) : List Rect :=
  let r := d.clipRect s e
  if r.isEmpty then []
  else
    let x0 := r.x.toNat / 64
    let y0 := r.y.toNat / 64
    let nx := ((r.x + r.w).toNat + 63) / 64 - x0
    let ny := ((r.y + r.h).toNat + 63) / 64 - y0
    (List.range ny).flatMap fun j => (List.range nx).map fun i => tileOf ((x0 + i) * 64) ((y0 + j) * 64)

/-- The layers above an engine's. -/
def Dev.above (d : Dev) (s e : Nat) : List (Word × Option (List Word)) :=
  ((d.layers s).dropWhile fun l => slotEngine l.1 != e).drop 1

/-- Tiles of a layer that are culled, and all that it touches. -/
def Dev.tileFigures (d : Dev) (s e : Nat) (covers : List Nat) : List Rect × List Rect :=
  let ts := d.layerTiles s e
  (ts.filter fun t => d.covered s covers t (d.above s e), ts)

/-- The area of a layer's destination inside some tiles and a strip's columns. -/
def Dev.areaIn (d : Dev) (s e : Nat) (strip : Nat × Nat) (ts : List Rect) : Nat :=
  let r := Rect.meet (d.clipRect s e) { x := d.dstX e + strip.1, y := 0, w := strip.2, h := 16384 }
  ts.foldl (fun m t => let q := r.meet t; if q.isEmpty then m else m + q.w.toNat * q.h.toNat) 0

/-- Source columns or rows, first and past the last, that destination positions `a` to `b` need after pre-decimation within a line of
`src`; `taps` says whether the direction is filtered (R119, R121). -/
def Dev.spanOf (d : Dev) (e : Nat) (vertical taps : Bool) (src dst a b : Nat) : Nat × Nat :=
  let n := preDec src dst
  let init := d.scaleInit e (if vertical then Off.LENG_V_INIT else Off.LENG_H_INIT)
  let t : Int × Int := if !taps then (0, 0) else if vertical then (2, 3) else (3, 4)
  let lo := max 0 (scalePos (scaleStep n dst) a init / 2 ^ 20 - t.1)
  let hi := min ((n : Int) - 1) (scalePos (scaleStep n dst) b init / 2 ^ 20 + t.2)
  (lo.toNat, (hi + 1).toNat)

/-- A direction keeps its size and its phase (R120, R121). -/
def Dev.unscaled (d : Dev) (e : Nat) (vertical : Bool) (src dst : Nat) : Bool :=
  preDec src dst == src && scaleStep src dst == 2 ^ 20 && d.scaleInit e (if vertical then Off.LENG_V_INIT else Off.LENG_H_INIT) == 0

/-- The length that a list of intervals covers together; `seen` is where the intervals so far end, their starts in rising order. -/
def unionLen (l : List (Nat × Nat)) : Nat :=
  (l.foldl (fun (x : Nat × Nat) i => (x.1 + (i.2 - max i.1 x.2), max x.2 i.2)) (0, 0)).1

/-- A number put into a rising list. -/
def insertNat (x : Nat) : List Nat → List Nat
  | [] => [x]
  | y :: r => if x < y then x :: y :: r else y :: insertNat x r

/-- The area that rectangles (columns, rows) cover together, the list in rising order of their first columns. -/
def unionArea (l : List ((Nat × Nat) × (Nat × Nat))) : Nat :=
  let cuts := ((l.map fun x => x.2.1) ++ (l.map fun x => x.2.2)).eraseDups.foldl (fun l x => insertNat x l) []
  (cuts.zip (cuts.drop 1)).foldl (fun m c =>
    m + (c.2 - c.1) * unionLen ((l.filter fun x => decide (x.2.1 ≤ c.1 ∧ c.1 < x.2.2)).map Prod.fst)) 0

/-- WORK_PIX of strip `k` of a layer: the larger of the pixels it delivers and the source pixels that the delivered tiles need after
pre-decimation (R18, R125). -/
def Dev.workPix (d : Dev) (s e k : Nat) (covers : List Nat) : Nat :=
  let g := d.gangOf e
  let strip := stripCols (d.dstW e) g k
  let f := d.tileFigures s e covers
  let kept := f.2.filter fun t => !f.1.contains t
  let delivered := d.areaIn s e strip kept
  if (d.eng e).decision = .solid then delivered
  else
    let hU := d.unscaled e false (d.oriented e).1 (d.dstW e)
    let vU := d.unscaled e true (d.oriented e).2 (d.dstH e)
    let r := Rect.meet (d.clipRect s e) { x := d.dstX e + strip.1, y := 0, w := strip.2, h := 16384 }
    let whole := if kept.length = f.2.length then [r] else ((f.2.map Rect.x).eraseDups.flatMap fun x => kept.filter fun t => t.x == x).map r.meet
    let needs := (whole.filter fun q => !q.isEmpty).map fun q =>
      let x := (q.x - d.dstX e).toNat
      let y := (q.y - d.dstY e).toNat
      (d.spanOf e false (!(hU && vU)) (d.oriented e).1 (d.dstW e) x (x + q.w.toNat - 1),
       d.spanOf e true (!vU) (d.oriented e).2 (d.dstH e) y (y + q.h.toNat - 1))
    max delivered (unionArea needs)

end Sys2Proof.Machine
end

