-- ==== Sys2Proof/Machine/Check.lean ====
section
/-! DEFINITION. The check compositor: exact paths, reference signatures and heartbeats (R464 to R472, R477). -/

namespace Sys2Proof.Machine

/-! Regions and blocks -/

/-- Rectangle of a region in use. -/
def Dev.regionRect (d : Dev) (s r : Nat) : Rect :=
  { x := (d.regUse s r Off.SCHK_REG_POS 0 15 : Nat), y := (d.regUse s r Off.SCHK_REG_POS 16 15 : Nat)
    w := (d.regUse s r Off.SCHK_REG_SIZE 0 15 : Nat), h := (d.regUse s r Off.SCHK_REG_SIZE 16 15 : Nat) }

/-- The blocks of a region by column and row in blocks of 16. -/
def Dev.regionBlocks (d : Dev) (s r : Nat) : List (Nat × Nat) :=
  let q := d.regionRect s r
  (List.range (q.h.toNat / 16)).flatMap fun j => (List.range (q.w.toNat / 16)).map fun i => (q.x.toNat / 16 + i, q.y.toNat / 16 + j)

/-- Rectangle of a block. -/
def blockRect (b : Nat × Nat) : Rect := { x := (16 * b.1 : Nat), y := (16 * b.2 : Nat), w := 16, h := 16 }

/-! Exact paths (R466) -/

/-- The scaler of an engine passes pixels unchanged (R120). -/
def Dev.scalerExact (d : Dev) (e : Nat) : Bool :=
  d.layerSolid e || (d.oriented e == (d.dstW e, d.dstH e) && d.scaleInit e Off.LENG_H_INIT == 0 && d.scaleInit e Off.LENG_V_INIT == 0)

/-- A layer is on the exact path. -/
def Dev.exactLayer (d : Dev) (s : Nat) (l : Word × Option (List Word)) : Bool :=
  let e := slotEngine l.1
  d.scalerExact e && slotBlend l.1 != 2 && slotAlpha l.1 == 65535 && d.opaqueLayer e l.2 && d.useF .leng e Off.LENG_KEY_CTRL 0 2 == 0
    && (d.layerLut e).key.mode == 0 && !d.useB .tone s Off.TONE_TONE_CTRL 0

/-- A layer contributes to a region: its clipped destination overlaps it. -/
def Dev.touchesRegion (d : Dev) (s r e : Nat) : Bool := !((d.clipRect s e).meet (d.regionRect s r)).isEmpty

/-- An EXACT region that a layer contributes to keeps it out of a flatten run. -/
def Dev.keptFromFlat (d : Dev) (s e : Nat) : Bool :=
  (d.regionsOn s).any fun r => d.regUse s r Off.SCHK_REG_CTRL 1 1 == 1 && d.touchesRegion s r e

/-- Every layer that contributes to a region is on the exact path. -/
def Dev.exactPath (d : Dev) (s r : Nat) : Bool :=
  (d.layers s).all fun l => !d.touchesRegion s r (slotEngine l.1) || d.exactLayer s l

/-- A region is compared exactly in the frame that a boundary starts. -/
def Dev.regionExact (d : Dev) (s r : Nat) : Bool :=
  d.regUse s r Off.SCHK_REG_CTRL 1 1 == 1 && !(d.chk s).fallback.contains r

/-- EXACT_FALLBACK is told once per episode. -/
def Dev.fallbackStep (d : Dev) (s : Nat) : Dev :=
  let now := (d.regionsOn s).filter fun r => d.regUse s r Off.SCHK_REG_CTRL 1 1 == 1 && !d.exactPath s r
  let old := (d.chk s).fallback
  let d1 := d.setChk s { d.chk s with fallback := now }
  if now.any fun r => !old.contains r then d1.flag .schk s 12 else d1

/-! Signatures (R467) -/

/-- FS48 codes of a canvas pixel as the check compositor composes it: every layer, no culling, no flatten surface (R465). -/
def Dev.checkPixel (d : Dev) (s : Nat) (x y : Nat) : Nat × Nat × Nat :=
  let ls := d.layers s
  let p := (d.putLayers s x y [] ls.length ls (d.bgPx s, [])).1
  let t := (d.tone (sceneTone s)).front
  let q := if t.key.mode = 0 then p else t.onStraight 4096 p
  (d.fs48 s 0 q, d.fs48 s 1 q, d.fs48 s 2 q)

/-- A channel of FS48 codes. -/
def chan (k : Nat) (c : Nat × Nat × Nat) : Nat := if k = 0 then c.1 else if k = 1 then c.2.1 else c.2.2

/-- The pixels of a block in row-major order. -/
def blockPix (get : Nat → Nat → Nat × Nat × Nat) (b : Nat × Nat) : List (Nat × Nat × Nat) :=
  (List.range 16).flatMap fun j => (List.range 16).map fun i => get (16 * b.1 + i) (16 * b.2 + j)

/-- Bytes of pixels: three little-endian words each. -/
def pixBytesLe (l : List (Nat × Nat × Nat)) : List (BitVec 8) := l.flatMap fun c => leBytes 2 c.1 ++ leBytes 2 c.2.1 ++ leBytes 2 c.2.2

/-- SUM and TEX of a channel of a block. -/
def blockSum (get : Nat → Nat → Nat × Nat × Nat) (b : Nat × Nat) (k : Nat) : Int :=
  (blockPix get b).foldl (fun (m : Int) c => m + (chan k c : Nat)) 0
def blockTex (get : Nat → Nat → Nat × Nat × Nat) (b : Nat × Nat) (k : Nat) : Int :=
  (List.range 16).foldl (fun m j => (List.range 15).foldl (fun (n : Int) i =>
    n + (((chan k (get (16 * b.1 + i + 1) (16 * b.2 + j)) : Nat) : Int) - (chan k (get (16 * b.1 + i) (16 * b.2 + j)) : Nat)).natAbs) m) 0

/-- The signature of a block. -/
def blockSig (exact : Bool) (get : Nat → Nat → Nat × Nat × Nat) (b : Nat × Nat) : Sig :=
  if exact then .exact (crc32 (pixBytesLe (blockPix get b)))
  else .tol ((List.range 3).map (blockSum get b)) ((List.range 3).map (blockTex get b))

/-- What the diverse implementation makes of a tolerance signature: it may differ by small amounts, which are open (R466). -/
def Sig.diverse (frame : Nat) (b : Nat × Nat) : Sig → Sig
  | .exact c => .exact c
  | .tol sum tex => .tol (sum.zipIdx.map fun x => x.1 + Config.checkDelta frame b.1 b.2 x.2)
      (tex.zipIdx.map fun x => x.1 + Config.checkDelta frame b.1 b.2 (3 + x.2))

/-- A block fails against its reference (R467). -/
def sigFails (mean texTol : Nat) : Sig → Sig → Bool
  | .exact a, .exact b => a != b
  | .tol a ta, .tol b tb =>
    ((a.zip b).any fun x => decide (256 * mean < (x.1 - x.2).natAbs)) || ((ta.zip tb).any fun x => decide (256 * texTol < (x.1 - x.2).natAbs))
  | _, _ => true

/-! Heartbeats (R470) -/

/-- The use that an engine contributes to the frame, if it contributes one. -/
def Dev.contributes (d : Dev) (s e : Nat) : Option Use :=
  if (d.eng e).scene ≠ some s ∨ !d.named s e then none
  else match (d.eng e).decision with
    | .current => (d.eng e).use
    | .heldUse => (d.eng e).old
    | _ => none

/-- The FENCE heartbeat of a region for the frame that starts. -/
def Dev.fenceBeat (d : Dev) (s frame r : Nat) : Dev :=
  if d.regUse s r Off.SCHK_REG_CTRL 2 2 ≠ 1 then d
  else match d.contributes s (d.regUse s r Off.SCHK_REG_CTRL 4 6) with
    | none => d
    | some u =>
      if u.composed then d
      else
        let b := (d.chk s).beat r
        d.setChk s ((d.chk s).setBeat r { b with count := b.count + 1, value := some (b.count + 1, frame), use := u.id })

/-- A reference signature of a region inside the heartbeat engine's destination changed. -/
def Dev.blocksChanged (d : Dev) (s r : Nat) (blocks : List BlockRef) : Bool :=
  let e := d.regUse s r Off.SCHK_REG_CTRL 4 6
  (blocks.filter fun b => b.region == r && !((blockRect (b.x, b.y)).meet (d.clipRect s e)).isEmpty).any fun b =>
    !((d.chk s).last.contains b)

/-- The COUNTER heartbeat of a region, its frame's reference complete. -/
def Dev.counterBeat (d : Dev) (s frame r : Nat) (blocks : List BlockRef) : Dev :=
  let e := d.regUse s r Off.SCHK_REG_CTRL 4 6
  if d.regUse s r Off.SCHK_REG_CTRL 2 2 ≠ 2 ∨ (d.contributes s e).isNone then d
  else
    let b := (d.chk s).beat r
    let seq := (d.eng e).info.seq
    if (b.value.isNone || b.seq != seq) && d.blocksChanged s r blocks then
      d.setChk s ((d.chk s).setBeat r { b with value := some (seq.toNat, frame), seq := seq })
    else d

/-- The heartbeats that a frame carries. -/
def Dev.carried (d : Dev) (s : Nat) : List (Nat × Nat × Nat) :=
  (d.regionsOn s).filterMap fun r => ((d.chk s).beat r).value.map fun v => (r, v.1, v.2)

/-- The valid timecodes of the uses that contribute to a frame (R322). -/
def Dev.frameTcs (d : Dev) (s : Nat) : List (Nat × Word) :=
  ((d.slots s).map slotEngine).filterMap fun e => (d.contributes s e).bind fun u => u.timecode.map fun t => (e, t)

/-! The reference of a frame (R465) -/

/-- The layers' uses have been composed. -/
def Dev.markComposed (d : Dev) (s : Nat) : Dev :=
  ((d.slots s).map slotEngine).foldl (fun x e =>
    match (x.eng e).decision with
    | .current => x.setEng e { x.eng e with use := (x.eng e).use.map fun u => { u with composed := true } }
    | _ => x) d

/-- A composition starts: heartbeats of uses first composed, and the reference begins where the scene is checked. -/
def Dev.refBegin (d : Dev) (s frame entry : Nat) : Dev :=
  let d1 := if d.checkEn s then (d.regionsOn s).foldl (fun x r => x.fenceBeat s frame r) d else d
  let d2 := d1.markComposed s
  if d2.checkEn s then
    (d2.setChk s { d2.chk s with making := some (entry, frame, (d2.cad s).frame, d2.now) }).setRef entry
      { frame := frame, beats := d2.carried s }
  else d2.setRef entry {}

/-- The blocks of a frame's reference. -/
def Dev.refBlocks (d : Dev) (s frame : Nat) : List BlockRef :=
  (d.regionsOn s).flatMap fun r => (d.regionBlocks s r).map fun b =>
    { region := r, x := b.1, y := b.2
      sig := (blockSig (d.regionExact s r) (d.checkPixel s) b).diverse frame b }

/-- CHECK_REFERENCE_DONE of a scene, with the check compositor's pace. -/
def Dev.checkDone (d : Dev) (s pace : Nat) : Dev :=
  match (d.chk s).making with
  | none => d
  | some (entry, frame, _, start) =>
    let blocks := d.refBlocks s frame
    let d1 := (d.regionsOn s).foldl (fun x r => x.counterBeat s frame r blocks) d
    let d2 := d1.setChk s { d1.chk s with making := none, last := blocks }
    let d3 := d2.setRef entry { frame := frame, done := true, doneAt := d.now, blocks := blocks, beats := d2.carried s }
    ((d3.wrN .schk s Off.SCHK_REF_STAT (frame % 65536)).wr .schk s Off.SCHK_CHECK_NS (satWord (d.now - start))).wrN .bly 0
      Off.BLY_CC_PACE (pace % 65536)

/-- CC_STAT as it reads: BUSY while a reference is under way (R493). -/
def Dev.ccStat (d : Dev) : Word :=
  putBit (d.rd .bly 0 Off.BLY_CC_STAT) 1 ([0, 1, 2, 3].any fun s => (d.chk s).making.isSome)

/-! Boundaries (R469, R477) -/

/-- The window of a port in its source. -/
def Dev.window (d : Dev) (p : Nat) : Rect :=
  { x := (d.useF .scan p Off.SCAN_WIN_POS 0 15 : Nat), y := (d.useF .scan p Off.SCAN_WIN_POS 16 15 : Nat)
    w := (d.useF .scan p Off.SCAN_WIN_SIZE 0 15 : Nat), h := (d.useF .scan p Off.SCAN_WIN_SIZE 16 15 : Nat) }

/-- Blocks that lie wholly inside no window of a port that shows the scene. -/
def Dev.uncovered (d : Dev) (s : Nat) : Nat :=
  let ws := ((List.range 8).filter fun p => d.portShows p s).map d.window
  ((d.regionsOn s).flatMap fun r => (d.regionBlocks s r).filter fun b => !(ws.any fun w => (blockRect b).inside w)).length

/-- UNCOVERED at a boundary, with what applies there (R469). -/
def Dev.countUncovered (d : Dev) (s : Nat) : Dev :=
  if d.checkEn s then d.wrN .schk s Off.SCHK_UNCOVERED (min 0xFFFF (d.uncovered s)) else d

/-- The golden block of a scene at its boundary, with its result (R477). -/
def Dev.goldenCheck (d : Dev) (s : Nat) (golden : Bool) : Dev :=
  if !d.checkEn s then d.onSafe fun x => { x with goldenBad := x.goldenBad.filter (· ≠ s) }
  else
    let bad := (d.safe.goldenBad.filter (· ≠ s)) ++ (if golden then [] else [s])
    let d1 := (d.onSafe fun x => { x with goldenBad := bad }).setB .bly 0 Off.BLY_CC_STAT 0 bad.isEmpty
    if golden then d1 else (d1.flag .bly 0 9).fault 22 1 s 0

end Sys2Proof.Machine
end

