-- ==== Sys2Proof/Machine/Scene.lean ====
section
/-! DEFINITION. The boundary of a scene step by step, decisions, held frames, composition and the flatten cache (R180 to R208). -/

namespace Sys2Proof.Machine

/-! Modes of a scene -/

/-- Composition runs at a boundary at this instant whose cut-off fell `guard` µs earlier (R501). -/
def Dev.composesAt (d : Dev) (guard : Nat) : Bool := composeModes.contains d.mode && decide (d.runSince + 1000 * guard < d.now)

/-- Chase mode is asked for, and its reference port shows the scene (R185). -/
def Dev.wantsChase (d : Dev) (s : Nat) : Bool := d.useB .stim s Off.STIM_MODE 0 && d.chaseRefShows s (d.use .stim s Off.STIM_MODE)

/-- A frame-store buffer that no port reads, no capture pins and that does not hold the newest complete frame (R16, R181). -/
def Dev.bufferFree (d : Dev) (s e : Nat) : Bool :=
  !((List.range 8).any fun p => match (d.port p).shown with | .buffer x _ _ _ _ => x == e | _ => false)
    && !d.entPinned e && (d.newest s).map Prod.fst != some e && (d.scene s).chaseEntry != some e

/-- The free buffer for the next composition: slot and entry. -/
def Dev.freeBuffer (d : Dev) (s : Nat) : Option (Nat × Nat) :=
  ([0, 1, 2].filterMap fun k => (d.findEntry 0 s k).map fun e => (k, e)).find? fun x => d.bufferFree s x.2

/-! Statistics -/

/-- The figures of an engine's part of the frame that ended, with the frame's number (R105). -/
def Dev.publishEngine (d : Dev) (e tag : Nat) : Dev :=
  let st := fun (i : Nat) => (d.eng e).stats.getD i 0
  let d1 := (((d.wr .leng e Off.LENG_WORK_PIX (st 0)).wr .leng e Off.LENG_FINISH_NS (st 1)).wr .leng e Off.LENG_PACE (st 2)).wr
    .leng e Off.LENG_CULL_STAT (st 3)
  ((d1.wr .leng e Off.LENG_READS_LAST (st 4)).setF .leng e Off.LENG_ENG_INFO 16 16 tag).setEng e
    { d.eng e with stats := [], poisonAt := none, poisonReads := 0 }

/-- The figures of the frame that ended are published, the engines' too; the number of a frame is that of its boundary and one. In chase
mode the smallest lead and panic are those of the whole frame, held or composed (R105, R170, R188, R207). -/
def Dev.publish (d : Dev) (s : Nat) : Dev :=
  match (d.scene s).stats with
  | none => d
  | some f =>
    let w := fun (x : Dev) (off : Nat) (v : Word) => x.wr .stim s off v
    let sc := d.scene s
    let lead : Word := if sc.chaseMode then BitVec.ofNat 32 (min sc.leadMin 0xFFFF) else 0xFFFF
    let x := w (w (w d Off.STIM_LAST_FRAME (putBit f.lastFrame 5 (bitOf f.lastFrame 5 || (sc.chaseMode && sc.lowRaised)))) Off.STIM_SLACK f.slack) Off.STIM_COMPOSE_NS f.composeNs
    let d1 := (w (w (w x Off.STIM_WAIT_NS f.waitNs) Off.STIM_BLEND_PACE f.blendPace) Off.STIM_LEAD_MIN lead).setScene s
      { d.scene s with stats := none }
    ((List.range 64).filter fun e => (d1.eng e).scene = some s).foldl (fun y e => y.publishEngine e (bitsOf f.lastFrame 16 16 + 1)) d1

/-- LAST_FRAME (R207). -/
def lastFrameWord (held late chase flat waited panic first : Bool) (tag : Nat) : Word :=
  BitVec.ofNat 32 (flagsNat [held, late, chase, flat, waited, panic, first] + tag % 65536 * 65536)

/-- The figures of a composed or abandoned frame. -/
def Comp.figures (c : Comp) (late : Bool) (slack : Int) (composeNs pace : Nat) : FrameStats :=
  { lastFrame := lastFrameWord false late c.chase c.flattened c.waited c.panicked c.first c.boundary
    slack := BitVec.ofNat 32 (ofSigned slack 32), composeNs := satWord composeNs, waitNs := satWord (c.blendAt - c.start)
    blendPace := BitVec.ofNat 32 (pace % 65536) }

/-! The flatten cache (R196 to R199) -/

/-- The background of a scene as it is compared. -/
def Dev.bgSnap (d : Dev) (s : Nat) : BgSnap :=
  (d.use .scn s Off.SCN_BG_RG, d.use .scn s Off.SCN_BG_B, d.use .scn s Off.SCN_CANVAS, d.use .scn s Off.SCN_FLAT_CTRL)

/-- The same background, FLAT_CTRL apart. -/
def sameBg (a b : BgSnap) : Bool := a.1 == b.1 && a.2.1 == b.2.1 && a.2.2.1 == b.2.2.1

/-- What a valid slot would compose from now. -/
def Dev.snapOf (d : Dev) (w : Word) : Snap :=
  let e := slotEngine w
  { engine := e, slot := w, use := if d.layerSolid e then 0 else match (d.eng e).use with | some u => u.id + 1 | none => 0
    leng := Tbl.slice d.core.inUse (Page.leng.reg e 0x900) (Page.leng.reg e 0x1000), lut := (d.tone e).front }

/-- A slot's layer is eligible at this boundary (R196). -/
def Dev.eligible (d : Dev) (s : Nat) (w : Word) : Bool :=
  let e := slotEngine w
  d.useB .scn s Off.SCN_FLAT_CTRL 0 && !slotNoFlat w && !d.keptFromFlat s e && !slotVolatile w && !d.useB .leng e Off.LENG_CLR_CTRL 12
    && decide ((d.eng e).scene = some s) && d.layerEnabled e && (d.eng e).legal
    && ((d.scene s).snaps.any fun x => x.1 == d.snapOf w && decide (2 ≤ x.2))
    && (match (d.scene s).bg with | some b => sameBg b.1 (d.bgSnap s) && decide (2 ≤ b.2) | none => false)

/-- The candidate run (R196). -/
def Dev.candidate (d : Dev) (s : Nat) : List Snap :=
  (((d.slots s).takeWhile (d.eligible s)).take (d.useF .scn s Off.SCN_FLAT_CTRL 8 5)).map d.snapOf

/-- FLAT_STAT (R203); `tag` is written at a validation or a drop. -/
def Dev.showFlat (d : Dev) (s : Nat) (tag : Option Nat) : Dev :=
  let sc := d.scene s
  let depth := match sc.flat with | some f => f.run.length | none => 0
  let surface := match sc.flat with | some f => f.surface | none => 0
  let bd := match sc.build with | some f => f.run.length | none => 0
  let low := depth % 32 + surface % 2 * 32 + sc.build.isSome.toNat * 64 + bd % 32 * 256
  let d1 := d.setF .scn s Off.SCN_FLAT_STAT 0 16 low
  match tag with
  | some n => d1.setF .scn s Off.SCN_FLAT_STAT 16 16 n
  | none => d1

/-- The surface in use must be dropped (R199). -/
def Dev.flatBroken (d : Dev) (s : Nat) (f : Flat) : Bool :=
  (d.scene s).flatDrop || f.poisoned || !d.sceneEnabled s || f.bg != d.bgSnap s
    || f.run != (((d.slots s).map d.snapOf).take f.run.length)
    || !(f.run.all fun r => decide ((d.eng r.engine).scene = some s) && d.layerEnabled r.engine && (d.eng r.engine).legal)

/-- The scene changed at this boundary in a way that keeps it from being held. -/
def Dev.markChanged (d : Dev) (s : Nat) : Dev := d.setScene s { d.scene s with changed := true }

/-- Drop and validation at a boundary `n` (R198, R199). -/
def Dev.flatStep (d : Dev) (s n : Nat) : Dev :=
  let d1 := match (d.scene s).flat with
    | some f =>
      if d.flatBroken s f then
        (((d.setScene s { d.scene s with flat := none, changed := true }).showFlat s (some n)).flag .scn s 11)
      else d
    | none => d
  let d2 := match (d1.scene s).build with
    | some f =>
      if !f.done then d1
      else if !(d1.scene s).flatDrop && !f.poisoned && f.bg == d1.bgSnap s && (d1.candidate s).take f.run.length == f.run then
        (((d1.setScene s { d1.scene s with flat := some f, build := none, changed := true }).showFlat s (some n)).flag .scn s 10)
      else (d1.setScene s { d1.scene s with build := none }).showFlat s none
    | none => d1
  d2.setScene s { d2.scene s with flatDrop := false }

/-- A flatten surface that is free and large enough. -/
def Dev.freeSurface (d : Dev) (s : Nat) : Option Nat :=
  [0, 1].find? fun k => !(d.scene s).flatUses k && match d.findEntry 1 s k with
    | some e => decide (d.canvasW s * d.canvasH s * 8 ≤ d.entBytes e)
    | none => false

/-- A build starts with the composition (R197). -/
def Dev.flatBuild (d : Dev) (s : Nat) : Dev :=
  let run := d.candidate s
  let depth := match (d.scene s).flat with | some f => f.run.length | none => 0
  match d.freeSurface s with
  | some k =>
    if (d.scene s).build.isSome ∨ run.isEmpty ∨ run.length < d.useF .scn s Off.SCN_FLAT_CTRL 16 5 ∨ run.length = depth then d
    else
      let f : Flat := { surface := k, run := run, bg := d.bgSnap s, start := if depth < run.length then depth else 0 }
      match d.findEntry 1 s k with
      | some e => ((d.setScene s { d.scene s with build := some f }).setBuf e
          { w := d.canvasW s, h := d.canvasH s, written := true }).showFlat s none
      | none => d
  | none => d

/-! Decisions (R193 to R195) -/

/-- The engine reads the surface in place of its layer: it fetches nothing and reads no fence (R198). -/
def Dev.flattened (d : Dev) (s e : Nat) : Bool :=
  match (d.scene s).flat with | some f => f.run.any fun r => r.engine == e | none => false

/-- Engines whose fence is read at a boundary: named, enabled and legal, their use not yet found ready (R85, R173). -/
def Dev.fenceReads (d : Dev) (s : Nat) : List Nat :=
  ((d.slots s).map slotEngine).filter fun e =>
    d.layerEnabled e && (d.eng e).legal && decide ((d.eng e).scene = some s) && !d.flattened s e
      && (match (d.eng e).use with | some u => !u.ready | none => false)

/-- The use that a layer replaced can still be composed with the page's other values (R193). -/
def Dev.holdOk (d : Dev) (e : Nat) (u : Use) : Bool :=
  let g := match descFmt u.desc with | some f => f.granule | none => (1, 1)
  (descReason u.desc (d.orient e) d.core.installed).isNone
    && decide (d.cropX e + d.cropW e ≤ descWidth u.desc) && decide (d.cropY e + d.cropH e ≤ descHeight u.desc)
    && decide (d.cropX e % g.1 = 0) && decide (d.cropW e % g.1 = 0) && decide (d.cropY e % g.2 = 0) && decide (d.cropH e % g.2 = 0)

/-- A layer falls: it is not composed from its present use, which is reported (R195). -/
def Dev.reportFall (d : Dev) (s e : Nat) : Dev :=
  (((d.bufFlag e 0).event (129 + 4 * e) 0).inc .stim s Off.STIM_FALL_COUNT).flag .scn s 16

/-- HOLD: the extended use, or hidden. -/
def Dev.fallHold (d : Dev) (s e : Nat) : Dev :=
  let x := d.eng e
  let dec := match x.old with | some u => if d.holdOk e u then Decision.heldUse else .hidden | none => .hidden
  (d.setEng e { x with decision := dec }).reportFall s e

/-- HIDE: the layer contributes nothing, and the replaced use ends. -/
def Dev.fallHide (d : Dev) (s e : Nat) : Dev := (d.setEng e { (d.eng e).endOld with decision := .hidden }).reportFall s e

/-- POLICY of an engine: NOT_READY_POLICY, WAIT_FALL and WAIT_LIMIT. -/
def Dev.policy (d : Dev) (e : Nat) : Nat := d.useF .leng e Off.LENG_POLICY 0 2
def Dev.waitFall (d : Dev) (e : Nat) : Bool := d.useB .leng e Off.LENG_POLICY 2

/-- What WAIT_FALL decides. -/
def Dev.fallBy (d : Dev) (s e : Nat) : Dev := if d.waitFall e then d.fallHide s e else d.fallHold s e

/-- B of R194, ns. -/
def Dev.waitBound (d : Dev) (s e : Nat) : Nat :=
  let period := (d.cad s).period / nsUnit
  let c := (d.scene s).composeNs.getD (period / 2)
  min (1000 * d.useF .leng e Off.LENG_POLICY 16 16) (period - c - 1000 * d.useF .stim s Off.STIM_WAIT_CTRL 0 16)

/-- The decision for one engine at a boundary (R193, R194). -/
def Dev.decideEngine (d : Dev) (s : Nat) (chase : Bool) (e : Nat) : Dev :=
  let x := d.eng e
  if !d.layerEnabled e || !x.legal || d.flattened s e then
    d.setEng e { x with decision := if d.flattened s e then x.decision else .none }
  else if d.layerSolid e then d.setEng e { x with decision := .solid }
  else match x.use with
    | none => d.setEng e { x with decision := .none }
    | some u =>
      if u.ready then d.setEng e { x.endOld with decision := .current }
      else if d.policy e = 0 then d.fallHold s e
      else if d.policy e = 1 then d.fallHide s e
      else if u.waited || chase then (d.setEng e { x with use := some { u with waited := true } }).fallBy s e
      else
        let y := { x with use := some { u with waited := true }, decision := .waiting }
        d.setEng e (if d.waitFall e then y.endOld else y)

/-- The decisions of a scene's named engines. -/
def Dev.decisionList (d : Dev) (s : Nat) : List (Nat × Decision × Nat) :=
  ((d.slots s).map slotEngine).map fun e =>
    (e, (d.eng e).decision, match (d.eng e).use with | some u => u.id + 1 | none => 0)

/-- A boundary may be held (R191). -/
def Dev.mayHold (d : Dev) (s : Nat) : Bool :=
  let sc := d.scene s
  d.useB .scn s Off.SCN_SCN_CTRL 2 && !sc.changed && !sc.recompose && sc.everComposed && sc.lastWhole
    && !((d.slots s).any slotVolatile) && sc.decisions == d.decisionList s && !(sc.decisions.any fun x => x.2.1 == .waiting)

/-- A held frame (R192). -/
def Dev.holdFrame (d : Dev) (s : Nat) : Dev :=
  let sc := d.scene s
  let n := (d.cad s).frame
  let f : FrameStats := { lastFrame := lastFrameWord true false false false false false false n, slack := 0x7FFFFFFF }
  let d1 := (d.setScene s { sc with stats := some f, lastHeld := true, recompose := false, leadMin := 0xFFFF, lowRaised := false }).inc .stim s Off.STIM_HELD_COUNT
  if sc.lastHeld then d1 else d1.flag .scn s 14

/-! Composition -/

/-- A missed boundary (R181). -/
def Dev.missBoundary (d : Dev) (s : Nat) : Dev :=
  let d1 := (d.flag .scn s 8).inc .stim s Off.STIM_REPEAT_COUNT
  let n := (d.cad s).frame
  let mark := fun (x : Dev) (y : Page × Nat) => if x.bit y.1 y.2 Off.COMMIT_STAT 1 then x else x.markLate y.1 y.2
  let d2 := (d1.duePages s n).foldl mark d1
  let g := d2.group s
  let due := g.phase == .armed && (match g.target with | some t => decide (t ≤ n) | none => g.skip == 0)
  let d3 := if due then (d2.armedGroup s).foldl mark (d2.setB .sys 0 Off.SYS_GROUP_STAT (4 + s) true) else d2
  let sc := d3.scene s
  d3.setScene s { sc with missed := true, panic := sc.comp.isSome || sc.panic
                          comp := sc.comp.map fun c => { c with late := true, panicked := true } }

/-- The snapshots of the layers that a composition takes, with their counts (R196). -/
def Dev.nextSnaps (d : Dev) (s : Nat) : List (Snap × Nat) :=
  let old := (d.scene s).snaps
  ((d.slots s).filter fun w => match (d.eng (slotEngine w)).decision with
      | .current | .solid => true
      | _ => d.flattened s (slotEngine w)).map fun w =>
    let x := d.snapOf w
    (x, match old.find? fun y => y.1 == x with | some y => y.2 + 1 | none => 1)

/-- The background's snapshot and count. -/
def Dev.nextBg (d : Dev) (s : Nat) : BgSnap × Nat :=
  let b := d.bgSnap s
  (b, match (d.scene s).bg with | some x => if sameBg x.1 b then x.2 + 1 else 1 | none => 1)

/-- OFF_CANVAS of every layer of a frame whose destination lies wholly outside the canvas (R105, R113). -/
def Dev.flagOffCanvas (d : Dev) (s : Nat) : Dev :=
  (d.decisionList s).foldl (fun x l =>
    if l.2.1 != .none && l.2.1 != .hidden && d.offCanvas s l.1 then x.onCore (·.flagOnly .leng l.1 9) else x) d

/-- Composition starts in a buffer (R201 step 7). -/
def Dev.startIn (d : Dev) (s : Nat) (chase : Bool) (slot entry : Nat) : Dev :=
  let n := (d.cad s).frame
  let waits := ((d.decisionList s).filter fun x => x.2.1 == .waiting).map fun x => (x.1, d.now + d.waitBound s x.1)
  let covers := ((d.decisionList s).filter fun x => x.2.1 == .current || x.2.1 == .heldUse || x.2.1 == .solid).map Prod.fst
  let sc := d.scene s
  let c : Comp := { frame := n + 1, boundary := n, start := d.now, deadline := d.nextBoundary s, slot := slot, entry := entry, chase := chase
                    w := d.canvasW s, h := d.canvasH s, waiting := waits, blendAt := d.now, covers := covers
                    first := !sc.everComposed || sc.chaseMode != chase, flattened := sc.flat.isSome, panicked := sc.panic && chase }
  let snaps := d.nextSnaps s
  let bg := d.nextBg s
  let clear := chase && !sc.chaseMode
  let d1 := if clear then { d with rowGen := Tbl.without d.rowGen (16384 * s) (16384 * (s + 1)) } else d
  let d2 := (d1.flatBuild s).setBuf entry { w := c.w, h := c.h, frame := n + 1, written := true, tcs := d1.frameTcs s }
  let sc2 := d2.scene s
  let d3 := d2.setScene s { sc2 with comp := some c, recompose := false, lastHeld := false, everComposed := true, lastWhole := false
                                     decisions := d2.decisionList s, snaps := snaps, bg := some bg, gen := sc2.gen + 1, chaseMode := chase
                                     chaseEntry := if chase then some entry else none, leadMin := 0xFFFF, lowRaised := false
                                     panic := sc2.panic && chase }
  let g := d3.group s
  let d4 := if chase && g.phase = .composing n then d3.setGroup s { g with phase := .ready } else d3
  (((d4.memWake.refBegin s (n + 1) entry).event (384 + 16 * s) 0xFF)).flagOffCanvas s

/-- Composition starts, or the boundary is missed for want of a buffer (R181, R189). -/
def Dev.composeStart (d : Dev) (s : Nat) (chase : Bool) : Dev :=
  match if chase then (d.scene s).chaseEntry else none with
  | some e => d.startIn s chase (d.entSlot e) e
  | none => match d.freeBuffer s with
    | some (k, e) => d.startIn s chase k e
    | none => d.missBoundary s

/-- Every fence read of the boundary is done: the layers are decided, and the frame is held or composed (R201 steps 5 to 7). -/
def Dev.decideScene (d : Dev) (s : Nat) : Dev :=
  let d0 := { d with deciding := Tbl.set (fun _ => none) d.deciding s none }
  let chase := d0.wantsChase s
  let d1 := if d0.useB .stim s Off.STIM_MODE 0 && !chase then d0.scnReject s true 0x6B 0 else d0
  let d2 := ((d1.slots s).map slotEngine).foldl (fun x e => x.decideEngine s chase e) d1
  let d2 := if d2.checkEn s then d2.fallbackStep s else d2
  let sc := d2.scene s
  let d3 := if sc.chaseMode != chase then d2.setScene s { sc with changed := true } else d2
  let d4 := if d3.mayHold s then d3.holdFrame s else d3.composeStart s chase
  d4.setScene s { d4.scene s with changed := false }

/-- The engines whose fence read of the present boundary is outstanding. -/
def Dev.decidingOf (d : Dev) (s : Nat) : Option (List Nat) := Tbl.get (fun _ => none) d.deciding s

/-- A chase frame that is not fully written is abandoned (R187). -/
def Dev.abandonChase (d : Dev) (s : Nat) : Dev :=
  let sc := d.scene s
  match sc.comp with
  | none => d
  | some c =>
    let f := { c.figures true 0 0 0 with slack := d.core.freeNow.truncate 32, composeNs := (d.core.freeNow >>> 32).truncate 32 }
    (d.setScene s { sc with comp := none, stats := some f, lastWhole := false, build := none }).freeStep

/-- The groups of a scene at its boundary: the FRAME pages of a due group apply here, and its VBL pages wait for the frame (R50). -/
def Dev.groupStep (d : Dev) (s n : Nat) : Dev :=
  let g := d.group s
  let due := match g.target with | some t => decide (t ≤ n) | none => g.skip == 0
  match g.phase with
  | .armed =>
    if due then
      let vbl := (d.armedGroup s).any fun x => x.1.boundary = .vbl
      let d1 := d.setB .sys 0 Off.SYS_GROUP_STAT s vbl
      if vbl then d1.setGroup s { g with phase := .composing n }
      else (d1.setGroup s {}).setB .sys 0 Off.SYS_GROUP_STAT (8 + s) true
    else d.setGroup s { g with skip := g.skip - 1 }
  | _ => d

/-- A scene boundary, its frame number advanced (R201 steps 2 to 4); fence reads follow. -/
def Dev.sceneBoundary (d : Dev) (s : Nat) (golden : Bool) : Dev :=
  let c := d.cad s
  let n := c.frame
  let composes := d.composesAt c.guard
  let d0 := (d.setCad s { c with guard := d.fld .stim s Off.STIM_GUARD 0 11, ran := true }).goldenCheck s golden
  let sc := d0.scene s
  let running := match sc.comp with | some x => !x.chase | none => false
  let needs := !(sc.chaseMode && d0.wantsChase s)
  if running || (composes && d0.sceneEnabled s && needs && sc.comp.isNone && (d0.freeBuffer s).isNone) then
    (((d0.missBoundary s).countDown s).portionsMissed s).countUncovered s
  else
    let d2 := (d0.abandonChase s).publish s
    let pages := d2.duePages s n
    let d3 := (((d2.groupStep s n).sceneApply s n pages).portionsAt s).countUncovered s
    let (d4, swapped) := d3.toneBoundary s
    let d5 := ((if swapped then d4.markChanged s else d4).flatStep s n).countDown s
    let d6 := d5.setScene s { d5.scene s with missed := false, chaseOn := d5.wantsChase s }
    if composes && d6.sceneEnabled s then { d6 with deciding := Tbl.set (fun _ => none) d6.deciding s (some (d6.fenceReads s)) }
    else if !d6.sceneEnabled s then d6.setScene s { d6.scene s with everComposed := false, recompose := false }
    else d6

/-- The coming tick of a scene is a boundary: not before the second one after a wake, and not once an entry has stopped it (R201, R512,
R514). -/
def Dev.tickIsBoundary (d : Dev) (s : Nat) : Bool := d.timingRuns s && !(d.cad s).skipBoundary && !d.power.stopping

/-- CADENCE_TICK: the generator reaches its next tick time; with RUN it is a boundary (R201, R245). -/
def Dev.cadenceTick (d : Dev) (s : Nat) (golden : Bool) : Dev :=
  if !cadModes.contains d.mode || !(d.cad s).going then d
  else
    let d1 := d.advance (d.nextBoundary s)
    let c := d1.cad s
    let isBoundary := d1.tickIsBoundary s
    let d2 := d1.setCad s { c with skipBoundary := false, frame := if isBoundary then (c.frame + 1) % 2 ^ 48 else c.frame }
    let d3 := (if isBoundary then d2.sceneBoundary s golden else d2).tickTiming s
    let d4 := if d3.power.stopping && !d3.power.stopped.contains s then d3.onPower fun x => { x with stopped := x.stopped ++ [s] } else d3
    if isBoundary && d4.decidingOf s == some [] then d4.decideScene s else d4

/-- FENCE_READ_DONE of an engine at its boundary; the last one decides the scene. -/
def Dev.fenceReadDone (d : Dev) (e : Nat) : Dev :=
  match (d.eng e).scene with
  | none => d
  | some s =>
    match d.decidingOf s with
    | none => d
    | some l =>
      if l.contains e then
        let d1 := d.readFence e
        let d2 := { d1 with deciding := Tbl.set (fun _ => none) d1.deciding s (some (l.filter (· ≠ e))) }
        if d2.decidingOf s = some [] then d2.decideScene s else d2
      else d

/-! Waits (R194) -/

/-- A waiting layer is decided; when the last one is, blending begins. -/
def Dev.endWait (d : Dev) (s e : Nat) : Dev :=
  let sc := d.scene s
  match sc.comp with
  | none => d
  | some c =>
    let rest := c.waiting.filter fun x => x.1 ≠ e
    let snap := (((d.slots s).filter fun w => slotEngine w == e && (d.eng e).decision == .current).map d.snapOf).map fun x => (x, 1)
    d.setScene s { sc with comp := some { c with waiting := rest, waited := true, blendAt := if rest.isEmpty then d.now else c.blendAt }
                           decisions := d.decisionList s, snaps := sc.snaps ++ snap }

/-- The composition in which an engine waits. -/
def Dev.waitScene (d : Dev) (e : Nat) : Option Nat :=
  [0, 1, 2, 3].find? fun s => match (d.scene s).comp with | some c => c.waiting.any fun x => x.1 == e | none => false

/-- WAIT_FENCE_REREAD of a waiting layer. -/
def Dev.waitReread (d : Dev) (e : Nat) : Dev :=
  match d.waitScene e with
  | none => d
  | some s =>
    let d1 := d.readFence e
    match (d1.eng e).use with
    | some u => if u.ready then (d1.setEng e { (d1.eng e).endOld with decision := .current }).endWait s e else d1
    | none => d1

/-- WAIT_BOUND_EXPIRY: the earliest wait of a scene has reached its bound. -/
def Dev.waitExpiry (d : Dev) (s : Nat) : Dev :=
  match (d.scene s).comp with
  | none => d
  | some c =>
    match (c.waiting.map Prod.snd).min? with
    | none => d
    | some t =>
      let d1 := d.advance t
      (c.waiting.filter fun x => decide (x.2 ≤ t)).foldl (fun x y => (x.fallBy s y.1).endWait s y.1) d1

/-! Blending -/

/-- Raise or release deadline panic. -/
def Dev.setPanic (d : Dev) (s : Nat) (on : Bool) : Dev :=
  let sc := d.scene s
  d.setScene s { sc with panic := on, comp := sc.comp.map fun c => { c with panicked := c.panicked || on } }

/-- Deadline panic in frame-store mode, after a completed band (R183). -/
def Dev.projectPanic (d : Dev) (s : Nat) (c : Comp) : Dev :=
  let left := ceilDiv c.h 64 - c.bands
  let proj := d.now + left * ((d.now - c.blendAt) / c.bands)
  let margin : Int := (c.deadline : Int) - proj
  let lim : Int := (1000 * d.useF .stim s Off.STIM_PANIC 0 16 : Nat)
  if c.deadline ≤ d.now ∨ margin < lim then d.setPanic s true
  else if 2 * lim ≤ margin then d.setPanic s false else d

/-- BAND_COMPLETE: the blender completes a band of 64 rows in frame-store mode. -/
def Dev.bandComplete (d : Dev) (s : Nat) : Dev :=
  match (d.scene s).comp with
  | none => d
  | some c =>
    if c.chase || !c.waiting.isEmpty || decide (c.h ≤ 64 * c.bands) then d
    else
      let d1 := d.blendRows s (64 * c.bands) (min 64 (c.h - 64 * c.bands))
      match (d1.scene s).comp with
      | none => d1
      | some c1 =>
        let c2 := { c1 with bands := c1.bands + 1, rows := min c1.h (64 * (c1.bands + 1)) }
        (d1.setScene s { d1.scene s with comp := some c2 }).projectPanic s c2

/-- A port that reads a scene's chase buffer paces its blender (R186). -/
def Dev.readsChase (d : Dev) (p s : Nat) : Bool :=
  d.portShows p s && d.bit .xpt p Off.XPT_LINK_STAT 11 && !d.bit .safe 0 Off.SAFE_BELAY_STAT p
    && (match (d.port p).shown with | .buffer _ _ _ _ c => c | _ => false)

/-- A port has still to read a canvas row of the previous generation (R186). -/
def Dev.rowHeldBy (d : Dev) (s p r : Nat) : Bool :=
  let y0 := d.useF .scan p Off.SCAN_WIN_POS 16 15
  let h := d.useF .scan p Off.SCAN_WIN_SIZE 16 15
  d.readsChase p s && decide ((d.port p).gen < (d.scene s).gen) && !(d.port p).frameDone
    && decide (y0 + (d.port p).row ≤ r) && decide (r < y0 + h)

/-- The chase lead: consecutive canvas rows with the reference port's generation from its next window row (R188). -/
def Dev.leadFrom (d : Dev) (s gen y : Nat) : Nat → Nat
  | 0 => 0
  | n + 1 => if Dev.rowTag d s y = gen then 1 + Dev.leadFrom d s gen (y + 1) n else 0

/-- The chase lead now; none after the last window row (R188). -/
def Dev.chaseLead (d : Dev) (s : Nat) : Option Nat :=
  let p := d.useF .stim s Off.STIM_MODE 1 3
  let h := d.useF .scan p Off.SCAN_WIN_SIZE 16 15
  if !d.readsChase p s || decide (h ≤ (d.port p).row) then none
  else
    let y := d.useF .scan p Off.SCAN_WIN_POS 16 15 + (d.port p).row
    some (d.leadFrom s (d.port p).gen y (d.canvasH s - y))

/-- Panic and CHASE_LOW follow the chase lead (R188). -/
def Dev.chasePanic (d : Dev) (s : Nat) : Dev :=
  match d.chaseLead s with
  | none => d
  | some lead =>
    let low := decide (lead < d.useF .stim s Off.STIM_PANIC 16 9)
    let d1 := d.setPanic s low
    if low && !(d1.scene s).lowRaised then (d1.setScene s { d1.scene s with lowRaised := true }).flag .scn s 15 else d1

/-- BLENDER_ROW_WRITE: the next row in chase mode, once no port has still to read its previous generation. -/
def Dev.rowWrite (d : Dev) (s : Nat) : Dev :=
  match (d.scene s).comp with
  | none => d
  | some c =>
    if !c.chase || !c.waiting.isEmpty || decide (c.h ≤ c.rows) || (List.range 8).any fun p => d.rowHeldBy s p c.rows then d
    else
      let d1 := d.blendRow s c c.rows
      let d2 := { d1 with rowGen := Tbl.set (fun _ => 0) d1.rowGen (16384 * s + c.rows) (d1.scene s).gen }
      let sc := d2.scene s
      (d2.setScene s { sc with comp := sc.comp.map fun x => { x with rows := x.rows + 1, bands := (x.rows + 1) / 64 } }).chasePanic s

/-! Compose done (R180, R182) -/

/-- The figures of one engine's frame; a late one is told (R105, R128). -/
def Dev.engineFigures (d : Dev) (s : Nat) (c : Comp) (f : EngineFigures) : Dev :=
  let e := f.engine.val
  let lead := ((d.eng e).lead).getD e
  let worked := (d.layers s).any fun l => slotEngine l.1 == lead
  if !worked ∨ (d.eng e).scene ≠ some s then d
  else
    let t := d.tileFigures s lead c.covers
    let st : List Word := [satWord (d.workPix s lead (e - lead) c.covers), satWord f.finishNs, BitVec.ofNat 32 (f.pace % 65536),
      BitVec.ofNat 32 (min 0xFFFF t.1.length + min 0xFFFF t.2.length * 65536), satWord f.reads]
    let d1 := d.setEng e { d.eng e with stats := st }
    if c.deadline < c.start + f.finishNs then d1.onCore (·.flagOnly .leng e 11) else d1

/-- STATS_MAX and STATS_AVG of the frame (R150, R152), in cd/m² to the nearest. -/
def Dev.showStats (d : Dev) (s : Nat) (c : Comp) : Dev :=
  let mx := min 0xFFFF (roundDiv (c.lumMax.toNat * 203) f20One)
  let px := max 1 (c.w * c.h)
  let avg := min 0xFFFF (roundDiv (c.lumSum * 203) (10000 * f20One * px))
  (d.wrN .tone s Off.TONE_STATS_MAX (mx + c.frame % 65536 * 65536)).wrN .tone s Off.TONE_STATS_AVG avg

/-- COMPOSE_DONE with the blender's pace and the engines' figures: the buffer is complete and slack is recorded. -/
def Dev.composeDone (d : Dev) (s pace : Nat) (engines : List EngineFigures) : Dev :=
  let sc := d.scene s
  match sc.comp with
  | none => d
  | some c =>
    if !c.waiting.isEmpty || decide (c.rows < c.h) then d
    else
      let slack : Int := (c.deadline : Int) - d.now
      let ns := d.now - c.start
      let d1 := d.setBuf c.entry { d.buf c.entry with complete := true, doneAt := d.now, tcs := d.frameTcs s }
      let d2 := d1.setScene s { sc with comp := none, lastWhole := true, panic := false, composeNs := some ns
                                        stats := some (c.figures (c.late || decide (slack < 0)) slack ns pace)
                                        build := sc.build.map fun f => { f with done := true } }
      let d3 := engines.foldl (fun x f => x.engineFigures s c f) d2
      let late := engines.any fun f => decide (c.deadline < c.start + f.finishNs)
      let d4 := (d3.layers s).foldl (fun x l => match (x.eng (slotEngine l.1)).decision with
        | .current => x.wr .leng (slotEngine l.1) Off.LENG_SOURCE_SEQ (x.eng (slotEngine l.1)).info.seq
        | _ => x) d3
      let d5 := (if late then d4.flag .scn s 13 else d4).showStats s c
      let d6 := d5.event (385 + 16 * s) 0xFF
      let d7 := if slack < (1000 * d.useF .stim s Off.STIM_SLACK_LOW 0 16 : Nat) then d6.flag .scn s 9 else d6
      let g := d7.group s
      let d8 : Dev := match g.phase with
        | .composing n => if n ≤ c.boundary then d7.setGroup s { g with phase := .ready } else d7
        | _ => d7
      if d8.useF .tone s Off.TONE_TONE_CTRL 4 2 = 2 then d8.dynTarget s (d8.fld .tone s Off.TONE_STATS_MAX 0 16) else d8

/-- FORCE.RECOMPOSE: no effect on a disabled scene (R207). -/
def Dev.forceRecompose (d : Dev) (s : Nat) : Dev := if d.sceneEnabled s then d.recompose s else d

/-- FORCE.FLAT_DROP. -/
def Dev.forceFlatDrop (d : Dev) (s : Nat) : Dev :=
  if d.sceneEnabled s then d.setScene s { d.scene s with flatDrop := true } else d

end Sys2Proof.Machine
end

