-- ==== Sys2Proof/Machine/Scanout.lean ====
section
/-! DEFINITION. Scan-out: the lines of a port, its buffer choice, chase reading and the port-side checks ("Frame memory and
scan-out", "Raster timing", "Functional safety and Belay"). -/

namespace Sys2Proof.Machine

/-! What a port shows, pixel by pixel (R228, R229, R236) -/

/-- BORDER and FILL in use. -/
def Dev.borderCode (d : Dev) (p : Nat) : Nat × Nat × Nat :=
  (d.useF .scan p Off.SCAN_BORDER_RG 0 16, d.useF .scan p Off.SCAN_BORDER_RG 16 16, d.useF .scan p Off.SCAN_BORDER_B 0 16)
def Dev.fillCode (d : Dev) (p : Nat) : Nat × Nat × Nat :=
  (d.useF .scan p Off.SCAN_FILL_RG 0 16, d.useF .scan p Off.SCAN_FILL_RG 16 16, d.useF .scan p Off.SCAN_FILL_B 0 16)

/-- Position of the placed window. -/
def Dev.actX (d : Dev) (p : Nat) : Nat := d.useF .scan p Off.SCAN_ACT_POS 0 15
def Dev.actY (d : Dev) (p : Nat) : Nat := d.useF .scan p Off.SCAN_ACT_POS 16 15

/-- The surface a port reads: entry, width and height. -/
def Dev.shownSurface (d : Dev) (p : Nat) : Option (Nat × Nat × Nat) :=
  match (d.port p).shown with
  | .buffer e _ _ _ _ => some (e, (d.buf e).w, (d.buf e).h)
  | .still e => some (e, d.entW e, d.entH e)
  | _ => none

/-- The three codes of a pixel of an FS48 surface, and whether its access reads uncorrectable (R226). -/
def Dev.surfacePixel (d : Dev) (e w x y : Nat) : (Nat × Nat × Nat) × Bool :=
  let a := d.pixelAddr e w 6 x y
  let h := fun (k : Nat) => leNat (readBytes d.fm (a + 2 * k) 2)
  ((h 0, h 1, h 2), d.fmUncorrectable a 6)

/-- The FS48 codes of an active pixel, and whether poison made it FILL. -/
def Dev.scanPixel (d : Dev) (p x y : Nat) : (Nat × Nat × Nat) × Bool :=
  let w := d.window p
  let inRow := decide (d.actY p ≤ y) && decide ((y : Int) < d.actY p + w.h)
  let underrun := inRow && (d.portChk p).fillRows.contains (y - d.actY p)
  if underrun && decide (d.actX p ≤ x) then (d.fillCode p, false)
  else if !inRow || decide (x < d.actX p) || decide (d.actX p + w.w ≤ (x : Int)) then (d.borderCode p, false)
  else match d.shownSurface p with
    | none => (d.borderCode p, false)
    | some (e, sw, sh) =>
      let sx := w.x.toNat + (x - d.actX p)
      let sy := w.y.toNat + (y - d.actY p)
      if sw ≤ sx ∨ sh ≤ sy then (d.borderCode p, false)
      else
        let q := d.surfacePixel e sw sx sy
        if q.2 then (d.fillCode p, true) else (q.1, false)

/-- A window row or column lies outside the recorded canvas of the buffer in use (R229). -/
def Dev.windowClipped (d : Dev) (p : Nat) : Bool :=
  match d.shownSurface p with
  | none => false
  | some (_, sw, sh) => let w := d.window p; decide ((sw : Int) < w.x + w.w) || decide ((sh : Int) < w.y + w.h)

/-! Belay content (R481) -/

/-- A colour of a port's pattern: components above the depth's top are output as the top. -/
def Dev.patColour (d : Dev) (p : Nat) (one : Bool) : Nat × Nat × Nat :=
  let top := 2 ^ d.adpDepth p - 1
  let lo := if one then Off.BLY_PAT_C1_LO else Off.BLY_PAT_C0_LO
  let hi := if one then Off.BLY_PAT_C1_HI else Off.BLY_PAT_C0_HI
  (min top (d.blyF p lo 0 16), min top (d.blyF p lo 16 16), min top (d.blyF p hi 0 16))

/-- The pattern of a port at an active pixel. -/
def Dev.patPixel (d : Dev) (p x y : Nat) : Nat × Nat × Nat :=
  let kind := d.blyF p Off.BLY_BLY_CTRL 16 2
  let one := if kind = 1 then decide ((x + y) / 64 % 2 = 1)
    else if kind = 2 then decide (x < 32 ∨ y < 32 ∨ d.hActive p ≤ x + 32 ∨ d.vActive p ≤ y + 32) else false
  d.patColour p one

/-- The port in Belay shows its pattern. -/
def Dev.patternShown (d : Dev) (p : Nat) : Bool :=
  let e := d.blyF p Off.BLY_BLY_CTRL 8 6
  d.blyF p Off.BLY_BLY_CTRL 0 1 == 1 || !d.belayEntry e || d.bit .fmem 0 (Off.FMEM_ENT_DESC + 16 * e) 16 || d.safe.pattern.contains p

/-- BELAY_STAT as it reads (R490). -/
def Dev.belayStat (d : Dev) : Word :=
  (List.range 8).foldl (fun w p => putBit w (8 + p) (d.inBelay p && d.patternShown p)) (d.rd .safe 0 Off.SAFE_BELAY_STAT)

/-- An access of a row of the Belay frame reads uncorrectable. -/
def Dev.belayRowBad (d : Dev) (p y : Nat) : Bool :=
  let e := d.blyF p Off.BLY_BLY_CTRL 8 6
  decide (y < d.entH e) && d.fmUncorrectable (d.pixelAddr e (d.entW e) 6 0 y) (6 * d.entW e)

/-- The codes of an active line in Belay. -/
def Dev.belayLine (d : Dev) (p y : Nat) : List (Nat × Nat × Nat) :=
  if d.patternShown p then (List.range (d.hActive p)).map fun x => d.patPixel p x y
  else
    let e := d.blyF p Off.BLY_BLY_CTRL 8 6
    let frame := d.adaptLine p (fun x y => if x < d.entW e ∧ y < d.entH e then (d.surfacePixel e (d.entW e) x y).1 else (0, 0, 0)) y
    frame.zipIdx.map fun c => if c.2 < d.entW e ∧ y < d.entH e then c.1 else d.patColour p false

/-! The line that leaves the port -/

/-- The black code of the declared encoding and range (R301). -/
def Dev.blackCode (d : Dev) (p : Nat) : Nat × Nat × Nat :=
  let bits := 8 + 2 * d.useF .xpt p Off.XPT_PIX_CFG 2 2
  let low := if d.useB .xpt p Off.XPT_PIX_CFG 7 then 0 else 16 * 2 ^ (bits - 8)
  if d.useF .xpt p Off.XPT_PIX_CFG 0 2 = 0 then (low, low, low) else (low, 2 ^ (bits - 1), 2 ^ (bits - 1))

/-- The codes of an active line (R156 to R160, R301, R481). -/
def Dev.outLine (d : Dev) (p y : Nat) : List (Nat × Nat × Nat) :=
  if (d.xp p).mismatch then List.replicate (d.hActive p) (d.blackCode p)
  else if d.inBelay p then d.belayLine p y
  else d.adaptLine p (fun x y => (d.scanPixel p x y).1) y

/-- An active line begins: its codes leave the port, poison and clipping are told (R226, R229). -/
def Dev.lineBegin (d : Dev) (p y : Nat) : Dev :=
  if !d.sendsVideo p then d
  else
    let bad := d.inBelay p && !d.patternShown p && d.belayRowBad p y
    let d0 := if bad then
        let e := d.blyF p Off.BLY_BLY_CTRL 8 6
        ((d.usePattern [p]).fmError (d.pixelAddr e (d.entW e) 6 0 y) 0).fault 8 2 p 0
      else d
    let d1 := d0.setPort p { d0.port p with lineOut := d0.outLine p y }
    if d1.inBelay p then d1
    else
      let px := (List.range (d1.hActive p)).filter fun x => (d1.scanPixel p x y).2
      let d2 := if px.isEmpty then d1
        else
          let x0 := px.headD 0
          let e := match d1.shownSurface p with | some (e, _, _) => e | none => 0
          let sw := match d1.shownSurface p with | some (_, w, _) => w | none => 0
          let a := d1.pixelAddr e sw 6 ((d1.window p).x.toNat + (x0 - d1.actX p)) ((d1.window p).y.toNat + (y - d1.actY p))
          (((d1.wr .scan p Off.SCAN_POISON_PIX (satWord ((d1.rd .scan p Off.SCAN_POISON_PIX).toNat + px.length))).fmError a 0).flag .scan
            p 9).fault 8 2 p 0
      if d2.windowClipped p && !(d2.port p).clipped && decide (d2.actY p ≤ y) && decide ((y : Int) < d2.actY p + (d2.window p).h) then
        (d2.setPort p { d2.port p with clipped := true }).flag .scan p 12
      else d2

/-! Port-side checks (R468, R473, R474) -/

/-- A number in a list of counts. -/
def countOf (l : List (Nat × Nat)) (k : Nat) : Nat := match l.find? fun x => x.1 == k with | some x => x.2 | none => 0
/-- A list of counts with one changed. -/
def countSet (l : List (Nat × Nat)) (k v : Nat) : List (Nat × Nat) := (k, v) :: l.filter fun x => x.1 ≠ k

/-- A region is skipped in the present port frame (R469). -/
def Dev.skipRegion (d : Dev) (p s r : Nat) : Dev :=
  let c := d.portChk p
  let d1 := if c.skipped.contains r then d else d.setPortChk p { c with skipped := c.skipped ++ [r] }
  let k := d1.chk s
  if k.skipTold.contains r then d1 else (d1.setChk s { k with skipTold := k.skipTold ++ [r] }).flag .schk s 10

/-- One block of a region against its reference; the count that reaches FAIL_BLOCKS is a fault of SM01 or SM02 (R468). -/
def Dev.compareBlock (d : Dev) (p s r : Nat) (b : BlockRef) : Dev :=
  let exact := match b.sig with | .exact _ => true | _ => false
  let w := d.window p
  let get := fun (cx cy : Nat) => (d.scanPixel p (cx - w.x.toNat + d.actX p) (cy - w.y.toNat + d.actY p)).1
  let c := d.portChk p
  let d1 := d.setPortChk p { c with compared := if c.compared.contains r then c.compared else c.compared ++ [r] }
  if sigFails (d.regUse s r Off.SCHK_REG_TOL 0 16) (d.regUse s r Off.SCHK_REG_TOL 16 16) (blockSig exact get (b.x, b.y)) b.sig then
    let n := countOf c.fails r + 1
    let d2 := d1.setPortChk p { d1.portChk p with fails := countSet c.fails r n }
    let d3 := d2.setB .schk s Off.SCHK_REGION_STAT r (decide (d.regUse s r Off.SCHK_REG_CTRL 24 8 ≤ n) || d2.bit .schk s Off.SCHK_REGION_STAT r)
    if n = d.regUse s r Off.SCHK_REG_CTRL 24 8 then (d3.flag .schk s 8).fault (if exact then 2 else 1) 3 p r else d3
  else d1

/-- The blocks of a row of blocks, at the end of its last line: compared, or skipped where the reference was not complete at the
block's first row, or reads uncorrectable (R468, R469). -/
def Dev.blockRow (d : Dev) (p s entry frame row : Nat) (refBad : Bool) : Dev :=
  let ref := d.ref entry
  let ready := ref.done && decide (ref.frame = frame) && decide (ref.doneAt + d.linesNs p 16 ≤ d.now) && !refBad
  (d.regionsOn s).foldl (fun x r =>
    let bs := (x.regionBlocks s r).filter fun b => b.2 == row && (blockRect b).inside (x.window p)
    if bs.isEmpty then x
    else if !ready then x.skipRegion p s r
    else bs.foldl (fun y b => match ref.blocks.find? fun q => q.region == r && q.x == b.1 && q.y == b.2 with
      | some q => y.compareBlock p s r q
      | none => y.skipRegion p s r) x) d

/-- The CRC of a rectangle of a port over its output codes before chroma subsampling (R473). -/
def Dev.rectCrc (d : Dev) (p k : Nat) : Word :=
  let x := d.blyF p (Off.BLY_CRC_POS + 12 * k) 0 15
  let y := d.blyF p (Off.BLY_CRC_POS + 12 * k) 16 15
  let w := d.blyF p (Off.BLY_CRC_SIZE + 12 * k) 0 15
  let h := d.blyF p (Off.BLY_CRC_SIZE + 12 * k) 16 15
  crc32 (pixBytesLe ((List.range h).flatMap fun j => (List.range w).map fun i =>
    d.adaptPixel p (d.scanPixel p (x + i) (y + j)).1 (x + i) (y + j)))

/-- The rectangles of a port that end at an active line. -/
def Dev.rectsAt (d : Dev) (p y : Nat) : Dev :=
  if d.inBelay p then d
  else (List.range 4).foldl (fun x k =>
    let last := x.blyF p (Off.BLY_CRC_POS + 12 * k) 16 15 + x.blyF p (Off.BLY_CRC_SIZE + 12 * k) 16 15
    if x.blyF p Off.BLY_CRC_CTRL k 1 = 1 ∧ last = y + 1 then
      let c := x.rectCrc p k
      let x1 := x.wr .bly 0 (Off.BLY_CRC_LAST + 16 * p + 4 * k) c
      if c = x.use .bly 0 (Off.BLY_CRC_EXP + 0x60 * p + 12 * k) then x1 else x1.fault 3 2 p 0
    else x) d

/-- SM06 at the first window line: a still, or a buffer of another scene, on a checked port (R474). -/
def Dev.identityCheck (d : Dev) (p y : Nat) : Dev :=
  let x := d.blyF p Off.BLY_BLY_CTRL 19 2
  let want := if d.oddHalf x then x - 1 else x
  if d.blyF p Off.BLY_BLY_CTRL 18 1 = 0 ∨ y ≠ d.actY p ∨ d.inBelay p then d
  else match (d.port p).shown with
    | .still _ => d.fault 6 2 p 0
    | .buffer e _ _ _ _ => if d.entOwner e = want then d else d.fault 6 2 p 0
    | _ => d

/-- An active line of a port has ended. -/
def Dev.lineEnd (d : Dev) (p y : Nat) (refBad : Bool) : Dev :=
  let d1 := d.rectsAt p y
  let w := d1.window p
  let cy := w.y.toNat + (y - d1.actY p)
  if d1.inBelay p ∨ y < d1.actY p ∨ d1.actY p + w.h ≤ (y : Int) ∨ (cy + 1) % 16 ≠ 0 then d1
  else match (d1.port p).shown with
    | .buffer e s _ f chase => d1.blockRow p s e (if chase then (d1.buf e).frame else f) (cy / 16) refBad
    | _ => d1

/-! Lines (R230, R233, R250) -/

/-- When line `n` of the present port frame starts, ns. -/
def Dev.lineAt (d : Dev) (p n : Nat) : Nat :=
  let k := if d.vActive p ≤ n then n - d.vActive p else d.vTotal p - d.vActive p + n
  ((((d.port p).lastV + d.linesNs p k : Nat) : Int) + (d.port p).extra / nsUnit).toNat

/-- LINE_MATCH at a line. -/
def Dev.matchLine (d : Dev) (p n : Nat) : Dev :=
  if d.fld .scan p Off.SCAN_LINE_MATCH 0 16 = n then d.event (449 + 16 * p) 0xFF else d

/-- Samples that the SDI framer forced in a line (R305). -/
def Dev.sdiClip (d : Dev) (p clip : Nat) : Dev :=
  if clip = 0 ∨ d.proto p ≠ 3 ∨ !d.sendsVideo p then d
  else
    let d1 := d.wr .xpt p Off.XPT_SDI_CLIP (satWord ((d.rd .xpt p Off.XPT_SDI_CLIP).toNat + clip))
    if (d1.xp p).clipSeen then d1 else (d1.setXp p { d1.xp p with clipSeen := true }).flag .xpt p 16

/-- A port's raster runs: it is enabled and has placed a VBLANK_START. -/
def Dev.rasterRuns (d : Dev) (p : Nat) : Bool := d.portEnabled p && (d.xp p).started && decide ((d.port p).lastV ≠ 0)

/-- LINE_START of the line after the present one, unless that is a VBLANK_START: its events, the line that leaves the port, and the
checks of the line that ended. Operands: samples that the SDI framer forces, a stored reference that reads uncorrectable, and a start
that the raster monitor finds off its position (R250, R305, R469, R476). -/
def Dev.lineStart (d : Dev) (p clip : Nat) (refBad offPos : Bool) : Dev :=
  let n := if d.vTotal p ≤ (d.port p).line + 1 then 0 else (d.port p).line + 1
  if !d.rasterRuns p ∨ n = d.vActive p then d
  else
    let d1 := d.advance (d.lineAt p n)
    let d2 := if 0 < n ∧ n < d1.vActive p then d1.lineEnd p (n - 1) refBad else d1
    let d3 := (d2.setPort p { d2.port p with line := n }).wrN .scan p Off.SCAN_LINE n
    let d4 := d3.matchLine p n
    let d5 := if n < d4.vActive p then ((d4.lineBegin p n).identityCheck p n).sdiClip p clip else d4
    if offPos && !d5.timingCovered p then d5.fault 17 2 p 0 else d5

/-! Row deadlines (R235 to R237) -/

/-- The port reads its source: it sends active video of it from frame memory (R186). -/
def Dev.portReads (d : Dev) (p : Nat) : Bool := d.sendsVideo p && !d.inBelay p && (d.shownSurface p).isSome

/-- An underrun line (R236). -/
def Dev.underrun (d : Dev) (p row : Nat) : Dev :=
  let x := d.port p
  let line := d.actY p + row
  let d1 := (d.inc .scan p Off.SCAN_UNDERRUN_LINES).wrN .scan p Off.SCAN_UNDERRUN_LAST (line % 65536 + x.pframe % 65536 * 65536)
  let d2 := d1.setPortChk p { d1.portChk p with fillRows := (d1.portChk p).fillRows ++ [row] }
  let d3 := d2.setPort p { d2.port p with underruns := x.underruns + 1 }
  if x.underruns = 0 then
    let d4 := d3.onCore (·.flagOnly .scan p 8)
    if d4.bit .scan p Off.PAGE_EVT_EN 8 then d4.onCore (·.raise (451 + 16 * p)) else d4
  else d3

/-- The fetch deadline of a window row, ns (R235). -/
def Dev.rowDeadline (d : Dev) (p row : Nat) : Nat := d.lineAt p (d.actY p + row) - max (d.linesNs p 1) 2000

/-- ROW_FETCH_DEADLINE of the next window row; in frame-store mode `delivered` says whether frame memory delivered it (R237). -/
def Dev.rowFetchDeadline (d : Dev) (p : Nat) (delivered : Bool) : Dev :=
  let row := (d.port p).row
  let h := (d.window p).h.toNat
  if !d.rasterRuns p ∨ !d.portReads p ∨ h ≤ row then d
  else
    let d1 := d.advance (d.rowDeadline p row)
    match (d1.port p).shown with
    | .buffer _ s _ _ true =>
      let d2 := if row = 0 then d1.setPort p { d1.port p with gen := (d1.scene s).gen } else d1
      let ok := decide (d2.rowTag s ((d2.window p).y.toNat + row) = (d2.port p).gen) && delivered
      let ref := d2.isChaseRef p
      let sc := d2.scene s
      let d3 := match (if ref then d2.chaseLead s else none) with
        | some lead => d2.setScene s { sc with leadMin := min sc.leadMin lead }
        | none => d2
      let d4 := d3.setPort p { d3.port p with row := row + 1 }
      let d5 := if ok then d4 else d4.underrun p row
      let d6 := if delivered then d5 else d5.fault 12 2 p 0
      if ref then d6.chasePanic s else d6
    | _ =>
      let d2 := d1.setPort p { d1.port p with row := row + 1 }
      if delivered then d2 else (d2.underrun p row).fault 12 2 p 0

/-- FRAME_DONE: the last frame-memory data of the port frame has arrived (R233). -/
def Dev.frameDone (d : Dev) (p : Nat) : Dev :=
  if !d.rasterRuns p ∨ (d.port p).frameDone ∨ (d.shownSurface p).isNone then d
  else (d.setPort p { d.port p with frameDone := true }).event (450 + 16 * p) 0xFF

/-! The end of a port frame -/

/-- The regions that a port shows: those its window overlaps, of the scene it names (R469). -/
def Dev.shownRegions (d : Dev) (p : Nat) : List Nat :=
  (d.regionsOn (d.portScene p)).filter fun r => !((d.window p).meet (d.regionRect (d.portScene p) r)).isEmpty

/-- SKIP_STAT over the ports (R491). -/
def Dev.showSkips (d : Dev) (s : Nat) : Dev :=
  (List.range 16).foldl (fun x r => x.setB .schk s Off.SCHK_SKIP_STAT r
    ((List.range 8).any fun p => x.portScene p == s && (x.portChk p).lastSkipped.contains r)) d

/-- One region at the end of a port frame: its skip run, and SM23 at SKIP_LIMIT (R469). -/
def Dev.skipStep (d : Dev) (p s r : Nat) : Dev :=
  let c := d.portChk p
  let unread := d.inBelay p || (match (d.port p).shown with | .buffer _ _ _ _ _ => false | _ => true)
  let d1 := if unread then d.skipRegion p s r else d
  let c1 := d1.portChk p
  if c1.skipped.contains r then
    let n := countOf c.runs r + 1
    let d2 := d1.setPortChk p { c1 with runs := countSet c.runs r n }
    if n = d.skipLimit s ∨ (d.skipLimit s < n ∧ !d.bit .safe 0 Off.SAFE_FAULT_STAT 22) then d2.fault 23 3 p r else d2
  else
    let d2 := d1.setPortChk p { c1 with runs := countSet c.runs r 0 }
    let d3 := if c1.compared.contains r && decide (countOf c1.fails r < d.regUse s r Off.SCHK_REG_CTRL 24 8) then
        d2.setB .schk s Off.SCHK_REGION_STAT r false
      else d2
    -- an episode ends once no port skips the region
    if (List.range 8).any fun q => q ≠ p && d3.portScene q == s && countOf (d3.portChk q).runs r ≠ 0 then d3
    else d3.setChk s { d3.chk s with skipTold := (d3.chk s).skipTold.filter (· ≠ r) }

/-- The checks of a port frame that ends, and the record of its underruns (R236, R469). -/
def Dev.endFrame (d : Dev) (p : Nat) : Dev :=
  let s := d.portScene p
  let n := (d.port p).underruns
  let d1 := if n = 0 then d else d.onCore (·.record (451 + 16 * p) 8 (satWord n) 0 0 0)
  let d2 := if d1.checkEn s then (d1.shownRegions p).foldl (fun x r => x.skipStep p s r) d1 else d1
  let c := d2.portChk p
  let d3 := d2.setPortChk p { c with fails := [], compared := [], skipped := [], fillRows := [], lastSkipped := c.skipped }
  if d3.checkEn s then d3.showSkips s else d3

/-! Buffer choice (R231, R232) -/

/-- SHOWN_LO and SHOWN_HI (R241). -/
def shownWords (frame buf : Nat) (repeated still none_ chase : Bool) : Word × Word :=
  (BitVec.ofNat 32 frame, BitVec.ofNat 32 (frame / 2 ^ 32 % 65536 + buf % 4 * 2 ^ 16 + flagsNat [repeated, still, none_, chase] * 2 ^ 18))

/-- A port shows something new in the port frame that begins, and SHOWN is published. -/
def Dev.setShown (d : Dev) (p : Nat) (x : Shown) (w : Word × Word) : Dev :=
  d.setPort p { d.port p with shown := x, shownLo := w.1, shownHi := w.2 }

/-- The choice at a VBLANK_START. -/
def Dev.chooseBuffer (d : Dev) (p : Nat) : Dev :=
  if !d.useB .scan p Off.SCAN_SCAN_CTRL 0 then d.setShown p .off (0, 0)
  else if d.useB .scan p Off.SCAN_SCAN_CTRL 3 then
    d.setShown p (.still (d.useF .scan p Off.SCAN_SCAN_CTRL 8 6)) (shownWords 0 0 false true false false)
  else
    let s := d.portScene p
    let sc := d.scene s
    match (if sc.chaseMode then sc.chaseEntry else none) with
    | some e => d.setShown p (.buffer e s (d.entSlot e) (d.buf e).frame true) (shownWords (d.buf e).frame (d.entSlot e) false false false true)
    | none => match d.newest s with
      | none => (d.setShown p .noFrame (shownWords 0 0 false false true false)).onCore (·.flagOnly .scan p 10)
      | some (e, f) =>
        let same := match (d.port p).shown with
          | .buffer e0 s0 _ f0 false => decide (s0 = s) && decide (f0 = f) && e0 == e
          | _ => false
        d.setShown p (.buffer e s (d.entSlot e) f false) (shownWords f (d.entSlot e) same false false false)

/-! DSC at a VBLANK_START (R317) -/

/-- An encoder stops serving. -/
def Dev.detachEnc (d : Dev) (e : Nat) : Dev := d.setF .dsc e Off.DSC_DSC_STAT 0 4 0

/-- The encoders of a port at its VBLANK_START. -/
def Dev.serveDsc (d : Dev) (p : Nat) : Dev :=
  let want := d.encNaming p
  let d1 := match d.encServing p with
    | some e => if want = some e then d else d.detachEnc e
    | none => d
  let d2 := match want with
    | some e =>
      if (d1.served e).isSome then d1
      else ((d1.setF .dsc e Off.DSC_DSC_STAT 0 4 (p + 8)).setEnc e { d1.enc e with conflictTold := false }).flag .dsc e 11
    | none => d1
  (List.range 4).foldl (fun x e =>
    if x.useB .dsc e Off.DSC_DSC_CTRL 0 ∧ x.useF .dsc e Off.DSC_DSC_CTRL 1 3 = p ∧ want ≠ some e ∧ !(x.enc e).conflictTold then
      ((x.wrN .dsc e Off.DSC_DSC_REJECT 0xB4).setEnc e { x.enc e with conflictTold := true }).flag .dsc e 9
    else x) d2

/-! Commits at a VBLANK_START -/

/-- The VBL pages of a port: SCAN, PADP, and the DSC pages of the encoders that serve it. -/
def Dev.vblPages (d : Dev) (p : Nat) : List (Page × Nat) :=
  [(.scan, p), (.padp, p)] ++ ((List.range 4).filter fun e => d.served e == some p).map fun e => (.dsc, e)

/-- A VBL page is due at this VBLANK_START. -/
def Dev.vblDue (d : Dev) (x : Page × Nat) : Bool :=
  match d.armOf x.1 x.2 with
  | some a => match a.wait with
    | .next 0 => true
    | .group s => (d.group s).phase == .ready
    | _ => false
  | none => false

/-- A VBL page applies at a port frame number. -/
def Dev.applyVbl (d : Dev) (n : Nat) (x : Page × Nat) : Dev :=
  match x.1 with
  | .scan => (d.applyPage .scan x.2 n).scanApplied x.2
  | .padp => (d.applyPage .padp x.2 n).padpApplied x.2
  | .dsc => (d.applyPage .dsc x.2 n).dscCheck x.2
  | _ => d

/-- A group whose last VBL page has applied is done (R50). -/
def Dev.groupEnd (d : Dev) (s : Nat) : Dev :=
  if (d.group s).phase = .ready ∧ (d.armedGroup s).isEmpty then
    ((d.setGroup s {}).setB .sys 0 Off.SYS_GROUP_STAT s false).setB .sys 0 Off.SYS_GROUP_STAT (8 + s) true
  else d

/-- The armed VBL pages of a port: the due ones apply together, the others come one nearer. -/
def Dev.vblCommits (d : Dev) (p : Nat) : Dev :=
  let n := (d.port p).pframe
  let pages := d.vblPages p
  let due := pages.filter d.vblDue
  let later := pages.foldl (fun x y => match x.armOf y.1 y.2 with
    | some a => match a.wait with
      | .next (k + 1) => x.setArm y.1 y.2 (some { a with wait := .next k })
      | _ => x
    | none => x) d
  [0, 1, 2, 3].foldl Dev.groupEnd (due.foldl (fun x y => x.applyVbl n y) later)

/-! Heartbeats (R471) -/

/-- HB_AGE and the heartbeat bit of a region over the ports (R491). -/
def Dev.showAge (d : Dev) (s r value : Nat) : Dev :=
  let ages := (List.range 8).map fun p => if d.portScene p = s then countOf (d.portChk p).ages r else 0
  let age := ages.foldl max 0
  (d.wrN .schk s (Off.SCHK_HB_AGE + 4 * r) (min 0xFFFF age + value % 65536 * 65536)).setB .schk s Off.SCHK_REGION_STAT (16 + r)
    (decide (d.regUse s r Off.SCHK_REG_CTRL 16 8 < age))

/-- The age of a region's heartbeat on a port that shows a composed frame. -/
def Dev.judgeAge (d : Dev) (p s entry frame r : Nat) : Dev :=
  if d.regUse s r Off.SCHK_REG_CTRL 2 2 = 0 then d
  else
    let ref := d.ref entry
    let beat := if ref.frame = frame then (ref.beats.find? fun x => x.1 == r).map Prod.snd else none
    let b := match beat with | some x => x.2 | none => ((d.chk s).beat r).base
    let age := (d.cad s).frame - b
    let c := d.portChk p
    let d1 := (d.setPortChk p { c with ages := countSet c.ages r age }).showAge s r (match beat with | some x => x.1 | none => 0)
    if age ≤ d.regUse s r Off.SCHK_REG_CTRL 16 8 then
      d1.setPortChk p { d1.portChk p with stale := (d1.portChk p).stale.filter (· ≠ r) }
    else if c.stale.contains r && d.bit .safe 0 Off.SAFE_FAULT_STAT 3 then d1
    else ((d1.setPortChk p { d1.portChk p with stale := (r :: c.stale.filter (· ≠ r)) }).flag .schk s 9).fault 4 3 p r

/-- The heartbeats of the frame that a port begins to show. -/
def Dev.judgeAges (d : Dev) (p : Nat) : Dev :=
  let s := d.portScene p
  if !d.checkEn s ∨ d.inBelay p then d
  else match (d.port p).shown with
    | .buffer e _ _ f chase => (d.shownRegions p).foldl (fun x r => x.judgeAge p s e (if chase then (x.buf e).frame else f) r) d
    | _ => d

/-! Video and signalling of the port frame that begins (R301, R306, R317, R322) -/

/-- The timecode of the port frame. -/
def Dev.timecode (d : Dev) (p : Nat) : Dev :=
  let mode := d.useF .xpt p Off.XPT_SDI_CFG 2 2
  let d1 := if mode = 2 then d.tcStep p else d
  if !d1.sendsVideo p ∨ d1.proto p ≠ 3 then d1
  else if mode = 2 then d1.wr .xpt p Off.XPT_TC_LAST (d1.xp p).tc
  else if mode = 1 then match (d1.port p).shown with
    | .buffer e _ _ _ _ =>
      match (d1.buf e).tcs.find? fun x => x.1 == d1.useF .xpt p Off.XPT_SDI_CFG 5 6 with
      | some x => d1.wr .xpt p Off.XPT_TC_LAST x.2
      | none => d1
    | _ => d1
  else d1

/-- PIX_CFG differs from the adapter's depth and subsampling in use (R301). -/
def Dev.pixMismatch (d : Dev) (p : Nat) : Bool :=
  let enc := d.useF .xpt p Off.XPT_PIX_CFG 0 2
  d.adpCtl p 4 2 != d.useF .xpt p Off.XPT_PIX_CFG 2 2 || d.adpCtl p 8 2 != (if enc ≤ 1 then 0 else enc - 1)

/-- Whether a port sends active video in the port frame that begins, and the transport's flags. -/
def Dev.videoStep (d : Dev) (p : Nat) : Dev :=
  let dsc := d.useB .xpt p Off.XPT_PIX_CFG 8
  let served := match d.encServing p with | some e => !(d.enc e).dark | none => false
  let missing := dsc && !served
  let ready := decide (d.linkState p = 4) && d.pllReady p && (d.port p).rasterOk && (d.port p).rasterKnown && !(d.xp p).bad
  let video := ready && !missing
  let mis := d.pixMismatch p
  let d1 := d.setXp p { d.xp p with clipSeen := false, mismatch := mis, gap := (d.xp p).gap && !video }
  let d2 := d1.setF .xpt p Off.XPT_LINK_STAT 11 2 (video.toNat + (video && dsc).toNat * 2)
  let d3 := if ready && missing then d2.flag .xpt p 14 else d2
  let d4 := if video && mis then d3.flag .xpt p 13 else d3
  let t := Off.ANCH_PORT_TSTAT + 4 * p
  let relock := d4.bit .anch 0 t 1 && !video
  d4.setF .anch 0 t 0 3 (flagsNat [!relock, relock, !relock && decide ((d4.port p).extra ≠ 0)])

/-! VBLANK_START -/

/-- The raster schedule in force from a VBLANK_START on: a change of PHASE or of scene lengthens the blanking that begins to the next
instant that the new schedule gives; during a relock the port frame ends at the coming tick plus φ instead (R251, R252). -/
def Dev.reschedule (d : Dev) (p : Nat) (first : Bool) : Dev :=
  let x := d.port p
  let s := d.portScene p
  let pix := d.phasePix p
  let moved := x.phasePix != pix || x.tickScene != s
  let due := x.lastV + (d.cad s).period / nsUnit
  let relocks := d.bit .anch 0 (Off.ANCH_PORT_TSTAT + 4 * p) 1
  let from' := if !relocks then due else if x.tickScene = s then (d.cad s).next / nsUnit else x.lastV + 1
  let extra : Int := if moved && !first then (((firstFrom from' (d.vblankTimes p s pix) : Nat) : Int) - due) * nsUnit else 0
  d.setPort p { x with phasePix := pix, tickScene := s, framePeriod := (d.cad s).period, extra := x.lengthen + extra, lengthen := 0 }

/-- Step 4 of an entry: the port ends its port frame; its lanes go idle and its PLL parks (R512). -/
def Dev.endPort (d : Dev) (p : Nat) (refBad : Bool) : Dev :=
  let d1 := d.advance (d.nextVblank p)
  let d2 := if (d.port p).lastV = 0 then d1 else (d1.lineEnd p (d1.vActive p - 1) refBad).endFrame p
  let d3 := (((d2.setF .xpt p Off.XPT_LINK_STAT 0 20 0).setXp p { d2.xp p with started := false }).setPort p
    { d2.port p with lastV := 0 }).park p
  d3.onPower fun x => { x with parked := x.parked ++ [p] }

/-- Step 3 of an entry has come for the scene that times a port (R512). -/
def Dev.sceneStopped (d : Dev) (s : Nat) : Bool := d.power.stopping && (!d.timingRuns s || d.power.stopped.contains s)

/-- VBLANK_START of a port: the port frame ends and the next begins; commits, encoders, the buffer choice, the checks and the event
(R230 to R234, R251, R471). -/
def Dev.vblankStart (d : Dev) (p : Nat) (refBad : Bool) : Dev :=
  if !d.portEnabled p ∨ !(d.xp p).started ∨ !(d.cad (d.portScene p)).going then d
  else if d.sceneStopped (d.timingScene p) then d.endPort p refBad
  else
    let first := decide ((d.port p).lastV = 0)
    let d1 := d.advance (d.nextVblank p)
    let d2 := if first then d1 else (d1.lineEnd p (d1.vActive p - 1) refBad).endFrame p
    let x := d2.port p
    let d3 := d2.setPort p { x with pframe := (x.pframe + 1) % 2 ^ 48, lastV := max 1 d2.now, guard := d2.fld .scan p Off.SCAN_PORT_GUARD 0 8
                                    row := 0, underruns := 0, clipped := false, frameDone := false }
    let d4 := d3.vblCommits p
    let d5 := d4.setPort p { d4.port p with line := d4.vActive p }
    let d6 := ((d5.wrN .scan p Off.SCAN_LINE (d5.vActive p)).reschedule p first).serveDsc p
    let d7 := if (d6.adp p).want.isSome then d6.lutSwap p else d6
    let d8 := if d7.safe.clears.contains p then d7.belayLeave p else d7
    let d9 := (((d8.chooseBuffer p).videoStep p).timecode p).judgeAges p
    (d9.event (448 + 16 * p) 0xFF).matchLine p (d9.vActive p)

end Sys2Proof.Machine
end

