-- ==== Sys2Proof/Machine/RopePort.lean ====
section
/-! DEFINITION. Rope ports, forming a team, breaks and team timing ("Rope link and rope teams", R386 to R401, R414 to R418). -/

namespace Sys2Proof.Machine

/-! Messages -/

/-- Send a message. -/
def Dev.say (d : Dev) (t : RopeTo) (m : RopeMsg) : Dev := d.onRope fun r => { r with out := r.out ++ [(t, m)] }
/-- A command that sends messages begins with none sent. -/
def Dev.hush (d : Dev) : Dev := d.onRope fun r => { r with out := [] }

/-- A rejection on the RPG page (R421). -/
def Dev.rpgReject (d : Dev) (r : Requester) (off reason : Nat) : Dev :=
  (d.wrN .rpg 0 Off.RPG_RG_REJECT reason).reject r .rpg 0 off reason

/-! Ports (R386 to R392) -/

/-- PORT_STAT.STATE (R423): 0 OFF, 1 TRAINING, 2 UP, 3 INCOMPAT, 4 DOWN, 5 LOW_RATE. -/
def Dev.ropeState (d : Dev) (p : Nat) : Nat := d.fld .rpp p Off.RPP_PORT_STAT 0 3
def Dev.setRopeState (d : Dev) (p v : Nat) : Dev := d.setF .rpp p Off.RPP_PORT_STAT 0 3 v

/-- A port carries team traffic. -/
def Dev.carries (d : Dev) (p : Nat) : Bool := d.ropeState p == 2 || d.ropeState p == 5

/-- The rope ports that carry team traffic. -/
def Dev.upPorts (d : Dev) : List Nat := (List.range 4).filter d.carries

/-- The unit ID of this device (R6). -/
def Dev.unitId (d : Dev) : Nat := (d.rd .sys 0 Off.SYS_UNIT_ID_LO).toNat + (d.rd .sys 0 Off.SYS_UNIT_ID_HI).toNat * 2 ^ 32

/-- This device's ID in the team. -/
def Dev.ownId (d : Dev) : Nat := d.fld .rpg 0 Off.RPG_TEAM_STAT 8 14

/-- TEAM_STAT.STATE (R420): 0 OFF, 1 LINKING, 2 ELECTING, 3 ENUMERATING, 4 FORMED, 5 ORPHAN, 6 FULL. -/
def Dev.teamState (d : Dev) : Nat := d.fld .rpg 0 Off.RPG_TEAM_STAT 0 3
def Dev.setTeamState (d : Dev) (v : Nat) : Dev := d.setF .rpg 0 Off.RPG_TEAM_STAT 0 3 v

/-- Bring-up begins: the retrain count advances, an armed RPP page applies, and the lanes transmit (R389 step 1). -/
def Dev.ropeBringUp (d : Dev) (p : Nat) : Dev :=
  let d1 := d.countUp .rpp p
  let d2 := if (d1.armOf .rpp p).isSome then (d1.applyPage .rpp p (d1.count .rpp p)).onCore (·.bringIntoUse .rpp p) else d1
  d2.setRopeState p (if d2.useB .rpp p Off.RPP_PORT_CTRL 0 then 1 else 0)

/-- The highest version within both ranges, laid out as major and minor bytes; none when they share none (R390). -/
def commonVersion (a b : Word) : Option Nat :=
  let lo := max (bitsOf a 0 16) (bitsOf b 0 16)
  let hi := min (bitsOf a 16 16) (bitsOf b 16 16)
  if lo ≤ hi then some hi else none

/-- The capabilities that a version defines (R391). -/
def capsOf (v : Nat) : Nat := 0x4F + (if 0x0101 ≤ v then 0x90 else 0) + (if 0x0102 ≤ v then 0x20 else 0)

/-- The capabilities in use on a port: those that both ends advertise and the version defines (R390). -/
def Dev.ropeCaps (d : Dev) (p : Nat) : Nat :=
  match commonVersion (d.rd .rpg 0 Off.RPG_PROTO_VER) (d.rd .rpp p Off.RPP_PEER_VER) with
  | none => 0
  | some v => (d.rd .rpg 0 Off.RPG_LOCAL_CAP).toNat &&& (d.rd .rpp p Off.RPP_PEER_CAP).toNat &&& capsOf v

/-- The HELLO that a port sends (R390). -/
def Dev.ownHello (d : Dev) (p : Fin 4) : Hello :=
  { ver := d.rd .rpg 0 Off.RPG_PROTO_VER, caps := d.rd .rpg 0 Off.RPG_LOCAL_CAP, unit := BitVec.ofNat 64 d.unitId
    formed := decide (d.teamState = 4), id := BitVec.ofNat 14 d.ownId, port := p, fec := d.useB .rpp p.val Off.RPP_PORT_CTRL 1 }

/-- What a HELLO tells of the neighbour, with PEER_CHANGE where its identity or capabilities differ (R390, R423). -/
def Dev.takeHello (d : Dev) (p : Nat) (h : Hello) : Dev :=
  let id := BitVec.ofNat 32 (h.id.toNat + h.port.val * 65536 + 2 ^ 31)
  let cap := h.caps &&& 0xFF
  let changed := d.rd .rpp p Off.RPP_PEER_ID != id || d.rd .rpp p Off.RPP_PEER_CAP != cap
  let d1 := ((d.wr .rpp p Off.RPP_PEER_ID id).wr .rpp p Off.RPP_PEER_CAP cap).wr .rpp p Off.RPP_PEER_VER h.ver
  let v := (commonVersion (d.rd .rpg 0 Off.RPG_PROTO_VER) h.ver).getD 0
  let d2 := d1.setF .rpp p Off.RPP_PORT_STAT 8 8 (v / 256 % 16 * 16 + v % 16)
  if changed then d2.flag .rpp p 13 else d2

/-- The ends share no version: INCOMPAT (R392). -/
def Dev.incompat (d : Dev) (p : Nat) : Dev := if d.ropeState p = 3 then d else (d.setRopeState p 3).flag .rpp p 10

/-! Claims and elections (R393) -/

/-- A claim beats another. -/
def Claim.beats (a b : Claim) : Bool := decide (b.prio < a.prio) || (a.prio == b.prio && decide (a.unit < b.unit))

/-- This device's claim, of a candidate. -/
def Dev.ownClaim (d : Dev) : Option Claim := if d.rope.role = 2 then some { prio := d.rope.prio, unit := d.unitId } else none

/-- The values of TEAM_CTRL and ID_REQ come into force (R393). -/
def Dev.takeRole (d : Dev) : Dev :=
  d.onRope fun r => { r with
    role := d.fld .rpg 0 Off.RPG_TEAM_CTRL 0 2, prio := d.fld .rpg 0 Off.RPG_TEAM_CTRL 8 8
    cadScene := d.fld .rpg 0 Off.RPG_TEAM_CTRL 4 2
    fixedReq := if d.bit .rpg 0 Off.RPG_TEAM_CTRL 2 then some (d.fld .rpg 0 Off.RPG_ID_REQ 0 14) else none }

/-- Flood a claim to every port that carries team traffic, one apart. -/
def Dev.flood (d : Dev) (except : Nat) (c : Claim) : Dev :=
  (d.upPorts.filter (· ≠ except)).foldl (fun x p => x.say (.port p) (.claim c)) d

/-- An election begins with this device's own claim, or goes on with it. -/
def Dev.startElection (d : Dev) : Dev :=
  match d.ownClaim with
  | none => d.setTeamState 1
  | some c => ((d.onRope fun r => { r with best := some c, electAt := d.now }).setTeamState 2).flood 4 c

/-- A device outside a team meets a neighbour: it links, and a candidate claims (R393). -/
def Dev.meetNeighbour (d : Dev) (p : Nat) : Dev :=
  let d1 := if d.teamState = 4 ∨ d.teamState = 3 ∨ d.teamState = 2 then d else d.takeRole
  if d1.rope.role = 0 then d1.setTeamState 0
  else if d1.teamState = 4 ∨ d1.teamState = 3 then
    match d1.rope.best with
    | some c => d1.say (.port p) (.claim c)
    | none => d1
  else if d1.teamState = 2 then match d1.rope.best with | some c => d1.say (.port p) (.claim c) | none => d1
  else d1.startElection

/-- CLAIM_RECEIVED on a port: the better claim is kept and flooded (R393). A better one re-enumerates a formed team (R394, R417). -/
def Dev.claimReceived (d : Dev) (p : Nat) (c : Claim) : Dev :=
  let d := d.hush
  let d := if d.teamState = 0 ∨ d.teamState = 1 ∨ d.teamState = 6 then d.takeRole else d
  if !d.carries p || d.rope.role == 0 then d
  else
    let best := match d.rope.best with | some b => some b | none => d.ownClaim
    match best with
    | some b =>
      if c.beats b then ((d.onRope fun r => { r with best := some c, electAt := d.now }).setTeamState 2).flood p c
      else if b = c then d
      else
        let d1 := (d.onRope fun r => { r with best := some b }).say (.port p) (.claim b)
        if d1.teamState = 4 ∨ d1.teamState = 3 then d1
        else (d1.onRope fun r => { r with electAt := if d.teamState = 2 then r.electAt else d.now }).setTeamState 2
    | none => ((d.onRope fun r => { r with best := some c, electAt := d.now }).setTeamState 2).flood p c

/-- ELECTION_END: 2 ms after the last better claim; the winner leads and enumerates (R393, R394). -/
def Dev.electionEnd (d : Dev) : Dev :=
  if d.teamState ≠ 2 then d
  else
    let d1 := (d.advance (d.rope.electAt + 2000000)).hush
    match d1.rope.best with
    | none => d1.setTeamState 1
    | some b =>
      let leads := d1.ownClaim == some b
      let changed := d1.rope.tables.isSome && d1.rope.leadUnit != some b.unit
      let d2 := ((d1.setB .rpg 0 Off.RPG_TEAM_STAT 3 leads).setTeamState 3).onRope fun r => { r with leadUnit := some b.unit }
      let d3 := if changed then d2.flag .rpg 0 10 else d2
      if leads then d3.upPorts.foldl (fun x p => x.say (.port p) .enumerate) d3 else d3

/-- ENUMERATE: ENUM_CMD.ENUMERATE, on any member (R394). -/
def Dev.enumerate (d : Dev) : Dev :=
  let d1 := d.hush.takeRole
  if d1.rope.role = 0 then
    ((d1.setTeamState 0).setB .rpg 0 Off.RPG_TEAM_STAT 3 false).onRope fun r => { r with tables := none, best := none, leadUnit := none }
  else match d1.rope.best with
    | none => d1.startElection
    | some b =>
      match d1.ownClaim with
      | some c => if c.beats b then d1.startElection
        else (d1.upPorts.foldl (fun x p => x.say (.port p) .enumerate) d1).setTeamState 3
      | none => (d1.upPorts.foldl (fun x p => x.say (.port p) .enumerate) d1).setTeamState 3

/-! Enumeration by the lead (R394) -/

/-- The links of a device by ascending port. -/
def RopeNode.byPort (n : RopeNode) : List RopeLink := (List.range 4).flatMap fun p => n.links.filter fun l => l.port == p

/-- One more layer of a breadth-first search from the lead: the frontier holds each device's index and the lead's first hop toward it;
a link of the lead's own port `skip` is left out. -/
def layer (nodes : List RopeNode) (skip : Option Nat) (front : List (Nat × Nat)) (seen : List (Nat × Nat)) : List (Nat × Nat) :=
  let links := front.flatMap fun x => match nodes[x.1]? with
    | none => []
    | some n => (n.byPort.filter fun l => !(x.1 == 0 && skip == some l.port)).map fun l => (l.peer, if x.1 = 0 then l.port else x.2)
  links.foldl (fun acc y =>
    if y.1 = 0 ∨ nodes.length ≤ y.1 ∨ (seen.any fun z => z.1 == y.1) ∨ (acc.any fun z => z.1 == y.1) then acc else acc ++ [y]) []

/-- First hops of the lead toward every device it reaches, nearest devices first. -/
def firstHops (nodes : List RopeNode) (skip : Option Nat) : Nat → List (Nat × Nat) → List (Nat × Nat) → List (Nat × Nat)
  | 0, _, seen => seen
  | n + 1, front, seen =>
    let next := layer nodes skip front seen
    if next.isEmpty then seen else firstHops nodes skip n next (seen ++ next)

/-- The lead's first hop toward each device, with the link on port `skip` left out. -/
def hopsFrom (nodes : List RopeNode) (skip : Option Nat) : List (Nat × Nat) := firstHops nodes skip nodes.length [(0, 0)] []

/-- The lowest ID that is not taken. -/
def lowestFree (taken : List Nat) : Nat := ((List.range (taken.length + 1)).find? fun i => !taken.contains i).getD 0

/-- The ID of a device: its request if that is free and no other device of a lower unit ID asks for it, else the lowest free one (R394). -/
def giveId (nodes : List RopeNode) (taken : List Nat) (n : RopeNode) : Nat × Bool :=
  match n.fixedReq with
  | none => (lowestFree taken, false)
  | some q =>
    if taken.contains q || nodes.any fun m => m.fixedReq == some q && decide (m.unit < n.unit) then (lowestFree taken, true)
    else (q, false)

/-- Insert a device into a list ordered by ID. -/
def insertById (x : Nat × Nat) : List (Nat × Nat) → List (Nat × Nat)
  | [] => [x]
  | y :: r => if x.2 < y.2 then x :: y :: r else y :: insertById x r

/-- Give IDs layer by layer: devices of a layer in the order of their parents' IDs, then of the parents' ports (R394). The frontier and
the result pair a device's index with its ID; `kept` are IDs held from before, by unit. -/
def giveIds (nodes : List RopeNode) (kept : List (Nat × Nat)) (reserved : List Nat) :
    Nat → List (Nat × Nat) → List (Nat × Nat) → List (Nat × Nat)
  | 0, _, done => done
  | k + 1, front, done =>
    let order := front.foldl (fun l x => insertById x l) []
    let links := order.flatMap fun x => match nodes[x.1]? with | none => [] | some n => n.byPort.map (·.peer)
    let next := links.foldl (fun acc i =>
      if done.any (fun z => z.1 == i) || acc.any (fun z => z.1 == i) then acc
      else match nodes[i]? with
        | none => acc
        | some n =>
          let id := match kept.find? fun y => y.1 == n.unit with
            | some y => y.2
            | none => (giveId nodes ((done ++ acc).map Prod.snd ++ kept.map Prod.snd ++ reserved) n).1
          acc ++ [(i, id)]) []
    if next.isEmpty then done else giveIds nodes kept reserved k next (done ++ next)

/-- The tables of a lead with the devices it found, at most 16,384 (R394, R395). -/
def leadTables (nodes : List RopeNode) (ownId : Nat) (kept : List (Nat × Nat)) (reserved : List Nat) (pathMax : Nat) : Tables :=
  let ids := (giveIds nodes kept reserved nodes.length [(0, ownId)] [(0, ownId)]).take 16384
  let prim := hopsFrom nodes none
  let mem := (ids.drop 1).filterMap fun x => (nodes[x.1]?).map fun n =>
    let p := (prim.find? fun y => y.1 == x.1).map Prod.snd
    ({ id := x.2, unit := n.unit, groups := n.groups, bulk := n.bulk, rreg := n.rreg, multi := n.multi, primary := p
       alternate := ((hopsFrom nodes p).find? fun y => y.1 == x.1).map Prod.snd } : Member)
  { id := ownId, lead := ownId, members := mem, parent := 0, parentAlt := none
    children := (List.range 4).filter fun p => mem.any fun m => m.primary == some p
    hops := 0, pathMax := pathMax, conflict := false }

/-- Show tables in the registers (R394, R403, R419). -/
def Dev.showTables (d : Dev) (t : Tables) : Dev :=
  let d1 := ((d.onRope fun r => { r with tables := some t }).setF .rpg 0 Off.RPG_TEAM_STAT 8 14 t.id).wrN .rpg 0 Off.RPG_TEAM_SIZE
    ((t.members.length + 1) % 32768 + t.lead * 65536)
  let d2 := (d1.wrN .rpg 0 Off.RPG_PATH_MAX (min t.pathMax 0xFFFFFF)).wrN .rpg 0 Off.RPG_COMMIT_LAT (min (3 * t.pathMax + 10000) 0xFFFFFF)
  let d3 := (d2.setF .rpg 0 Off.RPG_TIMING_STAT 8 8 (min t.hops 255)).setB .rpg 0 Off.RPG_TIMING_STAT 3 (decide (250 < t.hops))
  d3.setF .rpg 0 Off.RPG_TIMING_STAT 4 2 (if d.carries t.parent then t.parent else t.parentAlt.getD t.parent)

/-- The lead tells every member its tables. -/
def Dev.assignAll (d : Dev) (t : Tables) : Dev :=
  t.members.foldl (fun x m => x.say (.devices [m.id]) (.assign { t with id := m.id, members := [] })) d

/-- TEAM_FORMED: enumeration ends, and every member reads FORMED (R394). -/
def Dev.teamFormed (d : Dev) (x : TeamResult) : Dev :=
  let d := d.hush
  if d.teamState ≠ 3 then d
  else match x with
    | .full => d.setTeamState 6
    | .leads nodes pathMax =>
      if !d.bit .rpg 0 Off.RPG_TEAM_STAT 3 then d
      else
        let t := leadTables nodes 0 [] [] pathMax
        let d1 := (((d.showTables t).setTeamState 4).onRope fun r => { r with reserved := [], lostAt := none, offset := 0 }).setF
          .rpg 0 Off.RPG_TIMING_STAT 0 2 0
        (d1.assignAll t).flag .rpg 0 8
    | .member t =>
      if d.bit .rpg 0 Off.RPG_TEAM_STAT 3 then d
      else
        let d1 := (((d.showTables t).setTeamState 4).onRope fun r => { r with lostAt := none }).setF .rpg 0 Off.RPG_TIMING_STAT 0 2 1
        let d2 := if t.conflict then d1.flag .rpg 0 23 else d1
        d2.flag .rpg 0 8

/-- The IDs that units hold. -/
def Tables.kept (t : Tables) : List (Nat × Nat) := t.members.map fun m => (m.unit, m.id)

/-- MEMBER_JOIN: a device joins a formed team without re-enumeration, or is refused (R395). -/
def Dev.memberJoin (d : Dev) (x : TeamResult) : Dev :=
  let d := d.hush
  match x with
  | .full => if d.teamState = 4 then d else d.setTeamState 6
  | .leads nodes pathMax =>
    match d.rope.tables with
    | none => d
    | some t =>
      if !d.bit .rpg 0 Off.RPG_TEAM_STAT 3 || d.teamState != 4 then d
      else if 16384 < nodes.length then
        ((nodes.filter fun n => n.unit != d.unitId && !(t.members.any fun m => m.unit == n.unit)).foldl
          (fun y _ => y.say (.devices []) .refused) d)
      else
        let t1 := leadTables nodes t.id t.kept d.rope.reserved pathMax
        ((d.showTables t1).assignAll t1).flag .rpg 0 11
  | .member t =>
    if d.bit .rpg 0 Off.RPG_TEAM_STAT 3 then d
    else if d.teamState = 4 then d.showTables t
    else
      let d1 := ((d.showTables t).setTeamState 4).setF .rpg 0 Off.RPG_TIMING_STAT 0 2 1
      if t.conflict then d1.flag .rpg 0 23 else d1

/-- REROUTE_TABLES: routes and the timing tree recomputed after a break are in force (R414). A member that is gone has left (R395). -/
def Dev.rerouteTables (d : Dev) (x : TeamResult) : Dev :=
  let d := d.hush
  match x, d.rope.tables with
  | .leads nodes pathMax, some t =>
    if !d.bit .rpg 0 Off.RPG_TEAM_STAT 3 then d
    else
      let t1 := leadTables nodes t.id t.kept d.rope.reserved pathMax
      let gone := t.members.filter fun m => !(t1.members.any fun y => y.unit == m.unit)
      let d1 := ((d.showTables t1).onRope fun r => { r with reserved := r.reserved ++ gone.map (·.id) }).assignAll t1
      let d2 := if gone.isEmpty then d1 else d1.flag .rpg 0 12
      d2.flag .rpg 0 13
  | .member t, some _ => if d.bit .rpg 0 Off.RPG_TEAM_STAT 3 then d else d.showTables t
  | _, _ => d

/-! Team timing (R397 to R401) -/

/-- TIMING_STAT.STATE: 0 NONE, 1 ACQUIRING, 2 LOCKED, 3 HOLDOVER. -/
def Dev.timingState (d : Dev) : Nat := d.fld .rpg 0 Off.RPG_TIMING_STAT 0 2
def Dev.setTiming (d : Dev) (v : Nat) : Dev := d.setF .rpg 0 Off.RPG_TIMING_STAT 0 2 v

/-- Team time: the lead's device time, as a member's servo gives it (R397, R398). -/
def Dev.teamTime (d : Dev) : Nat := ((d.now : Int) + d.rope.offset).toNat

/-- The team frame number (R397). -/
def Dev.teamFrame (d : Dev) : Nat := if d.teamLead then (d.cad d.rope.cadScene).frame else d.rope.frame

/-- Send a timing message to the timing children. -/
def Dev.toChildren (d : Dev) (m : RopeMsg) : Dev :=
  match d.rope.tables with
  | none => d
  | some t => (t.children.filter d.carries).foldl (fun x p => x.say (.port p) m) d

/-- SYNC_SEND: every 125 µs the lead sends team time (R398). -/
def Dev.syncSend (d : Dev) : Dev := let d := d.hush; if d.teamLead then d.toChildren (.sync d.teamTime) else d

/-- A port leads toward the timing parent. -/
def Dev.isParent (d : Dev) (p : Nat) : Bool :=
  d.teamMember && !d.teamLead && d.carries p && decide (d.fld .rpg 0 Off.RPG_TIMING_STAT 4 2 = p)

/-- SYNC from the timing parent: team time, the error against the parent in units of 0.1 ns, and whether the servo has locked (R398, R399,
R414). -/
def Dev.syncReceived (d : Dev) (p time : Nat) (err : Int) (locked : Bool) : Dev :=
  let d := d.hush
  if !d.isParent p then d
  else
    let d1 := (d.onRope fun r => { r with offset := (time : Int) - d.now }).wrN .rpg 0 Off.RPG_TIME_ERR
      (ofSigned (max (-(2 ^ 15)) (min (2 ^ 15 - 1) err)) 16)
    let d2 := if d1.timingState ≠ 2 ∧ (d1.timingState = 3 ∨ locked) then (d1.setTiming 2).flag .rpg 0 15 else d1
    d2.toChildren (.sync time)

/-- TEAM scenes of this device. -/
def Dev.teamScenes (d : Dev) : List Nat := (List.range 4).filter fun s => d.cadSource s == 3

/-- What a TICK announces to a TEAM scene: the next tick, the team rate, and a rate change (R398, R399, R401). -/
def Dev.announce (d : Dev) (t : Tick) (s : Nat) : Dev :=
  let d1 := d.setCad s { d.cad s with teamNext := some (((t.next : Int) - d.rope.offset).toNat, t.n + 1) }
  let d2 := if (d1.cad s).change.isNone ∧ t.change.isNone ∧ t.den ≠ 0 ∧ t.num ≠ 0 ∧ (d1.activeNum s ≠ t.num ∨ d1.activeDen s ≠ t.den) then
      (d1.withRate s t.num t.den).ratePorts s true
    else d1
  match t.change with
  | some (num, den, frames, target) =>
    if (d2.cad s).change.isSome then d2
    else
      let x : RateChange := { num := num, den := den, frames := frames, target := some target, skip := 0, begun := 0 }
      ((d2.setCad s { d2.cad s with change := some x }).setCadBit s 3 (decide (0 < frames))).setF
        .anch 0 (cadOff s Off.ANCH_CAD_STAT) 16 8 frames
  | none => d2

/-- TICK from the timing parent (R398, R401). -/
def Dev.tickReceived (d : Dev) (p : Nat) (t : Tick) : Dev :=
  let d := d.hush
  if !d.isParent p then d
  else ((d.teamScenes.foldl (fun x s => x.announce t s) d).onRope fun r => { r with frame := t.n }).toChildren (.tick t)

/-- FN_MISMATCH of the timing state follows the scenes that differ (R400). -/
def Dev.setMismatch (d : Dev) (s : Nat) (b : Bool) : Dev :=
  let l := if b then (if d.rope.mismatch.contains s then d.rope.mismatch else d.rope.mismatch ++ [s]) else d.rope.mismatch.filter (· ≠ s)
  let new := b && !d.rope.mismatch.contains s
  let d1 := (d.onRope fun r => { r with mismatch := l }).setB .rpg 0 Off.RPG_TIMING_STAT 2 (!l.isEmpty)
  if new then d1.flag .rpg 0 22 else d1

/-- The team's part of a cadence tick: a TEAM scene compares or loads its frame number (R400, R514); the lead's cadence scene sends a TICK
and announces it to its own TEAM scenes (R398). `n` is the team frame number that was announced for this tick. -/
def Dev.teamTick (d : Dev) (s : Nat) (n : Option Nat) : Dev :=
  if d.cadSource s = 3 then
    match n with
    | none => d
    | some k =>
      if !d.cadRun s || d.rope.loadNext.contains s then
        ((d.setCad s { d.cad s with frame := k }).onRope fun r => { r with loadNext := r.loadNext.filter (· ≠ s) }).setMismatch s false
      else if (d.cad s).frame ≠ k then d.setMismatch s true else d
  else if d.teamLead ∧ d.rope.cadScene = s then
    let c := d.cad s
    let t : Tick := { n := c.frame, next := ((c.next / nsUnit : Nat) + d.rope.offset : Int).toNat, num := d.activeNum s, den := d.activeDen s
                      change := c.change.map fun x => (x.num, x.den, x.frames, x.target.getD (c.frame + 1 + x.skip)) }
    (d.teamScenes.foldl (fun x q => x.announce t q) d.hush).toChildren (.tick t)
  else d

/-- The team frame number announced for the tick that is about to fall, if it is that tick. -/
def Dev.announced (d : Dev) (s : Nat) : Option Nat :=
  match (d.cad s).teamNext with
  | some (t, n) => if (((d.cad s).next / nsUnit : Nat) - t : Int).natAbs ≤ 1 then some n else none
  | none => none

/-- LINK_DELAY_MEASURE of a port, in units of 0.1 ns (R398). -/
def Dev.linkDelay (d : Dev) (p delay : Nat) : Dev := if d.carries p then d.wrN .rpp p Off.RPP_LINK_DELAY (min delay 0xFFFFF) else d

/-! Ports come up and go down (R389, R414 to R416) -/

/-- The timing parent moves to the route that carries traffic; `lost` says that the old one broke without notice (R414). -/
def Dev.moveParent (d : Dev) (p : Nat) (lost : Bool) : Dev :=
  match d.rope.tables with
  | none => d
  | some t =>
    if d.teamLead || !d.teamMember || d.fld .rpg 0 Off.RPG_TIMING_STAT 4 2 != p then d
    else
      let up := if d.carries t.parent then some t.parent else match t.parentAlt with
        | some q => if d.carries q then some q else none
        | none => none
      match up with
      | some q =>
        let d1 := d.setF .rpg 0 Off.RPG_TIMING_STAT 4 2 q
        if lost then (d1.setTiming 3).flag .rpg 0 14 else d1
      | none =>
        (((d.setTiming 3).flag .rpg 0 14).onRope fun r => { r with lostAt := some d.now }).flag .rpg 0 9

/-- The timing parent returns to the enumerated one when its port carries traffic again (R415). -/
def Dev.returnParent (d : Dev) : Dev :=
  match d.rope.tables with
  | none => d
  | some t =>
    if d.teamLead || !d.teamMember || !d.carries t.parent then d
    else (d.setF .rpg 0 Off.RPG_TIMING_STAT 4 2 t.parent).onRope fun r => { r with lostAt := none }

/-- On the lead, a member that no route reaches any longer has left; its ID stays reserved (R395). -/
def Dev.dropUnreached (d : Dev) (gone : Option Nat) : Dev :=
  match d.rope.tables with
  | none => d
  | some t =>
    if !d.teamLead then d
    else
      let ok := fun (m : Member) => some m.id != gone &&
        ((match m.primary with | some q => d.carries q | none => false) || (match m.alternate with | some q => d.carries q | none => false))
      let left := t.members.filter fun m => !ok m
      if left.isEmpty then d
      else
        let t1 := { t with members := t.members.filter ok }
        (((d.onRope fun r => { r with reserved := r.reserved ++ left.map (·.id) }).showTables t1)).flag .rpg 0 12

/-- PORT_DOWN: loss of lock or silence, or the neighbour's leave message (R395, R414, R416). -/
def Dev.portDown (d : Dev) (p : Nat) (left : Bool) : Dev :=
  let d := d.hush
  let s := d.ropeState p
  if s = 0 ∨ s = 4 then d
  else
    let d1 := ((d.setRopeState p 4).inc .rpp p Off.RPP_DOWN_COUNT).flag .rpp p 9
    let gone := if left then some (d.fld .rpp p Off.RPP_PEER_ID 0 14) else none
    (d1.moveParent p true).dropUnreached gone

/-- ROPE_PORT_UP: lock, deskew, FEC and HELLO are done; `delay` is the first link delay in units of 0.1 ns (R387, R389, R392). -/
def Dev.ropePortUp (d : Dev) (p : Nat) (h : Hello) (delay : Nat) : Dev :=
  let d := d.hush
  if d.ropeState p ≠ 1 then d
  else
    let fec := (d.useB .rpp p Off.RPP_PORT_CTRL 1 || h.fec) && bitOf (d.rd .rpg 0 Off.RPG_LOCAL_CAP) 0 && bitOf h.caps 0
    let d1 := ((d.setB .rpp p Off.RPP_PORT_STAT 3 fec).wrN .rpp p Off.RPP_LINK_DELAY (min delay 0xFFFFF)).takeHello p h
    match commonVersion (d.rd .rpg 0 Off.RPG_PROTO_VER) h.ver with
    | none => (d1.incompat p).flag .rpp p 8
    | some _ =>
      let d2 := ((d1.setRopeState p 2).flag .rpp p 8).returnParent
      d2.meetNeighbour p

/-- ROPE_RETRAIN: RPP.CMD.RETRAIN moves routes and timing off the port and starts its bring-up (R389). -/
def Dev.ropeRetrain (d : Dev) (r : Requester) (p : Nat) : Dev :=
  let d := d.hush
  if !d.useB .rpp p Off.RPP_PORT_CTRL 0 then (d.wrN .rpg 0 Off.RPG_RG_REJECT 0xF2).reject r .rpp p Off.RPP_CMD 0xF2
  else (d.ropeBringUp p).moveParent p false

/-- ROPE_BRINGUP_RETRY: every 10 ms while the port is DOWN (R389). -/
def Dev.ropeRetry (d : Dev) (p : Nat) : Dev :=
  if d.ropeState p = 4 ∧ d.useB .rpp p Off.RPP_PORT_CTRL 0 then d.ropeBringUp p else d

/-- Every enabled port starts its bring-up at the entry into TRAINING (R335, R389). -/
def Dev.ropeStart (d : Dev) : Dev :=
  (List.range 4).foldl (fun x p => if x.useB .rpp p Off.RPP_PORT_CTRL 0 then x.ropeBringUp p else x) d

/-- HELLO_SEND: every 10 ms (R390). -/
def Dev.helloSend (d : Dev) (p : Fin 4) : Dev :=
  let d := d.hush
  if d.carries p.val || d.ropeState p.val == 3 then d.say (.port p.val) (.hello (d.ownHello p)) else d

/-- HELLO received (R390, R392). -/
def Dev.helloReceived (d : Dev) (p : Nat) (h : Hello) : Dev :=
  if !(d.carries p || d.ropeState p == 3) then d
  else
    let d1 := d.takeHello p h
    match commonVersion (d.rd .rpg 0 Off.RPG_PROTO_VER) h.ver with
    | none => d1.incompat p
    | some _ => d1

/-- REPLAY: FEC corrected `corr` codewords since the last event; a bad packet (an uncorrectable codeword with `uncorr`) is asked for again,
or this end replays when `sender` (R387, R388). -/
def Dev.replay (d : Dev) (p corr : Nat) (uncorr sender : Bool) : Dev :=
  let d := d.hush
  if !d.carries p then d
  else
    let d1 := d.wr .rpp p Off.RPP_FEC_CORR (satWord ((d.rd .rpp p Off.RPP_FEC_CORR).toNat + corr))
    let d2 := if uncorr then (d1.inc .rpp p Off.RPP_FEC_UNCORR).flag .rpp p 11 else d1
    ((d2.inc .rpp p Off.RPP_REPLAY_COUNT).flag .rpp p 12).say (.port p) (if sender then .replay else .replayAsk)

/-- KEEPALIVE_SEND: every 2 µs (R414). -/
def Dev.keepaliveSend (d : Dev) (p : Nat) : Dev :=
  let d := d.hush
  if d.carries p then d.say (.port p) .keepalive else d

/-- Entry into BIVOUAC: a port whose ends both have BIVOUAC_LANE goes to low rate, and any other goes DOWN (R418). -/
def Dev.ropeSleep (d : Dev) : Dev :=
  ((List.range 4).foldl (fun x p =>
    if x.ropeState p = 2 ∧ x.ropeCaps p / 64 % 2 = 1 then x.setRopeState p 5
    else if x.ropeState p = 1 ∨ x.ropeState p = 2 ∨ x.ropeState p = 3 then x.portDown p false else x) d.hush).setB .rpg 0 Off.RPG_TEAM_STAT 4 true

/-- Ports return to full rate after BIVOUAC (R418). -/
def Dev.ropeWake (d : Dev) : Dev :=
  ((List.range 4).foldl (fun x p => if x.ropeState p = 5 then x.setRopeState p 2 else x) d).setB .rpg 0 Off.RPG_TEAM_STAT 4 false

/-- ORPHAN_ELECTION: 100 ms after the lead was lost; the lead that the part elects, if it holds a candidate: its unit and ID (R416). A
pending team commit of this device then ends as FAILED (R406). -/
def Dev.orphanElection (d : Dev) (winner : Option (Nat × Nat)) : Dev :=
  match d.rope.lostAt with
  | none => d
  | some t =>
    let d1 := ((d.advance (t + 100000000)).hush).onRope fun r => { r with lostAt := none }
    let own := d1.ownClaim.isSome && (match winner with | some (u, _) => u == d1.unitId | none => false)
    match winner with
    | none => d1.setTeamState 5
    | some (u, id) =>
      let d2 := ((d1.setB .rpg 0 Off.RPG_TEAM_STAT 3 own).setF .rpg 0 Off.RPG_TEAM_SIZE 16 14 (if own then d1.ownId else id)).onRope fun r =>
        { r with leadUnit := some u }
      let d3 := d2.flag .rpg 0 10
      if d3.fld .rpg 0 Off.RPG_TC_STAT 0 3 = 1 then
        (d3.wrN .rpg 0 Off.RPG_TC_STAT (4 + 0xF6 * 256)).flag .rpg 0 17
      else d3

end Sys2Proof.Machine
end

