-- ==== Sys2Proof/Machine/Arm.lean ====
section
/-! DEFINITION. What an ARM and a CANCEL do beside arming and disarming: the builds and stagings an ARM starts, and the pages that apply
when the ARM completes because their source is idle (R42, R50, R146, R162). -/

namespace Sys2Proof.Machine

/-- What starts when an ARM of a page completes: the build of a tone state (R146), the staging of a LUT image (R162). -/
def Dev.armHook (d : Dev) (x : Page × Nat) : Dev :=
  match x.1 with
  | .tone => d.toneArm x.2 (sceneTone x.2) (sceneKey (d.rd .tone x.2))
  | .leng => d.toneArm ((d.lengScene x.2).getD 0) x.2 (layerKey (d.rd .leng x.2))
  | .padp => d.startStaging x.2
  | _ => d

/-- What a CANCEL of a page abandons (R146). -/
def Dev.cancelHook (d : Dev) (x : Page × Nat) : Dev :=
  match x.1 with
  | .tone => d.toneForget (sceneTone x.2)
  | .leng => d.toneForget x.2
  | _ => d

/-- An ARM of a page whose source is idle: it applies at once (R42). An XPT or RPP page that enables its port starts its source first, and
an MCC page is checked. -/
def Dev.armNow (d : Dev) (p : Page) (n : Nat) : Dev :=
  let armed := fun (x : Dev) => x.armPage p n { wait := .next 0 } false false
  match p with
  | .xpt => if d.bit .xpt n Off.XPT_XPT_CTRL 0 then (armed d).retrain n
            else (d.applyPage .xpt n (d.presentCount .xpt n)).xptCheck n
  | .ppll => (d.applyPage .ppll n (d.presentCount .ppll n)).pllCheck n
  | .mcc => (d.applyPage .mcc n (d.presentCount .mcc n)).mccCheck n
  | .rpp => if d.bit .rpp n Off.RPP_PORT_CTRL 0 then (armed d).ropeBringUp n
            else (d.applyPage .rpp n (d.presentCount .rpp n)).onCore (·.bringIntoUse .rpp n)
  | _ => d.applyIdle p n

/-- An ARM of SAFE or BLY: each of its portions waits for its own scene, and those whose scene is idle apply at once (R29). -/
def Dev.armPortions (d : Dev) (p : Page) : Dev :=
  let l := d.portionsOf p
  (d.armPage p 0 { wait := .portions l } (l.any fun x => x.skip != 0 && !x.done) false).portionsNow p

/-- DDR5 stands in self-refresh: no refresh command is sent, and a REFRESH page has no boundary to wait for (R347, R358). -/
def Dev.selfRefresh (d : Dev) : Bool := d.trained && decide (2 ≤ d.fld .mcg 0 Off.MCG_SR_STAT 0 2)

/-- An ARM for the next boundary of a page that is not armed (R41, R42). -/
def Dev.armNext (d : Dev) (p : Page) (n : Nat) : Dev :=
  let d1 := d.commitStat p n false false false false false false
  match p with
  | .safe | .bly => d1.armPortions p
  | _ => match d1.armPlan p n with
    | .atOnce => (d1.armHook (p, n)).armNow p n
    | .wait w late =>
      let d2 := (d1.armPage p n { wait := w } late false).armHook (p, n)
      if p = .mcc ∧ d2.selfRefresh then d2.refreshBoundary n else d2

/-- COMMIT.ARM of a page (R44). -/
def Dev.commitArm (d : Dev) (r : Requester) (p : Page) (n : Nat) : Dev :=
  if !p.shadowed then d
  else match d.armOf p n with
    | some a => if d.targetedArm a then d.reject r p n Off.COMMIT 0x07 else d
    | none => d.armNext p n

/-- COMMIT.CANCEL of a page, with what it abandons (R44, R59, R146). -/
def Dev.cancelPage (d : Dev) (r : Requester) (p : Page) (n : Nat) : Dev :=
  if !p.shadowed then d
  else match d.armOf p n with
    | none => d
    | some a =>
      let pages := match a.group with | some s => d.armedGroup s | none => [(p, n)]
      let d1 := d.commitCancel r p n
      if (d1.armOf p n).isNone then pages.foldl Dev.cancelHook d1 else d1

/-- A write of COMMIT (R44, R45). -/
def Dev.commitWrite (d : Dev) (r : Requester) (p : Page) (n : Nat) (v : Word) : Dev :=
  if !p.shadowed then d
  else if bitOf v 0 && bitOf v 1 then d.reject r p n Off.COMMIT 0x02
  else if bitOf v 0 then d.commitArm r p n
  else if bitOf v 1 then d.cancelPage r p n
  else d

/-- A group arm of one scene, with what starts at an ARM and what applies at once (R42, R50). While the scene's timing is stopped its FRAME
pages apply together now, and its VBL pages at the next VBLANK_START of their ports. -/
def Dev.groupArm (d : Dev) (s : Nat) (target : Option Nat) (team : Bool) : Except Nat Dev :=
  match d.groupArmOne s target team with
  | .error e => .error e
  | .ok (d1, now) =>
    let d2 := (d.groupPages s (if team then 1 else 0)).foldl Dev.armHook d1
    let d3 := (now.filter fun x => x.1.boundary == .vbl).foldl (fun x y => x.applyIdle y.1 y.2) d2
    if target.isSome || !d.sceneIdle s then .ok d3
    else
      let n := (d3.cad s).frame
      let d4 := (d3.groupStep s n).sceneApply s n (now.filter fun x => x.1.boundary == .frame)
      .ok (match (d4.group s).phase with
        | .composing _ => d4.setGroup s { d4.group s with phase := .ready }
        | _ => d4)

/-- The scenes that a group write names, a pair being one scene (R51). -/
def Dev.groupScenes (d : Dev) (scenes : Nat) : List Nat := (bitsSet scenes 4).filter fun s => !d.oddHalf s

/-- CANCEL_SCN of one scene, with what its pages abandon (R59, R146). -/
def Dev.groupCancelScene (d : Dev) (r : Requester) (s : Nat) : Dev :=
  let pages := d.armedGroup s
  let d1 := d.groupCancelOne r s
  if (d1.armedGroup s).isEmpty then pages.foldl Dev.cancelHook d1 else d1

/-- Disarm the group of a scene, with what its pages abandon. -/
def Dev.groupDrop (d : Dev) (s : Nat) : Dev := (d.armedGroup s).foldl Dev.cancelHook (d.groupDisarm s)

/-- SYS.GROUP_TARGET (R52, R59). -/
def Dev.groupTarget (d : Dev) : Nat :=
  (d.rd .sys 0 Off.SYS_GROUP_TARGET_LO).toNat + d.fld .sys 0 Off.SYS_GROUP_TARGET_HI 0 16 * 2 ^ 32

/-- A write of SYS.GROUP_COMMIT (R50 to R52, R59): the scenes to arm and to cancel. -/
def Dev.groupWrite (d : Dev) (r : Requester) (arm cancel : Nat) (atFrame : Bool) : Dev :=
  let target := if atFrame then some d.groupTarget else none
  let no := fun (x : Dev) (e : Nat) => x.reject r .sys 0 Off.SYS_GROUP_COMMIT e
  let arms := d.groupScenes arm
  if arm % 16 &&& cancel % 16 ≠ 0 then no d 0x02
  else if d.pairSplit (arm % 16 ||| cancel % 16) then no d 0x04
  else match arms.filterMap (fun s => target.bind (d.targetReason s)) with
    | e :: _ => no d e
    | [] =>
      let d1 := (d.groupScenes cancel).foldl (fun x s => x.groupCancelScene r s) d
      arms.foldl (fun x s => match x.groupArm s target false with | .error e => no x e | .ok y => y) d1

end Sys2Proof.Machine
end

