-- ==== Sys2Proof/Machine/RopeTeam.lean ====
section
/-! DEFINITION. Team commits, bulk transfers, remote register accesses, Cairn forwarding and wake messages ("Rope link and rope teams",
R402 to R413, R418). -/

namespace Sys2Proof.Machine

/-! Routes -/

/-- The members of the team but this device. -/
def Dev.members (d : Dev) : List Member := match d.rope.tables with | none => [] | some t => t.members

/-- A member by its ID. -/
def Dev.member (d : Dev) (id : Nat) : Option Member := d.members.find? fun m => m.id == id

/-- A member is reachable on its primary or its alternate route (R414). -/
def Dev.reaches (d : Dev) (m : Member) : Bool :=
  (match m.primary with | some q => d.carries q | none => false) || (match m.alternate with | some q => d.carries q | none => false)

/-- Send to devices of the team. -/
def Dev.sayTo (d : Dev) (ids : List Nat) (m : RopeMsg) : Dev := if ids.isEmpty then d else d.say (.devices ids) m

/-- Messages to the lead; none where this device leads. -/
def Dev.leadId (d : Dev) : Nat := d.fld .rpg 0 Off.RPG_TEAM_SIZE 16 14

/-- This device's groups (R402). -/
def Dev.ownGroups (d : Dev) : Nat := d.fld .rpg 0 Off.RPG_TEAM_CTRL 16 8

/-! Team commits (R402 to R406) -/

/-- Show an outcome at the originator, with TC_DONE or TC_FAIL (R405). -/
def Dev.tcOutcome (d : Dev) (o : TcOutcome) : Dev :=
  let d1 := d.wrN .rpg 0 Off.RPG_TC_STAT (o.state + o.reason * 256)
  let d2 := (d1.wrN .rpg 0 Off.RPG_TC_INFO (o.first % 16384 + o.commit * 65536)).wrN .rpg 0 Off.RPG_TC_COUNT
    (min o.armed 0xFFFF + min o.failed 0xFFFF * 65536)
  d2.flag .rpg 0 (if o.state = 2 then 16 else 17) o.reason

/-- Tell a request's originator its outcome. -/
def Dev.tcTell (d : Dev) (origin : Nat) (o : TcOutcome) : Dev :=
  if origin = d.ownId then d.tcOutcome o else d.sayTo [origin] (.tcOutcome o)

/-- Arm the groups of scenes for a team frame; the first scene that fails gives the reason (R404). -/
def Dev.armScenes (d : Dev) (target : Nat) : List Nat → Except Nat Dev
  | [] => .ok d
  | s :: r => match d.groupArm s (some target) true with
    | .error e => .error e
    | .ok d1 => Dev.armScenes d1 target r

/-- This device's part of a team commit: a reason, or the device armed (R404). -/
def Dev.tcArmHere (d : Dev) (commit : Nat) (q : TcReq) : Except Nat Dev :=
  let scenes := d.groupScenes q.scenes
  if d.mode = 9 then .error 0xF5
  else if d.pairSplit q.scenes then .error 0x04
  else match d.armScenes q.target scenes with
    | .error e => .error e
    | .ok d1 =>
      if scenes.any fun s => d.cadSource s != 3 && !(d.teamLead && d.rope.cadScene == s) then .error 0xF3
      else if scenes.any fun s => d.rope.mismatch.contains s then .error 0xF4
      else .ok (d1.onRope fun r => { r with tcArmed := r.tcArmed ++ [(commit, q.scenes)] })

/-- CANCEL of a team commit's arm, under R44: each named scene that can still be cancelled is; answers whether all could (R405). -/
def Dev.tcCancelHere (d : Dev) (commit : Nat) : Dev × Bool :=
  let mine := d.rope.tcArmed.filter fun x => x.1 == commit
  let scenes := mine.flatMap fun x => bitsSet x.2 4
  let late := scenes.any fun s => (d.group s).phase != .idle && !d.groupCancellable s
  let d1 := scenes.foldl (fun x s => if x.groupCancellable s then x.groupDrop s else x) d
  (d1.onRope fun r => { r with tcArmed := r.tcArmed.filter fun x => x.1 != commit }, !late)

/-- The outcome of the lead's request in progress (R405). -/
def TcRun.outcome (x : TcRun) : TcOutcome :=
  let first := x.failed.headD (0, 0)
  { state := if x.failed.isEmpty then 2 else if !x.req.atomic then 5 else if x.diverged then 6 else 4
    reason := first.2, first := first.1, commit := x.commit, armed := x.armed.length, failed := x.failed.length }

/-- A failure of an atomic request makes the lead cancel the members that armed (R405). -/
def Dev.tcCancelAll (d : Dev) (x : TcRun) : Dev × TcRun :=
  let others := x.armed.filter (· ≠ d.ownId)
  let d1 := d.sayTo others (.tcCancel x.commit)
  let (d2, ok) := if x.armed.contains d.ownId then d1.tcCancelHere x.commit else (d1, true)
  (d2, { x with cancelling := true, acks := others, sentAt := d.now, diverged := !ok })

/-- The lead takes up a request: it is checked, armed here and sent to the members that take part (R403, R404). -/
def Dev.tcBegin (d : Dev) (q : TcReq) : Dev × Option TcRun :=
  let s := d.rope.cadScene
  let fail := fun (e : Nat) => d.tcTell q.origin { state := 3, reason := e, first := 0, commit := 0, armed := 0, failed := 0 }
  if q.target ≤ (d.cad s).frame ∨ d.boundaryIn s q.target < d.teamNotice then (fail 0xE9, none)
  else if (d.cad s).frame + 65535 < q.target then (fail 0x06, none)
  else
    let commit := d.freeNat % 65536
    let parts := (d.members.filter fun m => m.groups &&& q.groups != 0).map (·.id)
    let x : TcRun := { req := q, commit := commit, wait := parts, sentAt := d.now }
    let d1 := d.freeStep
    let (d2, x1) := if d.ownGroups &&& q.groups = 0 then (d1, x)
      else match d1.tcArmHere commit q with
        | .ok y => (y, { x with armed := [d.ownId] })
        | .error e => (d1, { x with failed := [(d.ownId, e)] })
    (d2.sayTo parts (.tcArm commit q), some x1)

/-- An atomic commit that a member refuses is cancelled on the others, once (R405). -/
def Dev.tcUnwind (d : Dev) (x : TcRun) : Dev × TcRun :=
  if x.req.atomic && !x.failed.isEmpty && !x.cancelling then d.tcCancelAll x else (d, x)

/-- The lead's request goes on: a failure cancels an atomic one, and when nothing is awaited the outcome is sent and the next request
taken up, `fuel` at most (R403, R405). -/
def Dev.tcAdvance : Nat → Dev → Dev
  | 0, d => d
  | fuel + 1, d =>
    match d.rope.tcRun with
    | none => match d.rope.tcQueue with
      | [] => d
      | q :: r =>
        let (d1, x) := (d.onRope fun y => { y with tcQueue := r }).tcBegin q
        Dev.tcAdvance fuel (d1.onRope fun y => { y with tcRun := x })
    | some x =>
      let (d1, x1) := d.tcUnwind x
      if !x1.wait.isEmpty || !x1.acks.isEmpty then d1.onRope fun y => { y with tcRun := some x1 }
      else
        let d2 := if x1.outcome.state = 6 then d1.flag .rpg 0 18 else d1
        Dev.tcAdvance fuel ((d2.tcTell x1.req.origin x1.outcome).onRope fun y => { y with tcRun := none })

/-- The lead goes on with its requests. -/
def Dev.tcRunOn (d : Dev) : Dev := Dev.tcAdvance (2 * d.rope.tcQueue.length + 4) d

/-- TC_REQUEST: a request reaches the lead; its queue holds 16 (R403). -/
def Dev.tcArrive (d : Dev) (q : TcReq) : Dev :=
  if !d.teamLead then d
  else if d.rope.tcRun.isSome ∧ 16 ≤ d.rope.tcQueue.length then
    d.hush.tcTell q.origin { state := 3, reason := 0xEA, first := 0, commit := 0, armed := 0, failed := 0 }
  else (d.hush.onRope fun r => { r with tcQueue := r.tcQueue ++ [q] }).tcRunOn

/-- TC_SEND: RPG.TC_CMD.SEND (R402). -/
def Dev.tcSend (d : Dev) (r : Requester) : Dev :=
  let d := d.hush
  let ctrl := d.rd .rpg 0 Off.RPG_TC_CTRL
  if bitsOf ctrl 0 4 = 0 ∨ bitsOf ctrl 8 8 = 0 then d.rpgReject r Off.RPG_TC_CMD 0xEB
  else if !d.teamMember then d.rpgReject r Off.RPG_TC_CMD 0xE8
  else if d.fld .rpg 0 Off.RPG_TC_STAT 0 3 = 1 then d.rpgReject r Off.RPG_TC_CMD 0xEA
  else if d.moving then d.rpgReject r Off.RPG_TC_CMD 0x1A
  else
    let q : TcReq := { origin := d.ownId
                       target := (d.rd .rpg 0 Off.RPG_TC_TARGET_LO).toNat + d.fld .rpg 0 Off.RPG_TC_TARGET_HI 0 16 * 2 ^ 32
                       scenes := bitsOf ctrl 0 4, groups := bitsOf ctrl 8 8, atomic := bitOf ctrl 16 }
    let d1 := d.wrN .rpg 0 Off.RPG_TC_STAT 1
    if d1.teamLead then d1.tcArrive q else d1.sayTo [d1.leadId] (.tcRequest q)

/-- TC_ARM from the lead (R404). -/
def Dev.tcArmReceived (d : Dev) (commit : Nat) (q : TcReq) : Dev :=
  let d := d.hush
  match d.tcArmHere commit q with
  | .ok d1 => d1.sayTo [d.leadId] (.tcReply commit 0)
  | .error e => d.sayTo [d.leadId] (.tcReply commit e)

/-- TC_REPLY at the lead: a member's result, 0 or its reason, or its acknowledgement of a cancel (R405). -/
def Dev.tcReplyReceived (d : Dev) (id commit reason : Nat) (cancelled : Option Bool) : Dev :=
  let d := d.hush
  match d.rope.tcRun with
  | none => d
  | some x =>
    if x.commit ≠ commit then d
    else match cancelled with
      | some ok =>
        if !x.acks.contains id then d
        else (d.onRope fun r => { r with tcRun := some { x with acks := x.acks.filter (· ≠ id), diverged := x.diverged || !ok } }).tcRunOn
      | none =>
        if !x.wait.contains id then d
        else
          let x1 := { x with wait := x.wait.filter (· ≠ id) }
          if reason ≠ 0 then (d.onRope fun r => { r with tcRun := some { x1 with failed := x1.failed ++ [(id, reason)] } }).tcRunOn
          else if x.cancelling then
            (d.sayTo [id] (.tcCancel commit)).onRope fun r =>
              { r with tcRun := some { x1 with armed := x1.armed ++ [id], acks := x1.acks ++ [id] } }
          else (d.onRope fun r => { r with tcRun := some { x1 with armed := x1.armed ++ [id] } }).tcRunOn

/-- TC_ACK_TIMEOUT: 2 × PATH_MAX + 5 µs after the ARM or the CANCEL, members that have not replied count as NO_ACK, and cancels not
acknowledged diverge (R404, R405). -/
def Dev.tcAckTimeout (d : Dev) : Dev :=
  match d.rope.tcRun with
  | none => d
  | some x =>
    let d1 := (d.advance (x.sentAt + 2 * d.fld .rpg 0 Off.RPG_PATH_MAX 0 24 + 5000)).hush
    let x1 := { x with wait := [], failed := x.failed ++ x.wait.map fun id => (id, 0xF6), acks := []
                       diverged := x.diverged || !x.acks.isEmpty }
    (d1.onRope fun r => { r with tcRun := some x1 }).tcRunOn

/-- TC_CANCEL from the lead: the arm is cancelled, and acknowledged (R405). -/
def Dev.tcCancelReceived (d : Dev) (commit : Nat) : Dev :=
  let (d1, ok) := d.hush.tcCancelHere commit
  d1.sayTo [d.leadId] (.tcAck commit ok)

/-- TC_OUTCOME at the originator (R405). -/
def Dev.tcOutcomeReceived (d : Dev) (o : TcOutcome) : Dev := if d.fld .rpg 0 Off.RPG_TC_STAT 0 3 = 1 then d.tcOutcome o else d

/-! Bulk transfers (R407 to R410) -/

/-- An RPG register of a channel. -/
def xoff (c off : Nat) : Nat := off + 0x40 * c

/-- The 40-bit address in a pair of channel registers. -/
def Dev.xaddr (d : Dev) (c off : Nat) : Nat := (d.rd .rpg 0 (xoff c off)).toNat + d.fld .rpg 0 (xoff c (off + 4)) 0 8 * 2 ^ 32

/-- A channel that runs. -/
def Dev.chan (d : Dev) (c : Nat) : Option Xch := Tbl.get (fun _ => none) d.rope.chans c
def Dev.setChan (d : Dev) (c : Nat) (x : Option Xch) : Dev :=
  d.onRope fun r => { r with chans := Tbl.set (fun _ => none) r.chans c x }

/-- Change one destination of a transfer. -/
def Xch.onDest (x : Xch) (id : Nat) (f : XDest → XDest) : Xch := { x with dests := x.dests.map fun y => if y.id = id then f y else y }

/-- Bytes of the region of a transfer. -/
def Xch.bytes (x : Xch) : Nat := x.rowBytes * x.rows

/-- Lines of a segment as source and destination addresses (R407, R410). -/
def Xch.lines (x : Xch) : List (Nat × Nat) :=
  (List.range (min 1024 ((x.bytes - x.index * 65536) / 64))).map fun i =>
    let o := x.index * 65536 + 64 * i
    (x.src + o / x.rowBytes * x.srcStride + o % x.rowBytes, x.dst + o / x.rowBytes * x.dstStride + o % x.rowBytes)

/-- Whether the present segment is the last. -/
def Xch.atLast (x : Xch) : Bool := decide (x.bytes ≤ (x.index + 1) * 65536)

/-- Read the lines of a segment as requester RPL: a denied line is zero, a poisoned one is sent marked (R407, R408). -/
def Dev.readLines (d : Dev) : List (Nat × Nat) → List XPiece → Bool → Bool → Dev × List XPiece × Bool × Bool
  | [], acc, den, bad => (d, acc, den, bad)
  | (s, t) :: r, acc, den, bad =>
    if !d.core.mwinAllows .rpl s 64 false then
      Dev.readLines (d.onCore (·.denyMem .rpl s false)) r (acc ++ [{ addr := BitVec.ofNat 40 t, data := List.replicate 64 0, bad := false }])
        true bad
    else
      let (d1, x) := d.dramRead .rpl s 64
      match x with
      | some bs => Dev.readLines d1 r (acc ++ [{ addr := BitVec.ofNat 40 t, data := bs, bad := false }]) den bad
      | none => Dev.readLines d1 r (acc ++ [{ addr := BitVec.ofNat 40 t, data := List.replicate 64 0, bad := true }]) den true

/-- Send a segment: one stream where every path carries MULTICAST, else a stream for each destination (R391). -/
def Dev.sendSegment (d : Dev) (x : Xch) (seg : XSeg) : Dev :=
  let ids := (x.dests.filter fun y => !y.closed && !y.acked).map (·.id)
  let whole := x.multicast && ids.all fun i => match d.member i with | some m => m.multi | none => false
  if whole then d.sayTo ids (.segment seg) else ids.foldl (fun y i => y.sayTo [i] (.segment seg)) d

/-- Read and send the present segment of a channel. -/
def Dev.runSegment (d : Dev) (c : Fin 8) (x : Xch) : Dev :=
  let (d1, ps, den, bad) := d.readLines x.lines [] x.denied x.poison
  let x1 := { x with denied := den, poison := bad }
  let seg : XSeg := { sender := d.ownId, chan := c, index := x.index, pieces := ps, last := x.atLast
                      fence := if x.atLast && !den then x.fence else none }
  (d1.setChan c.val (some x1)).sendSegment x1 seg

/-- X_STAT of a channel. -/
def Dev.xstat (d : Dev) (c : Nat) (busy : Bool) (result : Nat) : Dev := d.wrN .rpg 0 (xoff c Off.RPG_X_STAT) (busy.toNat + result * 2)

/-- The result of a transfer: the first that applies of ASLEEP, UNREACHABLE, DENIED, POISON and OK (R409). -/
def Xch.result (x : Xch) : Nat :=
  let has := fun k => x.dests.any fun y => y.result == k
  if has 6 then 6 else if has 4 then 4 else if has 3 || x.denied then 3 else if has 2 || x.poison then 2 else 1

/-- A transfer ends with a result (R409). -/
def Dev.xferEnd (d : Dev) (c result : Nat) : Dev :=
  ((d.setChan c none).xstat c false result).flag .rpg 0 (if result = 1 then 19 else 20)

/-- A channel goes on when every destination has acknowledged the present segment or is given up (R410). -/
def Dev.xferOn (d : Dev) (c : Fin 8) (x : Xch) : Dev :=
  if !(x.dests.all fun y => y.closed || y.acked) then d.setChan c.val (some x)
  else if x.atLast || x.dests.all (·.closed) then d.xferEnd c.val x.result
  else d.runSegment c { x with index := x.index + 1, dests := x.dests.map fun y => { y with acked := false, attempts := 1 } }

/-- The reason that rejects START (R407). -/
def Dev.xferReason (d : Dev) (c : Nat) (x : Xch) : Option Nat :=
  let fence := d.xaddr c Off.RPG_XFENCE_LO
  if (d.chan c).isSome then some 0xED
  else if !d.teamMember then some 0xE8
  else if d.moving then some 0x1A
  else if [x.src, x.dst, x.srcStride, x.dstStride, x.rowBytes].any (fun v => v % 64 != 0) || fence % 8 != 0
      || x.rowBytes == 0 || x.rows == 0 || [x.rowBytes, x.srcStride, x.dstStride].any (fun v => decide (2 ^ 20 < v))
      || (decide (1 < x.rows) && decide (x.srcStride < x.rowBytes ∨ x.dstStride < x.rowBytes))
      || decide (d.core.installed < x.src + (x.rows - 1) * x.srcStride + x.rowBytes)
      || (!x.multicast && (d.member (d.fld .rpg 0 (xoff c Off.RPG_XDEST) 0 14)).isNone) then some 0xEE
  else none

/-- The transfer that a channel's registers ask for: a destination out of reach or without bulk access is closed at once (R407, R409). -/
def Dev.xferPlan (d : Dev) (c : Nat) : Xch :=
  let dest := d.rd .rpg 0 (xoff c Off.RPG_XDEST)
  let multi := bitOf dest 24
  let ids := if multi then (d.members.filter fun m => m.groups &&& bitsOf dest 16 8 != 0).map (·.id) else [bitsOf dest 0 14]
  let val := (d.rd .rpg 0 (xoff c Off.RPG_XFVAL_LO)).toNat + (d.rd .rpg 0 (xoff c Off.RPG_XFVAL_HI)).toNat * 2 ^ 32
  { src := d.xaddr c Off.RPG_XSRC_LO, dst := d.xaddr c Off.RPG_XDST_LO
    srcStride := d.fld .rpg 0 (xoff c Off.RPG_XSRC_STRIDE) 0 21, dstStride := d.fld .rpg 0 (xoff c Off.RPG_XDST_STRIDE) 0 21
    rowBytes := d.fld .rpg 0 (xoff c Off.RPG_XROW_BYTES) 0 21, rows := d.fld .rpg 0 (xoff c Off.RPG_XROWS) 0 16
    fence := if bitOf dest 25 then some (BitVec.ofNat 40 (d.xaddr c Off.RPG_XFENCE_LO), BitVec.ofNat 64 val) else none
    multicast := multi
    dests := ids.map fun i => match d.member i with
      | some m => if m.bulk && d.reaches m then { id := i } else { id := i, result := 4, closed := true }
      | none => { id := i, result := 4, closed := true } }

/-- XFER_START of a channel (R407). -/
def Dev.xferStart (d : Dev) (r : Requester) (c : Fin 8) : Dev :=
  let d := d.hush
  let x := d.xferPlan c.val
  match d.xferReason c.val x with
  | some e => d.rpgReject r (xoff c.val Off.RPG_X_CTRL) e
  | none =>
    let d1 := (d.xstat c.val true 0).wrN .rpg 0 (xoff c.val Off.RPG_X_BYTES) 0
    if x.dests.all (·.closed) then d1.xferEnd c.val x.result else d1.runSegment c x

/-- XFER_ABORT of a channel (R409). -/
def Dev.xferAbort (d : Dev) (c : Nat) : Dev :=
  match d.chan c with
  | none => d
  | some x => (d.hush.sayTo ((x.dests.filter fun y => !y.closed).map (·.id)) (.transferAbort c)).xferEnd c 5

/-- XFER_ACK: a destination acknowledges a segment with its result so far (R409, R410). -/
def Dev.xferAck (d : Dev) (c : Fin 8) (id index result : Nat) : Dev :=
  let d := d.hush
  match d.chan c.val with
  | none => d
  | some x =>
    if x.index ≠ index ∨ !(x.dests.any fun y => y.id == id && !y.closed && !y.acked) then d
    else
      let lost := result == 4 || result == 6
      let x1 := x.onDest id fun y => { y with acked := true, result := if lost then result else max y.result result, closed := lost }
      let n := min 65536 (x.bytes - x.index * 65536)
      let d1 := if lost then d
        else d.wr .rpg 0 (xoff c.val Off.RPG_X_BYTES) (satWord ((d.rd .rpg 0 (xoff c.val Off.RPG_X_BYTES)).toNat + n))
      d1.xferOn c x1

/-- XFER_SEGMENT_TIMEOUT: 200 µs without an acknowledgement from a destination: the segment is sent again, or after 8 attempts the
destination is UNREACHABLE (R410). -/
def Dev.xferTimeout (d : Dev) (c : Fin 8) (id : Nat) : Dev :=
  let d := d.hush
  match d.chan c.val with
  | none => d
  | some x =>
    match x.dests.find? fun y => y.id == id && !y.closed && !y.acked with
    | none => d
    | some y =>
      if 8 ≤ y.attempts then
        d.xferOn c (x.onDest id fun z => { z with closed := true, result := 4 })
      else
        let d1 := d.runSegment c { x with dests := [y] }
        let x1 := x.onDest id fun z => { z with attempts := z.attempts + 1 }
        d1.setChan c.val ((d1.chan c.val).map fun z => { z with dests := x1.dests })

/-! Transfers that arrive (R408, R409) -/

/-- Writes of RPL still stalled. -/
def Dev.rplStalled (d : Dev) : Bool := d.stalled.any fun w => w.who == Requester.rpl

/-- The result of an arriving transfer so far. -/
def XRx.result (x : XRx) : Nat := if x.denied then 3 else if x.poison then 2 else 1

/-- Put back an arriving transfer. -/
def Dev.putRx (d : Dev) (x : XRx) : Dev :=
  d.onRope fun r => { r with rx := (r.rx.filter fun y => !(y.sender == x.sender && y.chan == x.chan)) ++ [x] }

/-- Write the pieces of a segment; answers whether any was dropped. -/
def Dev.writePieces (d : Dev) : List XPiece → Bool → Dev × Bool
  | [], den => (d, den)
  | p :: r, den =>
    let (d1, f) := d.dramWrite .rpl p.addr.toNat p.data p.bad
    Dev.writePieces d1 r (den || !(f == .landed || f == .stalled))

/-- XFER_SEGMENT at a destination: its bytes go through the RPL port, MWIN and the hold windows; it is acknowledged once they have been
written, the last one of a transfer with a fence after that fence (R408, R409). -/
def Dev.xferSegment (d : Dev) (s : XSeg) : Dev :=
  let d := d.hush
  if d.mode = 9 then d.sayTo [s.sender] (.segmentAck s.chan.val s.index 6)
  else
    let old := if s.index = 0 then none else d.rope.rx.find? fun y => y.sender == s.sender && y.chan == s.chan.val
    let x : XRx := old.getD { sender := s.sender, chan := s.chan.val }
    let (d1, den) := d.writePieces s.pieces x.denied
    let x1 := { x with denied := den, poison := x.poison || s.pieces.any (·.bad), last := s.last, fence := s.fence }
    if d1.rplStalled || (s.last && s.fence.isSome) then d1.putRx { x1 with owed := x1.owed ++ [s.index] }
    else (d1.putRx x1).sayTo [s.sender] (.segmentAck s.chan.val s.index x1.result)

/-- Acknowledge the segments of an arriving transfer that wait. -/
def Dev.ackOwed (d : Dev) (x : XRx) : Dev :=
  (x.owed.foldl (fun y i => y.sayTo [x.sender] (.segmentAck x.chan i x.result)) d).putRx { x with owed := [] }

/-- XFER_DEST_FENCE: every write of an arriving transfer has retired; a complete one that ended OK or POISON writes its fence (R409). -/
def Dev.xferFence (d : Dev) (sender chan : Nat) : Dev :=
  let d := d.hush
  match d.rope.rx.find? fun y => y.sender == sender && y.chan == chan with
  | none => d
  | some x =>
    if d.rplStalled then d
    else
      let lost := d.dropped.any fun y => y.1 == Requester.rpl
      let d1 := { d with dropped := d.dropped.filter fun y => y.1 != Requester.rpl }
      let x1 := { x with denied := x.denied || lost }
      match x1.fence with
      | none => d1.ackOwed x1
      | some (a, v) =>
        if !x1.last || x1.denied || x1.issued then d1.ackOwed { x1 with fence := none }
        else match d1.dramWrite .rpl a.toNat (leBytes 8 v.toNat) with
          | (d2, .landed) => d2.ackOwed { x1 with fence := none }
          | (d2, .stalled) => d2.putRx { x1 with issued := true }
          | (d2, _) => d2.ackOwed { x1 with fence := none, denied := true }

/-! Remote register accesses (R411) -/

/-- A remote access ends (R411). -/
def Dev.rregEnd (d : Dev) (result : Nat) (data : Option Word) : Dev :=
  let d1 := (d.wrN .rpg 0 Off.RPG_RREG_STAT (2 + result * 4)).onRope fun r => { r with rregAt := none }
  let d2 := match data with | some v => d1.wr .rpg 0 Off.RPG_RREG_DATA v | none => d1
  d2.flag .rpg 0 21

/-- RREG_GO (R411). -/
def Dev.rregGo (d : Dev) (r : Requester) : Dev :=
  let d := d.hush
  let ctrl := d.rd .rpg 0 Off.RPG_RREG_CTRL
  let id := bitsOf ctrl 0 14
  if d.rope.rregAt.isSome then d.rpgReject r Off.RPG_RREG_CMD 0xEF
  else if !d.teamMember then d.rpgReject r Off.RPG_RREG_CMD 0xE8
  else if id = d.ownId then d.rpgReject r Off.RPG_RREG_CMD 0xF0
  else
    let d1 := (d.wrN .rpg 0 Off.RPG_RREG_STAT 1).onRope fun y => { y with rregAt := some (id, d.now) }
    let ok := match d.member id with | some m => m.rreg && d.reaches m | none => false
    if ok then
      d1.sayTo [id] (.rregRequest (d.fld .rpg 0 Off.RPG_RREG_ADDR 2 22 * 4) (bitOf ctrl 16) (d.rd .rpg 0 Off.RPG_RREG_DATA))
    else d1.rregEnd 2 none

/-- RREG_REPLY: 0 OK with a read value, 1 DENIED, 2 UNREACHABLE, 4 ASLEEP (R411). -/
def Dev.rregReply (d : Dev) (result : Nat) (data : Word) : Dev :=
  if d.rope.rregAt.isNone then d
  else d.rregEnd result (if result = 0 ∧ !d.bit .rpg 0 Off.RPG_RREG_CTRL 16 then some data else none)

/-- RREG_TIMEOUT: no reply within 1 ms + 2 × PATH_MAX (R411). -/
def Dev.rregTimeout (d : Dev) : Dev :=
  match d.rope.rregAt with
  | none => d
  | some (_, t) => (d.advance (t + 1000000 + 2 * d.fld .rpg 0 Off.RPG_PATH_MAX 0 24)).rregEnd 3 none

/-! Cairn forwarding (R412, R413) -/

/-- Count a record that a hop's limit drops, by origin and source. -/
def Dev.hopDrop (d : Dev) (origin source seq : Nat) : Dev :=
  let l := d.rope.drops
  let l1 := if l.any fun x => x.origin == origin && x.source == source then
      l.map fun x => if x.origin = origin ∧ x.source = source then { x with last := seq, count := x.count + 1 } else x
    else l ++ [{ origin := origin, source := source, first := seq, last := seq, count := 1 }]
  (d.onRope fun r => { r with drops := l1 }).inc .rpg 0 Off.RPG_FWD_DROP

/-- The hop toward a device has CAIRN_FWD (bit 3) or CAIRN_SUMMARY (bit 5). -/
def Dev.hopHas (d : Dev) (id bit : Nat) : Bool :=
  match d.member id with
  | none => false
  | some m =>
    match (if (match m.primary with | some q => d.carries q | none => false) then m.primary else m.alternate) with
    | some q => d.carries q && decide (d.ropeCaps q / 2 ^ bit % 2 = 1)
    | none => false

/-- When the budget allows, a hop sends one summary of what it dropped (R413). -/
def Dev.hopSummary (d : Dev) (dst : Nat) : Dev :=
  match d.rope.drops with
  | [] => d
  | x :: r => if d.hopHas dst 5 then (d.sayTo [dst] (.summary x)).onRope fun y => { y with drops := r } else d

/-- Bytes of words, little-endian. -/
def wordBytes (l : List Word) : List (BitVec 8) := l.flatMap fun w => leBytes 4 w.toNat

/-- A record as it leaves its origin: its TIMESTAMP in team time, and TEAM_TIME set (R445). -/
def Dev.teamRec (d : Dev) (r : Rec) : Rec :=
  { r with time := BitVec.ofNat 64 ((r.time.toNat : Int) + d.rope.offset).toNat, info := r.info ||| 0x4000 }

/-- The record a hop sends next: safety-class records go first (R413). -/
def nextForward : List Rec → Option Rec
  | [] => none
  | r :: q => some (((r :: q).find? fun x => x.info.toNat / 8192 % 2 == 1).getD r)

/-- CAIRN_FORWARD (R412, R413, R445). -/
def Dev.cairnForward (d : Dev) (x : CairnStep) : Dev :=
  let d := d.hush
  let dst := d.fld .rpg 0 Off.RPG_FWD_CTRL 16 14
  match x with
  | .own budget =>
    match nextForward d.core.forwardQ with
    | none => d
    | some r =>
      let d1 := d.onCore fun c => { c with forwardQ := c.forwardQ.erase r }
      if !d.teamMember || dst == d.ownId || !d.hopHas dst 3 then d1
      else if budget then (d1.sayTo [dst] (.record d.ownId (wordBytes (d.teamRec r).words))).hopSummary dst
      else d1.hopDrop d.ownId (r.info.toNat % 1024) r.seq.toNat
  | .transit origin source seq budget => if budget then d.hopSummary dst else d.hopDrop origin source seq
  | .arrive origin bytes =>
    if !d.bit .rpg 0 Off.RPG_COLLECT_CTRL 0 || origin == d.ownId then d
    else
      let n := 2 ^ (16 + d.fld .rpg 0 Off.RPG_COLLECT_CTRL 1 4) / 32
      let w := d.rd .rpg 0 Off.RPG_COLLECT_WPTR
      let base := (d.rd .rpg 0 Off.RPG_COLLECT_BASE_LO).toNat + d.fld .rpg 0 Off.RPG_COLLECT_BASE_HI 0 8 * 2 ^ 32
      (d.dramWrite (.cpu 0) (base + 32 * (w.toNat % n)) (bytes.take 32)).1.wr .rpg 0 Off.RPG_COLLECT_WPTR (w + 1)

/-! Wake messages (R418) -/

/-- WAKE_SEND: RPG.ENUM_CMD.WAKE_SEND (R418, R421). -/
def Dev.wakeSend (d : Dev) (r : Requester) : Dev :=
  let d := d.hush
  if !d.teamMember then d.rpgReject r Off.RPG_ENUM_CMD 0xE8
  else
    let t := d.rd .rpg 0 Off.RPG_WAKE_TARGET
    let ids := if bitOf t 15 then (d.members.filter fun m => m.groups &&& bitsOf t 16 8 != 0).map (·.id) else [bitsOf t 0 14]
    d.sayTo ids (.wake (bitOf t 15) (bitsOf t 0 14) (bitsOf t 16 8))

end Sys2Proof.Machine
end

