-- ==== Sys2Proof/Machine/Power.lean ====
section
/-! DEFINITION. Mode requests and transitions, resets, voltage points and temperature ("Operating modes, power and reset", R498 to
R521). -/

namespace Sys2Proof.Machine

/-- A rejection on the PWR page (R520). -/
def Dev.pwrReject (d : Dev) (r : Requester) (off reason : Nat) : Dev :=
  (d.wrN .pwr 0 Off.PWR_PWR_REJECT reason).reject r .pwr 0 off reason

/-- MODE.RETURN (R502). -/
def Dev.returnMode (d : Dev) : Nat := d.fld .pwr 0 Off.PWR_MODE 8 4

/-! Device resets (R506) -/

/-- What a device reset leaves of the firmware's state: the boot flash and the fuses. -/
def Fw.kept (f : Fw) : Fw :=
  { staged := f.staged, record := f.record, setA := f.setA, setB := f.setB, fuses := f.fuses, revoked := f.revoked }

/-- A device reset: POWER_HOLD, every register but RESET_CAUSE at its reset value, both memories lost. A cause that arrives in
POWER_HOLD joins those of the reset under way (R506). -/
def Dev.hardReset (d : Dev) (causes : Nat) : Dev :=
  let all := if d.core.powerHold then bitsOf (d.rd .pwr 0 Off.PWR_RESET_CAUSE) 0 6 ||| causes else causes
  let e := { Dev.initial with fw := d.fw.kept }
  (e.onCore fun c => { c with free := d.core.free }).wrN .pwr 0 Off.PWR_RESET_CAUSE all

/-- SUPPLY_BROWNOUT: a rail below its bad level; the loss of VDDIO_18 itself loses RESET_CAUSE too (R504, R506). -/
def Dev.brownout (d : Dev) (first : Bool) : Dev :=
  if first then (d.hardReset 1).wrN .pwr 0 Off.PWR_RESET_CAUSE 1 else d.hardReset 2

/-- PORST (R506). -/
def Dev.pinReset (d : Dev) : Dev := d.hardReset 4

/-- A reset with cause SOFT (R506). -/
def Dev.softReset (d : Dev) : Dev := d.hardReset 8

/-- RESET_CMD (R506). -/
def Dev.resetCmd (d : Dev) (r : Requester) (v : Word) : Dev :=
  if bitsOf v 0 8 ≠ 0xB7 then d.pwrReject r Off.PWR_RESET_CMD 0x1F
  else if bitOf v 8 && !d.core.powerHold then d.softReset else d

/-- WATCHDOG_RESET; one in a restart trial ends the trial with cause SOFT beside it (R506, R545). -/
def Dev.watchdog (d : Dev) : Dev := d.hardReset (if d.fld .fwm 0 Off.FWM_FW_STAT 1 3 = 6 then 0x28 else 0x20)

/-- POWER_HOLD_RELEASE: the straps are sampled, MODE reads BOOT, and system PLL 1 begins its cold lock (R503, R505). -/
def Dev.release (d : Dev) (bootsel : Nat) (svcen : Bool) : Dev :=
  if !d.core.powerHold then d
  else
    let d1 := (d.onCore fun c => { c with powerHold := false }).setF .pwr 0 Off.PWR_RESET_CAUSE 8 3 (bootsel + svcen.toNat * 4)
    (d1.setB .svc 0 Off.SVC_SVC_STAT 0 svcen).coldLock 9

/-! Requests (R500, R511) -/

/-- MODE_STAT and the transition it shows (R501). -/
def Dev.setMove (d : Dev) (m : Option Move) (target : Nat) : Dev :=
  (d.wrN .pwr 0 Off.PWR_MODE_STAT (m.isSome.toNat + 16 * target)).onPower fun x =>
    { x with move := m, stopping := false, stopped := [], parked := [] }

/-- A FRAME page is armed for a stated frame number (R511). -/
def Dev.frameTargeted (d : Dev) : Bool :=
  d.arms.any fun x => match Page.ofSlot x.1, x.2 with
    | some (p, _), some a => decide (p.boundary = .frame) && d.targetedArm a
    | _, _ => false

/-- Why an entry into BIVOUAC or SHUTDOWN may not begin (R511). -/
def Dev.entryBarred (d : Dev) : Bool := d.frameTargeted || decide (d.fld .rpg 0 Off.RPG_TC_STAT 0 3 = 1)

/-- TRAIN_STAT.RESULT reads 5 or 6 (R336, R500). -/
def Dev.memoryFailed (d : Dev) : Bool := decide (5 ≤ d.fld .mcg 0 Off.MCG_TRAIN_STAT 0 3)

/-- The answer to a mode request: a reason, or whether it has an effect (R500, R511). -/
def Dev.modeAnswer (d : Dev) (t : Nat) : Except Nat Bool :=
  let m := d.mode
  if !([4, 5, 9, 10, 11].contains t) then .error 0x18
  else if d.moving then .error 0x1A
  else if m = 7 then .error 0x1A
  else if m < 4 ∨ 11 ≤ m then .error 0x19
  else if m = t ∨ (m = 6 ∧ t = 5) then .ok false
  else if m = 9 then (if t = 10 then .error 0x19 else .ok true)
  else if (m = 10 ∧ t = 9) ∨ (m = 8 ∧ (t = 9 ∨ t = 10)) then .error 0x19
  else if (m = 4 ∨ m = 10) ∧ (t = 5 ∨ t = 10) ∧ d.memoryFailed then .error 0x1B
  else if m = 8 ∧ (t = 4 ∨ t = 5) ∧ bitsOf (d.rd .safe 0 Off.SAFE_FAULT_STAT) 0 24 ≠ 0 then .error 0x39
  else if (t = 9 ∨ t = 11) ∧ d.entryBarred then .error 0x1C
  else .ok true

/-- READY, RUN and TEST are entered at once; RUN is RUN_DEGRADED while DEGRADE is not 0, and only then (R500 to R502). -/
def Dev.goMode (d : Dev) (t : Nat) : Dev :=
  let d1 := if d.mode = 8 then d.belayModeLeft else d
  d1.setMode (if t = 5 ∨ t = 6 then (if d.rd .pwr 0 Off.PWR_DEGRADE = 0 then 5 else 6) else t)

/-- The exit from BIVOUAC is requested: DDR5 and frame memory leave self-refresh as the clock relocks (R359, R514). -/
def Dev.startWake (d : Dev) (t : Nat) : Dev :=
  let d1 := d.setMove (some (.wake t)) t
  if d1.fld .mcg 0 Off.MCG_SR_STAT 0 2 = 2 then d1.srLeave else d1.unpark 8

/-- A mode request (R500, R501). -/
def Dev.modeReq (d : Dev) (r : Requester) (t : Nat) : Dev :=
  match d.modeAnswer t with
  | .error e => d.pwrReject r Off.PWR_MODE_REQ e
  | .ok false => d
  | .ok true =>
    if d.mode = 9 then d.startWake t
    else if t = 9 ∨ t = 11 then (d.setMove (some (.entry (t == 11))) t).moveStep
    else d.goMode t

/-! Entry into BIVOUAC and SHUTDOWN (R512, R516) -/

/-- Steps 3 and 4 are over: every running scene is stopped, no composition runs, and every port that had frames has ended. -/
def Dev.entryDone (d : Dev) : Bool :=
  d.power.stopping && ((List.range 4).all fun s => d.sceneStopped s && (d.scene s).comp.isNone) &&
    (List.range 8).all fun p => !d.portEnabled p || !(d.xp p).started || !(d.cad (d.portScene p)).going || d.power.parked.contains p

/-- DDR5 and frame memory enter self-refresh, and system PLL 0 parks (R358, R512). -/
def Dev.memorySleep (d : Dev) : Dev :=
  if !d.trained then d.park 8
  else if d.fld .mcg 0 Off.MCG_SR_STAT 0 2 = 2 then d else (d.setF .mcg 0 Off.MCG_SR_STAT 0 2 1).srEntered

/-- The port PLLs park (R279). -/
def Dev.parkPorts (d : Dev) : Dev := (List.range 8).foldl (fun x p => if x.pllState p = 5 then x else x.park p) d

/-- BIVOUAC_ENTERED: steps 5 to 8 (R512); a wake cause that came meanwhile, or is true now, wakes at once (R441, R515). -/
def Dev.bivouacEntered (d : Dev) : Dev :=
  let d0 := d.moveStep
  if d0.power.move ≠ some (.entry false) ∨ !d0.entryDone then d
  else
    let pins := d0.gpioWake
    let due := d0.power.wakeDue || decide (pins ≠ 0)
    let stat := if d0.power.wakeDue then (d0.rd .intc 0 Off.INTC_WAKE_STAT).toNat else 0
    let d1 := ((d0.stopCadences.ropeSleep).parkPorts).memorySleep
    let d2 := (d1.setMove none 0).onPower fun x => { x with biv := d1.now, wakeDue := false }
    let d3 := ((d2.wrN .intc 0 Off.INTC_WAKE_STAT (stat ||| pins)).setF .pwr 0 Off.PWR_BIV_STAT 0 16
      (d2.fld .pwr 0 Off.PWR_BIV_STAT 0 16 + 1)).setMode 9
    if due then d3.startWake d3.returnMode else d3

/-- WAKE_CAUSE: causes that are true, laid out as WAKE_STAT; an enabled one starts the return, or marks an entry under way (R441, R514,
R515). -/
def Dev.wakeCause (d : Dev) (causes : Nat) : Dev :=
  let l := causes &&& 0x3F00F
  let d1 := d.wrN .intc 0 Off.INTC_WAKE_STAT l
  if l &&& (d.rd .intc 0 Off.INTC_WAKE_CTRL).toNat = 0 then d
  else if d.mode = 9 ∧ !d.moving then
    let at_ := if l = 0x4000 then d1.advance (d.power.biv + 1000000 * (d.rd .intc 0 Off.INTC_WAKE_TIMER).toNat) else d1
    at_.startWake d.returnMode
  else if d.power.move = some (.entry false) then d1.onPower fun x => { x with wakeDue := true }
  else d

/-- A port starts again after BIVOUAC: its PLL relocks warm, and its transport starts (R514). -/
def Dev.wakePort (d : Dev) (p : Nat) : Dev :=
  if !d.portEnabled p then d
  else if d.pllState p = 5 then (d.setF .xpt p Off.XPT_LINK_STAT 0 20 1).unpark p
  else d.startLink p false

/-- The generators restart: the first tick is no boundary, and a TEAM scene loads its number there (R258, R514). -/
def Dev.wakeCadences (d : Dev) : Dev :=
  let d1 := d.startCadences
  let d2 := [0, 1, 2, 3].foldl (fun x s => x.setCad s { x.cad s with skipBoundary := x.timingRuns s, fresh := true }) d1
  d2.onRope fun r => { r with loadNext := [0, 1, 2, 3].filter fun s => decide (d2.fld .anch 0 (cadOff s Off.ANCH_CAD_CTRL) 1 2 = 3) }

/-- The destination of a return is entered: BELAY in its place where a DEVICE fault was latched meanwhile (R514, R515). -/
def Dev.wakeMode (d : Dev) (t : Nat) : Dev :=
  if d.safe.deviceDue then
    let back := d.returnMode
    ((d.onSafe fun x => { x with deviceDue := false }).putMode 8).setF .pwr 0 Off.PWR_MODE 8 4 back
  else d.goMode t

/-- BIVOUAC_RETURN_DONE: steps 5 to 7 of the return (R514); SHUTDOWN then begins its entry (R500). -/
def Dev.bivouacReturn (d : Dev) : Dev :=
  match d.power.move with
  | some (.wake t) =>
    let stay := d.now - d.power.biv
    let d1 := (d.setMove none 0).setF .pwr 0 Off.PWR_BIV_STAT 16 16 (min 0xFFFF (stay / 1000000000))
    let d2 := ((d1.onFw fun x => { x with slept := x.slept + stay }).ropeWake).wakeCadences
    let d3 := ((List.range 8).foldl Dev.wakePort d2).wakeMode (if t = 11 then d.returnMode else t)
    let d4 := if d.rd .intc 0 Off.INTC_WAKE_STAT ≠ 0 then d3.flag .intc 0 8 else d3
    if t = 11 then d4.setMove (some (.entry true)) 11 else d4
  | _ => d

/-- Step 5 of SHUTDOWN: each Rope port that is up sends a leave and goes DOWN (R516). -/
def Dev.leaveTeam (d : Dev) : Dev :=
  let l := (List.range 4).filter fun p => d.ropeState p == 2
  let d1 := l.foldl (fun x p => x.portDown p false) d
  d1.onRope fun r => { r with out := l.map fun p => (.port p, .leave) }

/-- Steps 7 and 8 of SHUTDOWN, once the settings are written (R516). -/
def Dev.shutDown (d : Dev) : Dev :=
  let d1 := ((d.stopCadences.parkPorts).memorySleep).park 8
  ((d1.setMove none 0).setMode 11).flag .pwr 0 13

/-! Voltage points (R507, R508) -/

/-- The timing of VP_CTRL.ALIGN_SCENE is stopped. -/
def Dev.vpStopped (d : Dev) : Bool :=
  let s := d.fld .pwr 0 Off.PWR_VP_CTRL 2 2
  !d.timingRuns s || !(d.cad s).going

/-- Step 4: BUSY clears, with VP_DONE or VP_FAIL. -/
def Dev.vpEnd (d : Dev) (point done : Bool) : Dev :=
  let d1 := ((d.setB .pwr 0 Off.PWR_VP_STAT 0 point).setB .pwr 0 Off.PWR_VP_STAT 1 false).onPower fun x => { x with vp := none }
  d1.flag .pwr 0 (if done then 9 else 10)

/-- A boundary of ALIGN_SCENE, or its stop, moves a change on: step 2, and the new or former point (R508). -/
def Dev.vpStep (d : Dev) : Dev :=
  match d.power.vp with
  | some v =>
    if v.step = 0 then
      let d1 := (d.setB .pwr 0 Off.PWR_VP_STAT 2 v.up).onPower fun x => { x with vp := some { v with step := 1 } }
      if v.up then d1 else d1.setB .pwr 0 Off.PWR_VP_STAT 0 false
    else if v.step = 2 then d.vpEnd v.up true
    else if v.step = 3 then d.vpEnd (!v.up) false else d
  | none => d

/-- A change is made at once while the timing is stopped (R508). -/
def Dev.vpIdle (d : Dev) : Dev := if d.vpStopped then d.vpStep else d

/-- A boundary of a scene, as voltage points see it. -/
def Dev.vpBoundary (d : Dev) (s : Nat) : Dev := if d.fld .pwr 0 Off.PWR_VP_CTRL 2 2 = s then d.vpStep else d

/-- A change of point begins (R508). -/
def Dev.vpBegin (d : Dev) (up : Bool) : Dev :=
  ((d.setB .pwr 0 Off.PWR_VP_STAT 1 true).onPower fun x => { x with vp := some { up := up } }).vpIdle

/-- VP_REQ (R507, R508, R510, R515). -/
def Dev.vpReq (d : Dev) (r : Requester) (high : Bool) : Dev :=
  if d.moving then d.pwrReject r Off.PWR_VP_REQ 0x1D
  else if !([4, 5, 6, 10].contains d.mode) then d.pwrReject r Off.PWR_VP_REQ 0x1E
  else if d.bit .pwr 0 Off.PWR_VP_STAT 1 then d.pwrReject r Off.PWR_VP_REQ 0x1D
  else if high && (!d.bit .pwr 0 Off.PWR_VP_CTRL 0 || d.bit .pwr 0 Off.PWR_DEGRADE 2) then d.pwrReject r Off.PWR_VP_REQ 0x1E
  else if d.bit .pwr 0 Off.PWR_VP_STAT 0 = high then d
  else d.vpBegin high

/-- VP_SETTLED: VDD_CORE has reached the target point (R508). -/
def Dev.vpSettled (d : Dev) : Dev :=
  match d.power.vp with
  | some v =>
    if v.step ≠ 1 then d
    else if v.up then (d.onPower fun x => { x with vp := some { v with step := 2 } }).vpIdle
    else d.vpEnd false true
  | none => d

/-- VP_RAMP_TIMEOUT: VDD_CORE has not settled within RAMP_LIMIT (R508). -/
def Dev.vpTimeout (d : Dev) : Dev :=
  match d.power.vp with
  | some v =>
    if v.step ≠ 1 then d
    else ((d.setB .pwr 0 Off.PWR_VP_STAT 2 (!v.up)).onPower fun x => { x with vp := some { v with step := 3 } }).vpIdle
  | none => d

/-- A write of VP_CTRL, with its limits; without VSEL_EN, CORE_VSEL is held low (R507, R519). -/
def Dev.vpCtrlWrite (d : Dev) (v : Word) : Dev :=
  let w := putBits (v &&& 0xFF0F) 8 8 (max 1 (min 100 (bitsOf v 8 8)))
  let d1 := d.wr .pwr 0 Off.PWR_VP_CTRL w
  (if bitOf w 0 then d1 else d1.setB .pwr 0 Off.PWR_VP_STAT 2 false).vpIdle

/-! Temperature and supplies (R509, R510) -/

/-- TWARN is reached: once per episode THERM_WARN is raised, and at the high point AUTO_DOWN lowers it (R510). -/
def Dev.thermWarn (d : Dev) : Dev :=
  if d.power.hot then d
  else
    let d1 := (d.onPower fun x => { x with hot := true }).flag .pwr 0 11
    if d1.bit .pwr 0 Off.PWR_VP_CTRL 1 && d1.bit .pwr 0 Off.PWR_VP_STAT 0 then
      (if d1.bit .pwr 0 Off.PWR_VP_STAT 1 then d1 else d1.vpBegin false).degrade 2
    else d1

/-- THERMAL_SAMPLE: the hottest sensor, in units of 0.25 °C (R509, R510). -/
def Dev.thermalSample (d : Dev) (tj : BitVec 12) (sensor : Nat) : Dev :=
  if d.core.powerHold then d
  else
    let v := tj.toInt
    let w := tj.toNat + sensor * 65536
    let most := !d.power.read || decide (signedOf (d.fld .pwr 0 Off.PWR_TEMP_MAX 0 12) 12 < v)
    let d1 := (d.wrN .pwr 0 Off.PWR_TEMP w).onPower fun x => { x with read := true }
    let d2 := if most then d1.wrN .pwr 0 Off.PWR_TEMP_MAX w else d1
    let warn : Int := 4 * (d.fld .pwr 0 Off.PWR_THERM_CTRL 0 8 : Nat)
    let cool : Int := warn - 4 * (d.fld .pwr 0 Off.PWR_THERM_CTRL 8 8 : Nat)
    if 480 ≤ v then d2.hardReset 0x10
    else if warn ≤ v then
      let d3 := d2.thermWarn
      if d3.mode = 9 then d3.wakeCause 0x20000 else d3
    else if v < cool ∧ d2.power.hot then (d2.onPower fun x => { x with hot := false }).undegrade 2
    else d2

/-- SUPPLY_SAMPLE: the rails, VDD_CORE, and SM24 where a limit is passed (R462, R504, R519). -/
def Dev.supplySample (d : Dev) (good coreMv : Nat) (bad : Bool) : Dev :=
  if d.core.powerHold then d
  else
    let d1 := (d.wrN .pwr 0 Off.PWR_SUPPLY_STAT good).setF .pwr 0 Off.PWR_VP_STAT 16 16 coreMv
    if bad then d1.fault 24 0 0 0 else d1

/-- The ports of an abandoned entry start their links again (R515). -/
def Dev.resumePorts (d : Dev) : Dev := d.power.restart.foldl Dev.wakePort (d.onPower fun x => { x with restart := [] })

end Sys2Proof.Machine
end

