-- ==== Sys2Proof/Machine/Bundle.lean ====
section
/-! DEFINITION. Image bundles: their layout and the checks of R530 and R531, and settings blocks ("Firmware, update and Base camp
recovery", R526 to R531, R548). -/

namespace Sys2Proof.Machine

/-- A little-endian field of a bundle. -/
def fieldAt (bs : List (BitVec 8)) (off n : Nat) : Nat := leNat ((bs.drop off).take n)

/-- Part of a bundle. -/
def partOf (bs : List (BitVec 8)) (off n : Nat) : List (BitVec 8) := (bs.drop off).take n

/-- A row of the component table (R527); DIGEST is kept with its first byte lowest. -/
def compAt (bs : List (BitVec 8)) (off : Nat) : FwComp :=
  { number := fieldAt bs off 1, ifMajor := fieldAt bs (off + 2) 1, ifMinor := fieldAt bs (off + 3) 1, stVer := fieldAt bs (off + 4) 1
    stMin := fieldAt bs (off + 5) 1, offset := fieldAt bs (off + 8) 4, length := fieldAt bs (off + 12) 4
    digest := BitVec.ofNat 384 (fieldAt bs (off + 16) 48) }

/-- An entry of the compatibility matrix (R528). -/
def needAt (bs : List (BitVec 8)) (off : Nat) : FwNeed :=
  { core := fieldAt bs off 1, peer := fieldAt bs (off + 1) 1, ifMajor := fieldAt bs (off + 2) 1, ifMinor := fieldAt bs (off + 3) 1 }

/-- The header and tables of a bundle (R526 to R528). -/
def imageOf (bs : List (BitVec 8)) : Image :=
  { secVer := fieldAt bs 24 1, keySlot := fieldAt bs 25 1, revokeLower := fieldAt bs 12 4 / 2 % 2 == 1
    setMinor := fieldAt bs 26 1, setMajor := fieldAt bs 27 1, version := BitVec.ofNat 32 (fieldAt bs 28 4)
    comps := (List.range (min 9 (fieldAt bs 32 1))).map fun i => compAt bs (fieldAt bs 40 4 + 64 * i)
    needs := (List.range (min 64 (fieldAt bs 33 1))).map fun i => needAt bs (fieldAt bs 44 4 + 8 * i) }

/-- A component of an image. -/
def Image.comp (m : Image) (k : Nat) : Option FwComp := m.comps.find? fun c => c.number == k

/-- The header is well formed (R526). -/
def headerOk (bs : List (BitVec 8)) : Bool :=
  bs.take 4 == [0x53#8, 0x4C#8, 0x4E#8, 0x59#8] && fieldAt bs 4 1 == 1 && decide (260 ≤ bs.length) && decide (bs.length ≤ 12582912)
    && fieldAt bs 36 4 == bs.length && fieldAt bs 48 4 + 196 == bs.length && decide (fieldAt bs 24 1 ≤ 64) && decide (fieldAt bs 25 1 ≤ 2)
    && fieldAt bs 32 1 == 9 && decide (fieldAt bs 33 1 ≤ 64)

/-- The component table is consistent (R527). -/
def tableOk (bs : List (BitVec 8)) : Bool :=
  let m := imageOf bs
  let sig := fieldAt bs 48 4
  decide (fieldAt bs 40 4 + 576 ≤ sig) && decide (fieldAt bs 44 4 + 8 * m.needs.length ≤ sig) &&
    ((List.range 9).all fun k => (m.comp k).isSome) && (m.comps.all fun c => decide (c.offset + c.length ≤ sig)) &&
    decide (((m.comps.filter fun c => c.number < 8).map FwComp.length).sum ≤ 4194304) &&
    m.comps.all fun c => decide (c.number < 8) || decide (c.length ≤ 524288)

/-- An entry of the matrix holds beside a set of components; a component that is absent breaks nothing (R528, R546). -/
def FwNeed.holds (n : FwNeed) (l : List FwComp) : Bool :=
  match l.find? fun c => c.number == n.peer with
  | some c => c.ifMajor == n.ifMajor && decide (n.ifMinor ≤ c.ifMinor)
  | none => true

/-- Every component digest matches (R530). -/
def digestsOk (bs : List (BitVec 8)) : Bool :=
  (imageOf bs).comps.all fun c => Config.sha384 (partOf bs c.offset c.length) == c.digest

/-- The signature block (R529): public key, then signature, in the last 196 bytes. -/
def publicKey (bs : List (BitVec 8)) : List (BitVec 8) := partOf bs (fieldAt bs 48 4) 97
/-- The signature. -/
def signatureOf (bs : List (BitVec 8)) : List (BitVec 8) := partOf bs (fieldAt bs 48 4 + 100) 96

/-- The checks of R530 on a bundle, by Rakin status: the first that fails, or OK. -/
def Dev.bundleStatus (d : Dev) (bs : List (BitVec 8)) : Nat :=
  let m := imageOf bs
  if !headerOk bs then 6
  else if fieldAt bs 8 4 ≠ 0x8440 then 7
  else if fieldAt bs 12 4 % 2 = 1 ∧ fieldAt bs 16 8 ≠ d.unitId then 8
  else if Config.sha384 (publicKey bs) ≠ Config.keyHash m.keySlot then 9
  else if d.fw.revoked.toNat / 2 ^ m.keySlot % 2 = 1 then 0xA
  else if !Config.ecdsaVerifies (publicKey bs) (Config.sha384 (bs.take (fieldAt bs 48 4))) (signatureOf bs) then 9
  else if !tableOk bs then 6
  else if !m.needs.all (·.holds m.comps) then 0x10
  else if !digestsOk bs then 0xD
  else 0

/-- The checks of R530 and then R531. -/
def Dev.stagedStatus (d : Dev) (bs : List (BitVec 8)) : Nat :=
  let s := d.bundleStatus bs
  if s = 0 ∧ (imageOf bs).secVer < d.fw.fuses then 0xB else s

/-! Settings blocks (R548, R549) -/

/-- The newest valid block, and whether it is block B. -/
def Fw.newest (f : Fw) : Option (Settings × Bool) :=
  match f.setA, f.setB with
  | some a, some b => if b.seq.toNat ≤ a.seq.toNat then some (a, false) else some (b, true)
  | some a, none => some (a, false)
  | none, some b => some (b, true)
  | none, none => none

/-- Write a settings block: the other block, with the next sequence number. -/
def Fw.putSettings (f : Fw) (body : Saved) : Fw :=
  let x := fun (seq : Word) => ({ seq := seq, major := f.image.setMajor, minor := f.image.setMinor, body := body } : Settings)
  match f.newest with
  | some (a, false) => { f with setB := some (x (a.seq + 1)) }
  | some (b, true) => { f with setA := some (x (b.seq + 1)) }
  | none => { f with setA := some (x 1) }

/-- The block that an image uses at a start, and whether the settings are reset to their defaults for a lower major version (R549). -/
def Fw.settingsAt (f : Fw) (major : Nat) : Option Bool × Bool :=
  match f.newest with
  | none => (none, false)
  | some (x, b) =>
    if x.major = major then (some b, false)
    else if x.major < major then (none, true)
    else match (if b then f.setA else f.setB) with
      | some y => if y.major = major then (some (!b), false) else (none, false)
      | none => (none, false)

/-- The block in use. -/
def Fw.inUse (f : Fw) : Option Settings :=
  match f.setUse with
  | some true => f.setB
  | some false => f.setA
  | none => none

/-- Whether a register belongs to the configuration that a block keeps: what software writes, on any page but FWM and SVC. -/
def savedReg (a : Nat) : Option Nat :=
  match Page.ofSlot (a / 4096) with
  | none => none
  | some (p, _) =>
    if p = .fwm ∨ p = .svc then none
    else if p.shadowed ∧ 0x900 ≤ a % 4096 then some (a - 0x800)
    else match p.desc (a % 4096) with
      | some x => if x.access = .im then some a else none
      | none => none

/-- The registers that a save keeps: the active configuration (R548). -/
def Dev.savedConfig (d : Dev) : List (Nat × Word) := d.core.regs.filterMap fun x => (savedReg x.1).map fun a => (a, x.2)

/-- The registers that the block in use configures at a start. -/
def Fw.config (f : Fw) : List (Nat × Word) :=
  match f.inUse with
  | none => []
  | some x => match x.body with
    | .config l _ => l
    | .bytes bs => Config.settingsConfig bs

/-- The power-on frame of the block in use. -/
def Fw.frame (f : Fw) : Option (Nat × List Word × List (BitVec 8)) :=
  match f.inUse with
  | none => none
  | some x => match x.body with
    | .config _ fr => fr
    | .bytes _ => none

/-- The bytes of a block behind its header, as SETTINGS_READ returns them. -/
def Saved.readBytes : Saved → List (BitVec 8)
  | .bytes bs => bs
  | .config l fr => Config.settingsBytes l (match fr with | some x => x.2.2 | none => [])

end Sys2Proof.Machine
end

