-- ==== Sys2Proof/Machine/Firmware.lean ====
section
/-! DEFINITION. Live activation, trials, fall-back and the mailbox ("Firmware, update and Base camp recovery", R522, R537 to R545, R551
to R554). -/

namespace Sys2Proof.Machine

/-- FW_STAT.TRIAL: 0 NONE, 1 HANDOVER, 2 TRIAL, 3 CONFIRMED, 4 FALLING_BACK, 5 FELL_BACK, 6 RESTART_TRIAL (R552). -/
def Dev.trial (d : Dev) : Nat := d.fld .fwm 0 Off.FWM_FW_STAT 1 3
/-- Set FW_STAT.TRIAL. -/
def Dev.setTrial (d : Dev) (v : Nat) : Dev := d.setF .fwm 0 Off.FWM_FW_STAT 1 3 v
/-- A trial runs. -/
def Dev.trialOn (d : Dev) : Bool := d.trial == 2 || d.trial == 6
/-- An activation, a trial or a fall-back runs. -/
def Dev.trialBusy (d : Dev) : Bool := d.trial == 1 || d.trial == 2 || d.trial == 4 || d.trial == 6

/-- STAGE_STAT.STATE: 0 EMPTY, 1 RECEIVING, 2 VERIFYING, 3 VALID, 4 INVALID, 5 TRIAL, 6 CONFIRMED, 7 REJECTED (R556). -/
def Dev.stage (d : Dev) : Nat := d.fld .svc 0 Off.SVC_STAGE_STAT 0 3

/-- The staging slot takes a state, noted in the recovery record first (R525). -/
def Dev.setStage (d : Dev) (st : Nat) (err : Nat := 0) : Dev :=
  (d.wrN .svc 0 Off.SVC_STAGE_STAT (st + err * 256)).onFw fun f => { f with record := { f.record with stage := st } }

/-- The staging slot becomes EMPTY. -/
def Dev.stageClear (d : Dev) : Dev :=
  ((d.setStage 0).wrN .svc 0 Off.SVC_STAGE_VER 0).onFw fun f =>
    { f with staged := [], record := { f.record with armed := none, begun := false } }

/-- A rejection on the FWM page, with its DETAIL (R538, R557). -/
def Dev.fwReject (d : Dev) (r : Requester) (off reason : Nat) (detail : Nat := 0) : Dev :=
  (d.wrN .fwm 0 Off.FWM_FW_REJECT (reason + detail * 256)).reject r .fwm 0 off reason

/-- The running image as FWM shows it: IMAGE_VER and SEC_STAT (R551). -/
def Dev.showImage (d : Dev) : Dev :=
  let m := d.fw.image
  (d.wr .fwm 0 Off.FWM_IMAGE_VER m.version).wrN .fwm 0 Off.FWM_SEC_STAT
    (m.secVer + d.fw.fuses * 256 + m.keySlot * 65536 + d.fw.revoked.toNat * 262144)

/-- A program or verify error of the boot flash (R537, R553). -/
def Dev.flashError (d : Dev) : Dev := (d.inc .svc 0 Off.SVC_FLASH_ERRS).flag .svc 0 14

/-! The mailbox (R553, R554) -/

/-- MBX_CTRL.SEND. A request sent before the switch of an activation waits for the new image (R540). -/
def Dev.mbxSend (d : Dev) (r : Requester) : Dev :=
  if d.bit .fwm 0 Off.FWM_MBX_STAT 0 then d.fwReject r Off.FWM_MBX_CTRL 0xF7
  else
    let held := match d.fw.hand with | some h => !h.back && !h.switched | none => false
    (d.wrN .fwm 0 Off.FWM_MBX_STAT (1 + r.id * 256)).onFw fun f =>
      { f with mbx := some { func := d.fld .fwm 0 Off.FWM_MBX_REQ 0 16, arg := d.rd .fwm 0 (Off.FWM_MBX_REQ + 4), held := held } }

/-- The firmware answers the request in progress, if it is the one named. -/
def Dev.mbxAnswer (d : Dev) (func : Nat) (f : Dev → Dev × Nat × List Word) : Dev :=
  match d.fw.mbx with
  | some m =>
    if m.func = func ∧ m.answer = none ∧ !m.held then
      let (d1, status, ws) := f d
      d1.onFw fun x => { x with mbx := some { m with answer := some (status, ws) } }
    else d
  | none => d

/-- GET_INFO: versions of the running image, of the interface, and of each component. -/
def Dev.getInfo (d : Dev) : Dev × Nat × List Word :=
  (d, 0, [d.fw.image.version, d.rd .fwm 0 Off.FWM_API_VER] ++ (List.range 9).map fun k =>
    match d.fw.image.comp k with
    | some c => BitVec.ofNat 32 (c.ifMajor + c.ifMinor * 256 + c.stVer * 65536)
    | none => 0)

/-- An entry holds a frame that a block can keep: a valid Belay frame, not BAD, of at most 12,441,600 bytes (R553, R554). -/
def Dev.frameKept (d : Dev) (e : Nat) : Bool :=
  d.belayEntry e && !d.bit .fmem 0 (Off.FMEM_ENT_DESC + 16 * e) 16 && decide (d.entW e * d.entH e * 6 ≤ 12441600)

/-- The four words and the bytes of an entry. -/
def Dev.frameOf (d : Dev) (e : Nat) : Nat × List Word × List (BitVec 8) :=
  (e, [Off.FMEM_ENT_BASE, Off.FMEM_ENT_SIZE, Off.FMEM_ENT_DESC, Off.FMEM_ENT_DIM].map (fun o => d.rd .fmem 0 (o + 16 * e)),
   readBytes d.fm (d.entAddr e) (d.entW e * d.entH e * 6))

/-- A settings block is written: SETTINGS_SAVED (R556). -/
def Dev.putSettings (d : Dev) (body : Saved) : Dev := (d.onFw (·.putSettings body)).flag .svc 0 15

/-- The body of a save: the active configuration and the selected frame, if it can still be kept (R548, R554). -/
def Dev.saveBody (d : Dev) : Saved :=
  .config d.savedConfig (match d.fw.frameSel with | some e => if d.frameKept e then some (d.frameOf e) else none | none => none)

/-- SAVE_SETTINGS; a frame that can no longer be kept is left out, and a Cairn record names its entry (R554). -/
def Dev.saveSettings (d : Dev) (flashOk : Bool) : Dev × Nat × List Word :=
  if d.trialOn then (d, 3, [])
  else if !flashOk then (d.flashError, 4, [])
  else match d.fw.frameSel with
    | some e =>
      if d.frameKept e then (d.putSettings d.saveBody, 0, [0])
      else (((d.putSettings d.saveBody).onFw fun f => { f with frameSel := none }).onCore
        (·.record 887 0xFF (BitVec.ofNat 32 e) 0 0 0), 0, [1])
    | none => (d.putSettings d.saveBody, 0, [0])

/-- LOAD_DEFAULTS: a block of defaults, used from the next start. -/
def Dev.loadDefaults (d : Dev) (flashOk : Bool) : Dev × Nat × List Word :=
  if d.trialOn then (d, 3, []) else if !flashOk then (d.flashError, 4, []) else (d.putSettings (.config [] none), 0, [])

/-- SETTINGS_INFO: the block in use (0 A, 1 B, 2 defaults), its sequence and its format version. -/
def Dev.settingsInfo (d : Dev) : Dev × Nat × List Word :=
  match d.fw.inUse with
  | some x => (d, 0, [BitVec.ofNat 32 (d.fw.setUse == some true).toNat, x.seq, BitVec.ofNat 32 (x.minor + x.major * 256)])
  | none => (d, 0, [2, 0, BitVec.ofNat 32 (d.fw.image.setMinor + d.fw.image.setMajor * 256)])

/-- SET_POWERON_FRAME (R553). -/
def Dev.setPoweron (d : Dev) (arg : Word) : Dev × Nat × List Word :=
  if arg = 0x3F then (d.onFw fun f => { f with frameSel := none }, 0, [])
  else if arg.toNat < 0x3F ∧ d.frameKept arg.toNat then (d.onFw fun f => { f with frameSel := some arg.toNat }, 0, [])
  else (d, 2, [])

/-- STAGED_INFO: the header and the component table, as far as the response's 252 bytes hold them. -/
def Dev.stagedInfo (d : Dev) : Dev × Nat × List Word :=
  let bs := d.fw.staged
  (d, 0, (wordsOf (partOf bs 0 64 ++ partOf bs (fieldAt bs 40 4) 576)).take 63)

/-- FALLBACK_LOG: the eight most recent fall-backs, newest first. -/
def Dev.fallbackLog (d : Dev) : Dev × Nat × List Word :=
  (d, 0, (d.fw.falls.take 8).flatMap fun x =>
    [BitVec.ofNat 32 x.time, BitVec.ofNat 32 (x.time / 2 ^ 32), BitVec.ofNat 32 x.cause, x.version])

/-- The request in progress, whatever it is. -/
def Dev.mbxRun (d : Dev) : Dev :=
  match d.fw.mbx with
  | none => d
  | some m =>
    match m.func with
    | 1 => d.mbxAnswer 1 Dev.getInfo
    | 2 => d.mbxAnswer 2 fun x => x.saveSettings true
    | 3 => d.mbxAnswer 3 fun x => x.loadDefaults true
    | 4 => d.mbxAnswer 4 Dev.settingsInfo
    | 5 => d.mbxAnswer 5 fun x => x.setPoweron m.arg
    | 6 => d.mbxAnswer 6 Dev.stagedInfo
    | 7 => d.mbxAnswer 7 Dev.fallbackLog
    | n => d.mbxAnswer n fun x => (x, 1, [])

/-- The argument of the request in progress. -/
def Dev.mbxArg (d : Dev) : Word := match d.fw.mbx with | some m => m.arg | none => 0

/-- A request for a function that the table of R553 does not hold: UNKNOWN_FUNC. -/
def Dev.mbxUnknown (d : Dev) : Dev :=
  match d.fw.mbx with
  | some m => if 1 ≤ m.func ∧ m.func ≤ 7 then d else d.mbxAnswer m.func fun x => (x, 1, [])
  | none => d

/-- MBX_DONE: the response is ready (R553). -/
def Dev.mbxDone (d : Dev) : Dev :=
  match d.fw.mbx with
  | some m => match m.answer with
    | some (status, ws) =>
      let d1 := d.onCore (·.wrList .fwm 0 Off.FWM_MBX_RSP (BitVec.ofNat 32 (status + 4 * ws.length * 65536) :: ws.take 63))
      ((d1.setF .fwm 0 Off.FWM_MBX_STAT 0 2 2).onFw fun f => { f with mbx := none }).flag .fwm 0 15
    | none => d
  | none => d

/-- A held request may be answered. -/
def Dev.mbxRelease (d : Dev) : Dev := d.onFw fun f => { f with mbx := f.mbx.map fun m => { m with held := false } }

/-! Handover of the cores (R539, R544) -/

/-- Scenes with a running cadence, whose sequencers switch at boundaries. -/
def Dev.runScenes (d : Dev) : List Nat := [0, 1, 2, 3].filter d.timingRuns

/-- MODE returns to the mode that the handover left; RUN and RUN_DEGRADED follow DEGRADE (R502). -/
def Dev.handHome (d : Dev) (h : Handover) : Dev :=
  match h.home with
  | some m => if d.mode = 7 then d.setMode (if m = 5 ∨ m = 6 then (if d.rd .pwr 0 Off.PWR_DEGRADE = 0 then 5 else 6) else m) else d
  | none => d

/-- HANDOVER_TIME: ms of the latest activation or fall-back. -/
def Dev.handTime (d : Dev) (h : Handover) : Dev := d.wrN .fwm 0 Off.FWM_HANDOVER_TIME (min 0xFFFF ((d.now - h.since) / 1000000))

/-- Set the handover. -/
def Dev.setHand (d : Dev) (h : Option Handover) : Dev := d.onFw fun f => { f with hand := h }

/-- Why an activation may not start: ACT_STATE, or ACT_COMPAT with its DETAIL (R538). -/
def Dev.actReason (d : Dev) : Option (Nat × Nat) :=
  if !([4, 5, 6].contains d.mode) ∨ d.moving ∨ d.stage ≠ 3 ∨ !([0, 3, 5].contains d.trial) then some (0xF8, 0)
  else
    let old := d.fw.image
    let new := imageOf d.fw.staged
    let same := fun (f : FwComp → Nat) k => (old.comp k).map f == (new.comp k).map f
    if !([5, 6, 7].all (same fun c => c.digest.toNat)) then some (0xF9, 1)
    else if !(List.range 9).all (same FwComp.ifMajor) || !new.needs.all (·.holds (old.comps.filter fun c => decide (5 ≤ c.number ∧ c.number ≤ 7)))
      then some (0xF9, 2)
    else if (List.range 5).any fun k => match new.comp k, old.comp k with
      | some n, some o => decide (o.stVer < n.stMin)
      | _, _ => false then some (0xF9, 3)
    else if new.setMajor ≠ old.setMajor then some (0xF9, 4)
    else none

/-- Step 1 of a live activation (R539). -/
def Dev.actBegin (d : Dev) : Dev :=
  let h : Handover := { back := false, since := d.now, former := d.trial, home := some d.mode }
  ((((d.setMode 7).setTrial 1).setF .fwm 0 Off.FWM_FW_STAT 4 2 0).setHand (some h)).flag .fwm 0 8

/-- FW_CMD.ACTIVATE. -/
def Dev.activate (d : Dev) (r : Requester) : Dev :=
  match d.actReason with
  | some (e, detail) => d.fwReject r Off.FWM_FW_CMD e detail
  | none => d.actBegin

/-- Step 5: the trial begins (R539). -/
def Dev.actDone (d : Dev) (h : Handover) : Dev :=
  let d1 := ((((d.setHand none).setTrial 2).setF .fwm 0 Off.FWM_FW_STAT 8 8 0xFF).setStage 5).handTime h
  (((d1.onFw fun f => { f with trialAt := d.now, slept := 0, expiring := false }).flag .fwm 0 9)).handHome h

/-- Step 3: the system controller, components 5 to 7 and the sequencers of stopped scenes switch; a mailbox request in progress is
completed first (R539). -/
def Dev.actSwitch (d : Dev) (h : Handover) : Dev :=
  let d1 := (d.mbxRun.mbxDone).mbxRelease
  let l := d1.runScenes
  let bits := (([0, 1, 2, 3].filter fun s => !l.contains s).map fun s => 2 ^ (s + 1)).sum
  let d2 := (d1.onFw fun f => { f with image := imageOf f.staged, other := some f.image }).showImage
  let d3 := d2.setF .fwm 0 Off.FWM_FW_STAT 8 8 (0xE1 + bits)
  if l.isEmpty then d3.actDone h else d3.setHand (some { h with switched := true, left := l.map fun s => (s, 0) })

/-- Step 4 of a fall-back (R544). -/
def Dev.fallDone (d : Dev) (h : Handover) : Dev :=
  let x : Fallen := { time := d.now, cause := d.fld .fwm 0 Off.FWM_FALLBACK_INFO 0 4, version := (imageOf d.fw.staged).version }
  let d1 := ((((d.setHand none).setTrial 5).setF .fwm 0 Off.FWM_FW_STAT 8 8 0).setStage 7).handTime h
  ((d1.onFw fun f => { f with falls := x :: f.falls.take 7, other := none, record := { f.record with cause := x.cause } }).flag
    .fwm 0 11).handHome h

/-- A sequencer of a scene switches. -/
def Dev.seqSwitch (d : Dev) (h : Handover) (s : Nat) : Dev :=
  let d1 := d.setB .fwm 0 Off.FWM_FW_STAT (9 + s) (!h.back)
  let h1 := { h with left := h.left.filter fun x => x.1 != s }
  if h1.left.isEmpty then (if h.back then d1.fallDone h1 else d1.actDone h1) else d1.setHand (some h1)

/-- A scene whose cadence no longer runs switches with the rest, and the switch of step 3 comes at once where none runs (R539). -/
def Dev.handSettle (d : Dev) : Dev :=
  match d.fw.hand with
  | some h =>
    if h.loading then d
    else if !h.back && !h.switched then (if d.runScenes.isEmpty then d.actSwitch h else d)
    else match h.left.find? fun x => !d.timingRuns x.1 with
      | some x => d.seqSwitch h x.1
      | none => d
  | none => d

/-- A boundary of a scene, as a handover sees it (R539 steps 3 and 4, R544 step 3). -/
def Dev.fwBoundary (d : Dev) (s : Nat) : Dev :=
  match d.fw.hand with
  | some h =>
    if h.loading then d
    else if !h.back && !h.switched then (if d.runScenes.head? = some s then d.actSwitch h else d)
    else match h.left.find? fun x => x.1 == s with
      | some x =>
        if h.back || (d.buildsOf s).isEmpty || decide (7 ≤ x.2) then d.seqSwitch h s
        else d.setHand (some { h with left := h.left.map fun y => if y.1 = s then (s, y.2 + 1) else y })
      | none => d
  | none => d

/-- STANDBY_BANK_LOADED: the bundle, read again, passes or activation is abandoned (R539 step 2). -/
def Dev.bankLoaded (d : Dev) (flashOk : Bool) : Dev :=
  match d.fw.hand with
  | some h =>
    if h.back || !h.loading then d
    else
      let status := if flashOk then d.bundleStatus d.fw.staged else 0xE
      if status = 0 then (d.setHand (some { h with loading := false })).handSettle
      else (((((d.setHand none).setTrial h.former).setStage 4 status).mbxRelease).flag .fwm 0 13).handHome h
  | none => d

/-! Trials (R541 to R543, R545) -/

/-- Time of the trial, ns: it does not run in BIVOUAC (R541). -/
def Dev.trialTime (d : Dev) : Nat := d.now - d.fw.trialAt - d.fw.slept - (if d.mode = 9 then d.now - d.power.biv else 0)

/-- WINDOW in ns. -/
def Dev.trialWindow (d : Dev) : Nat := d.fld .fwm 0 Off.FWM_TRIAL_CTRL 0 16 * 1000000000

/-- TRIAL_LEFT, s. -/
def Dev.trialLeft (d : Dev) : Nat :=
  if d.trialOn then d.fld .fwm 0 Off.FWM_TRIAL_CTRL 0 16 - d.trialTime / 1000000000 else 0

/-- A trial falls back (R543, R544); a restart trial ends with a device reset instead (R545). -/
def Dev.fallBack (d : Dev) (cause : Nat) : Dev :=
  if d.trial = 6 then (d.onFw fun f => { f with record := { f.record with cause := cause } }).softReset
  else
    let h : Handover := { back := true, since := d.now, former := 2, home := if d.moving ∨ d.mode = 9 then none else some d.mode }
    let d1 := ((d.setTrial 4).wrN .fwm 0 Off.FWM_FALLBACK_INFO cause).setHand (some h)
    if h.home.isSome then d1.setMode 7 else d1

/-- The window of a running trial has expired. -/
def Dev.trialExpired (d : Dev) : Bool := decide (d.trialWindow ≤ d.trialTime)

/-- FALLBACK_STATE_SAVED (R544 steps 2 and 3). -/
def Dev.fallSaved (d : Dev) (responsive : Bool) : Dev :=
  match d.fw.hand with
  | some h =>
    if !h.back || !h.loading then d
    else
      let l := d.runScenes
      let d1 := (d.setB .fwm 0 Off.FWM_FALLBACK_INFO 4 (!responsive)).setF .fwm 0 Off.FWM_FW_STAT 8 8 ((l.map fun s => 2 ^ (s + 1)).sum)
      let d2 := (d1.onFw fun f => { f with image := f.other.getD f.image }).showImage
      let h1 := { h with loading := false, switched := true, left := l.map fun s => (s, 0) }
      if l.isEmpty then d2.fallDone h1 else d2.setHand (some h1)
  | none => d

/-- A confirmation (R542): the record, the fuses and revoked slots, CONFIRMED, and the new bank active. -/
def Dev.confirmed (d : Dev) : Dev :=
  let live := d.trial == 2
  let m := d.fw.image
  let d1 := (d.setStage 6).onFw fun f =>
    { f with fuses := max f.fuses m.secVer, revoked := if m.revokeLower then f.revoked ||| BitVec.ofNat 3 (2 ^ m.keySlot - 1) else f.revoked
             record := { f.record with armed := none, begun := false } }
  let d2 := (d1.showImage.setTrial 3).flag .fwm 0 10
  if live then (d2.setB .fwm 0 Off.FWM_FW_STAT 0 (!d2.bit .fwm 0 Off.FWM_FW_STAT 0)).setF .fwm 0 Off.FWM_FW_STAT 8 8 0 else d2

/-- HEALTH_CONFIRM.CONFIRM (R541). -/
def Dev.confirm (d : Dev) (r : Requester) : Dev :=
  if !r.isCpu then d.fwReject r Off.FWM_HEALTH_CONFIRM 0xFB
  else if !d.trialOn then d.fwReject r Off.FWM_HEALTH_CONFIRM 0xFA
  else if d.trialExpired then (d.fwReject r Off.FWM_HEALTH_CONFIRM 0xFA).fallBack 1
  else if !d.bit .fwm 0 Off.FWM_FW_STAT 4 || (d.bit .fwm 0 Off.FWM_TRIAL_CTRL 16 && !d.bit .fwm 0 Off.FWM_FW_STAT 5) then d
  else d.confirmed

/-- HEALTH_CONFIRM.FAIL (R543). -/
def Dev.healthFail (d : Dev) (r : Requester) : Dev :=
  if !r.isCpu then d.fwReject r Off.FWM_HEALTH_CONFIRM 0xFB
  else if !d.trialOn then d.fwReject r Off.FWM_HEALTH_CONFIRM 0xFA else d.fallBack 3

/-- FW_CMD.APPROVE (R541). -/
def Dev.approve (d : Dev) (r : Requester) : Dev :=
  if !d.trialOn then d.fwReject r Off.FWM_FW_CMD 0xFA
  else if d.trialExpired then (d.fwReject r Off.FWM_FW_CMD 0xFA).fallBack 1
  else d.setB .fwm 0 Off.FWM_FW_STAT 5 true

/-- FW_CMD.REJECT (R543). -/
def Dev.rejectTrial (d : Dev) (r : Requester) : Dev := if d.trialOn then d.fallBack 2 else d.fwReject r Off.FWM_FW_CMD 0xFA

/-- Why a restart trial may not be armed (R545). -/
def Dev.restartBarred (d : Dev) : Bool := decide (d.stage ≠ 3) || d.trialBusy

/-- The staged bundle is armed for a trial at the next start, with the present TRIAL_CTRL (R545). -/
def Dev.restartArm (d : Dev) : Dev :=
  (d.setStage 5).onFw fun f => { f with record := { f.record with armed := some (d.rd .fwm 0 Off.FWM_TRIAL_CTRL), begun := false } }

/-- FW_CMD.RESTART_TRIAL. -/
def Dev.restartTrial (d : Dev) (r : Requester) : Dev := if d.restartBarred then d.fwReject r Off.FWM_FW_CMD 0xF8 else d.restartArm

/-- FW_CMD.DISCARD (R552, R557). -/
def Dev.discard (d : Dev) (r : Requester) : Dev := if d.trialBusy then d.fwReject r Off.FWM_FW_CMD 0xF8 else d.stageClear

/-- A write of TRIAL_CTRL; during a trial TRIAL_LEFT follows, and a window that has passed expires at once (R541, R552). -/
def Dev.trialCtrlWrite (d : Dev) (v : Word) : Dev :=
  let d1 := d.wr .fwm 0 Off.FWM_TRIAL_CTRL (putBits (v &&& 0x1FFFF) 0 16 (max 10 (bitsOf v 0 16)))
  if !d1.trialOn then d1
  else if d1.trialExpired then d1.fallBack 1
  else d1.onFw fun f => { f with expiring := f.expiring && decide (d1.trialLeft ≤ 60) }

/-- SELF_CHECK_PASS (R541). -/
def Dev.selfCheck (d : Dev) : Dev := if d.trialOn then d.setB .fwm 0 Off.FWM_FW_STAT 4 true else d

/-- When the trial will have `left` ns to go. -/
def Dev.trialInstant (d : Dev) (left : Nat) : Nat := d.fw.trialAt + d.fw.slept + (d.trialWindow - left)

/-- TRIAL_EXPIRING: 60 s are left (R552). -/
def Dev.trialExpiring (d : Dev) : Dev :=
  if !d.trialOn || d.fw.expiring || d.mode == 9 || decide (d.trialWindow < 60000000000) then d
  else ((d.advance (d.trialInstant 60000000000)).onFw fun f => { f with expiring := true }).flag .fwm 0 12

/-- TRIAL_WINDOW_EXPIRY: TRIAL_LEFT reaches 0 (R543). -/
def Dev.trialExpiry (d : Dev) : Dev := if !d.trialOn || d.mode == 9 then d else (d.advance (d.trialInstant 0)).fallBack 1

/-- UNRESPONSIVE: a core of the new image did not answer for 100 ms (R543). -/
def Dev.unresponsive (d : Dev) : Dev := if !d.trialOn || d.mode == 9 then d else d.fallBack 4

/-- SHUTDOWN_READY: steps 5 to 8, with the changed settings written but during a trial, which a Cairn record tells (R516, R541). -/
def Dev.shutdownReady (d : Dev) (flashOk : Bool) : Dev :=
  let d0 := d.moveStep
  if d0.power.move ≠ some (.entry true) ∨ !d0.entryDone then d
  else
    let d1 := d0.leaveTeam
    let changed := match d1.fw.inUse with | some x => x.body != d1.saveBody | none => true
    let d2 := if d1.trialOn then d1.onCore (·.record 887 0xFF 0 0 0 0)
      else if !changed then d1 else if flashOk then d1.putSettings d1.saveBody else d1.flashError
    d2.shutDown

end Sys2Proof.Machine
end

