-- ==== Sys2Proof/Machine/Rakin.lean ====
section
/-! DEFINITION. The start of the device, the service port with its Rakin commands, and Base camp ("Firmware, update and Base camp
recovery", R524, R532 to R537, R546 to R550, R555). -/

namespace Sys2Proof.Machine

/-! The start (R505, R524, R547, R549, R550) -/

/-- BOOT_STAT. -/
def Dev.bootStat (d : Dev) (from_ copied discarded cause copyS : Nat) : Dev :=
  d.wrN .svc 0 Off.SVC_BOOT_STAT (from_ + copied * 4 + discarded * 8 + cause * 16 + min copyS 0xFFFF * 65536)

/-- The device enters BASE_CAMP for a cause; a request is cleared from the record (R550). -/
def Dev.baseCamp (d : Dev) (cause : Nat) : Dev :=
  let d1 := d.onFw fun f => { f with authority := cause == 5, record := { f.record with request := false } }
  ((d1.setF .svc 0 Off.SVC_BOOT_STAT 0 2 2).setF .svc 0 Off.SVC_BOOT_STAT 4 4 cause).setMode 2

/-- The running image compares its settings format with the blocks (R549). -/
def Dev.takeSettings (d : Dev) : Dev :=
  let (b, reset) := d.fw.settingsAt d.fw.image.setMajor
  let d1 := d.onFw fun f => { f with setUse := b }
  let d2 := (d1.setB .svc 0 Off.SVC_BOOT_STAT 8 (b == some true)).setB .svc 0 Off.SVC_BOOT_STAT 9 b.isNone
  if reset then d2.flag .fwm 0 14 else d2

/-- TRAINING is entered with an image loaded (R335): scene frame numbers are 0, and the Rope ports start. A BOOTSEL of 0b11 is recorded
(R502). -/
def Dev.startImage (d : Dev) (m : Image) : Dev :=
  let d1 := ((d.onFw fun f => { f with image := m }).showImage.takeSettings).setF .mcg 0 Off.MCG_TRAIN_STAT 0 3 1
  let d2 := [0, 1, 2, 3].foldl (fun x s => x.setCad s { x.cad s with frame := 0 }) d1
  let d3 := if d2.fld .pwr 0 Off.PWR_RESET_CAUSE 8 2 = 3 then d2.onCore (·.record 16 0xFF 0 0 0 0) else d2
  (d3.setMode 3).ropeStart

/-- The active slot boots, or its failure leads to Base camp (R530, R531, R547, R550). -/
def Dev.bootActive (d : Dev) (m : Option Image) : Dev :=
  match m with
  | none => d.baseCamp 3
  | some m => if m.secVer < d.fw.fuses then d.baseCamp 4 else d.startImage m

/-- The trial of a bundle that boots from the staging slot (R545). -/
def Dev.bootTrial (d : Dev) (ctrl : Word) : Dev :=
  let d1 := (d.wr .fwm 0 Off.FWM_TRIAL_CTRL ctrl).onFw fun f =>
    { f with record := { f.record with begun := true }, trialAt := d.now, slept := 0, expiring := false }
  ((d1.bootStat 1 0 0 0 0).setTrial 6).startImage (imageOf d.fw.staged)

/-- FIRMWARE_LOADED: the ROM acts on the recovery record (R547), and loads firmware or enters Base camp (R502, R550). -/
def Dev.firmwareLoaded (d : Dev) (b : BootReport) : Dev :=
  if d.mode ≠ 1 then d
  else
    let st := d.fw.record.stage
    let d1 := (d.wrN .svc 0 Off.SVC_FLASH_INFO (b.flash.val + (if b.flash.val = 0 then 7 else if b.flash.val = 1 then 71 else 199) * 65536)).wrN
      .svc 0 Off.SVC_STAGE_STAT st
    let d2 := if st = 0 then d1 else d1.wr .svc 0 Off.SVC_STAGE_VER (imageOf d.fw.staged).version
    if d2.fld .pwr 0 Off.PWR_RESET_CAUSE 8 2 = 1 then d2.baseCamp 1
    else if !b.header then d2.baseCamp 2
    else if d2.fw.record.request then d2.baseCamp 5
    else if st = 6 then
      ((d2.bootStat 0 1 0 0 b.copyS).stageClear).bootActive (some (imageOf d.fw.staged))
    else match st, d2.fw.record.armed, d2.fw.record.begun with
      | 5, some ctrl, false => d2.bootTrial ctrl
      | 3, _, _ | 5, _, _ => ((d2.bootStat 0 0 1 0 0).stageClear).bootActive b.active
      | 1, _, _ | 2, _, _ => ((d2.bootStat 0 0 0 0 0).stageClear).bootActive b.active
      | _, _, _ => (d2.bootStat 0 0 0 0 0).bootActive b.active

/-! The service port (R532, R533, R577) -/

/-- SVC_STAT.WRITE_OK (R532). -/
def Dev.writeOk (d : Dev) : Bool :=
  d.bit .svc 0 Off.SVC_SVC_STAT 0 || d.bit .svc 0 Off.SVC_SVC_CTRL 0 ||
    (d.mode == 2 && (decide (d.fld .pwr 0 Off.PWR_RESET_CAUSE 8 2 = 1) || d.fw.authority))

/-- A response (R533): its header of four words, then the payload. -/
def Dev.respond (d : Dev) (op : Nat) (tag : Word) (status : Nat) (ws : List Word) : Dev :=
  d.answer ([BitVec.ofNat 32 (op + 0x8000 + status * 65536), tag, BitVec.ofNat 32 (4 * ws.length),
    crc32 (ws.flatMap fun w => leBytes 4 w.toNat)] ++ ws)

/-- Whether a command exists in Base camp (R535). -/
def campOps (op : Nat) : Bool := [1, 2, 3, 4, 0xC, 0xD, 0xE].contains op

/-- A Rakin command (R532 to R535): its CRC and length, the session, the mode and the gate, in that order; then its action, which answers
a status and a payload. -/
def Dev.rakin (d : Dev) (op : Nat) (h : RakinHdr) (bs : List (BitVec 8)) (gated : Bool) (allowed : Nat → Bool)
    (f : Dev → Dev × Nat × List Word) : Dev :=
  if !d.bit .svc 0 Off.SVC_SVC_STAT 3 then d
  else if h.length ≠ bs.length ∨ 65536 < bs.length then d.respond op h.tag 3 []
  else if h.crc ≠ crc32 bs then d.respond op h.tag 1 []
  else if !d.bit .svc 0 Off.SVC_SVC_STAT 4 && op != 1 then d.respond op h.tag 5 []
  else if d.mode = 2 ∧ !campOps op then d.respond op h.tag 0x11 []
  else if !allowed d.mode then d.respond op h.tag 5 []
  else if gated && !d.writeOk then (d.flag .svc 0 13).respond op h.tag 4 []
  else
    let (d1, status, ws) := f d
    d1.respond op h.tag status ws

/-- Modes of a command that all modes but some allow. -/
def allBut (l : List Nat) (m : Nat) : Bool := !l.contains m

/-- RAKIN_HELLO: the host's minimum and maximum versions in bytes 0 to 3 (R534, R535). -/
def Dev.rakinHello (d : Dev) (h : RakinHdr) (bs : List (BitVec 8)) : Dev :=
  d.rakin 1 h bs false (fun _ => true) fun x =>
    let v := min (fieldAt bs 2 2) (x.fld .svc 0 Off.SVC_RAKIN_VER 16 16)
    if v < fieldAt bs 0 2 ∨ v < x.fld .svc 0 Off.SVC_RAKIN_VER 0 16 then (x, 0x11, [])
    else ((x.setB .svc 0 Off.SVC_SVC_STAT 4 true).flag .svc 0 10, 0,
      [BitVec.ofNat 32 v, 0x8440, BitVec.ofNat 32 x.unitId, BitVec.ofNat 32 (x.unitId / 2 ^ 32), BitVec.ofNat 32 x.mode,
       x.fw.image.version, x.rd .svc 0 Off.SVC_STAGE_VER, BitVec.ofNat 32 x.fw.fuses])

/-- The staged bundle is in a handover, on trial, or armed for a restart trial (R537). -/
def Dev.stageHeld (d : Dev) : Bool := d.trialBusy || d.stage == 5

/-- A flash error while staging: INVALID (R537). -/
def Dev.stageBroken (d : Dev) : Dev × Nat × List Word := ((d.setStage 4 0xE).flashError, 0xE, [])

/-- STAGE_BEGIN (R537). -/
def Dev.stageBegin (d : Dev) (h : RakinHdr) (bs : List (BitVec 8)) (flashOk : Bool) : Dev :=
  d.rakin 2 h bs true (allBut [7]) fun x =>
    let total := fieldAt bs 0 4
    if x.stageHeld then (x, 5, [])
    else if 12582912 < total then (x, 0xC, [])
    else if !flashOk then x.stageBroken
    else
      let y := (x.stageClear.setStage 1).wrN .svc 0 Off.SVC_STAGE_BYTES 0
      (y.onFw fun f => { f with total := total, ending := none }, 0, [])

/-- STAGE_DATA: the offset, then the bytes, in ascending order (R535, R537). -/
def Dev.stageData (d : Dev) (h : RakinHdr) (bs : List (BitVec 8)) (flashOk : Bool) : Dev :=
  d.rakin 3 h bs true (allBut [7]) fun x =>
    let data := bs.drop 4
    if x.stage ≠ 1 ∨ fieldAt bs 0 4 ≠ x.fw.staged.length then (x, 5, [])
    else if x.fw.total < x.fw.staged.length + data.length then (x, 0xC, [])
    else if !flashOk then x.stageBroken
    else
      let y := x.onFw fun f => { f with staged := f.staged ++ data }
      (y.wrN .svc 0 Off.SVC_STAGE_BYTES y.fw.staged.length, 0, [])

/-- STAGE_END: verification starts, and its answer follows (R537). -/
def Dev.stageEnd (d : Dev) (h : RakinHdr) (bs : List (BitVec 8)) : Dev :=
  let d1 := d.rakin 4 h bs true (allBut [7]) fun x =>
    if x.stage ≠ 1 ∨ x.fw.staged.length < x.fw.total then (x, 5, [])
    else ((x.setStage 2).onFw fun f => { f with ending := some h.tag }, 0, [])
  if d1.stage = 2 ∧ d.stage = 1 then d1.answer [] else d1

/-- Verification of the staged bundle ends: VALID or INVALID (R537). -/
def Dev.verified (d : Dev) (status : Nat) : Dev :=
  let d1 := d.wr .svc 0 Off.SVC_STAGE_VER (imageOf d.fw.staged).version
  if status = 0 then (d1.setStage 3).flag .svc 0 11
  else
    let d2 := (d1.setStage 4 status).flag .svc 0 12
    if status = 0xE then d2.flashError else d2

/-- STAGE_VERIFY_DONE: R530 and R531 on the staged bundle, and the answer of STAGE_END. -/
def Dev.verifyDone (d : Dev) (flashOk : Bool) : Dev :=
  if d.stage ≠ 2 then d
  else
    let status := if flashOk then d.stagedStatus d.fw.staged else 0xE
    let d1 := (d.verified status).onFw fun f => { f with ending := none }
    match d.fw.ending with
    | some tag => d1.respond 4 tag status []
    | none => d1

/-- RAKIN_ACTIVATE. -/
def Dev.rakinActivate (d : Dev) (h : RakinHdr) (bs : List (BitVec 8)) : Dev :=
  d.rakin 5 h bs true [4, 5, 6].contains fun x =>
    match x.actReason with
    | some (e, detail) => (x.wrN .fwm 0 Off.FWM_FW_REJECT (e + detail * 256), if e = 0xF8 then 5 else 0x10, [])
    | none => (x.actBegin, 0, [])

/-- RAKIN_RESTART_TRIAL. -/
def Dev.rakinRestart (d : Dev) (h : RakinHdr) (bs : List (BitVec 8)) : Dev :=
  d.rakin 6 h bs true [4, 5, 6, 10].contains fun x => if x.restartBarred then (x, 5, []) else (x.restartArm, 0, [])

/-- RAKIN_DISCARD. -/
def Dev.rakinDiscard (d : Dev) (h : RakinHdr) (bs : List (BitVec 8)) : Dev :=
  d.rakin 7 h bs true (allBut [7, 2]) fun x => if x.trialBusy then (x, 5, []) else (x.stageClear, 0, [])

/-- LOG_READ: records of a partition from its read pointer, which stays (R535); the partition in word 0, the count in word 1. -/
def Dev.logRead (d : Dev) (h : RakinHdr) (bs : List (BitVec 8)) : Dev :=
  d.rakin 8 h bs false (allBut [1, 2]) fun x =>
    let q := fieldAt bs 0 4
    if 3 ≤ q then (x, 6, [])
    else
      let held := min (partSize q) (x.core.wptr q - x.core.rptr q).toNat
      (x, 0, (List.range (min 2048 (min held (fieldAt bs 4 4)))).flatMap fun i =>
        (x.core.ringRec (ringSlot q (x.core.rptr q + BitVec.ofNat 32 i))).words)

/-- The 64-byte header of a settings block (R548). -/
def Settings.header (x : Settings) : List Word :=
  let body := x.body.readBytes
  [0x42534C53, BitVec.ofNat 32 (x.minor + x.major * 256), x.seq, BitVec.ofNat 32 body.length, crc32 body] ++ List.replicate 11 0

/-- SETTINGS_READ: the block in use; nothing where the defaults are. -/
def Dev.settingsRead (d : Dev) (h : RakinHdr) (bs : List (BitVec 8)) : Dev :=
  d.rakin 9 h bs false (allBut [1, 2]) fun x =>
    match x.fw.inUse with
    | some s => (x, 0, s.header ++ wordsOf s.body.readBytes)
    | none => (x, 0, [])

/-- SETTINGS_WRITE: a block of the host's bytes, used from the next start, never during a trial (R535, R548). -/
def Dev.settingsWrite (d : Dev) (h : RakinHdr) (bs : List (BitVec 8)) (flashOk : Bool) : Dev :=
  d.rakin 0xA h bs true [4, 10].contains fun x =>
    if x.trialOn then (x, 5, []) else if !flashOk then (x.flashError, 0xE, []) else (x.putSettings (.bytes bs), 0, [])

/-- ENTER_BASECAMP: the request is recorded and the device resets (R535, R550). -/
def Dev.enterBasecamp (d : Dev) (h : RakinHdr) (bs : List (BitVec 8)) : Dev :=
  d.rakin 0xB h bs true (allBut [1, 2]) fun x =>
    ((x.onFw fun f => { f with record := { f.record with request := true } }).softReset, 0, [])

/-- RAKIN_RESET. -/
def Dev.rakinReset (d : Dev) (h : RakinHdr) (bs : List (BitVec 8)) : Dev :=
  d.rakin 0xC h bs true (fun _ => true) fun x => (x.softReset, 0, [])

/-- RAKIN_STATUS. -/
def Dev.rakinStatus (d : Dev) (h : RakinHdr) (bs : List (BitVec 8)) : Dev :=
  d.rakin 0xD h bs false (fun _ => true) fun x =>
    (x, 0, [x.rd .svc 0 Off.SVC_STAGE_STAT, x.rd .fwm 0 Off.FWM_FW_STAT, BitVec.ofNat 32 x.mode, x.rd .svc 0 Off.SVC_BOOT_STAT])

/-- LOAD_CORE: one component of the staged bundle into its core, which restarts (R546). -/
def Dev.loadCore (d : Dev) (h : RakinHdr) (bs : List (BitVec 8)) : Dev :=
  d.rakin 0xE h bs true [2, 10].contains fun x =>
    let m := imageOf x.fw.staged
    let k := fieldAt bs 0 4
    let laid := fun (l new : List FwComp) => l.filter (fun c => !new.any fun n => n.number == c.number) ++ new
    let running := if x.mode = 2 then x.fw.loaded else laid x.fw.image.comps x.fw.loaded
    if x.stage ≠ 3 then (x, 5, [])
    else match m.comp k with
      | none => (x, 6, [])
      | some c =>
        if 7 < k then (x, 6, [])
        else if !(m.needs.filter fun n => n.core == k).all (·.holds running) then (x, 0x10, [])
        else (x.onFw fun f => { f with loaded := laid f.loaded [c] }, 0, [])

/-- UNKNOWN_OP (R533, R536). -/
def Dev.unknownOp (d : Dev) (op : Nat) (h : RakinHdr) (bs : List (BitVec 8)) : Dev :=
  if 1 ≤ op ∧ op ≤ 0xE ∨ !d.bit .svc 0 Off.SVC_SVC_STAT 3 then d
  else if h.length ≠ bs.length ∨ 65536 < bs.length then d.respond op h.tag 3 []
  else if h.crc ≠ crc32 bs then d.respond op h.tag 1 []
  else d.respond op h.tag 2 []

/-! Base camp (R532, R550) -/

/-- DFU_DNLOAD of a block; an empty block ends the download, and the checks follow (R532, R550). -/
def Dev.dfuDnload (d : Dev) (bs : List (BitVec 8)) (flashOk : Bool) : Dev :=
  if d.mode ≠ 2 ∨ !d.bit .svc 0 Off.SVC_SVC_STAT 3 then d
  else if !d.writeOk then (d.flag .svc 0 13).onFw fun f => { f with dfuError := true }
  else if bs.isEmpty then (if d.stage = 1 then d.verified (d.stagedStatus d.fw.staged) else d)
  else if !flashOk then d.stageBroken.1
  else
    let d1 := if d.stage = 1 then d else (d.stageClear.setStage 1).onFw fun f => { f with total := 12582912, dfuError := false }
    let d2 := d1.onFw fun f => { f with staged := (f.staged ++ bs).take 12582912 }
    d2.wrN .svc 0 Off.SVC_STAGE_BYTES d2.fw.staged.length

/-- BASE_CAMP_COPY_DONE: the checked bundle lies in the active slot, and the device resets (R550). -/
def Dev.campCopied (d : Dev) : Dev := if d.mode = 2 ∧ d.stage = 3 then d.stageClear.softReset else d

/-- A write of SVC_CTRL: ENABLE belongs to PF0, and USB_OFF detaches the port (R555, R557, R577). -/
def Dev.svcCtrlWrite (d : Dev) (r : Requester) (v : Word) : Dev :=
  if r ≠ .pf 0 ∧ bitOf v 0 ≠ d.bit .svc 0 Off.SVC_SVC_CTRL 0 then
    (d.wrN .svc 0 Off.SVC_SVC_REJECT 0xFB).reject r .svc 0 Off.SVC_SVC_CTRL 0xFB
  else
    let d1 := d.wr .svc 0 Off.SVC_SVC_CTRL (v &&& 3)
    if bitOf v 1 then d1.setB .svc 0 Off.SVC_SVC_STAT 3 false else d1

/-- ATTACH: VBUS appears, and a USB host configures the port unless it stays detached; in BIVOUAC it is the SVC wake cause (R441,
R577). -/
def Dev.attach (d : Dev) : Dev :=
  if d.core.powerHold then d
  else
    let d1 := d.setB .svc 0 Off.SVC_SVC_STAT 2 true
    let d2 := if d.bit .svc 0 Off.SVC_SVC_CTRL 1 then d1 else (d1.setB .svc 0 Off.SVC_SVC_STAT 3 true).flag .svc 0 8
    if d2.mode = 9 then d2.wakeCause 0x8000 else d2

/-- DETACH: VBUS is lost, and the session ends (R534, R556). -/
def Dev.detach (d : Dev) : Dev :=
  if d.bit .svc 0 Off.SVC_SVC_STAT 2 then (d.setF .svc 0 Off.SVC_SVC_STAT 2 3 0).flag .svc 0 9 else d

end Sys2Proof.Machine
end

