-- ==== Sys2Proof/Machine/SafeCmds.lean ====
section
/-! DEFINITION. The monitors that report by themselves, fault injection and the self-test ("Functional safety and Belay", R462, R476,
R486, R487). -/

namespace Sys2Proof.Machine

/-- STALL_WATCHDOG: SM11 (R462). -/
def Dev.stallWatchdog (d : Dev) (s : Nat) : Dev := d.fault 11 1 s 0

/-- SAFETY_CORE_WATCHDOG: SM21 (R462). -/
def Dev.safetyWatchdog (d : Dev) : Dev := d.fault 21 0 0 0

/-- CLOCK_MONITOR_WINDOW: SM15, unless an indication covers the port (R462, R476). -/
def Dev.clockMonitor (d : Dev) (port : Option (Fin 8)) (bad : Bool) : Dev :=
  if !bad then d
  else match port with
    | some p => if d.timingCovered p then d else d.fault 15 2 p 0
    | none => d.fault 15 0 0 0

/-- CADENCE_MONITOR_TIMEOUT: SM18, unless the cadence is covered (R462, R476). -/
def Dev.cadenceMonitor (d : Dev) (s : Nat) : Dev := if d.cadenceCovered s then d else d.fault 18 1 s 0

/-- CONFIGURATION_INTEGRITY_CHECK: SM07 (R462). -/
def Dev.configCheck (d : Dev) (bad : Bool) : Dev := if bad then d.fault 7 0 0 0 else d

/-- LUT_INTEGRITY_CHECK: SM20 (R462). -/
def Dev.lutCheck (d : Dev) (lut : LutRef) (bad : Bool) : Dev :=
  if !bad then d
  else match lut with
    | .tone s => d.fault 20 1 s 0
    | .adapter p => d.fault 20 2 p 0

/-- The scope that an injected fault takes, the narrower of two: FAULT_INFO's code (R462, R486). -/
def injectScope (sm : Nat) : Nat :=
  if [1, 2, 4, 23].contains sm then 3
  else if [3, 5, 6, 8, 12, 13, 15, 17, 19, 20].contains sm then 2
  else if [9, 11, 18, 22].contains sm then 1 else 0

/-- A rejected injection. -/
def Dev.injectReject (d : Dev) (r : Requester) (reason : Nat) : Dev :=
  let d1 := d.safeReject r Off.SAFE_INJECT_CMD reason
  if reason = 0x3A then d1.flag .safe 0 11 reason else d1

/-- Injection is possible: TEST, and none in progress (R486, R487). -/
def Dev.mayInject (d : Dev) : Bool := d.mode == 10 && !d.bit .safe 0 Off.SAFE_INJECT_STAT 0

/-- The fault of a mechanism at a unit, with the golden block's own report for SM22 (R477). -/
def Dev.injected (d : Dev) (sm unit region : Nat) (react : Bool) (test : Bool) : Dev :=
  let scope := injectScope sm
  let d1 := if sm = 22 then (d.setB .bly 0 Off.BLY_CC_STAT 0 false).flag .bly 0 9 else d
  d1.fault sm scope (if scope = 0 then 0 else unit) (if scope = 3 then region else 0) react test

/-- INJECT_GO: the fault is injected, and `us` µs later the injection ends, detected or not (R486). -/
def Dev.injectGo (d : Dev) (r : Requester) (us : Nat) (found : Option Bool) : Dev :=
  let ctrl := d.rd .safe 0 Off.SAFE_INJECT_CTRL
  let sm := bitsOf ctrl 0 5
  let unit := bitsOf ctrl 8 3
  if !d.mayInject then d.injectReject r 0x38
  else if sm = 0 ∨ 24 < sm ∨ (injectScope sm = 1 ∧ 4 ≤ unit) then d.injectReject r 0x3A
  else (d.wrN .safe 0 Off.SAFE_INJECT_STAT 1).onSafe fun x =>
    { x with injecting := some { due := d.now + 1000 * us, us := us, sm := sm, unit := unit, region := bitsOf ctrl 12 4
                                 react := !bitOf ctrl 16, found := found } }

/-- The injection ends: INJECT_STAT reports, and INJECT_DONE is raised (R486). -/
def Dev.injectEnd (d : Dev) (x : Injection) : Dev :=
  let d1 := d.onSafe fun y => { y with injecting := none }
  match x.found with
  | some inTime => ((d1.injected x.sm x.unit x.region x.react false).wrN .safe 0 Off.SAFE_INJECT_STAT
      (2 + inTime.toNat * 4 + min x.us 0xFFFF * 65536)).flag .safe 0 10
  | none => (d1.wrN .safe 0 Off.SAFE_INJECT_STAT 0).flag .safe 0 10

/-- An injection that ends up to an instant. -/
def Dev.injectBy (d : Dev) (t : Nat) : Dev :=
  match d.safe.injecting with
  | some x => if x.due ≤ t then (d.advance x.due).injectEnd x else d
  | none => d

/-- SELFTEST (R487). -/
def Dev.selftest (d : Dev) (r : Requester) : Dev :=
  if d.mayInject then (d.setB .safe 0 Off.SAFE_INJECT_STAT 0 true).onSafe fun x => { x with selftest := true }
  else d.injectReject r 0x38

/-- The injections of the self-test, without reaction; the bits they set are cleared (R487). -/
def Dev.selftestFaults (d : Dev) (passed : Nat) : Dev :=
  let before := bitsOf (d.rd .safe 0 Off.SAFE_FAULT_STAT) 0 24
  let cc := d.rd .bly 0 Off.BLY_CC_STAT
  let d1 := (bitsSet passed 24).foldl (fun x n => x.injected (n + 1) 0 0 false true) d
  ((d1.setF .safe 0 Off.SAFE_FAULT_STAT 0 24 before).wr .bly 0 Off.BLY_CC_STAT cc).onSafe fun x =>
    { x with latched := x.latched.filter fun f => !f.test }

/-- SELFTEST_DONE: the mechanisms that detected their fault in time (R487). -/
def Dev.selftestDone (d : Dev) (passed : Nat) : Dev :=
  if !d.safe.selftest then d
  else
    let d1 := ((d.selftestFaults passed).setB .safe 0 Off.SAFE_INJECT_STAT 0 false).wrN .safe 0 Off.SAFE_SELFTEST_STAT passed
    (d1.onSafe fun x => { x with selftest := false }).flag .safe 0 12

end Sys2Proof.Machine
end

