-- ==== Sys2Proof/Machine/Write.lean ====
section
/-! DEFINITION. What a write does to each register that takes one (R8): the value an immediate register stores, and the action of a
register that acts. -/

namespace Sys2Proof.Machine

/-- Whether a bit of the written word acts, as a choice of two devices. -/
def Dev.onBit (d : Dev) (v : Word) (i : Nat) (f : Dev → Dev) : Dev := if bitOf v i then f d else d

/-- An immediate register takes the written value in its writable bits (R8, R9). -/
def Dev.writeIm (d : Dev) (p : Page) (n off : Nat) (v : Word) : Dev :=
  match p.desc off with
  | none => d
  | some x =>
    let m := BitVec.ofNat 32 (x.mask &&& (0xFFFFFFFF - x.rom))
    d.wr p n off ((d.rd p n off &&& ~~~ m) ||| (v &&& m))

/-- A field stored at the nearer limit. -/
def clampField (v : Word) (lo len low high : Nat) : Word := putBits v lo len (max low (min high (bitsOf v lo len)))

/-! Values stored at a limit -/

/-- FREE_TRIM as stored: −10,000 to +10,000 (R253). -/
def trimStored (v : Word) : Word :=
  putBits v 0 16 (ofSigned (max (-10000) (min 10000 (signedOf (bitsOf v 0 16) 16))) 16)

/-- SCN_SAFE as stored: SKIP_LIMIT from 1, STALL_US 20 to 4,000 (R490). -/
def scnSafeStored (v : Word) : Word := clampField (clampField v 8 8 1 255) 16 16 20 4000

/-- REG_CTRL as stored: HB_FRAMES and FAIL_BLOCKS from 1 (R492). -/
def regCtrlStored (v : Word) : Word := clampField (clampField v 16 8 1 255) 24 8 1 255

/-- The value of a shadow register as it is stored. -/
def shadowStored (p : Page) (off : Nat) (v : Word) : Word :=
  match p with
  | .safe => if (off - Off.SAFE_SCN_SAFE) % 16 = 0 then scnSafeStored v else v
  | .schk => if (off - 0x100) % 16 = 8 then regCtrlStored v else v
  | _ => v

/-! The pages, in the order of R28 -/

/-- Registers of SYS that act or store. -/
def Dev.writeSys (d : Dev) (r : Requester) (off : Nat) (v : Word) : Dev :=
  if off = Off.SYS_GROUP_COMMIT then d.groupWrite r (bitsOf v 0 4) (bitsOf v 8 4) (bitOf v 16) else d.writeIm .sys 0 off v

/-- One half of an ACC register as stored: PF0 always reads 0b11, and a slot without a page reads 0 (R61). -/
def accStored (slot v : Nat) : Nat := if (Page.ofSlot slot).isSome then v / 4 * 4 + 3 else 0

/-- Registers of PROT (R61, R62). -/
def Dev.writeProt (d : Dev) (off : Nat) (v : Word) : Dev :=
  if Off.PROT_ACC ≤ off ∧ off < Off.PROT_ACC + 4 * 241 then
    let k := (off - Off.PROT_ACC) / 4
    d.wrN .prot 0 off (accStored (2 * k) (bitsOf v 0 16) + accStored (2 * k + 1) (bitsOf v 16 16) * 65536)
  else d.writeIm .prot 0 off v

/-- Registers of PWR (R500 to R519). -/
def Dev.writePwr (d : Dev) (r : Requester) (off : Nat) (v : Word) : Dev :=
  if off = Off.PWR_MODE_REQ then d.modeReq r (bitsOf v 0 4)
  else if off = Off.PWR_RESET_CMD then d.resetCmd r v
  else if off = Off.PWR_VP_CTRL then d.vpCtrlWrite v
  else if off = Off.PWR_VP_REQ then d.vpReq r (bitOf v 0)
  else if off = Off.PWR_THERM_CTRL then d.writeIm .pwr 0 off (clampField (clampField v 0 8 60 104) 8 8 1 20)
  else d.writeIm .pwr 0 off v

/-- Registers of FWM (R551 to R553). -/
def Dev.writeFwm (d : Dev) (r : Requester) (off : Nat) (v : Word) : Dev :=
  if off = Off.FWM_TRIAL_CTRL then d.trialCtrlWrite v
  else if off = Off.FWM_FW_CMD then
    ((((d.onBit v 0 (·.activate r)).onBit v 1 (·.approve r)).onBit v 2 (·.rejectTrial r)).onBit v 3 (·.restartTrial r)).onBit v 4
      (·.discard r)
  else if off = Off.FWM_HEALTH_CONFIRM then (d.onBit v 0 (·.confirm r)).onBit v 1 (·.healthFail r)
  else if off = Off.FWM_MBX_CTRL then d.onBit v 0 (·.mbxSend r)
  else if Off.FWM_MBX_REQ ≤ off ∧ off < Off.FWM_MBX_REQ + 256 then
    (if d.bit .fwm 0 Off.FWM_MBX_STAT 0 then d.fwReject r off 0xF7 else d.writeIm .fwm 0 off v)
  else d.writeIm .fwm 0 off v

/-- Registers of INTC (R453). -/
def Dev.writeIntc (d : Dev) (r : Requester) (off : Nat) (v : Word) : Dev :=
  if off = Off.INTC_COMPLETE then d.onCore (·.complete r false v)
  else if off = Off.INTC_GLOBAL_HOLD then d.onCore (·.writeHold v)
  else if off = Off.INTC_DB_RAISE_LO then d.onCore (·.doorbells r 960 v)
  else if off = Off.INTC_DB_RAISE_HI then d.onCore (·.doorbells r 992 v)
  else if Off.INTC_PROFILE ≤ off ∧ off < Off.INTC_PROFILE + 128 then d.onCore (·.writeProfile ((off - Off.INTC_PROFILE) / 4) v)
  else d.writeIm .intc 0 off v

/-- Registers of ISRC (R454). -/
def Dev.writeIsrc (d : Dev) (r : Requester) (n off : Nat) (v : Word) : Dev :=
  if off = Off.ISRC_PEND_CLR_LO then d.onCore (·.pendClr (64 * n) v)
  else if off = Off.ISRC_PEND_CLR_HI then d.onCore (·.pendClr (64 * n + 32) v)
  else if Off.ISRC_SRC_CFG ≤ off ∧ off < Off.ISRC_SRC_CFG + 256 then d.onCore (·.writeSrcCfg r n ((off - Off.ISRC_SRC_CFG) / 4) v)
  else d

/-- Registers of ELOG (R446, R448, R456, R457): the spill ring stays where it is while it is in use. -/
def Dev.writeElog (d : Dev) (r : Requester) (off : Nat) (v : Word) : Dev :=
  if off = Off.ELOG_ELOG_CTRL then d.onCore (·.writeElogCtrl r v)
  else if off = Off.ELOG_ELOG_CMD then d.onBit v 0 (·.onCore (·.satClear r))
  else if off = Off.ELOG_RPTR ∨ off = Off.ELOG_RPTR + 8 ∨ off = Off.ELOG_RPTR + 16 then
    d.onCore (·.writeRptr r ((off - Off.ELOG_RPTR) / 8) v)
  else if off = Off.ELOG_SPILL_RPTR then d.onCore (·.writeSpillRptr r v)
  else if off = Off.ELOG_SPILL_BASE_LO ∨ off = Off.ELOG_SPILL_BASE_HI ∨ off = Off.ELOG_SPILL_SIZE then
    (if d.bit .elog 0 Off.ELOG_ELOG_CTRL 0 then d.reject r .elog 0 off 0x16 else d.writeIm .elog 0 off v)
  else if off = Off.ELOG_WIN_SEL then d.writeIm .elog 0 off (clampField v 0 14 0 8447)
  else if Off.ELOG_LOG_RATE ≤ off ∧ off < Off.ELOG_LOG_RATE + 16 then d.onCore (·.writeLogRate ((off - Off.ELOG_LOG_RATE) / 4) v)
  else d.writeIm .elog 0 off v

/-- Registers of INTF (R455). -/
def Dev.writeIntf (d : Dev) (r : Requester) (off : Nat) (v : Word) : Dev :=
  if off = Off.INTF_COMPLETE then d.onCore (·.complete r true v) else d

/-- STIM.FORCE (R207). -/
def Dev.forceWrite (d : Dev) (s : Nat) (v : Word) : Dev := (d.onBit v 0 (·.forceRecompose s)).onBit v 1 (·.forceFlatDrop s)

/-- Registers of STIM (R171, R207). -/
def Dev.writeStim (d : Dev) (s off : Nat) (v : Word) : Dev :=
  if off = Off.STIM_GUARD then d.writeIm .stim s off (clampField v 0 11 0 1000)
  else if off = Off.STIM_FORCE then d.forceWrite s v
  else d.writeIm .stim s off v

/-- FMEM.ALLOC_CMD (R239). -/
def Dev.allocWrite (d : Dev) (r : Requester) (v : Word) : Dev :=
  if bitsOf v 0 2 = 1 then d.allocInstall r (bitsOf v 8 6) else if bitsOf v 0 2 = 2 then d.allocFree r (bitsOf v 8 6) else d

/-- FMEM.XFER_CTRL (R239). -/
def Dev.xferWrite (d : Dev) (r : Requester) (v : Word) : Dev :=
  if !bitOf v 0 then d
  else if bitOf v 2 then d.xferFromPort r (bitsOf v 3 3)
  else if bitOf v 1 then d.xferCapture r (bitsOf v 8 6) else d.xferUpload r (bitsOf v 8 6)

/-- Registers of FMEM. -/
def Dev.writeFmem (d : Dev) (r : Requester) (off : Nat) (v : Word) : Dev :=
  if off = Off.FMEM_ALLOC_CMD then d.allocWrite r v
  else if off = Off.FMEM_XFER_CTRL then d.xferWrite r v
  else d.writeIm .fmem 0 off v

/-- ANCH.CAD_CMD of a scene (R266). -/
def Dev.cadCmdWrite (d : Dev) (r : Requester) (s : Nat) (v : Word) : Dev :=
  (((d.onBit v 0 (·.applyRate r s (bitOf v 1))).onBit v 2 (·.ackReturn r s false)).onBit v 3 (·.ackReturn r s true)).onBit v 4
    (·.presetFrame r s)

/-- A write of CAD_CTRL: the firmware's hand-over goes on where a stopped scene no longer holds it up, and so does a change of the
voltage point (R508, R539). -/
def Dev.cadCtrl (d : Dev) (r : Requester) (s : Nat) (v : Word) : Dev := (d.cadCtrlWrite r s v).vpIdle.handSettle

/-- Registers of ANCH (R265, R266). -/
def Dev.writeAnch (d : Dev) (r : Requester) (off : Nat) (v : Word) : Dev :=
  let s := (off - 0x100) / 0x40
  let at_ := off - 0x40 * s
  if off < 0x100 then d.writeIm .anch 0 off (if off < 0x30 then clampField v 8 8 1 255 else v)
  else if at_ = Off.ANCH_CAD_CTRL then d.cadCtrl r s v
  else if at_ = Off.ANCH_CAD_CMD then d.cadCmdWrite r s v
  else if at_ = Off.ANCH_SLEW then d.writeIm .anch 0 off (clampField v 0 8 1 200)
  else if at_ = Off.ANCH_WINDOW then d.writeIm .anch 0 off (clampField v 0 16 1 500)
  else if at_ = Off.ANCH_FREE_TRIM then d.writeIm .anch 0 off (trimStored v)
  else d.writeIm .anch 0 off v

/-- Registers of PADP (R164). -/
def Dev.writePadp (d : Dev) (p off : Nat) (v : Word) : Dev :=
  if off = Off.PADP_PRESTAGE then d.onBit v 0 (·.prestage p) else d.writeIm .padp p off v

/-- Registers of XPT (R323). -/
def Dev.writeXpt (d : Dev) (r : Requester) (p off : Nat) (v : Word) : Dev :=
  if off = Off.XPT_CMD then ((d.onBit v 0 (·.retrainCmd r p)).onBit v 1 (·.tcLoad r p)).onBit v 2 (·.sbGo r p)
  else d.writeIm .xpt p off v

/-- Registers of PPLL (R291). -/
def Dev.writePpll (d : Dev) (r : Requester) (p off : Nat) (v : Word) : Dev :=
  if off = Off.PPLL_CMD then d.onBit v 0 (·.retryMain r p) else d.writeIm .ppll p off v

/-- Registers of SPLL (R289). -/
def Dev.writeSpll (d : Dev) (r : Requester) (n off : Nat) (v : Word) : Dev :=
  if Off.SPLL_CKO_CTRL ≤ off ∧ off < Off.SPLL_CKO_CTRL + 16 then
    d.ckoWrite r (2 * n + (off - Off.SPLL_CKO_CTRL) / 8) (decide ((off - Off.SPLL_CKO_CTRL) % 8 = 4)) v
  else d.writeIm .spll n off v

/-- A write of TAG_LIMIT: one outside its ranges is dropped whole (R363). -/
def Dev.tagWrite (d : Dev) (r : Requester) (v : Word) : Dev :=
  let bulk := bitsOf v 0 11
  let mnt := bitsOf v 16 11
  if bulk < 64 ∨ 1000 < bulk ∨ mnt = 0 ∨ bulk < mnt then d.mcgReject r Off.MCG_TAG_LIMIT 0xC5
  else d.writeIm .mcg 0 Off.MCG_TAG_LIMIT v

/-- A write of SPARE_CTRL: sparing needs two ranks and a rank that is installed (R334, R363). -/
def Dev.spareWrite (d : Dev) (r : Requester) (v : Word) : Dev :=
  let ranks := d.rankCount
  if ranks ≠ 0 ∧ ((bitOf v 0 ∧ ranks = 1) ∨ ranks ≤ bitsOf v 1 2) then d.mcgReject r Off.MCG_SPARE_CTRL 0xC3
  else d.writeIm .mcg 0 Off.MCG_SPARE_CTRL v

/-- Registers of MCG (R361 to R363). -/
def Dev.writeMcg (d : Dev) (r : Requester) (off : Nat) (v : Word) : Dev :=
  if off = Off.MCG_MAP_CMD then d.onBit v 0 (·.mapApply r)
  else if off = Off.MCG_WEIGHT_RT then d.weightWrite r 0 v
  else if off = Off.MCG_WEIGHT_BULK then d.weightWrite r 1 v
  else if off = Off.MCG_WEIGHT_MNT then d.weightWrite r 2 v
  else if off = Off.MCG_TAG_LIMIT then d.tagWrite r v
  else if off = Off.MCG_SPARE_CTRL then d.spareWrite r v
  else if off = Off.MCG_MIG_CMD then d.onBit v 0 (·.migStart r (bitsOf v 1 4) (bitsOf v 5 2))
  else if off = Off.MCG_MIG_RATE then d.writeIm .mcg 0 off (clampField v 0 16 10 1000)
  else if off = Off.MCG_SR_CTRL then d.writeIm .mcg 0 off (clampField v 16 16 1 0xFFFF)
  else d.writeIm .mcg 0 off v

/-- Registers of BLT (R383). -/
def Dev.writeBlt (d : Dev) (r : Requester) (off : Nat) (v : Word) : Dev :=
  if off = Off.BLT_CMD then (d.onBit v 0 (·.bltStart r)).onBit v 1 Dev.bltAbort else d.writeIm .blt 0 off v

/-- A write of TEAM_CTRL: an illegal ROLE, or on the lead a cadence scene that follows the team, is dropped whole; a change to GROUP is
reported to the lead at once (R393, R397, R421). -/
def Dev.teamWrite (d : Dev) (r : Requester) (v : Word) : Dev :=
  if bitsOf v 0 2 = 3 then d.rpgReject r Off.RPG_TEAM_CTRL 0xF1
  else if d.teamLead ∧ d.cadSource (bitsOf v 4 2) = 3 then d.rpgReject r Off.RPG_TEAM_CTRL 0xEC
  else
    let d1 := d.hush.writeIm .rpg 0 Off.RPG_TEAM_CTRL v
    if d.ownGroups = bitsOf v 16 8 ∨ !d.teamMember then d1
    else if d.teamLead then d1.onRope fun x => { x with tables := x.tables.map fun t =>
      { t with members := t.members.map fun m => if m.id = d.ownId then { m with groups := bitsOf v 16 8 } else m } }
    else d1.sayTo [d.leadId] (.groups (bitsOf v 16 8))

/-- X_CTRL of a channel (R407). -/
def Dev.xctlWrite (d : Dev) (r : Requester) (c : Fin 8) (v : Word) : Dev := (d.onBit v 0 (·.xferStart r c)).onBit v 1 (·.xferAbort c.val)

/-- Registers of RPG (R419, R420). -/
def Dev.writeRpg (d : Dev) (r : Requester) (off : Nat) (v : Word) : Dev :=
  let c := (off - 0x100) / 0x40
  if off = Off.RPG_TEAM_CTRL then d.teamWrite r v
  else if off = Off.RPG_TEAM_GUARD then d.writeIm .rpg 0 off (clampField v 0 11 0 1000)
  else if off = Off.RPG_ENUM_CMD then (d.onBit v 0 Dev.enumerate).onBit v 1 (·.wakeSend r)
  else if off = Off.RPG_TC_CMD then d.onBit v 0 (·.tcSend r)
  else if off = Off.RPG_RREG_CMD then d.onBit v 0 (·.rregGo r)
  else if off = Off.RPG_COLLECT_CTRL then
    (if 12 < bitsOf v 1 4 then d.rpgReject r off 0xF1 else d.writeIm .rpg 0 off v)
  else if off - 0x40 * c = Off.RPG_X_CTRL then d.xctlWrite r (Fin.ofNat 8 c) v
  else d.writeIm .rpg 0 off v

/-- Registers of RPP (R423). -/
def Dev.writeRpp (d : Dev) (r : Requester) (p off : Nat) (v : Word) : Dev :=
  if off = Off.RPP_CMD then d.onBit v 0 (·.ropeRetrain r p) else d.writeIm .rpp p off v

/-- REACT of a mechanism: an illegal action is refused (R490, R495). -/
def Dev.reactWrite (d : Dev) (r : Requester) (off : Nat) (v : Word) : Dev :=
  if bitsOf v 0 2 = 3 then (d.safeReject r off 0x37).flag .safe 0 11 0x37 else d.writeIm .safe 0 off v

/-- What an injection started by a plain register write measures: a free outcome (R486). -/
def Dev.injectFree (d : Dev) (r : Requester) : Dev :=
  let k := d.freeNat
  (d.injectGo r (k / 4 % 2 ^ 32) (if k % 2 = 0 then none else some (k / 2 % 2 == 1))).freeStep

/-- Registers of SAFE (R489, R490). -/
def Dev.writeSafe (d : Dev) (r : Requester) (off : Nat) (v : Word) : Dev :=
  if off = Off.SAFE_BELAY_CLEAR then d.belayClear r (bitsOf v 0 8)
  else if off = Off.SAFE_INJECT_CMD then (d.onBit v 0 (·.injectFree r)).onBit v 1 (·.selftest r)
  else if Off.SAFE_REACT ≤ off ∧ off < Off.SAFE_REACT + 96 then d.reactWrite r off v
  else d.writeIm .safe 0 off v

/-- An SMBus target address that cannot be set: those the SMBus specification keeps (R573, R583). -/
def smbAddrBad (a : Nat) : Bool :=
  decide (a < 8) || a == 0x0C || a == 0x28 || a == 0x37 || a == 0x61 || decide (0x78 ≤ a)

/-- Registers of PCIE (R580, R581). -/
def Dev.writePcie (d : Dev) (r : Requester) (off : Nat) (v : Word) : Dev :=
  if off = Off.PCIE_SMB_CTRL then
    (if smbAddrBad (bitsOf v 0 7) then d.reject r .pcie 0 off 0x2C else d.writeIm .pcie 0 off v)
  else d.writeIm .pcie 0 off v

/-- A write to a register of access IM, WO or W1 outside the common header (R8). -/
def Dev.writeActs (d : Dev) (r : Requester) (p : Page) (n off : Nat) (v : Word) : Dev :=
  match p with
  | .sys => d.writeSys r off v
  | .prot => d.writeProt off v
  | .pwr => d.writePwr r off v
  | .fwm => d.writeFwm r off v
  | .svc => if off = Off.SVC_SVC_CTRL then d.svcCtrlWrite r v else d
  | .intc => d.writeIntc r off v
  | .isrc => d.writeIsrc r n off v
  | .elog => d.writeElog r off v
  | .intf => d.writeIntf r off v
  | .stim => d.writeStim n off v
  | .fmem => d.writeFmem r off v
  | .anch => d.writeAnch r off v
  | .padp => d.writePadp n off v
  | .xpt => d.writeXpt r n off v
  | .ppll => d.writePpll r n off v
  | .spll => d.writeSpll r n off v
  | .mcg => d.writeMcg r off v
  | .blt => d.writeBlt r off v
  | .rpg => d.writeRpg r off v
  | .rpp => d.writeRpp r n off v
  | .safe => d.writeSafe r off v
  | .pcie => d.writePcie r off v
  | .mwin | .leng | .scn | .tone | .schk | .scan | .dsc | .mcc | .bly => d.writeIm p n off v

/-- A clear of a status register with sequence (R54); the reaction controller's faults follow FAULT_STAT (R482). -/
def Dev.clearStat (d : Dev) (p : Page) (n off : Nat) (v : Word) : Dev :=
  match p.desc off with
  | some { access := .sq, .. } =>
    let d1 := (d.onCore (·.sqClear p n off v)).alertSettle
    if p = .safe ∧ off = Off.SAFE_FAULT_STAT then d1.faultsCleared else d1
  | _ => d

/-- A write of a shadow register, as it is stored (R40, R43). -/
def Dev.shadowWrite (d : Dev) (r : Requester) (p : Page) (n off : Nat) (v : Word) : Dev :=
  match p.desc off with
  | some { access := .sh, .. } => if off < 0x800 then d.writeShadow r p n off (shadowStored p off v) else d
  | _ => d

/-- A write of the common header (R33, R35, R37, R54). -/
def Dev.writeHeader (d : Dev) (r : Requester) (p : Page) (n off : Nat) (v : Word) : Dev :=
  if off = Off.PAGE_CTRL then d.wr p n off (if p.groupable then v &&& 3 else 0)
  else if off = Off.PAGE_STAT then d.clearStat p n off v
  else if off = Off.COMMIT then d.commitWrite r p n v
  else if off = Off.PAGE_EVT_EN then d.writeIm p n off v
  else d

/-- A 32-bit register write that its page takes (R8, R31, R32). -/
def Dev.writeReg (d : Dev) (r : Requester) (p : Page) (n off : Nat) (v : Word) : Dev :=
  if off < 0x20 then d.writeHeader r p n off v
  else match p.desc off with
    | none => d
    | some x => match x.access with
      | .ro => d
      | .sq => d.clearStat p n off v
      | .sh => d.shadowWrite r p n off v
      | .im | .wo | .w1 => d.writeActs r p n off v

end Sys2Proof.Machine
end

