-- ==== Sys2Proof/Machine/Access.lean ====
section
/-! DEFINITION. Register accesses: which pages a mode serves, the rights of each requester, and what a read returns ("Register pages,
commits and access control", R60 to R63; R498, R564, R574). -/

namespace Sys2Proof.Machine

/-! Who may reach what -/

/-- The pages that a mode serves (R498). -/
def servedIn (mode : Nat) (p : Page) : Bool :=
  if mode = 0 then false
  else if [4, 5, 6, 7, 8, 10].contains mode then true
  else match p with
    | .sys | .pwr | .intc => true
    | .svc => mode == 2
    | .mcg => mode == 3
    | _ => false

/-- The pages that no remote access and no write of another function than PF0 reaches (R60, R62). -/
def Page.closed : Page → Bool
  | .fwm | .svc | .prot | .mwin => true
  | _ => false

/-- The 2-bit access code of a function for a slot (R61). -/
def Core.accCode (c : Core) (k slot : Nat) : Nat := c.fld .prot 0 (Off.PROT_ACC + 4 * (slot / 2)) (16 * (slot % 2) + 2 * k) 2

/-- Whether the SMBus target makes an access (R574). -/
def smbusMay (p : Page) (off : Nat) (write : Bool) (v : Word) : Bool :=
  if write then p == .pwr && ((off == Off.PWR_MODE_REQ && bitsOf v 0 4 == 11) || off == Off.PWR_RESET_CMD)
  else match p with
    | .sys | .pwr | .fwm | .svc | .safe | .pcie => true
    | _ => false

/-- The right of a requester to an access (R59 to R62, R574). -/
def Core.mayAccess (c : Core) (r : Requester) (p : Page) (n off : Nat) (write : Bool) (v : Word) : Bool :=
  match r with
  | .cpu _ => true
  | .pf k =>
    if k = 0 then true
    else if write then c.accCode k.val (p.slot n) == 3 && p != .prot && p != .mwin
    else p == .sys || c.accCode k.val (p.slot n) % 2 == 1
  | .remote =>
    if p.closed then false
    else !write || c.bit .prot 0 (Off.PROT_REMOTE_WR + 4 * (p.slot n / 32)) (p.slot n % 32)
  | .smbus => smbusMay p off write v
  | .blt | .rpl | .comp | .mnt => false

/-- An access that its page does not take: not served in the present mode, or denied (R63, R498, R574). A read returns 0. -/
def Dev.refuse (d : Dev) (r : Requester) (p : Page) (n off : Nat) (asleep write : Bool) : Dev :=
  let d1 := if write then d else d.answer [0]
  if asleep then d1.inc .pwr 0 Off.PWR_ASLEEP_ACCESS
  else match r with
    | .smbus => d1.inc .pcie 0 Off.PCIE_SMB_DENY
    | _ => d1.onCore (·.denyReg r (p.slot n) off)

/-- A register access: made where the mode serves its page and the requester has the right (R60 to R63, R498). In POWER_HOLD nothing
reaches a page, and a page has no instance beyond its count. -/
def Dev.letIn (d : Dev) (r : Requester) (p : Page) (n off : Nat) (write : Bool) (v : Word) (f : Dev → Dev) : Dev :=
  if d.mode = 0 ∨ p.count ≤ n then d
  else if !servedIn d.mode p then d.refuse r p n off true write
  else if !d.core.mayAccess r p n off write v then d.refuse r p n off false write
  else f d

/-! What a read returns -/

/-- Low and high word of a number, the high one cut to `hi` bits. -/
def loWord (n : Nat) : Word := BitVec.ofNat 32 n
def hiWord (n hi : Nat) : Word := BitVec.ofNat 32 (n / 2 ^ 32 % 2 ^ hi)

/-- A read of the low half of a number: the high half is latched (R46, R59). -/
def Dev.readLo (d : Dev) (p : Page) (n off value hi : Nat) : Dev := (d.wr p n (off + 4) (hiWord value hi)).answer [loWord value]

/-- MCG.PANIC_STAT: the scenes in panic (R345, R362). -/
def Dev.panicStat (d : Dev) : Word := BitVec.ofNat 32 (flagsNat ((List.range 4).map fun s => (d.scene s).panic))

/-- The value of a register that is kept as state of its block and not as a word. -/
def Dev.regValue (d : Dev) (r : Requester) (p : Page) (n off : Nat) : Word :=
  let w := d.rd p n off
  if off = Off.BOUNDARY then d.boundaryWord p n
  else match p with
    | .fwm => if off = Off.FWM_TRIAL_LEFT then BitVec.ofNat 32 d.trialLeft else w
    | .svc => if off = Off.SVC_SVC_STAT then putBit w 1 d.writeOk else w
    | .intc => if off = Off.INTC_DELIV_STAT then d.core.delivStat else w
    | .isrc =>
      if off = Off.ISRC_PEND_LO then d.core.srcBits (64 * n) Src.pending
      else if off = Off.ISRC_PEND_HI then d.core.srcBits (64 * n + 32) Src.pending
      else if off = Off.ISRC_ACTIVE_LO then d.core.srcBits (64 * n) Src.active
      else if off = Off.ISRC_ACTIVE_HI then d.core.srcBits (64 * n + 32) Src.active
      else if Off.ISRC_SRC_LOG ≤ off then d.core.srcLog (64 * n + (off - Off.ISRC_SRC_LOG) / 4) else w
    | .elog =>
      if off = Off.ELOG_SAT_INFO then d.core.satInfo else if off = Off.ELOG_SAT_COUNT then d.core.satCount else w
    | .intf => if off = Off.INTF_FAST_PENDING then BitVec.ofNat 32 (d.core.fastPending r) else w
    | .leng => if off = Off.LENG_USE_STAT then (d.eng n).useStat else w
    | .fmem =>
      if off = Off.FMEM_SLOT_RESV then d.slotResv
      else if Off.FMEM_ENT_BASE ≤ off ∧ (off - Off.FMEM_ENT_BASE) % 16 = 8 then d.entDesc ((off - Off.FMEM_ENT_BASE) / 16) else w
    | .anch => if Off.ANCH_IN_PERIOD ≤ off ∧ off < Off.ANCH_IN_PERIOD + 16 then d.inPeriod ((off - Off.ANCH_IN_PERIOD) / 4) else w
    | .xpt => if off = Off.XPT_NEED_MBPS then BitVec.ofNat 32 (d.needMbps n) else w
    | .spll =>
      if off = Off.SPLL_CKO_HZ ∨ off = Off.SPLL_CKO_HZ + 4 then BitVec.ofNat 32 (d.ckoHz (2 * n + (off - Off.SPLL_CKO_HZ) / 4)) else w
    | .mcg =>
      if off = Off.MCG_MAP_STAT then d.mapStat else if off = Off.MCG_PANIC_STAT then d.panicStat
      else if off = Off.MCG_SR_RESIDENCY then d.srResidency else w
    | .safe => if off = Off.SAFE_BELAY_STAT then d.belayStat else w
    | .bly => if off = Off.BLY_CC_STAT then d.ccStat else w
    | .pcie => if off = Off.PCIE_GPIO_IN then d.gpioIn else w
    | _ => w

/-- A free value of at most `hi`. -/
def Dev.readFree (d : Dev) (hi : Nat) : Dev := (d.answer [BitVec.ofNat 32 (d.freeNat % (hi + 1))]).freeStep

/-- APPLIED_LO of a shadowed page (R46). -/
def Dev.readApplied (d : Dev) (p : Page) (n : Nat) : Dev := d.readLo p n Off.APPLIED_LO (d.appliedAt p n) 16

/-- SHOWN_LO of a port (R241). -/
def Dev.readShown (d : Dev) (p : Nat) : Dev :=
  (d.wr .scan p Off.SCAN_SHOWN_HI (d.port p).shownHi).answer [(d.port p).shownLo]

/-- A 32-bit register read that its page answers (R8): one that latches or claims, or the value. The spec leaves open what PAYLOAD_ID and
LAT_MAX read, and what ROWS_DONE reads while an operation runs. -/
def Dev.readReg (d : Dev) (r : Requester) (p : Page) (n off : Nat) : Dev :=
  match p.desc off with
  | none => d.answer [0]
  | some x =>
    match x.access with
    | .wo | .w1 => d.answer [0]
    | _ =>
      if p.shadowed ∧ off = Off.APPLIED_LO then d.readApplied p n
      else match p with
        | .sys => if off = Off.SYS_TIME_LO then d.readLo .sys 0 off d.now 32 else d.answer [d.regValue r p n off]
        | .intc => if off = Off.INTC_CLAIM then d.onCore (·.claim r false) else d.answer [d.regValue r p n off]
        | .intf => if off = Off.INTF_CLAIM then d.onCore (·.claim r true) else d.answer [d.regValue r p n off]
        | .elog => if off = Off.ELOG_WIN then d.onCore (·.readWin0) else d.answer [d.regValue r p n off]
        | .stim => if off = Off.STIM_FRAME_LO then d.readLo .stim n off (d.cad n).frame 16 else d.answer [d.regValue r p n off]
        | .scan =>
          if off = Off.SCAN_PFRAME_LO then d.readLo .scan n off (d.port n).pframe 16
          else if off = Off.SCAN_SHOWN_LO then d.readShown n else d.answer [d.regValue r p n off]
        | .xpt => if off = Off.XPT_PAYLOAD_ID then d.readFree 0xFFFFFFFF else d.answer [d.regValue r p n off]
        | .blt => if off = Off.BLT_ROWS_DONE ∧ d.blt.op.isSome then d.readFree (bitsOf (d.use .blt 0 Off.BLT_SIZE) 16 15)
                  else d.answer [d.regValue r p n off]
        | .rpg =>
          if off = Off.RPG_TEAM_TIME_LO then d.readLo .rpg 0 off d.teamTime 32
          else if off = Off.RPG_TEAM_FRAME_LO then d.readLo .rpg 0 off d.teamFrame 16 else d.answer [d.regValue r p n off]
        | .safe => if off = Off.SAFE_FAULT_TIME_LO then d.readLo .safe 0 off d.safe.faultAt 32 else d.answer [d.regValue r p n off]
        | .pcie => if off = Off.PCIE_LAT_MAX then d.readFree 0xFFFFFFFF else d.answer [d.regValue r p n off]
        | _ => d.answer [d.regValue r p n off]

/-! The bus (R28, R31, R32, R564) -/

/-- Offsets of the PCIE page that are a function's MSI-X table and pending bits (R564). -/
def msixOff (p : Page) (off : Nat) : Bool := p == .pcie && decide (0x400 ≤ off) && decide (off < 0x430)

/-- A write to a function's MSI-X table (R564); the pending bits ignore it. -/
def Core.writeVector (c : Core) (k off : Nat) (v : Word) : Core :=
  let e := (off - 0x400) / 16
  if 2 ≤ e then c
  else
    let key := 2 * k + e
    let x : Vector := Tbl.get (fun _ => {}) c.vectors key
    let y : Vector := match (off % 16) / 4 with
      | 0 => { x with addr := x.addr / 2 ^ 32 * 2 ^ 32 + (v &&& 0xFFFFFFFC).zeroExtend 64 }
      | 1 => { x with addr := v.zeroExtend 64 * 2 ^ 32 + x.addr % 2 ^ 32 }
      | 2 => { x with data := v }
      | _ => { x with masked := bitOf v 0 }
    { c with vectors := Tbl.set (fun _ => {}) c.vectors key y }

/-- A read of a function's MSI-X table or pending bits (R432, R564). -/
def Core.readVector (c : Core) (k off : Nat) : Word :=
  let e := (off - 0x400) / 16
  if 2 ≤ e then (if off = 0x420 then BitVec.ofNat 32 (flagsNat [c.pba k false, c.pba k true]) else 0)
  else
    let x : Vector := Tbl.get (fun _ => {}) c.vectors (2 * k + e)
    match (off % 16) / 4 with
    | 0 => x.addr.truncate 32
    | 1 => (x.addr >>> 32).truncate 32
    | 2 => x.data
    | _ => BitVec.ofNat 32 x.masked.toNat

/-- The function whose MSI-X table an access reaches: its own, through its BAR0 (R564). -/
def Requester.msixOf : Requester → Option Nat
  | .pf k => some k.val
  | _ => none

/-- A 32-bit write at a BAR0 address; `bar`: it comes through a function's own BAR0. -/
def Dev.busWrite (d : Dev) (r : Requester) (a : Nat) (v : Word) (bar : Bool) : Dev :=
  match Page.ofSlot (a / 4096) with
  | none => d
  | some (p, n) =>
    let off := a % 4096
    if msixOff p off then
      (if d.mode = 0 then d
      else if servedIn d.mode p then match r.msixOf with
        | some k => if bar then d.onCore (·.writeVector k off v) else d
        | none => d
      else d.refuse r p n off true true)
    else d.letIn r p n off true v (·.writeReg r p n off v)

/-- A 32-bit read at a BAR0 address. -/
def Dev.busRead (d : Dev) (r : Requester) (a : Nat) (bar : Bool) : Dev :=
  match Page.ofSlot (a / 4096) with
  | none => d.answer [0]
  | some (p, n) =>
    let off := a % 4096
    if msixOff p off then
      (if d.mode = 0 then d
      else if servedIn d.mode p then match r.msixOf with
        | some k => if bar then d.answer [d.core.readVector k off] else d.answer [0]
        | none => d.answer [0]
      else d.refuse r p n off true false)
    else d.letIn r p n off false 0 (·.readReg r p n off)

/-- A function's access through its own BAR4, which is its own INTF page whatever PROT holds (R435, R455); no one else has a BAR4. -/
def Dev.viaBar4 (d : Dev) (r : Requester) (off : Nat) (write : Bool) (f : Dev → Dev) : Dev :=
  match r with
  | .pf _ => if d.mode = 0 then d else if !servedIn d.mode .intf then d.refuse r .intf 0 off true write else f d
  | _ => d

/-- A 32-bit write and a 32-bit read through BAR4. -/
def Dev.bar4Write (d : Dev) (r : Requester) (off : Nat) (v : Word) : Dev := d.viaBar4 r off true (·.writeReg r .intf 0 off v)
def Dev.bar4Read (d : Dev) (r : Requester) (off : Nat) : Dev := d.viaBar4 r off false (·.readReg r .intf 0 off)

/-- An access of a size or alignment that BAR0 and BAR4 do not take: a host function's is reported (R31, R566). -/
def Dev.badAccess (d : Dev) (r : Requester) (bar4 : Bool) (a size : Nat) (write : Bool) : Dev :=
  match r with
  | .pf k =>
    let w := BitVec.ofNat 32 (a % 2 ^ 24 + k.val * 2 ^ 24 + write.toNat * 2 ^ 27 + bar4.toNat * 2 ^ 28 + min (size - 1) 7 * 2 ^ 29)
    ((d.wr .pcie 0 Off.PCIE_BAD_LAST w).inc .pcie 0 Off.PCIE_BAD_COUNT).flag .pcie 0 10
  | _ => d

/-- A 32-bit write through BAR0 or BAR4. -/
def Dev.writeWord (d : Dev) (r : Requester) (bar4 : Bool) (a : Nat) (v : Word) : Dev :=
  if bar4 then d.bar4Write r (a % 4096) v else d.busWrite r a v true

/-- REGISTER_WRITE: a write of 4 bytes, or of 8 as two of 4, the lower address first (R31). -/
def Dev.registerWrite (d : Dev) (r : Requester) (bar4 : Bool) (a size : Nat) (v : BitVec 64) : Dev :=
  if size = 4 ∧ a % 4 = 0 then d.writeWord r bar4 a (v.truncate 32)
  else if size = 8 ∧ a % 4 = 0 then (d.writeWord r bar4 a (v.truncate 32)).writeWord r bar4 (a + 4) ((v >>> 32).truncate 32)
  else if d.mode = 0 then d else d.badAccess r bar4 a size true

end Sys2Proof.Machine
end

