-- ==== Sys2Proof/Machine/Host.lean ====
section
/-! DEFINITION. The PCI Express endpoint, the quad-SPI and SMBus targets, GPIO, boundary scan, and remote register accesses as their
target serves them ("Host and board interfaces"; R411). -/

namespace Sys2Proof.Machine

/-! PCI Express (R560 to R568) -/

/-- The data link layer is active (R561). -/
def Dev.linkIsUp (d : Dev) : Bool := d.bit .pcie 0 Off.PCIE_LINK_STAT 8

/-- LINK_STAT of a link that is up (R581). -/
def PcieLink.word (x : PcieLink) : Word :=
  BitVec.ofNat 32 (x.speed.val + 1 + 2 ^ x.lanes.val * 8 + 256 + x.reversed.toNat * 512)

/-- PCIE_LINK_UP (R561). -/
def Dev.pcieLinkUp (d : Dev) (x : PcieLink) : Dev :=
  if d.core.powerHold || d.linkIsUp then d else (d.wr .pcie 0 Off.PCIE_LINK_STAT x.word).flag .pcie 0 8

/-- PCIE_SPEED_CHANGE: SPEED or WIDTH changed while up (R581). -/
def Dev.pcieSpeedChange (d : Dev) (x : PcieLink) : Dev :=
  if !d.linkIsUp then d
  else
    let changed := bitsOf (d.rd .pcie 0 Off.PCIE_LINK_STAT) 0 8 ≠ bitsOf x.word 0 8
    let d1 := d.wr .pcie 0 Off.PCIE_LINK_STAT x.word
    if changed then d1.flag .pcie 0 15 else d1

/-- The configuration space, MSI-X table and interrupt state of a function return to reset, and its stalled writes are discarded
(R431, R436, R567). -/
def Dev.functionReset (d : Dev) (k : Fin 8) : Dev :=
  let f := d.rd .pcie 0 Off.PCIE_FUNC_STAT &&& ~~~ BitVec.ofNat 32 (0x01010101 * 2 ^ k.val)
  let d1 := (d.discardStalled k).wr .pcie 0 Off.PCIE_FUNC_STAT f
  d1.onCore fun c =>
    { c with vectors := Tbl.set (fun _ => {}) (Tbl.set (fun _ => {}) c.vectors (2 * k.val) {}) (2 * k.val + 1) {} }.flrSources k.val

/-- Count one more in a half of RESET_COUNT, saturating (R580). -/
def Dev.countReset (d : Dev) (lo : Nat) : Dev :=
  d.setF .pcie 0 Off.PCIE_RESET_COUNT lo 16 (min 0xFFFF (d.fld .pcie 0 Off.PCIE_RESET_COUNT lo 16 + 1))

/-- FLR (R567). -/
def Dev.flr (d : Dev) (k : Fin 8) : Dev := if d.core.powerHold then d else ((d.functionReset k).countReset 0).flag .pcie 0 13

/-- PE_PERST_n low, a hot reset or link disable, which are alike: every function is reset, and the link goes down (R567). -/
def Dev.pePerst (d : Dev) (_how : HotReset) : Dev :=
  if d.core.powerHold then d
  else
    let d1 := (List.finRange 8).foldl Dev.functionReset d
    let d2 := ((d1.wr .pcie 0 Off.PCIE_LINK_STAT 0).wrN .pcie 0 Off.PCIE_BAR2_SIZE 6).countReset 16
    (if d.linkIsUp then d2.flag .pcie 0 9 else d2).flag .pcie 0 14

/-- CONFIGURATION_REQUEST of a function (R561, R563, R568). -/
def Dev.configRequest (d : Dev) (k : Fin 8) (x : CfgWrite) : Dev :=
  if !d.linkIsUp then d
  else
    let set := fun (y : Dev) (i : Nat) (b : Bool) => y.setB .pcie 0 Off.PCIE_FUNC_STAT (8 * i + k.val) b
    (set (set (set (set d 0 x.mem) 1 x.bme) 2 x.msix) 3 x.d3).wrN .pcie 0 Off.PCIE_BAR2_SIZE x.bar2.val

/-- MSIX_BLOCK_END: what a function's block held back is delivered (R432). -/
def Dev.msixBlockEnd (d : Dev) (k : Fin 8) : Dev := d.onCore fun c => (c.deliver k.val false).deliver k.val true

/-- A function takes memory requests: Memory Space Enable, and not in D3hot (R566, R568). -/
def Dev.takesMemory (d : Dev) (k : Fin 8) : Bool :=
  !d.core.powerHold && d.bit .pcie 0 Off.PCIE_FUNC_STAT k.val && !d.bit .pcie 0 Off.PCIE_FUNC_STAT (24 + k.val)

/-- An access lies within BAR2 (R563). -/
def Dev.inBar2 (d : Dev) (a n : Nat) : Bool := decide (a + n ≤ 2 ^ (30 + d.fld .pcie 0 Off.PCIE_BAR2_SIZE 0 4))

/-- HOST_BAR2_WRITE (R88, R498, R566): a posted write, `bad` where it came with the EP bit. -/
def Dev.bar2Write (d : Dev) (k : Fin 8) (a : Nat) (bs : List (BitVec 8)) (bad : Bool) : Dev :=
  if !d.takesMemory k || !d.inBar2 a bs.length || bs.isEmpty then d
  else if !servedIn d.mode .mcc then d.inc .pwr 0 Off.PWR_ASLEEP_ACCESS
  else
    let d1 := if bad then (d.inc .pcie 0 Off.PCIE_POISON_RX).flag .pcie 0 12 else d
    (d1.dramWrite (.pf k) a bs bad).1

/-- A line that a host reads returns poison: poisoned, or outside installed DRAM (R334, R566). -/
def Dev.badLine (d : Dev) (l : Nat) : Bool := d.linePoisoned l || decide (d.core.installed < 64 * l + 64)

/-- HOST_BAR2_READ (R67, R498, R566): zero where it is denied or not served; the completions of poisoned lines carry EP and zero. -/
def Dev.bar2Read (d : Dev) (k : Fin 8) (a n : Nat) : Dev :=
  let zeros := wordsOf (List.replicate n 0)
  if !d.takesMemory k || !d.inBar2 a n then (d.onBoard fun b => { b with ep := [] }).answer []
  else if !servedIn d.mode .mcc then ((d.inc .pwr 0 Off.PWR_ASLEEP_ACCESS).onBoard fun b => { b with ep := [] }).answer zeros
  else if !d.core.mwinAllows (.pf k) a n false then
    ((d.onCore (·.denyMem (.pf k) a false)).onBoard fun b => { b with ep := [] }).answer zeros
  else
    let lines := linesOf a n
    let bad := lines.filter d.badLine
    let d1 := if d.core.installed < a + n then d.rangeError (.pf k) a else d
    let d2 := if lines.any fun l => !(decide (d.core.installed < 64 * l + 64)) then d1.memWake else d1
    let d3 := bad.foldl (fun x _ => x.inc .pcie 0 Off.PCIE_POISON_TX) d2
    let d4 := if bad.isEmpty then d3 else d3.flag .pcie 0 11
    let bytes := (List.range n).map fun i => if bad.contains ((a + i) / 64) then 0 else readByte d.mem (a + i)
    (d4.onBoard fun b => { b with ep := bad }).answer (wordsOf bytes)

/-! Quad-SPI (R569 to R571) -/

/-- A bit of the quad-SPI status sets: 1 ALIGN_ERR, 2 TIMEOUT, 3 ASLEEP. -/
def Dev.qspiSet (d : Dev) (i : Nat) : Dev :=
  let d1 := d.setB .pcie 0 Off.PCIE_QSPI_STAT i true
  if i = 3 then d1 else d1.flag .pcie 0 16

/-- The page at a BAR0 address is not served in the present mode; in POWER_HOLD, which a word of a WRITE may bring about, the target itself
is not (R571). -/
def Dev.asleepAt (d : Dev) (a : Nat) : Bool :=
  match Page.ofSlot (a / 4096) with
  | some (p, _) => !d.core.powerHold && !servedIn d.mode p
  | none => false

/-- The answer of a quad-SPI transaction: its data, and the status byte. -/
def Dev.qspiAnswer (d : Dev) (w : Word) : Dev := d.answer [w, d.rd .pcie 0 Off.PCIE_QSPI_STAT &&& 0xF]

/-- QSPI_READ (R570): one 32-bit access with the rights of PF0 (R60). -/
def Dev.qspiRead (d : Dev) (a : Nat) (inTime : Bool) : Dev :=
  if d.core.powerHold then d
  else if a % 4 ≠ 0 then (d.qspiSet 1).qspiAnswer 0
  else if !inTime then (d.qspiSet 2).qspiAnswer 0
  else
    let d1 := d.busRead (.pf 0) a false
    let w := d1.core.resp.headD 0
    (if d.asleepAt a then d1.qspiSet 3 else d1).qspiAnswer w

/-- The words of a quad-SPI WRITE, each to the next address (R569, R570). -/
def Dev.qspiWords (d : Dev) (a : Nat) : List Word → Dev
  | [] => d
  | w :: r =>
    let d1 := d.busWrite (.pf 0) (a % 2 ^ 24) w false
    Dev.qspiWords (if d.asleepAt (a % 2 ^ 24) then d1.qspiSet 3 else d1) (a + 4) r

/-- QSPI_WRITE (R570). -/
def Dev.qspiWrite (d : Dev) (a : Nat) (ws : List Word) : Dev :=
  if d.core.powerHold then d else if a % 4 ≠ 0 then d.qspiSet 1 else d.qspiWords a ws

/-- QSPI_STATUS: the sticky bits are returned and cleared (R571). -/
def Dev.qspiStatus (d : Dev) : Dev :=
  if d.core.powerHold then d
  else (d.answer [d.rd .pcie 0 Off.PCIE_QSPI_STAT &&& 0xF]).wr .pcie 0 Off.PCIE_QSPI_STAT 0

/-! SMBus (R573 to R575) -/

/-- A transaction addressed to the target: in BIVOUAC it is the SMBUS wake cause (R441, R574). -/
def Dev.smbWake (d : Dev) : Dev :=
  let d1 := d.onBoard fun b => { b with nack := false }
  if d1.mode = 9 then d1.wakeCause 0x10000 else d1

/-- A denied SMBus access (R574). -/
def Dev.smbDeny (d : Dev) : Dev := d.inc .pcie 0 Off.PCIE_SMB_DENY

/-- READ_REG (R573, R574). -/
def Dev.smbRead (d : Dev) (a : Nat) : Dev :=
  if d.core.powerHold then d
  else
    let d1 := d.smbWake
    match Page.ofSlot (a / 4096) with
    | none => d1.smbDeny.answer [0]
    | some (p, _) =>
      if !smbusMay p (a % 4096) false 0 then d1.smbDeny.answer [0]
      else if a % 4 ≠ 0 then d1.answer [0] else d1.busRead .smbus a false

/-- WRITE_REG (R573, R574): with PEC_REQ a write without a good PEC is not made, and its last byte is not acknowledged. -/
def Dev.smbWrite (d : Dev) (a : Nat) (v : Word) (pec : Option Bool) : Dev :=
  if d.core.powerHold then d
  else
    let d1 := d.smbWake
    if d1.bit .pcie 0 Off.PCIE_SMB_CTRL 8 && pec != some true then d1.onBoard fun b => { b with nack := true }
    else match Page.ofSlot (a / 4096) with
      | none => d1.smbDeny
      | some (p, _) => if smbusMay p (a % 4096) true v then d1.busWrite .smbus a v false else d1.smbDeny

/-- STATUS (R573). -/
def Dev.smbStatus (d : Dev) : Dev :=
  if d.core.powerHold then d
  else
    let d1 := d.smbWake
    d1.answer [d1.smbStatusWord]

/-- TEMP (R573): TEMP.TJ, sign-extended to a word of 16 bits. -/
def Dev.smbTemp (d : Dev) : Dev :=
  if d.core.powerHold then d
  else
    let d1 := d.smbWake
    d1.answer [BitVec.ofNat 32 (ofSigned (signedOf (d1.fld .pwr 0 Off.PWR_TEMP 0 12) 12) 16)]

/-- The Alert Response Address returns the target's address, and the pin is released (R575). -/
def Dev.alertResponse (d : Dev) : Dev :=
  if d.core.powerHold || !d.alertLow then d
  else (d.answer [BitVec.ofNat 32 (d.fld .pcie 0 Off.PCIE_SMB_CTRL 0 7)]).onBoard fun b => { b with acked := d.alertCauses }

/-! GPIO (R441, R576) -/

/-- GPIO_EVENT: a pin's filtered level. An input's selected edge raises its source, unless its block is gated in BIVOUAC; pins 0 to 3 can
wake. -/
def Dev.gpioEvent (d : Dev) (n : Nat) (level : Bool) : Dev :=
  if d.core.powerHold then d
  else
    let edge := d.bit .pcie 0 Off.PCIE_GPIO_IN n != level
    let evt := d.fld .pcie 0 Off.PCIE_GPIO_EVT (2 * n) 2
    let chosen := evt == 3 || (evt == 1 && level) || (evt == 2 && !level)
    let d1 := d.setB .pcie 0 Off.PCIE_GPIO_IN n level
    let d2 := if edge && chosen && !d.bit .pcie 0 Off.PCIE_GPIO_DIR n && d.mode != 9 then d1.event (864 + n) 0xFF else d1
    let high := d.bit .intc 0 Off.INTC_WAKE_CTRL (4 + n)
    if n < 4 ∧ level = high ∧ (edge || !d.bit .intc 0 Off.INTC_WAKE_CTRL (8 + n)) then d2.wakeCause (2 ^ n) else d2

/-! Boundary scan (R579) -/

/-- Instructions that take the pins away from the device. -/
def ScanInstr.takesPins : ScanInstr → Bool
  | .extest | .extestPulse | .extestTrain | .highz | .clamp => true
  | _ => false

/-- BOUNDARY_SCAN_INSTRUCTION (R579). -/
def Dev.boundaryScan (d : Dev) (x : ScanInstr) : Dev :=
  if x.takesPins then d.onBoard fun b => { b with scanned := true }
  else if x = .idcode then d.answer [0x28440A6B] else d

/-! Remote register accesses at their target (R62, R411) -/

/-- An access that a page denies: served in the present mode, and without the right. -/
def Dev.deniedAt (d : Dev) (r : Requester) (a : Nat) (write : Bool) (v : Word) : Bool :=
  match Page.ofSlot (a / 4096) with
  | some (p, n) => servedIn d.mode p && !d.core.mayAccess r p n (a % 4096) write v
  | none => false

/-- RREG_REQUEST: the access is made as requester 0xF and answered to the device that asks (R411). -/
def Dev.rregRequest (d : Dev) (origin a : Nat) (write : Bool) (v : Word) : Dev :=
  let d := d.hush
  let a := a / 4 * 4
  if d.core.powerHold then d
  else if d.mode = 9 then d.sayTo [origin] (.rregReply 4 0)
  else
    let d1 := if write then d.busWrite .remote a v false else d.busRead .remote a false
    d1.sayTo [origin] (.rregReply (d.deniedAt .remote a write v).toNat (if write then 0 else d1.core.resp.headD 0))

end Sys2Proof.Machine
end

