-- ==== Sys2Proof/Machine/Restore.lean ====
section
/-! DEFINITION. The end of TRAINING, with the configuration that the settings block kept for READY (R335, R548), and a tick of a scene with
what waits for a boundary beside composition (R201, R398, R508, R512, R539). -/

namespace Sys2Proof.Machine

/-- A saved register of the block in use goes to its shadow. -/
def Dev.restoreShadow (d : Dev) (x : Nat × Word) : Dev :=
  match Page.ofSlot (x.1 / 4096) with
  | some (p, n) => d.shadowWrite (.cpu 0) p n (x.1 % 4096) x.2
  | none => d

/-- A saved immediate register is written again; the consumers' read pointers of the log are no configuration (R446, R448). -/
def Dev.restoreIm (d : Dev) (x : Nat × Word) : Dev :=
  match Page.ofSlot (x.1 / 4096) with
  | some (p, n) =>
    let off := x.1 % 4096
    match p.desc off with
    | some y =>
      if y.access ≠ .im ∨ (p = .elog ∧ (off = Off.ELOG_SPILL_RPTR ∨ (Off.ELOG_RPTR ≤ off ∧ off < Off.ELOG_RPTR + 24))) then d
      else d.writeReg (.cpu 0) p n off x.2
    | none => d
  | none => d

/-- Whether a saved register enables spilling, which must follow the place of the spill ring (R448). -/
def isSpillEn (x : Nat × Word) : Bool := x.1 == Page.elog.reg 0 Off.ELOG_ELOG_CTRL

/-- The shadowed pages that a configuration names. -/
def configPages (l : List (Nat × Word)) : List (Page × Nat) :=
  (l.filterMap fun x => match Page.ofSlot (x.1 / 4096) with
    | some (p, n) => if p.shadowed && decide (0x100 ≤ x.1 % 4096) then some (p, n) else none
    | none => none).eraseDups

/-- The power-on frame goes to the entry it was saved from (R548, R554). -/
def Dev.restoreFrame (d : Dev) (e : Nat) (words : List Word) (bs : List (BitVec 8)) : Dev :=
  let d1 := d.onCore (·.wrList .fmem 0 (Off.FMEM_ENT_BASE + 16 * e) (words.take 4))
  ({ d1 with fm := writeBytes d1.fm (d1.entAddr e) bs }).showFree

/-- The configuration of the block in use: shadows, whose pages apply while nothing runs yet, then the immediate registers, then the
power-on frame. -/
def Dev.restoreSettings (d : Dev) : Dev :=
  let l := d.fw.config
  let d1 := l.foldl Dev.restoreShadow d
  let d2 := (configPages l).foldl (fun x p => x.commitArm (.cpu 0) p.1 p.2) d1
  let d3 := (l.filter fun x => !isSpillEn x).foldl Dev.restoreIm d2
  let d4 := (l.filter isSpillEn).foldl Dev.restoreIm d3
  match d.fw.frame with
  | some (e, words, bs) => d4.restoreFrame e words bs
  | none => d4

/-- DRAM_TRAINING_DONE: the memories and their map, the saved configuration, then READY, or TEST under BOOTSEL 0b10; the generators start
(R245, R335, R505). -/
def Dev.trainingDone (d : Dev) (t : TrainReport) : Dev :=
  if d.mode ≠ 3 then d
  else
    let d1 := ((d.trainMemory t).wrN .pwr 0 Off.PWR_BOOT_TIME (min t.bootMs 0xFFFF)).restoreSettings
    d1.startCadences.setMode (if d.fld .pwr 0 Off.PWR_RESET_CAUSE 8 2 = 2 then 10 else 4)

/-- CADENCE_TICK with all that a tick of a scene brings: the team's part of it, and, where it is a boundary, a voltage change aligned to
it and a step of the firmware's hand-over. -/
def Dev.sceneTick (d : Dev) (s : Nat) (golden : Bool) : Dev :=
  if !cadModes.contains d.mode || !(d.cad s).going then d
  else
    let d0 := ((d.injectBy (d.nextBoundary s)).moveStep).resumePorts
    let n := d0.announced s
    let d1 := (d0.cadenceTick s golden).teamTick s n
    (if d0.tickIsBoundary s then (d1.vpBoundary s).fwBoundary s else d1).handSettle

end Sys2Proof.Machine
end

