-- ==== Sys2Proof/Machine/Operands.lean ====
section
/-! DEFINITION. The forms in which a command reaches the device: a register write or read by a requester (R8, R60), which a host function's
stalled write holds back (R96), or an event. -/

namespace Sys2Proof.Machine

open Host (Outcome)

/-- A command that is a register write: `v` is the word it writes and `f` what the write does. -/
def State.write (s : State) (r : Requester) (i : Instr) (p : Page) (n off : Nat) (v : Word) (f : Dev → Dev) :
    Outcome State Fault Refusal :=
  .next (s.posted r i fun d => d.letIn r p n off true v f)

/-- A command that is a register read. -/
def State.read (s : State) (r : Requester) (i : Instr) (p : Page) (n off : Nat) : Outcome State Fault Refusal :=
  .next (s.posted r i fun d => d.letIn r p n off false 0 (·.readReg r p n off))

/-- An event: a clock, a pin, a unit of the device or its firmware brings it about. -/
def State.happens (s : State) (f : Dev → Dev) : Outcome State Fault Refusal := .next (s.on f)

/-- An access to memory or the bus by a requester. -/
def State.access (s : State) (r : Requester) (i : Instr) (f : Dev → Dev) : Outcome State Fault Refusal := .next (s.posted r i f)

/-- The offset of the PEND_CLR register for sources 32 i to 32 i + 31, in page i / 2 (R439). -/
def pendClrOff (i : Nat) : Nat := Off.ISRC_PEND_CLR_LO + 4 * (i % 2)

/-- The offset of CKO_CTRL or CKO_DIV of clock output c, in page c / 2 (R289). -/
def ckoOff (c : Nat) (div : Bool) : Nat := Off.SPLL_CKO_CTRL + 8 * (c % 2) + (if div then 4 else 0)

/-- The word a group write carries (R59). -/
def groupWord (arm cancel : Nat) (atFrame : Bool) : Word := BitVec.ofNat 32 (arm + cancel * 256 + atFrame.toNat * 65536)

end Sys2Proof.Machine
end

