-- ==== Sys2Proof/Machine/ExecBlock.lean ====
section
/-! DEFINITION. The meanings of the commands: Block engine (R367 to R386). -/

namespace Sys2Proof.Machine

open Host (Outcome)

/-- BLT_START (R369): BLT CMD.START applies an armed commit and starts one fill, copy or convert operation. -/
def execBltStart (r : Requester) (s : State) : Outcome State Fault Refusal :=
  s.write r (.bltStart r) .blt 0 Off.BLT_CMD 1 (·.bltStart r)

/-- BLT_ABORT (R380): BLT CMD.ABORT stops the engine issuing requests within 1 µs. -/
def execBltAbort (r : Requester) (s : State) : Outcome State Fault Refusal :=
  s.write r (.bltAbort r) .blt 0 Off.BLT_CMD 2 Dev.bltAbort

/-- BLT_OP_DONE (R371): The last write of an operation retires, or an abort completes, and the result is published. -/
def execBltOpDone (full part : Nat) (s : State) : Outcome State Fault Refusal :=
  s.happens fun d => d.bltOpDone full part

/-- BLT_DONE_FENCE (R371): The done fence write retires and BLT_DONE is raised. -/
def execBltDoneFence (s : State) : Outcome State Fault Refusal :=
  s.happens fun d => d.bltFence

end Sys2Proof.Machine
end

