-- ==== Sys2Proof/Machine/ExecBoard.lean ====
section
/-! DEFINITION. The meanings of the commands: Host and board interfaces (R560 to R583). -/

namespace Sys2Proof.Machine

open Host (Outcome)

/-- PCIE_LINK_UP (R561): The PCI Express data link layer becomes active. -/
def execPcieLinkUp (x : PcieLink) (s : State) : Outcome State Fault Refusal :=
  s.happens fun d => d.pcieLinkUp x

/-- PE_PERST (R567): PE_PERST_n low or a hot reset resets every function and retrains the link. -/
def execPePerst (x : HotReset) (s : State) : Outcome State Fault Refusal :=
  s.happens fun d => d.pePerst x

/-- FLR (R567): A Function Level Reset returns one function's configuration and interrupt state to reset. -/
def execFlr (k : Fin 8) (s : State) : Outcome State Fault Refusal :=
  s.happens fun d => d.flr k

/-- HOST_BAR2_WRITE (R88): A host posted write to BAR2 enters the HST port in arrival order. -/
def execHostBar2Write (k : Fin 8) (addr : BitVec 40) (bytes : List (BitVec 8)) (ep : Bool) (s : State) : Outcome State Fault Refusal :=
  s.access (.pf k) (.hostBar2Write k addr bytes ep) fun d => d.bar2Write k addr.toNat bytes ep

/-- HOST_BAR2_READ (R566): A host read of BAR2 returns DDR5 data, zero on denial or EP on poison. -/
def execHostBar2Read (k : Fin 8) (addr : BitVec 40) (bytes : Nat) (s : State) : Outcome State Fault Refusal :=
  s.access (.pf k) (.hostBar2Read k addr bytes) fun d => d.bar2Read k addr.toNat bytes

/-- QSPI_READ (R570): A quad-SPI READ performs one 32-bit BAR0 read with wait bytes, token and status. -/
def execQspiRead (addr : BitVec 24) (inTime : Bool) (s : State) : Outcome State Fault Refusal :=
  s.happens fun d => d.qspiRead addr.toNat inTime

/-- QSPI_WRITE (R570): A quad-SPI WRITE performs posted 32-bit BAR0 writes in order. -/
def execQspiWrite (addr : BitVec 24) (words : List Word) (s : State) : Outcome State Fault Refusal :=
  s.happens fun d => d.qspiWrite addr.toNat words

/-- QSPI_STATUS (R571): A quad-SPI STATUS returns and clears the sticky status bits. -/
def execQspiStatus (s : State) : Outcome State Fault Refusal :=
  s.happens fun d => d.qspiStatus

/-- READ_REG (R574): SMBus READ_REG reads an allowed register. -/
def execReadReg (addr : BitVec 24) (s : State) : Outcome State Fault Refusal :=
  s.happens fun d => d.smbRead addr.toNat

/-- WRITE_REG (R574): SMBus WRITE_REG writes MODE_REQ SHUTDOWN or RESET_CMD, other writes denied. -/
def execWriteReg (addr : BitVec 24) (v : Word) (pec : Option Bool) (s : State) : Outcome State Fault Refusal :=
  s.happens fun d => d.smbWrite addr.toNat v pec

/-- SMBUS_STATUS (R573): SMBus STATUS returns mode, fault, thermal and link bits. -/
def execSmbusStatus (s : State) : Outcome State Fault Refusal :=
  s.happens fun d => d.smbStatus

/-- SMBUS_TEMP (R573): SMBus TEMP returns the junction temperature. -/
def execSmbusTemp (s : State) : Outcome State Fault Refusal :=
  s.happens fun d => d.smbTemp

/-- ALERT_RESPONSE (R575): An SMBus Alert Response Address read returns the address and releases SMB_ALERT_n. -/
def execAlertResponse (s : State) : Outcome State Fault Refusal :=
  s.happens fun d => d.alertResponse

/-- GPIO_EVENT (R576): A filtered edge on a GPIO input raises its event source. -/
def execGpioEvent (n : Fin 16) (level : Bool) (s : State) : Outcome State Fault Refusal :=
  s.happens fun d => d.gpioEvent n.val level

/-- DECLARATION_LOSS (R276): After a PLL stops its pin current, the lock pin voltage falls below the falling threshold of the comparator
0.18 to 0.48 ms later, and declared lock is lost. -/
def execDeclarationLoss (k : Fin 10) (s : State) : Outcome State Fault Refusal :=
  s.happens fun d => d.declarationLoss k.val

/-- THROTTLE_EPISODE_END (R349): 16 ms after a row-disturbance throttle began, the recorded port is no longer throttled in that bank and
THROTTLED clears. -/
def execThrottleEpisodeEnd (c : Fin 8) (s : State) : Outcome State Fault Refusal :=
  s.happens fun d => d.throttleEnd c.val

/-- CONFIGURATION_INTEGRITY_CHECK (R462): SM07 compares active register values with their committed snapshot and raises a fault on a
difference, within 1 ms. -/
def execConfigurationIntegrityCheck (bad : Bool) (s : State) : Outcome State Fault Refusal :=
  s.happens fun d => d.configCheck bad

/-- LUT_INTEGRITY_CHECK (R462): SM20 checks tone and adapter LUT SRAM against the CRC taken at load and raises a fault on a difference,
within 1 ms. -/
def execLutIntegrityCheck (lut : LutRef) (bad : Bool) (s : State) : Outcome State Fault Refusal :=
  s.happens fun d => d.lutCheck lut bad

/-- REROUTE_TABLES (R414): After a break the lead recomputes routes and the timing tree, distributes them, and raises REROUTE_DONE once
they are in force on every member. -/
def execRerouteTables (x : TeamResult) (s : State) : Outcome State Fault Refusal :=
  s.happens fun d => d.rerouteTables x

/-- CONFIGURATION_REQUEST (R563): A PCI Express configuration write changes a function's Memory Space Enable, Bus Master Enable, MSI-X
enable, power state or BAR2 size. -/
def execConfigurationRequest (k : Fin 8) (x : CfgWrite) (s : State) : Outcome State Fault Refusal :=
  s.happens fun d => d.configRequest k x

/-- PCIE_SPEED_CHANGE (R581): The PCI Express link changes speed or width while up, and SPEED_CHANGE sets. -/
def execPcieSpeedChange (x : PcieLink) (s : State) : Outcome State Fault Refusal :=
  s.happens fun d => d.pcieSpeedChange x

/-- BOUNDARY_SCAN_INSTRUCTION (R579): An instruction loaded through the test access port, such as EXTEST, HIGHZ or CLAMP, takes the pins
away from the device in any mode. -/
def execBoundaryScanInstruction (x : ScanInstr) (s : State) : Outcome State Fault Refusal :=
  s.happens fun d => d.boundaryScan x

end Sys2Proof.Machine
end

