-- ==== Sys2Proof/Machine/ExecClocks.lean ====
section
/-! DEFINITION. The meanings of the commands: Clock synthesis (R269 to R294). -/

namespace Sys2Proof.Machine

open Host (Outcome)

/-- PLL_BAND_SEARCH_DONE (R274): The band search of a cold lock ends with a band chosen, or fails with BAND_FAIL. -/
def execPllBandSearchDone (k : Fin 10) (band : Option (Fin 64)) (s : State) : Outcome State Fault Refusal :=
  s.happens fun d => d.bandSearchDone k.val band

/-- PLL_INTERNAL_LOCK (R276): The internal lock detector reports lock after 64 good reference periods. -/
def execPllInternalLock (k : Fin 10) (tune : BitVec 16) (s : State) : Outcome State Fault Refusal :=
  s.happens fun d => d.internalLock k.val tune

/-- PLL_ALIGNMENT_EDGE (R275): On the reference edge after lock the PLL resets its divider and modulator, releases its output and starts
its pin current. -/
def execPllAlignmentEdge (k : Fin 10) (s : State) : Outcome State Fault Refusal :=
  s.happens fun d => d.alignmentEdge k.val

/-- LOCK_PIN_CROSSING (R277): The lock pin comparator rises, PIN_RISE is recorded and lock is declared. -/
def execLockPinCrossing (k : Fin 10) (us : Nat) (s : State) : Outcome State Fault Refusal :=
  s.happens fun d => d.lockCrossing k.val us

/-- LOCK_PIN_TIMEOUT (R277): No crossing by 3.0 ms sets PIN_FAULT and declares lock from the internal detector. -/
def execLockPinTimeout (k : Fin 10) (s : State) : Outcome State Fault Refusal :=
  s.happens fun d => d.lockTimeout k.val

/-- PLL_INTERNAL_LOSS (R283): The internal detector or a self-check reports loss, and the PLL falls back or stops its output. -/
def execPllInternalLoss (k : Fin 10) (s : State) : Outcome State Fault Refusal :=
  s.happens fun d => d.pllLoss k.val

/-- FALLBACK_LOCK (R280): The fall-back loop reaches lock and aligns, and the stream clock resumes on the fall-back path. -/
def execFallbackLock (k : Fin 8) (s : State) : Outcome State Fault Refusal :=
  s.happens fun d => d.fallbackResume k.val

/-- PLL_RETRY (R283): Every 10 ms a PLL without lock retries a cold lock. -/
def execPllRetry (k : Fin 10) (s : State) : Outcome State Fault Refusal :=
  s.happens fun d => d.pllRetry k.val

/-- WARM_RELOCK_TIMEOUT (R279): A warm relock without internal lock at 20 µs becomes a cold lock. -/
def execWarmRelockTimeout (k : Fin 10) (s : State) : Outcome State Fault Refusal :=
  s.happens fun d => d.warmTimeout k.val

/-- RETRY_MAIN (R282): PPLL.CMD.RETRY_MAIN starts a cold lock on the main path. -/
def execRetryMain (r : Requester) (p : Fin 8) (s : State) : Outcome State Fault Refusal :=
  s.write r (.retryMain r p) .ppll p.val Off.PPLL_CMD 1 (·.retryMain r p.val)

/-- REFERENCE_LOSS (R286): No 25 MHz edge for 200 ns puts every PLL in holdover. -/
def execReferenceLoss (s : State) : Outcome State Fault Refusal :=
  s.happens fun d => d.referenceLoss

/-- REFERENCE_RETURN (R287): 4,096 good reference periods close every held-over loop from its frozen tuning. -/
def execReferenceReturn (s : State) : Outcome State Fault Refusal :=
  s.happens fun d => d.referenceReturn

/-- CKO_WRITE (R289): A write of CKO_CTRL or CKO_DIV changes a clock output's source, divider or format, or is rejected. -/
def execCkoWrite (r : Requester) (c : Fin 4) (div : Bool) (v : Word) (s : State) : Outcome State Fault Refusal :=
  s.write r (.ckoWrite r c div v) .spll (c.val / 2) (ckoOff c.val div) v (·.ckoWrite r c.val div v)

end Sys2Proof.Machine
end

