-- ==== Sys2Proof/Machine/ExecCompose.lean ====
section
/-! DEFINITION. The meanings of the commands: Boundaries, buffer use, composition, tone and adapters (R76 to R207). -/

namespace Sys2Proof.Machine

open Host (Outcome)

/-- CADENCE_TICK (R245): The cadence generator of a scene reaches its next tick time, placed by its accumulator and source. -/
def execCadenceTick (s : Fin 4) (golden : Bool) (st : State) : Outcome State Fault Refusal :=
  st.happens fun d => d.sceneTick s.val golden

/-- FENCE_READ_DONE (R85): A READY fence read returns, and the use is found ready or the NOT_READY_POLICY decides the layer. -/
def execFenceReadDone (e : Fin 64) (s : State) : Outcome State Fault Refusal :=
  s.happens fun d => d.fenceReadDone e.val

/-- WAIT_FENCE_REREAD (R194): Every 4 µs under WAIT the fence of a waiting layer is read again. -/
def execWaitFenceReread (e : Fin 64) (s : State) : Outcome State Fault Refusal :=
  s.happens fun d => d.waitReread e.val

/-- WAIT_BOUND_EXPIRY (R194): The wait bound B expires and WAIT_FALL decides the layer, so blending can begin. -/
def execWaitBoundExpiry (s : Fin 4) (st : State) : Outcome State Fault Refusal :=
  st.happens fun d => d.waitExpiry s.val

/-- META_READ_DONE (R90): A metadata block read returns and its fields are taken, or ignored with META_BAD; its luminance steers tone mapping
(R149). -/
def execMetaReadDone (e : Fin 64) (s : State) : Outcome State Fault Refusal :=
  s.happens fun d => d.metaDone e.val

/-- PIXEL_READ_RETURN (R129): A layer pixel read returns, and poisoned data makes its output pixels the scene background. -/
def execPixelReadReturn (e : Fin 64) (addr : BitVec 40) (s : State) : Outcome State Fault Refusal :=
  s.happens fun d => d.pixelReturn e.val addr.toNat

/-- RELEASE_WRITE (R89): Once a use has ended and its last reads returned, the device writes its RELEASE fence and removes its hold
windows. -/
def execReleaseWrite (e : Fin 64) (s : State) : Outcome State Fault Refusal :=
  s.happens fun d => d.releaseOldest e.val

/-- BAND_COMPLETE (R183): The blender completes a band of 64 rows and projects compose done, raising or releasing deadline panic. -/
def execBandComplete (s : Fin 4) (st : State) : Outcome State Fault Refusal :=
  st.happens fun d => d.bandComplete s.val

/-- BLENDER_ROW_WRITE (R186): In chase mode the blender writes a canvas row once every port has read its previous generation. -/
def execBlenderRowWrite (s : Fin 4) (st : State) : Outcome State Fault Refusal :=
  st.happens fun d => d.rowWrite s.val

/-- COMPOSE_DONE (R180): Every pixel write of the frame is accepted, the buffer is marked complete and slack is recorded. -/
def execComposeDone (s : Fin 4) (pace : Nat) (engines : List EngineFigures) (st : State) : Outcome State Fault Refusal :=
  st.happens fun d => d.composeDone s.val pace engines

/-- FORCE_RECOMPOSE (R207): A write of STIM.FORCE.RECOMPOSE keeps the next boundary from being held. -/
def execForceRecompose (r : Requester) (s : Fin 4) (st : State) : Outcome State Fault Refusal :=
  st.write r (.forceRecompose r s) .stim s.val Off.STIM_FORCE 1 (·.forceRecompose s.val)

/-- FORCE_FLAT_DROP (R207): A write of STIM.FORCE.FLAT_DROP drops the flatten surfaces at the next boundary. -/
def execForceFlatDrop (r : Requester) (s : Fin 4) (st : State) : Outcome State Fault Refusal :=
  st.write r (.forceFlatDrop r s) .stim s.val Off.STIM_FORCE 2 (·.forceFlatDrop s.val)

/-- TONE_LUT_BUILD_DONE (R146): A tone LUT build completes, or is abandoned on a table read failure, and awaits its swap. -/
def execToneLutBuildDone (s : Fin 4) (ns : Nat) (st : State) : Outcome State Fault Refusal :=
  st.happens fun d => d.toneBuildDone s.val ns

/-- PRESTAGE (R162): A write of PADP.PRESTAGE.STAGE starts staging of the shadow LUT image. -/
def execPrestage (r : Requester) (p : Fin 8) (s : State) : Outcome State Fault Refusal :=
  s.write r (.prestage r p) .padp p.val Off.PADP_PRESTAGE 1 (·.prestage p.val)

/-- ADAPTER_STAGING_DONE (R162): An adapter LUT image has been read and checked, and is STAGED or rejected. -/
def execAdapterStagingDone (p : Fin 8) (s : State) : Outcome State Fault Refusal :=
  s.happens fun d => d.stagingDone p.val

/-- ADAPTER_RELOAD_DONE (R162): A port finishes reloading its LUT SRAM from the staging slot in vertical blanking. -/
def execAdapterReloadDone (p : Fin 8) (ecc : Ecc) (addr : Nat) (s : State) : Outcome State Fault Refusal :=
  s.happens fun d => d.reloadDone p.val ecc addr

end Sys2Proof.Machine
end

