-- ==== Sys2Proof/Machine/ExecDram.lean ====
section
/-! DEFINITION. The meanings of the commands: External memory controller (R328 to R366). -/

namespace Sys2Proof.Machine

open Host (Outcome)

/-- DRAM_TRAINING_DONE (R335): Training of DDR5 and frame memory ends, the address map is installed and the device enters READY or TEST.
-/
def execDramTrainingDone (t : TrainReport) (s : State) : Outcome State Fault Refusal :=
  s.happens fun d => d.trainingDone t

/-- MAP_APPLY (R339): MCG.MAP_CMD.APPLY checks and installs a new address map. -/
def execMapApply (r : Requester) (s : State) : Outcome State Fault Refusal :=
  s.write r (.mapApply r) .mcg 0 Off.MCG_MAP_CMD 1 (·.mapApply r)

/-- WEIGHT_WRITE (R344): A write of the arbiter weights is stored, or dropped whole when they sum above 64. -/
def execWeightWrite (r : Requester) (which : Fin 3) (v : Word) (s : State) : Outcome State Fault Refusal :=
  s.write r (.weightWrite r which v) .mcg 0 (Off.MCG_WEIGHT_RT + 4 * which.val) v (·.weightWrite r which.val v)

/-- DRAM_READ_ENQUEUE (R342): A read enters a controller port queue, is checked by MWIN and range and may start a hazard episode. -/
def execDramReadEnqueue (r : Requester) (scene : Fin 4) (addr : BitVec 40) (s : State) : Outcome State Fault Refusal :=
  s.happens fun d => d.readEnqueue r scene.val addr.toNat

/-- DRAM_WRITE_ENQUEUE (R94): A write enters a controller port queue and is checked by MWIN, range and hold windows. -/
def execDramWriteEnqueue (r : Requester) (scene : Fin 4) (addr : BitVec 40) (bytes : List (BitVec 8)) (s : State) : Outcome State Fault Refusal :=
  s.happens fun d => d.writeEnqueue r scene.val addr.toNat bytes

/-- STALLED_WRITE_RESUME (R97): A stalled write lands once every window it overlaps is removed. -/
def execStalledWriteResume (s : State) : Outcome State Fault Refusal :=
  s.happens fun d => d.resumeWrite

/-- HOLD_STALL_TIMEOUT (R95): A stalled write whose bound expires is dropped with TIMEOUT and its window turns to REJECT. -/
def execHoldStallTimeout (i : Nat) (e : Fin 64) (use : Nat) (s : State) : Outcome State Fault Refusal :=
  s.happens fun d => d.stallTimeout i e.val use

/-- DRAM_READ_RETURN (R350): A DDR5 read returns its data, corrected or as poison, and may trigger migration or rank failure. -/
def execDramReadReturn (port : Fin 9) (ecc : Ecc) (s : State) : Outcome State Fault Refusal :=
  s.happens fun d => d.readReturn port.val ecc

/-- DRAM_WRITE_RETIRE (R341): A write is accepted into its subchannel write buffer and retires in port order. -/
def execDramWriteRetire (port : Fin 9) (s : State) : Outcome State Fault Refusal :=
  s.happens fun d => d.writeRetire port.val

/-- DRAM_REFRESH (R347): A refresh interval of a channel elapses and a refresh is issued. -/
def execDramRefresh (c : Fin 8) (bank : Fin 4) (s : State) : Outcome State Fault Refusal :=
  s.happens fun d => d.dramRefresh c.val bank.val

/-- DRAM_TEMP_POLL (R347): Every 32 ms rank temperature is read and the refresh rate doubled or restored. -/
def execDramTempPoll (c : Fin 8) (temp : Nat) (s : State) : Outcome State Fault Refusal :=
  s.happens fun d => d.dramTemp c.val temp

/-- RH_COUNT_HALVING (R348): Every 16 ms every tracked row's activation count is halved. -/
def execRhCountHalving (s : State) : Outcome State Fault Refusal :=
  s.happens fun d => d.rhHalve

/-- DRAM_PATROL_SCRUB (R352): Patrol scrub reads an installed line through MNT. -/
def execDramPatrolScrub (addr : BitVec 40) (ecc : Ecc) (s : State) : Outcome State Fault Refusal :=
  s.happens fun d => d.patrolScrub addr.toNat ecc

/-- MIG_START (R353): MCG.MIG_CMD.START begins migration of a rank to its subchannel's spare. -/
def execMigStart (r : Requester) (u : Fin 16) (k : Fin 4) (s : State) : Outcome State Fault Refusal :=
  s.write r (.migStart r u k) .mcg 0 Off.MCG_MIG_CMD (BitVec.ofNat 32 (1 + u.val * 2 + k.val * 32)) (·.migStart r u.val k.val)

/-- MIG_LINE_COPY (R354): Migration copies the line at MIG_PTR to the spare and advances the pointer. -/
def execMigLineCopy (ecc : Ecc) (s : State) : Outcome State Fault Refusal :=
  s.happens fun d => d.migCopy ecc

/-- MIG_DONE (R355): The pointer passes the last line and service of the rank moves to the spare. -/
def execMigDone (s : State) : Outcome State Fault Refusal :=
  s.happens fun d => d.migDone

/-- SR_ENTRY (R359): Idle conditions held for IDLE_US start self-refresh entry. -/
def execSrEntry (s : State) : Outcome State Fault Refusal :=
  s.happens fun d => d.srEntry

/-- SR_ENTERED (R359): Self-refresh entry completes, clocks stop and system PLL 0 parks. -/
def execSrEntered (s : State) : Outcome State Fault Refusal :=
  s.happens fun d => d.srEntered

/-- SR_PREWAKE (R358): PREWAKE_US before a boundary with an armed FRAME commit, self-refresh exit starts. -/
def execSrPrewake (s : Fin 4) (st : State) : Outcome State Fault Refusal :=
  st.happens fun d => d.srPrewake s.val

/-- SR_EXIT (R359): A request or trigger starts self-refresh exit. -/
def execSrExit (s : State) : Outcome State Fault Refusal :=
  s.happens fun d => d.srExit

/-- SR_EXITED (R359): Self-refresh exit completes and the first waiting command is issued. -/
def execSrExited (s : State) : Outcome State Fault Refusal :=
  s.happens fun d => d.srExited

/-- CLOCK_LOSS (R360): System PLL 0 without lock for 16 ms while DDR5 is active sets CLOCK_LOSS. -/
def execClockLoss (s : State) : Outcome State Fault Refusal :=
  s.happens fun d => d.clockLoss

end Sys2Proof.Machine
end

