-- ==== Sys2Proof/Machine/ExecEvents.lean ====
section
/-! DEFINITION. The meanings of the commands: Interrupts, events and Cairn records (R427 to R460). -/

namespace Sys2Proof.Machine

open Host (Outcome)

/-- INTC_CLAIM (R433): A read of INTC.CLAIM claims the lowest claimable normal-class source of the reader. -/
def execIntcClaim (r : Requester) (s : State) : Outcome State Fault Refusal :=
  s.read r (.intcClaim r) .intc 0 Off.INTC_CLAIM

/-- INTF_CLAIM (R433): A read of INTF.CLAIM claims the lowest claimable fast-class source of the reader. -/
def execIntfClaim (r : Requester) (bar4 : Bool) (s : State) : Outcome State Fault Refusal :=
  s.access r (.intfClaim r bar4) fun d => if bar4 then d.bar4Read r Off.INTF_CLAIM else d.busRead r (Page.intf.reg 0 Off.INTF_CLAIM) true

/-- INTC_COMPLETE (R434): A write of INTC.COMPLETE clears ACTIVE of a normal-class source and reopens the gate. -/
def execIntcComplete (r : Requester) (v : Word) (s : State) : Outcome State Fault Refusal :=
  s.write r (.intcComplete r v) .intc 0 Off.INTC_COMPLETE v (·.onCore (·.complete r false v))

/-- INTF_COMPLETE (R434): A write of INTF.COMPLETE clears ACTIVE of a fast-class source and reopens the gate. -/
def execIntfComplete (r : Requester) (bar4 : Bool) (v : Word) (s : State) : Outcome State Fault Refusal :=
  s.access r (.intfComplete r bar4 v) fun d => d.writeWord r bar4 (Page.intf.reg 0 Off.INTF_COMPLETE) v

/-- COALESCE_TIMEOUT (R429): A pending source's coalescing time elapses, making it claimable. -/
def execCoalesceTimeout (s : Fin 1024) (st : State) : Outcome State Fault Refusal :=
  st.happens fun d => d.onCore (·.coalesceTimeout s.val)

/-- GLOBAL_HOLD (R438): A write of GLOBAL_HOLD holds or releases deliveries of a class. -/
def execGlobalHold (r : Requester) (v : Word) (s : State) : Outcome State Fault Refusal :=
  s.write r (.globalHold r v) .intc 0 Off.INTC_GLOBAL_HOLD v (·.onCore (·.writeHold v))

/-- DB_RAISE (R440): A write of DB_RAISE_LO or DB_RAISE_HI raises doorbell sources. -/
def execDbRaise (r : Requester) (hi : Bool) (v : Word) (s : State) : Outcome State Fault Refusal :=
  s.write r (.dbRaise r hi v) .intc 0 (if hi then Off.INTC_DB_RAISE_HI else Off.INTC_DB_RAISE_LO) v (·.onCore (·.doorbells r (if hi then 992 else 960) v))

/-- PEND_CLR (R439): A write of PEND_CLR clears PENDING, count and time of sources. -/
def execPendClr (r : Requester) (i : Fin 32) (v : Word) (s : State) : Outcome State Fault Refusal :=
  s.write r (.pendClr r i v) .isrc (i.val / 2) (pendClrOff i.val) v (·.onCore (·.pendClr (32 * i.val) v))

/-- SRC_CFG_WRITE (R436): A write of SRC_CFG changes a source's enable, target, class or profiles, or is dropped whole. -/
def execSrcCfgWrite (r : Requester) (s : Fin 1024) (v : Word) (st : State) : Outcome State Fault Refusal :=
  st.write r (.srcCfgWrite r s v) .isrc (s.val / 64) (Off.ISRC_SRC_CFG + 4 * (s.val % 64)) v (·.onCore (·.writeSrcCfg r (s.val / 64) (s.val % 64) v))

/-- PROFILE_WRITE (R437): A write of a coalescing profile applies at once to every pending source using it. -/
def execProfileWrite (r : Requester) (i : Fin 32) (v : Word) (s : State) : Outcome State Fault Refusal :=
  s.write r (.profileWrite r i v) .intc 0 (Off.INTC_PROFILE + 4 * i.val) v (·.onCore (·.writeProfile i.val v))

/-- MSIX_BLOCK_END (R432): A function's MSI-X becomes enabled, unmasked and bus-master enabled, releasing a blocked delivery. -/
def execMsixBlockEnd (k : Fin 8) (s : State) : Outcome State Fault Refusal :=
  s.happens fun d => d.msixBlockEnd k

/-- WAKE_CAUSE (R441): An enabled wake cause in BIVOUAC makes the watcher request an exit. -/
def execWakeCause (causes : BitVec 18) (s : State) : Outcome State Fault Refusal :=
  s.happens fun d => d.wakeCause causes.toNat

/-- LOG_TOKEN_REFILL (R449): A log token is added to a source's bucket, possibly ending a suppression episode. -/
def execLogTokenRefill (s : Fin 1024) (st : State) : Outcome State Fault Refusal :=
  st.happens fun d => d.onCore (·.tokenRefill s.val)

/-- SUPPRESSED_SUMMARY (R450): Each second of a suppression episode a SUPPRESSED record covers the suppressed events. -/
def execSuppressedSummary (s : Fin 1024) (st : State) : Outcome State Fault Refusal :=
  st.happens fun d => d.onCore (·.episodeSecond s.val)

/-- RPTR_WRITE (R446): A write of RPTR_q consumes records, or is rejected or ignored. -/
def execRptrWrite (r : Requester) (q : Fin 3) (v : Word) (s : State) : Outcome State Fault Refusal :=
  s.write r (.rptrWrite r q v) .elog 0 (Off.ELOG_RPTR + 8 * q.val) v (·.onCore (·.writeRptr r q.val v))

/-- SPILL_RPTR_WRITE (R448): A write of SPILL_RPTR consumes spill records, or is rejected. -/
def execSpillRptrWrite (r : Requester) (v : Word) (s : State) : Outcome State Fault Refusal :=
  s.write r (.spillRptrWrite r v) .elog 0 Off.ELOG_SPILL_RPTR v (·.onCore (·.writeSpillRptr r v))

/-- WIN_0_READ (R456): A read of ELOG.WIN_0 latches the selected record into WIN_0 to WIN_7. -/
def execWin0Read (r : Requester) (s : State) : Outcome State Fault Refusal :=
  s.read r (.win0Read r) .elog 0 Off.ELOG_WIN

/-- SPILL_EN_WRITE (R448): A write of ELOG_CTRL.SPILL_EN enables spilling if the ring parameters are legal. -/
def execSpillEnWrite (r : Requester) (v : Word) (s : State) : Outcome State Fault Refusal :=
  s.write r (.spillEnWrite r v) .elog 0 Off.ELOG_ELOG_CTRL v (·.onCore (·.writeElogCtrl r v))

/-- SAT_CLEAR (R451): ELOG_CMD.SAT_CLEAR writes saturation summaries and clears saturation. -/
def execSatClear (r : Requester) (s : State) : Outcome State Fault Refusal :=
  s.write r (.satClear r) .elog 0 Off.ELOG_ELOG_CMD 1 (·.onCore (·.satClear r))

end Sys2Proof.Machine
end

