-- ==== Sys2Proof/Machine/ExecFrame.lean ====
section
/-! DEFINITION. The meanings of the commands: Frame memory and scan-out (R210 to R243). -/

namespace Sys2Proof.Machine

open Host (Outcome)

/-- ALLOC_INSTALL (R215): An ALLOC_CMD write with OP install checks and installs an allocation entry. -/
def execAllocInstall (r : Requester) (i : Fin 64) (s : State) : Outcome State Fault Refusal :=
  s.write r (.allocInstall r i) .fmem 0 Off.FMEM_ALLOC_CMD (BitVec.ofNat 32 (1 + i.val * 256)) (·.allocInstall r i.val)

/-- ALLOC_FREE (R215): An ALLOC_CMD write with OP free frees an allocation entry not in use. -/
def execAllocFree (r : Requester) (i : Fin 64) (s : State) : Outcome State Fault Refusal :=
  s.write r (.allocFree r i) .fmem 0 Off.FMEM_ALLOC_CMD (BitVec.ofNat 32 (2 + i.val * 256)) (·.allocFree r i.val)

/-- XFER_UPLOAD (R219): An XFER_CTRL START with DIR 0 begins an upload from DRAM into a Belay frame. -/
def execXferUpload (r : Requester) (i : Fin 64) (s : State) : Outcome State Fault Refusal :=
  s.write r (.xferUpload r i) .fmem 0 Off.FMEM_XFER_CTRL (BitVec.ofNat 32 (1 + i.val * 256)) (·.xferUpload r i.val)

/-- XFER_CAPTURE (R219): An XFER_CTRL START with DIR 1 begins a capture of an allocation into DRAM. -/
def execXferCapture (r : Requester) (i : Fin 64) (s : State) : Outcome State Fault Refusal :=
  s.write r (.xferCapture r i) .fmem 0 Off.FMEM_XFER_CTRL (BitVec.ofNat 32 (3 + i.val * 256)) (·.xferCapture r i.val)

/-- XFER_CAPTURE_FROM_PORT (R220): An XFER_CTRL START with FROM_PORT captures and pins the buffer a port shows. -/
def execXferCaptureFromPort (r : Requester) (p : Fin 8) (s : State) : Outcome State Fault Refusal :=
  s.write r (.xferCaptureFromPort r p) .fmem 0 Off.FMEM_XFER_CTRL (BitVec.ofNat 32 (7 + p.val * 8)) (·.xferFromPort r p.val)

/-- XFER_DONE (R221): A transfer ends, CRC and status are published and the pin is released. -/
def execXferDone (s : State) : Outcome State Fault Refusal :=
  s.happens fun d => d.xferDone

/-- HBM_ROUND (R222): A 1 µs round of each pseudo-channel begins and its slots are given out by reservation and precedence. -/
def execHbmRound (ports classes : List Nat) (s : State) : Outcome State Fault Refusal :=
  s.happens fun d => d.hbmRound ports classes

/-- FM_SCRUB_READ (R227): Scrub reads a frame-memory location, writes back corrections and acts on uncorrectable errors. -/
def execFmScrubRead (addr : BitVec 34) (ecc : Ecc) (s : State) : Outcome State Fault Refusal :=
  s.happens fun d => d.fmScrub addr.toNat ecc

/-- VBLANK_START (R231): A port reaches VBLANK_START, its frame number advances, its commits apply and it chooses its buffer. -/
def execVblankStart (p : Fin 8) (refBad : Bool) (s : State) : Outcome State Fault Refusal :=
  s.happens fun d => d.vblankStart p.val refBad

/-- LINE_START (R250): A port raster line starts, with line events, block and CRC comparisons and position monitoring. -/
def execLineStart (p : Fin 8) (clip : Nat) (refBad offPos : Bool) (s : State) : Outcome State Fault Refusal :=
  s.happens fun d => d.lineStart p.val clip refBad offPos

/-- ROW_FETCH_DEADLINE (R235): The fetch deadline of a window row arrives and the row flag decides a normal or an underrun line. -/
def execRowFetchDeadline (p : Fin 8) (delivered : Bool) (s : State) : Outcome State Fault Refusal :=
  s.happens fun d => d.rowFetchDeadline p.val delivered

/-- FRAME_DONE (R233): The scan-out engine receives the last frame-memory data of the port frame. -/
def execFrameDone (p : Fin 8) (s : State) : Outcome State Fault Refusal :=
  s.happens fun d => d.frameDone p.val

end Sys2Proof.Machine
end

