-- ==== Sys2Proof/Machine/ExecModes.lean ====
section
/-! DEFINITION. The meanings of the commands: Operating modes, power and reset (R498 to R521). -/

namespace Sys2Proof.Machine

open Host (Outcome)

/-- MODE_REQ_READY (R500): A MODE_REQ for READY stops starting compositions, or wakes to READY. -/
def execModeReqReady (r : Requester) (s : State) : Outcome State Fault Refusal :=
  s.write r (.modeReqReady r) .pwr 0 Off.PWR_MODE_REQ 4 (·.modeReq r 4)

/-- MODE_REQ_RUN (R500): A MODE_REQ for RUN enters RUN or RUN_DEGRADED, or wakes to RUN. -/
def execModeReqRun (r : Requester) (s : State) : Outcome State Fault Refusal :=
  s.write r (.modeReqRun r) .pwr 0 Off.PWR_MODE_REQ 5 (·.modeReq r 5)

/-- MODE_REQ_BIVOUAC (R511): A MODE_REQ for BIVOUAC starts entry into low power. -/
def execModeReqBivouac (r : Requester) (s : State) : Outcome State Fault Refusal :=
  s.write r (.modeReqBivouac r) .pwr 0 Off.PWR_MODE_REQ 9 (·.modeReq r 9)

/-- MODE_REQ_TEST (R500): A MODE_REQ for TEST enters TEST. -/
def execModeReqTest (r : Requester) (s : State) : Outcome State Fault Refusal :=
  s.write r (.modeReqTest r) .pwr 0 Off.PWR_MODE_REQ 10 (·.modeReq r 10)

/-- MODE_REQ_SHUTDOWN (R516): A MODE_REQ for SHUTDOWN starts preparation for power removal. -/
def execModeReqShutdown (r : Requester) (s : State) : Outcome State Fault Refusal :=
  s.write r (.modeReqShutdown r) .pwr 0 Off.PWR_MODE_REQ 11 (·.modeReq r 11)

/-- BIVOUAC_ENTERED (R512): Bivouac entry completes with DDR5 in self-refresh and the core power-gated. -/
def execBivouacEntered (s : State) : Outcome State Fault Refusal :=
  s.happens fun d => d.bivouacEntered

/-- BIVOUAC_RETURN_DONE (R514): The return from BIVOUAC completes and the destination mode is entered. -/
def execBivouacReturnDone (s : State) : Outcome State Fault Refusal :=
  s.happens fun d => d.bivouacReturn

/-- SHUTDOWN_READY (R516): Shutdown preparation completes and the board may remove power. -/
def execShutdownReady (flashOk : Bool) (s : State) : Outcome State Fault Refusal :=
  s.happens fun d => d.shutdownReady flashOk

/-- POWER_HOLD_RELEASE (R503): Rails good, PORST_n high and the reference running for 2 ms release POWER_HOLD into BOOT. -/
def execPowerHoldRelease (bootsel : Fin 4) (svcen : Bool) (s : State) : Outcome State Fault Refusal :=
  s.happens fun d => d.release bootsel.val svcen

/-- SUPPLY_BROWNOUT (R504): A rail below its bad level for 2 µs resets the device. -/
def execSupplyBrownout (first : Bool) (s : State) : Outcome State Fault Refusal :=
  s.happens fun d => d.brownout first

/-- PORST (R506): PORST_n low for 1 µs resets the device. -/
def execPorst (s : State) : Outcome State Fault Refusal :=
  s.happens fun d => d.pinReset

/-- RESET_CMD (R506): A write of PWR.RESET_CMD with the key resets the device. -/
def execResetCmd (r : Requester) (v : Word) (s : State) : Outcome State Fault Refusal :=
  s.write r (.resetCmd r v) .pwr 0 Off.PWR_RESET_CMD v (·.resetCmd r v)

/-- WATCHDOG_RESET (R506): The always-on watchdog unserviced for 500 ms resets the device. -/
def execWatchdogReset (s : State) : Outcome State Fault Refusal :=
  s.happens fun d => d.watchdog

/-- THERMAL_SAMPLE (R510): Every 100 µs temperature is read and thermal warnings or the trip reset act. -/
def execThermalSample (tj : BitVec 12) (sensor : Fin 16) (s : State) : Outcome State Fault Refusal :=
  s.happens fun d => d.thermalSample tj sensor.val

/-- FIRMWARE_LOADED (R505): The ROM verifies and loads the bundle and the device enters TRAINING or BASE_CAMP. -/
def execFirmwareLoaded (b : BootReport) (s : State) : Outcome State Fault Refusal :=
  s.happens fun d => d.firmwareLoaded b

/-- VP_REQ (R508): A write of PWR.VP_REQ requests a voltage point change at the next boundary. -/
def execVpReq (r : Requester) (high : Bool) (s : State) : Outcome State Fault Refusal :=
  s.write r (.vpReq r high) .pwr 0 Off.PWR_VP_REQ (BitVec.ofNat 32 high.toNat) (·.vpReq r high)

/-- VP_SETTLED (R508): VDD_CORE reaches the target point and the change completes. -/
def execVpSettled (s : State) : Outcome State Fault Refusal :=
  s.happens fun d => d.vpSettled

/-- VP_RAMP_TIMEOUT (R508): VDD_CORE not settled within RAMP_LIMIT returns CORE_VSEL and reports VP_FAIL. -/
def execVpRampTimeout (s : State) : Outcome State Fault Refusal :=
  s.happens fun d => d.vpTimeout

end Sys2Proof.Machine
end

