-- ==== Sys2Proof/Machine/ExecPorts.lean ====
section
/-! DEFINITION. The meanings of the commands: Output ports (R295 to R327). -/

namespace Sys2Proof.Machine

open Host (Outcome)

/-- RETRAIN (R307): XPT.CMD.RETRAIN starts a retrain of an enabled port, applying armed LINK pages. -/
def execRetrain (r : Requester) (p : Fin 8) (s : State) : Outcome State Fault Refusal :=
  s.write r (.retrain r p) .xpt p.val Off.XPT_CMD 1 (·.retrainCmd r p.val)

/-- TRAINING_ATTEMPT_FAIL (R308): A link training attempt fails and the next fall-back candidate is tried or training fails. -/
def execTrainingAttemptFail (p : Fin 8) (why sinkRate sinkLanes : Nat) (s : State) : Outcome State Fault Refusal :=
  s.happens fun d => d.attemptFail p.val why sinkRate sinkLanes

/-- LINK_UP (R307): Training ends, NEED is checked against the trained link and the link is up. -/
def execLinkUp (p : Fin 8) (us sinkRate sinkLanes : Nat) (s : State) : Outcome State Fault Refusal :=
  s.happens fun d => d.linkUp p.val us sinkRate sinkLanes

/-- LINK_LOSS (R310): A lost link starts a retrain under AUTO_TRAIN or leaves the port FAILED. -/
def execLinkLoss (p : Fin 8) (s : State) : Outcome State Fault Refusal :=
  s.happens fun d => d.linkLossEvent p.val

/-- SCDC_POLL (R309): Every 20 ms the device polls an FRL sink's SCDC update flags. -/
def execScdcPoll (p : Fin 8) (ask : Bool) (s : State) : Outcome State Fault Refusal :=
  s.happens fun d => d.scdcPoll p.val ask

/-- HPD_QUALIFIED (R314): HPD held high for 2 ms qualifies a present sink. -/
def execHpdQualified (p : Fin 8) (s : State) : Outcome State Fault Refusal :=
  s.happens fun d => d.hpdQualified p.val

/-- HPD_UNPLUG (R314): HPD held low for 2 ms is an unplug that drops the link. -/
def execHpdUnplug (p : Fin 8) (s : State) : Outcome State Fault Refusal :=
  s.happens fun d => d.hpdUnplug p.val

/-- IRQ_HPD (R314): A DisplayPort HPD low pulse of 0.25 to 2 ms makes the device read the sink's link status. -/
def execIrqHpd (p : Fin 8) (lost : Bool) (s : State) : Outcome State Fault Refusal :=
  s.happens fun d => d.irqHpd p.val lost

/-- SB_GO (R315): CMD.SB_GO starts one AUX or DDC transaction. -/
def execSbGo (r : Requester) (p : Fin 8) (s : State) : Outcome State Fault Refusal :=
  s.write r (.sbGo r p) .xpt p.val Off.XPT_CMD 4 (·.sbGo r p.val)

/-- SB_DONE (R315): A sideband transaction ends with its result and byte count. -/
def execSbDone (p : Fin 8) (result : Nat) (bytes : List (BitVec 8)) (s : State) : Outcome State Fault Refusal :=
  s.happens fun d => d.sbDone p.val result bytes

/-- TC_LOAD (R322): CMD.TC_LOAD loads TC_PRESET into the timecode generator at the next VBLANK_START. -/
def execTcLoad (r : Requester) (p : Fin 8) (s : State) : Outcome State Fault Refusal :=
  s.write r (.tcLoad r p) .xpt p.val Off.XPT_CMD 2 (·.tcLoad r p.val)

end Sys2Proof.Machine
end

