-- ==== Sys2Proof/Machine/ExecRegs.lean ====
section
/-! DEFINITION. The meanings of the commands: Register writes, commits and latching reads (R8, R40 to R59). -/

namespace Sys2Proof.Machine

open Host (Outcome)

/-- REGISTER_WRITE (R8): A write to a register that has no row of its own sets its value as its access type states, with reserved fields
ignored and clamped fields stored at their limit. -/
def execRegisterWrite (r : Requester) (bar4 : Bool) (addr : BitVec 24) (size : Nat) (v : BitVec 64) (s : State) : Outcome State Fault Refusal :=
  s.access r (.registerWrite r bar4 addr size v) fun d => d.registerWrite r bar4 addr.toNat size v

/-- SHADOW_WRITE (R43): A write to a shadow register changes only the shadow, or is dropped with SHADOW_LOCKED while the page is armed. -/
def execShadowWrite (r : Requester) (p : Page) (n : Nat) (off : Nat) (v : Word) (s : State) : Outcome State Fault Refusal :=
  s.write r (.shadowWrite r p n off v) p n off v (·.shadowWrite r p n off v)

/-- ARM (R44): A COMMIT write with ARM arms the page for its next boundary, or applies at once when the boundary source is idle. -/
def execArm (r : Requester) (p : Page) (n : Nat) (s : State) : Outcome State Fault Refusal :=
  s.write r (.arm r p n) p n Off.COMMIT 1 (·.commitArm r p n)

/-- CANCEL (R44): A COMMIT write with CANCEL disarms the page before its cut-off, or is rejected with CANCEL_TOO_LATE. -/
def execCancel (r : Requester) (p : Page) (n : Nat) (s : State) : Outcome State Fault Refusal :=
  s.write r (.cancel r p n) p n Off.COMMIT 2 (·.cancelPage r p n)

/-- SQ_CLEAR (R54): A write to a status register with sequence clears the flags written as 1 only if the written sequence matches. -/
def execSqClear (r : Requester) (p : Page) (n : Nat) (off : Nat) (v : Word) (s : State) : Outcome State Fault Refusal :=
  s.write r (.sqClear r p n off v) p n off v (·.clearStat p n off v)

/-- GROUP_ARM (R50): A write of ARM_SCN to SYS.GROUP_COMMIT arms the scene group of each named scene, for the next boundary or, with
AT_FRAME, for GROUP_TARGET. -/
def execGroupArm (r : Requester) (scenes : BitVec 4) (atFrame : Bool) (s : State) : Outcome State Fault Refusal :=
  s.write r (.groupArm r scenes atFrame) .sys 0 Off.SYS_GROUP_COMMIT (groupWord scenes.toNat 0 atFrame) (·.groupWrite r scenes.toNat 0 atFrame)

/-- GROUP_CANCEL (R59): A write of CANCEL_SCN disarms every page of the scene group before its FRAME cut-off, or is rejected with
CANCEL_TOO_LATE. -/
def execGroupCancel (r : Requester) (scenes : BitVec 4) (s : State) : Outcome State Fault Refusal :=
  s.write r (.groupCancel r scenes) .sys 0 Off.SYS_GROUP_COMMIT (groupWord 0 scenes.toNat false) (·.groupWrite r 0 scenes.toNat false)

/-- TIME_LO_READ (R59): A read of SYS.TIME_LO returns device time bits [31:0] and latches TIME_HI. -/
def execTimeLoRead (r : Requester) (s : State) : Outcome State Fault Refusal :=
  s.read r (.timeLoRead r) .sys 0 Off.SYS_TIME_LO

/-- APPLIED_LO_READ (R46): A read of APPLIED_LO returns the low applied frame number and latches APPLIED_HI. -/
def execAppliedLoRead (r : Requester) (p : Page) (n : Nat) (s : State) : Outcome State Fault Refusal :=
  s.read r (.appliedLoRead r p n) p n Off.APPLIED_LO

/-- FRAME_LO_READ (R206): A read of STIM.FRAME_LO returns the scene frame number bits [31:0] and latches FRAME_HI. -/
def execFrameLoRead (r : Requester) (s : Fin 4) (st : State) : Outcome State Fault Refusal :=
  st.read r (.frameLoRead r s) .stim s.val Off.STIM_FRAME_LO

/-- PFRAME_LO_READ (R240): A read of SCAN.PFRAME_LO returns the port frame number bits [31:0] and latches PFRAME_HI. -/
def execPframeLoRead (r : Requester) (p : Fin 8) (s : State) : Outcome State Fault Refusal :=
  s.read r (.pframeLoRead r p) .scan p.val Off.SCAN_PFRAME_LO

/-- SHOWN_LO_READ (R240): A read of SCAN.SHOWN_LO returns the shown scene frame number bits [31:0] and latches SHOWN_HI. -/
def execShownLoRead (r : Requester) (p : Fin 8) (s : State) : Outcome State Fault Refusal :=
  s.read r (.shownLoRead r p) .scan p.val Off.SCAN_SHOWN_LO

/-- TEAM_TIME_LO_READ (R419): A read of RPG.TEAM_TIME_LO returns team time bits [31:0] and latches TEAM_TIME_HI. -/
def execTeamTimeLoRead (r : Requester) (s : State) : Outcome State Fault Refusal :=
  s.read r (.teamTimeLoRead r) .rpg 0 Off.RPG_TEAM_TIME_LO

/-- TEAM_FRAME_LO_READ (R419): A read of RPG.TEAM_FRAME_LO returns the team frame number bits [31:0] and latches TEAM_FRAME_HI. -/
def execTeamFrameLoRead (r : Requester) (s : State) : Outcome State Fault Refusal :=
  s.read r (.teamFrameLoRead r) .rpg 0 Off.RPG_TEAM_FRAME_LO

/-- FAULT_TIME_LO_READ (R489): A read of SAFE.FAULT_TIME_LO returns the low detection time and latches FAULT_TIME_HI. -/
def execFaultTimeLoRead (r : Requester) (s : State) : Outcome State Fault Refusal :=
  s.read r (.faultTimeLoRead r) .safe 0 Off.SAFE_FAULT_TIME_LO

end Sys2Proof.Machine
end

