-- ==== Sys2Proof/Machine/ExecRope.lean ====
section
/-! DEFINITION. The meanings of the commands: Rope link and rope teams (R387 to R426). -/

namespace Sys2Proof.Machine

open Host (Outcome)

/-- ROPE_RETRAIN (R389): RPP.CMD.RETRAIN moves routes off the port and starts its bring-up. -/
def execRopeRetrain (r : Requester) (p : Fin 4) (s : State) : Outcome State Fault Refusal :=
  s.write r (.ropeRetrain r p) .rpp p.val Off.RPP_CMD 1 (·.ropeRetrain r p.val)

/-- ROPE_BRINGUP_RETRY (R389): Every 10 ms a DOWN Rope port retries bring-up. -/
def execRopeBringupRetry (p : Fin 4) (s : State) : Outcome State Fault Refusal :=
  s.happens fun d => d.ropeRetry p.val

/-- ROPE_PORT_UP (R389): A Rope port completes lock, deskew, FEC and HELLO and is UP or INCOMPAT. -/
def execRopePortUp (p : Fin 4) (h : Hello) (delay : Nat) (s : State) : Outcome State Fault Refusal :=
  s.happens fun d => d.ropePortUp p.val h delay

/-- HELLO_SEND (R390): Every 10 ms each end of a Rope link sends a HELLO. -/
def execHelloSend (p : Fin 4) (s : State) : Outcome State Fault Refusal :=
  s.happens fun d => d.helloSend p

/-- HELLO (R390): A received HELLO sets the version and capabilities in use on the port. -/
def execHello (p : Fin 4) (h : Hello) (s : State) : Outcome State Fault Refusal :=
  s.happens fun d => d.helloReceived p.val h

/-- REPLAY (R388): A bad CRC or sequence gap makes the receiver ask for a replay, which the sender performs. -/
def execReplay (p : Fin 4) (corr : Nat) (uncorr sender : Bool) (s : State) : Outcome State Fault Refusal :=
  s.happens fun d => d.replay p.val corr uncorr sender

/-- KEEPALIVE_SEND (R414): Every 2 µs a Rope port sends a keepalive. -/
def execKeepaliveSend (p : Fin 4) (s : State) : Outcome State Fault Refusal :=
  s.happens fun d => d.keepaliveSend p.val

/-- PORT_DOWN (R414): Loss of lock or 20 µs of silence declares a Rope port DOWN, and routes and timing move to alternates. -/
def execPortDown (p : Fin 4) (left : Bool) (s : State) : Outcome State Fault Refusal :=
  s.happens fun d => d.portDown p.val left

/-- CLAIM_RECEIVED (R393): A candidate claim is received and flooded, and the better claim is kept. -/
def execClaimReceived (p : Fin 4) (c : Claim) (s : State) : Outcome State Fault Refusal :=
  s.happens fun d => d.claimReceived p.val c

/-- ELECTION_END (R393): 2 ms after the last better claim the election ends and the lead enumerates. -/
def execElectionEnd (s : State) : Outcome State Fault Refusal :=
  s.happens fun d => d.electionEnd

/-- ENUMERATE (R394): RPG.ENUM_CMD.ENUMERATE starts re-enumeration of the team. -/
def execEnumerate (r : Requester) (s : State) : Outcome State Fault Refusal :=
  s.write r (.enumerate r) .rpg 0 Off.RPG_ENUM_CMD 1 Dev.enumerate

/-- TEAM_FORMED (R394): The lead distributes IDs, routes, timing tree and PATH_MAX and every member reads FORMED. -/
def execTeamFormed (x : TeamResult) (s : State) : Outcome State Fault Refusal :=
  s.happens fun d => d.teamFormed x

/-- MEMBER_JOIN (R395): A device next to a formed team joins it, or is refused as FULL. -/
def execMemberJoin (x : TeamResult) (s : State) : Outcome State Fault Refusal :=
  s.happens fun d => d.memberJoin x

/-- ORPHAN_ELECTION (R416): 100 ms after losing the lead, candidates of a part elect a new lead. -/
def execOrphanElection (winner : Option (Nat × Nat)) (s : State) : Outcome State Fault Refusal :=
  s.happens fun d => d.orphanElection winner

/-- SYNC_SEND (R398): Every 125 µs the lead sends a SYNC with team time. -/
def execSyncSend (s : State) : Outcome State Fault Refusal :=
  s.happens fun d => d.syncSend

/-- SYNC (R398): A received SYNC updates the team time servo and is forwarded down the tree. -/
def execSync (p : Fin 4) (time : Nat) (err : Int) (locked : Bool) (s : State) : Outcome State Fault Refusal :=
  s.happens fun d => d.syncReceived p.val time err locked

/-- TICK (R398): A received TICK announces the next team tick time and frame number to TEAM scenes. -/
def execTick (p : Fin 4) (t : Tick) (s : State) : Outcome State Fault Refusal :=
  s.happens fun d => d.tickReceived p.val t

/-- LINK_DELAY_MEASURE (R398): Every 1 ms each Rope link measures its one-way delay. -/
def execLinkDelayMeasure (p : Fin 4) (delay : Nat) (s : State) : Outcome State Fault Refusal :=
  s.happens fun d => d.linkDelay p.val delay

/-- TC_SEND (R402): RPG.TC_CMD.SEND sends a team commit request to the lead. -/
def execTcSend (r : Requester) (s : State) : Outcome State Fault Refusal :=
  s.write r (.tcSend r) .rpg 0 Off.RPG_TC_CMD 1 (·.tcSend r)

/-- TC_REQUEST (R403): The lead checks a team commit request and accepts it with ARM or rejects it. -/
def execTcRequest (q : TcReq) (s : State) : Outcome State Fault Refusal :=
  s.happens fun d => d.tcArrive q

/-- TC_ARM (R404): A member receiving ARM arms its named scene groups for the target and replies. -/
def execTcArm (commit : Nat) (q : TcReq) (s : State) : Outcome State Fault Refusal :=
  s.happens fun d => d.tcArmReceived commit q

/-- TC_REPLY (R405): The lead receives a member's result and, when complete or on failure, sends cancel or the outcome. -/
def execTcReply (id commit reason : Nat) (cancelled : Option Bool) (s : State) : Outcome State Fault Refusal :=
  s.happens fun d => d.tcReplyReceived id commit reason cancelled

/-- TC_ACK_TIMEOUT (R404): No reply within 2 × PATH_MAX + 5 µs counts as NO_ACK. -/
def execTcAckTimeout (s : State) : Outcome State Fault Refusal :=
  s.happens fun d => d.tcAckTimeout

/-- TC_CANCEL (R405): A member receiving CANCEL cancels its arm and acknowledges. -/
def execTcCancel (commit : Nat) (s : State) : Outcome State Fault Refusal :=
  s.happens fun d => d.tcCancelReceived commit

/-- TC_OUTCOME (R405): The originator receives the outcome into TC_STAT. -/
def execTcOutcome (o : TcOutcome) (s : State) : Outcome State Fault Refusal :=
  s.happens fun d => d.tcOutcomeReceived o

/-- XFER_START (R407): A channel's X_CTRL.START checks and begins a bulk region transfer. -/
def execXferStart (r : Requester) (c : Fin 8) (s : State) : Outcome State Fault Refusal :=
  s.write r (.xferStart r c) .rpg 0 (xoff c.val Off.RPG_X_CTRL) 1 (·.xferStart r c)

/-- XFER_ABORT (R409): A channel's X_CTRL.ABORT stops its transfer. -/
def execXferAbort (r : Requester) (c : Fin 8) (s : State) : Outcome State Fault Refusal :=
  s.write r (.xferAbort r c) .rpg 0 (xoff c.val Off.RPG_X_CTRL) 2 (·.xferAbort c.val)

/-- XFER_SEGMENT (R408): A destination receives a segment and writes it through MWIN and hold windows. -/
def execXferSegment (x : XSeg) (s : State) : Outcome State Fault Refusal :=
  s.happens fun d => d.xferSegment x

/-- XFER_SEGMENT_TIMEOUT (R410): A segment unacknowledged for 200 µs is sent again, or the destination becomes UNREACHABLE. -/
def execXferSegmentTimeout (c : Fin 8) (id : Nat) (s : State) : Outcome State Fault Refusal :=
  s.happens fun d => d.xferTimeout c id

/-- XFER_ACK (R409): The sender receives an acknowledgement and sets the result when every destination has acknowledged. -/
def execXferAck (c : Fin 8) (id index result : Nat) (s : State) : Outcome State Fault Refusal :=
  s.happens fun d => d.xferAck c id index result

/-- XFER_DEST_FENCE (R409): When every write of a destination has retired it writes its transfer fence. -/
def execXferDestFence (sender : Nat) (chan : Fin 8) (s : State) : Outcome State Fault Refusal :=
  s.happens fun d => d.xferFence sender chan.val

/-- RREG_GO (R411): RPG.RREG_CMD.GO sends a remote register access. -/
def execRregGo (r : Requester) (s : State) : Outcome State Fault Refusal :=
  s.write r (.rregGo r) .rpg 0 Off.RPG_RREG_CMD 1 (·.rregGo r)

/-- RREG_REQUEST (R411): A target performs a received remote register access as requester 0xF and replies. -/
def execRregRequest (origin : Nat) (addr : BitVec 24) (write : Bool) (v : Word) (s : State) : Outcome State Fault Refusal :=
  s.happens fun d => d.rregRequest origin addr.toNat write v

/-- RREG_REPLY (R411): The remote access reply sets RREG_STAT. -/
def execRregReply (result : Nat) (v : Word) (s : State) : Outcome State Fault Refusal :=
  s.happens fun d => d.rregReply result v

/-- RREG_TIMEOUT (R411): No reply within 1 ms + 2 × PATH_MAX ends the access as TIMEOUT. -/
def execRregTimeout (s : State) : Outcome State Fault Refusal :=
  s.happens fun d => d.rregTimeout

/-- CAIRN_FORWARD (R412): A forwarded Cairn record reaches the collector and is written to its ring. -/
def execCairnForward (x : CairnStep) (s : State) : Outcome State Fault Refusal :=
  s.happens fun d => d.cairnForward x

/-- WAKE_SEND (R418): RPG.ENUM_CMD.WAKE_SEND sends a wake message to an ID or groups. -/
def execWakeSend (r : Requester) (s : State) : Outcome State Fault Refusal :=
  s.write r (.wakeSend r) .rpg 0 Off.RPG_ENUM_CMD 2 (·.wakeSend r)

end Sys2Proof.Machine
end

