-- ==== Sys2Proof/Machine/ExecSafety.lean ====
section
/-! DEFINITION. The meanings of the commands: Functional safety and Belay (R461 to R497). -/

namespace Sys2Proof.Machine

open Host (Outcome)

/-- CHECK_REFERENCE_DONE (R465): The check compositor completes the reference signatures of a frame. -/
def execCheckReferenceDone (s : Fin 4) (pace : Nat) (st : State) : Outcome State Fault Refusal :=
  st.happens fun d => d.checkDone s.val pace

/-- STALL_WATCHDOG (R475): A clockless stage with work but no handshake for STALL_US raises SM11. -/
def execStallWatchdog (s : Fin 4) (st : State) : Outcome State Fault Refusal :=
  st.happens fun d => d.stallWatchdog s.val

/-- SAFETY_CORE_WATCHDOG (R477): A safety core missing service for 0.5 ms raises SM21. -/
def execSafetyCoreWatchdog (s : State) : Outcome State Fault Refusal :=
  s.happens fun d => d.safetyWatchdog

/-- SUPPLY_SAMPLE (R477): Every 5 µs SM24 samples supplies and temperature. -/
def execSupplySample (good : BitVec 11) (coreMv : BitVec 16) (bad : Bool) (s : State) : Outcome State Fault Refusal :=
  s.happens fun d => d.supplySample good.toNat coreMv.toNat bad

/-- CLOCK_MONITOR_WINDOW (R476): Every 100 µs SM15 compares each clock domain with the reference. -/
def execClockMonitorWindow (port : Option (Fin 8)) (bad : Bool) (s : State) : Outcome State Fault Refusal :=
  s.happens fun d => d.clockMonitor port bad

/-- CADENCE_MONITOR_TIMEOUT (R476): A tick missing at its expected time raises SM18. -/
def execCadenceMonitorTimeout (s : Fin 4) (st : State) : Outcome State Fault Refusal :=
  st.happens fun d => d.cadenceMonitor s.val

/-- BELAY_ENTRY (R480): A port enters Belay at the first line whose deadline falls 2 µs after the reaction decision. -/
def execBelayEntry (p : Fin 8) (s : State) : Outcome State Fault Refusal :=
  s.happens fun d => d.belayArrives p.val

/-- BELAY_CLEAR (R482): A write of SAFE.BELAY_CLEAR returns ports to their sources at their next VBLANK_START. -/
def execBelayClear (r : Requester) (ports : BitVec 8) (s : State) : Outcome State Fault Refusal :=
  s.write r (.belayClear r ports) .safe 0 Off.SAFE_BELAY_CLEAR (ports.zeroExtend 32) (·.belayClear r ports.toNat)

/-- INJECT_GO (R486): SAFE.INJECT_CMD.GO injects one fault into a mechanism in TEST. -/
def execInjectGo (r : Requester) (us : Nat) (found : Option Bool) (s : State) : Outcome State Fault Refusal :=
  s.write r (.injectGo r us found) .safe 0 Off.SAFE_INJECT_CMD 1 (·.injectGo r us found)

/-- SELFTEST (R487): SAFE.INJECT_CMD.SELFTEST starts injections into every mechanism in TEST. -/
def execSelftest (r : Requester) (s : State) : Outcome State Fault Refusal :=
  s.write r (.selftest r) .safe 0 Off.SAFE_INJECT_CMD 2 (·.selftest r)

/-- SELFTEST_DONE (R487): The self-test ends with SELFTEST_STAT set. -/
def execSelftestDone (passed : BitVec 24) (s : State) : Outcome State Fault Refusal :=
  s.happens fun d => d.selftestDone passed.toNat

end Sys2Proof.Machine
end

