-- ==== Sys2Proof/Machine/ExecTiming.lean ====
section
/-! DEFINITION. The meanings of the commands: Timing and genlock (R245 to R268). -/

namespace Sys2Proof.Machine

open Host (Outcome)

/-- CAD_CTRL_WRITE (R267): A write of CAD_CTRL is checked and stored, changing run state, source or loop, or is dropped whole. -/
def execCadCtrlWrite (r : Requester) (s : Fin 4) (v : Word) (st : State) : Outcome State Fault Refusal :=
  st.write r (.cadCtrlWrite r s v) .anch 0 (cadOff s.val Off.ANCH_CAD_CTRL) v (·.cadCtrl r s.val v)

/-- APPLY_RATE (R263): CAD_CMD.APPLY_RATE schedules a rate change with an optional ramp at the next or targeted boundary. -/
def execApplyRate (r : Requester) (s : Fin 4) (atFrame : Bool) (st : State) : Outcome State Fault Refusal :=
  st.write r (.applyRate r s atFrame) .anch 0 (cadOff s.val Off.ANCH_CAD_CMD) (BitVec.ofNat 32 (1 + 2 * atFrame.toNat)) (·.applyRate r s.val atFrame)

/-- ACK_SLEW (R261): CAD_CMD.ACK_SLEW corrects a held return error by slewing. -/
def execAckSlew (r : Requester) (s : Fin 4) (st : State) : Outcome State Fault Refusal :=
  st.write r (.ackSlew r s) .anch 0 (cadOff s.val Off.ANCH_CAD_CMD) 4 (·.ackReturn r s.val false)

/-- ACK_SNAP (R261): CAD_CMD.ACK_SNAP corrects a held return error by a snap. -/
def execAckSnap (r : Requester) (s : Fin 4) (st : State) : Outcome State Fault Refusal :=
  st.write r (.ackSnap r s) .anch 0 (cadOff s.val Off.ANCH_CAD_CMD) 8 (·.ackReturn r s.val true)

/-- PRESET (R247): CAD_CMD.PRESET loads the scene frame number while RUN is 0. -/
def execPreset (r : Requester) (s : Fin 4) (st : State) : Outcome State Fault Refusal :=
  st.write r (.preset r s) .anch 0 (cadOff s.val Off.ANCH_CAD_CMD) 16 (·.presetFrame r s.val)

/-- ANCHOR_EDGE (R255): A counted edge on an anchor frame input is timestamped, qualified and fed to the genlock loop. -/
def execAnchorEdge (k : Fin 2) (s : State) : Outcome State Fault Refusal :=
  s.happens fun d => d.anchorEdge k.val

/-- ANCHOR_LINE_EDGE (R257): A counted edge on an anchor line input gives the loop a phase sample. -/
def execAnchorLineEdge (k : Fin 2) (s : State) : Outcome State Fault Refusal :=
  s.happens fun d => d.anchorLineEdge k.val

/-- REF_LOST (R259): No qualified frame edge arrives by its expected time plus WINDOW, and the cadence enters holdover. -/
def execRefLost (s : Fin 4) (st : State) : Outcome State Fault Refusal :=
  st.happens fun d => d.refLost s.val

end Sys2Proof.Machine
end

