-- ==== Sys2Proof/Machine/ExecUpdate.lean ====
section
/-! DEFINITION. The meanings of the commands: Firmware, update and Base camp recovery (R522 to R559). -/

namespace Sys2Proof.Machine

open Host (Outcome)

/-- RAKIN_HELLO (R534): A Rakin HELLO negotiates the protocol version. -/
def execRakinHello (h : RakinHdr) (bytes : List (BitVec 8)) (s : State) : Outcome State Fault Refusal :=
  s.happens fun d => d.rakinHello h bytes

/-- STAGE_BEGIN (R537): Rakin STAGE_BEGIN erases the staging slot and starts receiving. -/
def execStageBegin (h : RakinHdr) (bytes : List (BitVec 8)) (flashOk : Bool) (s : State) : Outcome State Fault Refusal :=
  s.happens fun d => d.stageBegin h bytes flashOk

/-- STAGE_DATA (R537): Rakin STAGE_DATA writes bundle bytes into the staging slot. -/
def execStageData (h : RakinHdr) (bytes : List (BitVec 8)) (flashOk : Bool) (s : State) : Outcome State Fault Refusal :=
  s.happens fun d => d.stageData h bytes flashOk

/-- STAGE_END (R537): Rakin STAGE_END starts verification of the staged bundle. -/
def execStageEnd (h : RakinHdr) (bytes : List (BitVec 8)) (s : State) : Outcome State Fault Refusal :=
  s.happens fun d => d.stageEnd h bytes

/-- STAGE_VERIFY_DONE (R537): Verification ends with the staging slot VALID or INVALID. -/
def execStageVerifyDone (flashOk : Bool) (s : State) : Outcome State Fault Refusal :=
  s.happens fun d => d.verifyDone flashOk

/-- RAKIN_ACTIVATE (R538): Rakin ACTIVATE starts live activation as FW_CMD.ACTIVATE does. -/
def execRakinActivate (h : RakinHdr) (bytes : List (BitVec 8)) (s : State) : Outcome State Fault Refusal :=
  s.happens fun d => d.rakinActivate h bytes

/-- RAKIN_RESTART_TRIAL (R545): Rakin RESTART_TRIAL arms the staged bundle for a trial at the next start. -/
def execRakinRestartTrial (h : RakinHdr) (bytes : List (BitVec 8)) (s : State) : Outcome State Fault Refusal :=
  s.happens fun d => d.rakinRestart h bytes

/-- RAKIN_DISCARD (R535): Rakin DISCARD marks the staging slot EMPTY. -/
def execRakinDiscard (h : RakinHdr) (bytes : List (BitVec 8)) (s : State) : Outcome State Fault Refusal :=
  s.happens fun d => d.rakinDiscard h bytes

/-- LOG_READ (R535): Rakin LOG_READ returns Cairn records without consuming them. -/
def execLogRead (h : RakinHdr) (bytes : List (BitVec 8)) (s : State) : Outcome State Fault Refusal :=
  s.happens fun d => d.logRead h bytes

/-- SETTINGS_READ (R535): Rakin SETTINGS_READ returns the settings block in use. -/
def execSettingsRead (h : RakinHdr) (bytes : List (BitVec 8)) (s : State) : Outcome State Fault Refusal :=
  s.happens fun d => d.settingsRead h bytes

/-- SETTINGS_WRITE (R548): Rakin SETTINGS_WRITE writes a settings block for the next start. -/
def execSettingsWrite (h : RakinHdr) (bytes : List (BitVec 8)) (flashOk : Bool) (s : State) : Outcome State Fault Refusal :=
  s.happens fun d => d.settingsWrite h bytes flashOk

/-- ENTER_BASECAMP (R535): Rakin ENTER_BASECAMP records the request and resets the device. -/
def execEnterBasecamp (h : RakinHdr) (bytes : List (BitVec 8)) (s : State) : Outcome State Fault Refusal :=
  s.happens fun d => d.enterBasecamp h bytes

/-- RAKIN_RESET (R535): Rakin RESET resets the device with cause SOFT. -/
def execRakinReset (h : RakinHdr) (bytes : List (BitVec 8)) (s : State) : Outcome State Fault Refusal :=
  s.happens fun d => d.rakinReset h bytes

/-- RAKIN_STATUS (R535): Rakin STATUS returns staging, firmware, mode and boot state. -/
def execRakinStatus (h : RakinHdr) (bytes : List (BitVec 8)) (s : State) : Outcome State Fault Refusal :=
  s.happens fun d => d.rakinStatus h bytes

/-- LOAD_CORE (R546): Rakin LOAD_CORE loads one staged component into its core and restarts it. -/
def execLoadCore (h : RakinHdr) (bytes : List (BitVec 8)) (s : State) : Outcome State Fault Refusal :=
  s.happens fun d => d.loadCore h bytes

/-- UNKNOWN_OP (R533): A Rakin message with an unknown opcode is answered UNKNOWN_OP. -/
def execUnknownOp (op : BitVec 16) (h : RakinHdr) (bytes : List (BitVec 8)) (s : State) : Outcome State Fault Refusal :=
  s.happens fun d => d.unknownOp op.toNat h bytes

/-- ACTIVATE (R538): FWM.FW_CMD.ACTIVATE checks and starts live activation of the staged bundle. -/
def execActivate (r : Requester) (s : State) : Outcome State Fault Refusal :=
  s.write r (.activate r) .fwm 0 Off.FWM_FW_CMD 1 (·.activate r)

/-- STANDBY_BANK_LOADED (R539): The loader finishes loading the standby bank, or abandons activation. -/
def execStandbyBankLoaded (flashOk : Bool) (s : State) : Outcome State Fault Refusal :=
  s.happens fun d => d.bankLoaded flashOk

/-- APPROVE (R541): FW_CMD.APPROVE sets APPROVED for a host-gated trial. -/
def execApprove (r : Requester) (s : State) : Outcome State Fault Refusal :=
  s.write r (.approve r) .fwm 0 Off.FWM_FW_CMD 2 (·.approve r)

/-- REJECT (R543): FW_CMD.REJECT makes the trial fall back. -/
def execRejectTrial (r : Requester) (s : State) : Outcome State Fault Refusal :=
  s.write r (.rejectTrial r) .fwm 0 Off.FWM_FW_CMD 4 (·.rejectTrial r)

/-- RESTART_TRIAL (R545): FW_CMD.RESTART_TRIAL arms the staged bundle for a trial at the next start. -/
def execRestartTrial (r : Requester) (s : State) : Outcome State Fault Refusal :=
  s.write r (.restartTrial r) .fwm 0 Off.FWM_FW_CMD 8 (·.restartTrial r)

/-- DISCARD (R552): FW_CMD.DISCARD marks the staging slot EMPTY. -/
def execDiscard (r : Requester) (s : State) : Outcome State Fault Refusal :=
  s.write r (.discard r) .fwm 0 Off.FWM_FW_CMD 16 (·.discard r)

/-- TRIAL_CTRL_WRITE (R541): A write of TRIAL_CTRL changes the window and host gate, recomputing TRIAL_LEFT during a trial. -/
def execTrialCtrlWrite (r : Requester) (v : Word) (s : State) : Outcome State Fault Refusal :=
  s.write r (.trialCtrlWrite r v) .fwm 0 Off.FWM_TRIAL_CTRL v (·.trialCtrlWrite v)

/-- SELF_CHECK_PASS (R541): The new image's health check passes and SELF_OK sets. -/
def execSelfCheckPass (s : State) : Outcome State Fault Refusal :=
  s.happens fun d => d.selfCheck

/-- CONFIRM (R542): HEALTH_CONFIRM.CONFIRM from CPU confirms the trial bundle. -/
def execConfirm (r : Requester) (s : State) : Outcome State Fault Refusal :=
  s.write r (.confirm r) .fwm 0 Off.FWM_HEALTH_CONFIRM 1 (·.confirm r)

/-- HEALTH_FAIL (R543): HEALTH_CONFIRM.FAIL from the new image makes the trial fall back. -/
def execHealthFail (r : Requester) (s : State) : Outcome State Fault Refusal :=
  s.write r (.healthFail r) .fwm 0 Off.FWM_HEALTH_CONFIRM 2 (·.healthFail r)

/-- TRIAL_EXPIRING (R552): 60 s before the trial window ends TRIAL_EXPIRING is raised. -/
def execTrialExpiring (s : State) : Outcome State Fault Refusal :=
  s.happens fun d => d.trialExpiring

/-- TRIAL_WINDOW_EXPIRY (R543): TRIAL_LEFT reaching 0 before confirmation makes the trial fall back. -/
def execTrialWindowExpiry (s : State) : Outcome State Fault Refusal :=
  s.happens fun d => d.trialExpiry

/-- UNRESPONSIVE (R543): A new-image core unanswering for 100 ms makes the trial fall back. -/
def execUnresponsive (s : State) : Outcome State Fault Refusal :=
  s.happens fun d => d.unresponsive

/-- FALLBACK_STATE_SAVED (R544): The handover state for the old image is ready and cores switch back at their boundaries. -/
def execFallbackStateSaved (responsive : Bool) (s : State) : Outcome State Fault Refusal :=
  s.happens fun d => d.fallSaved responsive

/-- GET_INFO (R553): Mailbox GET_INFO returns image and interface versions. -/
def execGetInfo (s : State) : Outcome State Fault Refusal :=
  s.happens fun d => d.mbxAnswer 1 Dev.getInfo

/-- SAVE_SETTINGS (R554): Mailbox SAVE_SETTINGS writes a settings block with the selected power-on frame. -/
def execSaveSettings (flashOk : Bool) (s : State) : Outcome State Fault Refusal :=
  s.happens fun d => d.mbxAnswer 2 (·.saveSettings flashOk)

/-- LOAD_DEFAULTS (R553): Mailbox LOAD_DEFAULTS writes a block of defaults for the next start. -/
def execLoadDefaults (flashOk : Bool) (s : State) : Outcome State Fault Refusal :=
  s.happens fun d => d.mbxAnswer 3 (·.loadDefaults flashOk)

/-- SETTINGS_INFO (R553): Mailbox SETTINGS_INFO returns the block in use, sequence and format. -/
def execSettingsInfo (s : State) : Outcome State Fault Refusal :=
  s.happens fun d => d.mbxAnswer 4 Dev.settingsInfo

/-- SET_POWERON_FRAME (R553): Mailbox SET_POWERON_FRAME selects the Belay frame the next save stores. -/
def execSetPoweronFrame (s : State) : Outcome State Fault Refusal :=
  s.happens fun d => d.mbxAnswer 5 fun x => x.setPoweron x.mbxArg

/-- STAGED_INFO (R553): Mailbox STAGED_INFO returns the staged bundle's header and components. -/
def execStagedInfo (s : State) : Outcome State Fault Refusal :=
  s.happens fun d => d.mbxAnswer 6 Dev.stagedInfo

/-- FALLBACK_LOG (R553): Mailbox FALLBACK_LOG returns the eight most recent fall-backs. -/
def execFallbackLog (s : State) : Outcome State Fault Refusal :=
  s.happens fun d => d.mbxAnswer 7 Dev.fallbackLog

/-- UNKNOWN_FUNC (R553): A mailbox request with an unknown FUNC is answered UNKNOWN_FUNC. -/
def execUnknownFunc (s : State) : Outcome State Fault Refusal :=
  s.happens fun d => d.mbxUnknown

/-- MBX_DONE (R553): A mailbox response is ready and DONE sets. -/
def execMbxDone (s : State) : Outcome State Fault Refusal :=
  s.happens fun d => d.mbxDone

/-- DFU_DNLOAD (R550): A DFU download block in Base camp is written to the staging slot, or refused when writing is locked. -/
def execDfuDnload (bytes : List (BitVec 8)) (flashOk : Bool) (s : State) : Outcome State Fault Refusal :=
  s.happens fun d => d.dfuDnload bytes flashOk

/-- BASE_CAMP_COPY_DONE (R550): The checked bundle is copied into the active slot and the device resets. -/
def execBaseCampCopyDone (s : State) : Outcome State Fault Refusal :=
  s.happens fun d => d.campCopied

/-- SVC_CTRL_WRITE (R532): A write of SVC_CTRL opens service writes or detaches the port, ENABLE from PF0 only. -/
def execSvcCtrlWrite (r : Requester) (v : Word) (s : State) : Outcome State Fault Refusal :=
  s.write r (.svcCtrlWrite r v) .svc 0 Off.SVC_SVC_CTRL v (·.svcCtrlWrite r v)

/-- ATTACH (R577): VBUS appears and a USB host configures the service port. -/
def execAttach (s : State) : Outcome State Fault Refusal :=
  s.happens fun d => d.attach

/-- DETACH (R534): Loss of VBUS detaches the port and ends the Rakin session. -/
def execDetach (s : State) : Outcome State Fault Refusal :=
  s.happens fun d => d.detach

end Sys2Proof.Machine
end

