-- ==== Sys2Proof/Machine/Dispatch.lean ====
section
/-! DEFINITION. The dispatch: one arm per command of the table. -/

namespace Sys2Proof.Machine

/-- The effect of a command on everything but the queue. -/
def exec (i : Instr) (s : State) : Host.Outcome State Fault Refusal :=
  match i with
  | .registerWrite r bar4 addr size v => Sys2Proof.Machine.execRegisterWrite r bar4 addr size v s
  | .shadowWrite r p n off v => Sys2Proof.Machine.execShadowWrite r p n off v s
  | .arm r p n => Sys2Proof.Machine.execArm r p n s
  | .cancel r p n => Sys2Proof.Machine.execCancel r p n s
  | .sqClear r p n off v => Sys2Proof.Machine.execSqClear r p n off v s
  | .groupArm r scenes atFrame => Sys2Proof.Machine.execGroupArm r scenes atFrame s
  | .groupCancel r scenes => Sys2Proof.Machine.execGroupCancel r scenes s
  | .timeLoRead r => Sys2Proof.Machine.execTimeLoRead r s
  | .appliedLoRead r p n => Sys2Proof.Machine.execAppliedLoRead r p n s
  | .frameLoRead r x_s => Sys2Proof.Machine.execFrameLoRead r x_s s
  | .pframeLoRead r p => Sys2Proof.Machine.execPframeLoRead r p s
  | .shownLoRead r p => Sys2Proof.Machine.execShownLoRead r p s
  | .teamTimeLoRead r => Sys2Proof.Machine.execTeamTimeLoRead r s
  | .teamFrameLoRead r => Sys2Proof.Machine.execTeamFrameLoRead r s
  | .faultTimeLoRead r => Sys2Proof.Machine.execFaultTimeLoRead r s
  | .cadenceTick x_s golden => Sys2Proof.Machine.execCadenceTick x_s golden s
  | .fenceReadDone e => Sys2Proof.Machine.execFenceReadDone e s
  | .waitFenceReread e => Sys2Proof.Machine.execWaitFenceReread e s
  | .waitBoundExpiry x_s => Sys2Proof.Machine.execWaitBoundExpiry x_s s
  | .metaReadDone e => Sys2Proof.Machine.execMetaReadDone e s
  | .pixelReadReturn e addr => Sys2Proof.Machine.execPixelReadReturn e addr s
  | .releaseWrite e => Sys2Proof.Machine.execReleaseWrite e s
  | .bandComplete x_s => Sys2Proof.Machine.execBandComplete x_s s
  | .blenderRowWrite x_s => Sys2Proof.Machine.execBlenderRowWrite x_s s
  | .composeDone x_s pace engines => Sys2Proof.Machine.execComposeDone x_s pace engines s
  | .forceRecompose r x_s => Sys2Proof.Machine.execForceRecompose r x_s s
  | .forceFlatDrop r x_s => Sys2Proof.Machine.execForceFlatDrop r x_s s
  | .toneLutBuildDone x_s ns => Sys2Proof.Machine.execToneLutBuildDone x_s ns s
  | .prestage r p => Sys2Proof.Machine.execPrestage r p s
  | .adapterStagingDone p => Sys2Proof.Machine.execAdapterStagingDone p s
  | .adapterReloadDone p ecc addr => Sys2Proof.Machine.execAdapterReloadDone p ecc addr s
  | .allocInstall r x_i => Sys2Proof.Machine.execAllocInstall r x_i s
  | .allocFree r x_i => Sys2Proof.Machine.execAllocFree r x_i s
  | .xferUpload r x_i => Sys2Proof.Machine.execXferUpload r x_i s
  | .xferCapture r x_i => Sys2Proof.Machine.execXferCapture r x_i s
  | .xferCaptureFromPort r p => Sys2Proof.Machine.execXferCaptureFromPort r p s
  | .xferDone => Sys2Proof.Machine.execXferDone s
  | .hbmRound ports classes => Sys2Proof.Machine.execHbmRound ports classes s
  | .fmScrubRead addr ecc => Sys2Proof.Machine.execFmScrubRead addr ecc s
  | .vblankStart p refBad => Sys2Proof.Machine.execVblankStart p refBad s
  | .lineStart p clip refBad offPos => Sys2Proof.Machine.execLineStart p clip refBad offPos s
  | .rowFetchDeadline p delivered => Sys2Proof.Machine.execRowFetchDeadline p delivered s
  | .frameDone p => Sys2Proof.Machine.execFrameDone p s
  | .cadCtrlWrite r x_s v => Sys2Proof.Machine.execCadCtrlWrite r x_s v s
  | .applyRate r x_s atFrame => Sys2Proof.Machine.execApplyRate r x_s atFrame s
  | .ackSlew r x_s => Sys2Proof.Machine.execAckSlew r x_s s
  | .ackSnap r x_s => Sys2Proof.Machine.execAckSnap r x_s s
  | .preset r x_s => Sys2Proof.Machine.execPreset r x_s s
  | .anchorEdge k => Sys2Proof.Machine.execAnchorEdge k s
  | .anchorLineEdge k => Sys2Proof.Machine.execAnchorLineEdge k s
  | .refLost x_s => Sys2Proof.Machine.execRefLost x_s s
  | .pllBandSearchDone k band => Sys2Proof.Machine.execPllBandSearchDone k band s
  | .pllInternalLock k tune => Sys2Proof.Machine.execPllInternalLock k tune s
  | .pllAlignmentEdge k => Sys2Proof.Machine.execPllAlignmentEdge k s
  | .lockPinCrossing k us => Sys2Proof.Machine.execLockPinCrossing k us s
  | .lockPinTimeout k => Sys2Proof.Machine.execLockPinTimeout k s
  | .pllInternalLoss k => Sys2Proof.Machine.execPllInternalLoss k s
  | .fallbackLock k => Sys2Proof.Machine.execFallbackLock k s
  | .pllRetry k => Sys2Proof.Machine.execPllRetry k s
  | .warmRelockTimeout k => Sys2Proof.Machine.execWarmRelockTimeout k s
  | .retryMain r p => Sys2Proof.Machine.execRetryMain r p s
  | .referenceLoss => Sys2Proof.Machine.execReferenceLoss s
  | .referenceReturn => Sys2Proof.Machine.execReferenceReturn s
  | .ckoWrite r c div v => Sys2Proof.Machine.execCkoWrite r c div v s
  | .retrain r p => Sys2Proof.Machine.execRetrain r p s
  | .trainingAttemptFail p why sinkRate sinkLanes => Sys2Proof.Machine.execTrainingAttemptFail p why sinkRate sinkLanes s
  | .linkUp p us sinkRate sinkLanes => Sys2Proof.Machine.execLinkUp p us sinkRate sinkLanes s
  | .linkLoss p => Sys2Proof.Machine.execLinkLoss p s
  | .scdcPoll p ask => Sys2Proof.Machine.execScdcPoll p ask s
  | .hpdQualified p => Sys2Proof.Machine.execHpdQualified p s
  | .hpdUnplug p => Sys2Proof.Machine.execHpdUnplug p s
  | .irqHpd p lost => Sys2Proof.Machine.execIrqHpd p lost s
  | .sbGo r p => Sys2Proof.Machine.execSbGo r p s
  | .sbDone p result bytes => Sys2Proof.Machine.execSbDone p result bytes s
  | .tcLoad r p => Sys2Proof.Machine.execTcLoad r p s
  | .dramTrainingDone t => Sys2Proof.Machine.execDramTrainingDone t s
  | .mapApply r => Sys2Proof.Machine.execMapApply r s
  | .weightWrite r which v => Sys2Proof.Machine.execWeightWrite r which v s
  | .dramReadEnqueue r scene addr => Sys2Proof.Machine.execDramReadEnqueue r scene addr s
  | .dramWriteEnqueue r scene addr bytes => Sys2Proof.Machine.execDramWriteEnqueue r scene addr bytes s
  | .stalledWriteResume => Sys2Proof.Machine.execStalledWriteResume s
  | .holdStallTimeout x_i e use => Sys2Proof.Machine.execHoldStallTimeout x_i e use s
  | .dramReadReturn port ecc => Sys2Proof.Machine.execDramReadReturn port ecc s
  | .dramWriteRetire port => Sys2Proof.Machine.execDramWriteRetire port s
  | .dramRefresh c bank => Sys2Proof.Machine.execDramRefresh c bank s
  | .dramTempPoll c temp => Sys2Proof.Machine.execDramTempPoll c temp s
  | .rhCountHalving => Sys2Proof.Machine.execRhCountHalving s
  | .dramPatrolScrub addr ecc => Sys2Proof.Machine.execDramPatrolScrub addr ecc s
  | .migStart r u k => Sys2Proof.Machine.execMigStart r u k s
  | .migLineCopy ecc => Sys2Proof.Machine.execMigLineCopy ecc s
  | .migDone => Sys2Proof.Machine.execMigDone s
  | .srEntry => Sys2Proof.Machine.execSrEntry s
  | .srEntered => Sys2Proof.Machine.execSrEntered s
  | .srPrewake x_s => Sys2Proof.Machine.execSrPrewake x_s s
  | .srExit => Sys2Proof.Machine.execSrExit s
  | .srExited => Sys2Proof.Machine.execSrExited s
  | .clockLoss => Sys2Proof.Machine.execClockLoss s
  | .bltStart r => Sys2Proof.Machine.execBltStart r s
  | .bltAbort r => Sys2Proof.Machine.execBltAbort r s
  | .bltOpDone full part => Sys2Proof.Machine.execBltOpDone full part s
  | .bltDoneFence => Sys2Proof.Machine.execBltDoneFence s
  | .ropeRetrain r p => Sys2Proof.Machine.execRopeRetrain r p s
  | .ropeBringupRetry p => Sys2Proof.Machine.execRopeBringupRetry p s
  | .ropePortUp p h delay => Sys2Proof.Machine.execRopePortUp p h delay s
  | .helloSend p => Sys2Proof.Machine.execHelloSend p s
  | .hello p h => Sys2Proof.Machine.execHello p h s
  | .replay p corr uncorr sender => Sys2Proof.Machine.execReplay p corr uncorr sender s
  | .keepaliveSend p => Sys2Proof.Machine.execKeepaliveSend p s
  | .portDown p left => Sys2Proof.Machine.execPortDown p left s
  | .claimReceived p c => Sys2Proof.Machine.execClaimReceived p c s
  | .electionEnd => Sys2Proof.Machine.execElectionEnd s
  | .enumerate r => Sys2Proof.Machine.execEnumerate r s
  | .teamFormed x => Sys2Proof.Machine.execTeamFormed x s
  | .memberJoin x => Sys2Proof.Machine.execMemberJoin x s
  | .orphanElection winner => Sys2Proof.Machine.execOrphanElection winner s
  | .syncSend => Sys2Proof.Machine.execSyncSend s
  | .sync p time err locked => Sys2Proof.Machine.execSync p time err locked s
  | .tick p t => Sys2Proof.Machine.execTick p t s
  | .linkDelayMeasure p delay => Sys2Proof.Machine.execLinkDelayMeasure p delay s
  | .tcSend r => Sys2Proof.Machine.execTcSend r s
  | .tcRequest q => Sys2Proof.Machine.execTcRequest q s
  | .tcArm commit q => Sys2Proof.Machine.execTcArm commit q s
  | .tcReply id commit reason cancelled => Sys2Proof.Machine.execTcReply id commit reason cancelled s
  | .tcAckTimeout => Sys2Proof.Machine.execTcAckTimeout s
  | .tcCancel commit => Sys2Proof.Machine.execTcCancel commit s
  | .tcOutcome o => Sys2Proof.Machine.execTcOutcome o s
  | .xferStart r c => Sys2Proof.Machine.execXferStart r c s
  | .xferAbort r c => Sys2Proof.Machine.execXferAbort r c s
  | .xferSegment x => Sys2Proof.Machine.execXferSegment x s
  | .xferSegmentTimeout c id => Sys2Proof.Machine.execXferSegmentTimeout c id s
  | .xferAck c id index result => Sys2Proof.Machine.execXferAck c id index result s
  | .xferDestFence sender chan => Sys2Proof.Machine.execXferDestFence sender chan s
  | .rregGo r => Sys2Proof.Machine.execRregGo r s
  | .rregRequest origin addr write v => Sys2Proof.Machine.execRregRequest origin addr write v s
  | .rregReply result v => Sys2Proof.Machine.execRregReply result v s
  | .rregTimeout => Sys2Proof.Machine.execRregTimeout s
  | .cairnForward x => Sys2Proof.Machine.execCairnForward x s
  | .wakeSend r => Sys2Proof.Machine.execWakeSend r s
  | .intcClaim r => Sys2Proof.Machine.execIntcClaim r s
  | .intfClaim r bar4 => Sys2Proof.Machine.execIntfClaim r bar4 s
  | .intcComplete r v => Sys2Proof.Machine.execIntcComplete r v s
  | .intfComplete r bar4 v => Sys2Proof.Machine.execIntfComplete r bar4 v s
  | .coalesceTimeout x_s => Sys2Proof.Machine.execCoalesceTimeout x_s s
  | .globalHold r v => Sys2Proof.Machine.execGlobalHold r v s
  | .dbRaise r hi v => Sys2Proof.Machine.execDbRaise r hi v s
  | .pendClr r x_i v => Sys2Proof.Machine.execPendClr r x_i v s
  | .srcCfgWrite r x_s v => Sys2Proof.Machine.execSrcCfgWrite r x_s v s
  | .profileWrite r x_i v => Sys2Proof.Machine.execProfileWrite r x_i v s
  | .msixBlockEnd k => Sys2Proof.Machine.execMsixBlockEnd k s
  | .wakeCause causes => Sys2Proof.Machine.execWakeCause causes s
  | .logTokenRefill x_s => Sys2Proof.Machine.execLogTokenRefill x_s s
  | .suppressedSummary x_s => Sys2Proof.Machine.execSuppressedSummary x_s s
  | .rptrWrite r q v => Sys2Proof.Machine.execRptrWrite r q v s
  | .spillRptrWrite r v => Sys2Proof.Machine.execSpillRptrWrite r v s
  | .win0Read r => Sys2Proof.Machine.execWin0Read r s
  | .spillEnWrite r v => Sys2Proof.Machine.execSpillEnWrite r v s
  | .satClear r => Sys2Proof.Machine.execSatClear r s
  | .checkReferenceDone x_s pace => Sys2Proof.Machine.execCheckReferenceDone x_s pace s
  | .stallWatchdog x_s => Sys2Proof.Machine.execStallWatchdog x_s s
  | .safetyCoreWatchdog => Sys2Proof.Machine.execSafetyCoreWatchdog s
  | .supplySample good coreMv bad => Sys2Proof.Machine.execSupplySample good coreMv bad s
  | .clockMonitorWindow port bad => Sys2Proof.Machine.execClockMonitorWindow port bad s
  | .cadenceMonitorTimeout x_s => Sys2Proof.Machine.execCadenceMonitorTimeout x_s s
  | .belayEntry p => Sys2Proof.Machine.execBelayEntry p s
  | .belayClear r ports => Sys2Proof.Machine.execBelayClear r ports s
  | .injectGo r us found => Sys2Proof.Machine.execInjectGo r us found s
  | .selftest r => Sys2Proof.Machine.execSelftest r s
  | .selftestDone passed => Sys2Proof.Machine.execSelftestDone passed s
  | .modeReqReady r => Sys2Proof.Machine.execModeReqReady r s
  | .modeReqRun r => Sys2Proof.Machine.execModeReqRun r s
  | .modeReqBivouac r => Sys2Proof.Machine.execModeReqBivouac r s
  | .modeReqTest r => Sys2Proof.Machine.execModeReqTest r s
  | .modeReqShutdown r => Sys2Proof.Machine.execModeReqShutdown r s
  | .bivouacEntered => Sys2Proof.Machine.execBivouacEntered s
  | .bivouacReturnDone => Sys2Proof.Machine.execBivouacReturnDone s
  | .shutdownReady flashOk => Sys2Proof.Machine.execShutdownReady flashOk s
  | .powerHoldRelease bootsel svcen => Sys2Proof.Machine.execPowerHoldRelease bootsel svcen s
  | .supplyBrownout first => Sys2Proof.Machine.execSupplyBrownout first s
  | .porst => Sys2Proof.Machine.execPorst s
  | .resetCmd r v => Sys2Proof.Machine.execResetCmd r v s
  | .watchdogReset => Sys2Proof.Machine.execWatchdogReset s
  | .thermalSample tj sensor => Sys2Proof.Machine.execThermalSample tj sensor s
  | .firmwareLoaded b => Sys2Proof.Machine.execFirmwareLoaded b s
  | .vpReq r high => Sys2Proof.Machine.execVpReq r high s
  | .vpSettled => Sys2Proof.Machine.execVpSettled s
  | .vpRampTimeout => Sys2Proof.Machine.execVpRampTimeout s
  | .rakinHello h bytes => Sys2Proof.Machine.execRakinHello h bytes s
  | .stageBegin h bytes flashOk => Sys2Proof.Machine.execStageBegin h bytes flashOk s
  | .stageData h bytes flashOk => Sys2Proof.Machine.execStageData h bytes flashOk s
  | .stageEnd h bytes => Sys2Proof.Machine.execStageEnd h bytes s
  | .stageVerifyDone flashOk => Sys2Proof.Machine.execStageVerifyDone flashOk s
  | .rakinActivate h bytes => Sys2Proof.Machine.execRakinActivate h bytes s
  | .rakinRestartTrial h bytes => Sys2Proof.Machine.execRakinRestartTrial h bytes s
  | .rakinDiscard h bytes => Sys2Proof.Machine.execRakinDiscard h bytes s
  | .logRead h bytes => Sys2Proof.Machine.execLogRead h bytes s
  | .settingsRead h bytes => Sys2Proof.Machine.execSettingsRead h bytes s
  | .settingsWrite h bytes flashOk => Sys2Proof.Machine.execSettingsWrite h bytes flashOk s
  | .enterBasecamp h bytes => Sys2Proof.Machine.execEnterBasecamp h bytes s
  | .rakinReset h bytes => Sys2Proof.Machine.execRakinReset h bytes s
  | .rakinStatus h bytes => Sys2Proof.Machine.execRakinStatus h bytes s
  | .loadCore h bytes => Sys2Proof.Machine.execLoadCore h bytes s
  | .unknownOp op h bytes => Sys2Proof.Machine.execUnknownOp op h bytes s
  | .activate r => Sys2Proof.Machine.execActivate r s
  | .standbyBankLoaded flashOk => Sys2Proof.Machine.execStandbyBankLoaded flashOk s
  | .approve r => Sys2Proof.Machine.execApprove r s
  | .rejectTrial r => Sys2Proof.Machine.execRejectTrial r s
  | .restartTrial r => Sys2Proof.Machine.execRestartTrial r s
  | .discard r => Sys2Proof.Machine.execDiscard r s
  | .trialCtrlWrite r v => Sys2Proof.Machine.execTrialCtrlWrite r v s
  | .selfCheckPass => Sys2Proof.Machine.execSelfCheckPass s
  | .confirm r => Sys2Proof.Machine.execConfirm r s
  | .healthFail r => Sys2Proof.Machine.execHealthFail r s
  | .trialExpiring => Sys2Proof.Machine.execTrialExpiring s
  | .trialWindowExpiry => Sys2Proof.Machine.execTrialWindowExpiry s
  | .unresponsive => Sys2Proof.Machine.execUnresponsive s
  | .fallbackStateSaved responsive => Sys2Proof.Machine.execFallbackStateSaved responsive s
  | .getInfo => Sys2Proof.Machine.execGetInfo s
  | .saveSettings flashOk => Sys2Proof.Machine.execSaveSettings flashOk s
  | .loadDefaults flashOk => Sys2Proof.Machine.execLoadDefaults flashOk s
  | .settingsInfo => Sys2Proof.Machine.execSettingsInfo s
  | .setPoweronFrame => Sys2Proof.Machine.execSetPoweronFrame s
  | .stagedInfo => Sys2Proof.Machine.execStagedInfo s
  | .fallbackLog => Sys2Proof.Machine.execFallbackLog s
  | .unknownFunc => Sys2Proof.Machine.execUnknownFunc s
  | .mbxDone => Sys2Proof.Machine.execMbxDone s
  | .dfuDnload bytes flashOk => Sys2Proof.Machine.execDfuDnload bytes flashOk s
  | .baseCampCopyDone => Sys2Proof.Machine.execBaseCampCopyDone s
  | .svcCtrlWrite r v => Sys2Proof.Machine.execSvcCtrlWrite r v s
  | .attach => Sys2Proof.Machine.execAttach s
  | .detach => Sys2Proof.Machine.execDetach s
  | .pcieLinkUp x => Sys2Proof.Machine.execPcieLinkUp x s
  | .pePerst x => Sys2Proof.Machine.execPePerst x s
  | .flr k => Sys2Proof.Machine.execFlr k s
  | .hostBar2Write k addr bytes ep => Sys2Proof.Machine.execHostBar2Write k addr bytes ep s
  | .hostBar2Read k addr bytes => Sys2Proof.Machine.execHostBar2Read k addr bytes s
  | .qspiRead addr inTime => Sys2Proof.Machine.execQspiRead addr inTime s
  | .qspiWrite addr words => Sys2Proof.Machine.execQspiWrite addr words s
  | .qspiStatus => Sys2Proof.Machine.execQspiStatus s
  | .readReg addr => Sys2Proof.Machine.execReadReg addr s
  | .writeReg addr v pec => Sys2Proof.Machine.execWriteReg addr v pec s
  | .smbusStatus => Sys2Proof.Machine.execSmbusStatus s
  | .smbusTemp => Sys2Proof.Machine.execSmbusTemp s
  | .alertResponse => Sys2Proof.Machine.execAlertResponse s
  | .gpioEvent n level => Sys2Proof.Machine.execGpioEvent n level s
  | .declarationLoss k => Sys2Proof.Machine.execDeclarationLoss k s
  | .throttleEpisodeEnd c => Sys2Proof.Machine.execThrottleEpisodeEnd c s
  | .configurationIntegrityCheck bad => Sys2Proof.Machine.execConfigurationIntegrityCheck bad s
  | .lutIntegrityCheck lut bad => Sys2Proof.Machine.execLutIntegrityCheck lut bad s
  | .rerouteTables x => Sys2Proof.Machine.execRerouteTables x s
  | .configurationRequest k x => Sys2Proof.Machine.execConfigurationRequest k x s
  | .pcieSpeedChange x => Sys2Proof.Machine.execPcieSpeedChange x s
  | .boundaryScanInstruction x => Sys2Proof.Machine.execBoundaryScanInstruction x s

end Sys2Proof.Machine
end

