-- ==== Sys2Proof/Machine/Idle.lean ====
section
/-! DEFINITION. What the device does by itself while no command waits: a command held behind a stalled write is carried out once that write is
gone (R96), and otherwise time passes by one nanosecond, in which what needs no event of the outside takes effect (R448, R512, R515, R539). -/

namespace Sys2Proof.Machine

open Host (Outcome)

/-- The first command of a host function that no stalled write of that function holds back (R96). -/
def Dev.readyDeferred (d : Dev) : Option (Nat × Instr) :=
  d.deferred.find? fun x => !(d.stalled.any fun w => decide (∃ k, w.who = .pf k ∧ k.val = x.1))

/-- The deferred commands without the first of a function, whose others are set aside while that one is carried out: 8 is added to their
number. -/
def setAside (k : Nat) : List (Nat × Instr) → List (Nat × Instr)
  | [] => []
  | x :: r => if x.1 = k then r.map (fun y => if y.1 = k then (k + 8, y.2) else y) else x :: setAside k r

/-- The commands set aside wait again. -/
def Dev.bringBack (d : Dev) : Dev := { d with deferred := d.deferred.map fun x => (x.1 % 8, x.2) }

/-- Bring back what was set aside, in the state that a command ends in. -/
def bringBackIn : Outcome State Fault Refusal → Outcome State Fault Refusal
  | .next t => .next (t.on Dev.bringBack)
  | .fault x => .fault x
  | .refused x => .refused x

/-- Carry out the deferred command of a function. -/
def State.runDeferred (s : State) (k : Nat) (i : Instr) : Outcome State Fault Refusal :=
  bringBackIn (exec i (s.on fun d => { d with deferred := setAside k d.deferred }))

/-- What a write of a spilled record leaves: one that a hold window drops is lost, with SPILL_ERR (R448). -/
def spillLanded (y : Dev × WriteFate) : Dev := if y.2 = .dropped then y.1.flag .elog 0 11 else y.1

/-- A record on its way to the spill ring is written to DDR5 as one 32-byte write of CPU (R448). -/
def Dev.landSpill (d : Dev) (x : Nat × Rec) : Dev := spillLanded (d.dramWrite (.cpu 0) x.1 (wordBytes x.2.words))

/-- Every record on its way to the spill ring is written. -/
def Dev.landSpills (d : Dev) : Dev := d.core.spillQ.foldl Dev.landSpill (d.onCore fun c => { c with spillQ := [] })

/-- One nanosecond in which no command comes. -/
def Dev.tick (d : Dev) : Dev :=
  if d.core.powerHold then d
  else
    let d1 := ((d.landSpills.injectBy d.now).moveStep.resumePorts).handSettle
    d1.advance (d1.now + 1)

/-- What a step does while no command waits. -/
def State.idle (s : State) : Outcome State Fault Refusal :=
  match s.dev.readyDeferred with
  | some (k, i) => s.runDeferred k i
  | none => .next (s.on Dev.tick)

end Sys2Proof.Machine
end

