-- ==== Sys2Proof/Safety.lean ====
section
/-! DEFINITION. What a sound state and a safe step are. -/

namespace Sys2Proof

open Machine
open Host (Outcome)

/-- A sound device: DDR5 and frame memory are in their canonical form, so that equal memories are equal data. -/
def Machine.Dev.Sound (d : Dev) : Prop := Memory.wf d.mem = true ∧ Memory.wf d.fm = true

/-- A sound state. -/
def Machine.State.Sound (s : State) : Prop := s.dev.Sound

/-- A register access of a requester arrives: no stalled write of its function holds it back, the page has that instance, the present
mode serves it, and the requester has the right (R60 to R63, R96, R498). -/
abbrev Machine.State.Reaches (s : State) (r : Requester) (p : Page) (n off : Nat) (write : Bool) (v : Word) : Prop :=
  s.dev.fnStalled r = false ∧ n < p.count ∧ servedIn s.dev.mode p = true ∧ s.dev.core.mayAccess r p n off write v = true

/-- The register access that a command is, if it is one 32-bit write or read of a register: who makes it, the page, the instance, the
offset, whether it writes, and the word it writes (R8, R31). -/
def Instr.register : Instr → Option (Requester × Page × Nat × Nat × Bool × Word)
  | .shadowWrite r p n off v => some (r, p, n, off, true, v)
  | .arm r p n => some (r, p, n, Off.COMMIT, true, 1)
  | .cancel r p n => some (r, p, n, Off.COMMIT, true, 2)
  | .sqClear r p n off v => some (r, p, n, off, true, v)
  | .groupArm r scenes atFrame => some (r, .sys, 0, Off.SYS_GROUP_COMMIT, true, groupWord scenes.toNat 0 atFrame)
  | .groupCancel r scenes => some (r, .sys, 0, Off.SYS_GROUP_COMMIT, true, groupWord 0 scenes.toNat false)
  | .timeLoRead r => some (r, .sys, 0, Off.SYS_TIME_LO, false, 0)
  | .appliedLoRead r p n => some (r, p, n, Off.APPLIED_LO, false, 0)
  | .frameLoRead r s => some (r, .stim, s.val, Off.STIM_FRAME_LO, false, 0)
  | .pframeLoRead r p => some (r, .scan, p.val, Off.SCAN_PFRAME_LO, false, 0)
  | .shownLoRead r p => some (r, .scan, p.val, Off.SCAN_SHOWN_LO, false, 0)
  | .teamTimeLoRead r => some (r, .rpg, 0, Off.RPG_TEAM_TIME_LO, false, 0)
  | .teamFrameLoRead r => some (r, .rpg, 0, Off.RPG_TEAM_FRAME_LO, false, 0)
  | .faultTimeLoRead r => some (r, .safe, 0, Off.SAFE_FAULT_TIME_LO, false, 0)
  | .forceRecompose r s => some (r, .stim, s.val, Off.STIM_FORCE, true, 1)
  | .forceFlatDrop r s => some (r, .stim, s.val, Off.STIM_FORCE, true, 2)
  | .prestage r p => some (r, .padp, p.val, Off.PADP_PRESTAGE, true, 1)
  | .allocInstall r i => some (r, .fmem, 0, Off.FMEM_ALLOC_CMD, true, BitVec.ofNat 32 (1 + i.val * 256))
  | .allocFree r i => some (r, .fmem, 0, Off.FMEM_ALLOC_CMD, true, BitVec.ofNat 32 (2 + i.val * 256))
  | .xferUpload r i => some (r, .fmem, 0, Off.FMEM_XFER_CTRL, true, BitVec.ofNat 32 (1 + i.val * 256))
  | .xferCapture r i => some (r, .fmem, 0, Off.FMEM_XFER_CTRL, true, BitVec.ofNat 32 (3 + i.val * 256))
  | .xferCaptureFromPort r p => some (r, .fmem, 0, Off.FMEM_XFER_CTRL, true, BitVec.ofNat 32 (7 + p.val * 8))
  | .cadCtrlWrite r s v => some (r, .anch, 0, (cadOff s.val Off.ANCH_CAD_CTRL), true, v)
  | .applyRate r s atFrame => some (r, .anch, 0, (cadOff s.val Off.ANCH_CAD_CMD), true, BitVec.ofNat 32 (1 + 2 * atFrame.toNat))
  | .ackSlew r s => some (r, .anch, 0, (cadOff s.val Off.ANCH_CAD_CMD), true, 4)
  | .ackSnap r s => some (r, .anch, 0, (cadOff s.val Off.ANCH_CAD_CMD), true, 8)
  | .preset r s => some (r, .anch, 0, (cadOff s.val Off.ANCH_CAD_CMD), true, 16)
  | .retryMain r p => some (r, .ppll, p.val, Off.PPLL_CMD, true, 1)
  | .ckoWrite r c div v => some (r, .spll, (c.val / 2), (ckoOff c.val div), true, v)
  | .retrain r p => some (r, .xpt, p.val, Off.XPT_CMD, true, 1)
  | .sbGo r p => some (r, .xpt, p.val, Off.XPT_CMD, true, 4)
  | .tcLoad r p => some (r, .xpt, p.val, Off.XPT_CMD, true, 2)
  | .mapApply r => some (r, .mcg, 0, Off.MCG_MAP_CMD, true, 1)
  | .weightWrite r which v => some (r, .mcg, 0, (Off.MCG_WEIGHT_RT + 4 * which.val), true, v)
  | .migStart r u k => some (r, .mcg, 0, Off.MCG_MIG_CMD, true, BitVec.ofNat 32 (1 + u.val * 2 + k.val * 32))
  | .bltStart r => some (r, .blt, 0, Off.BLT_CMD, true, 1)
  | .bltAbort r => some (r, .blt, 0, Off.BLT_CMD, true, 2)
  | .ropeRetrain r p => some (r, .rpp, p.val, Off.RPP_CMD, true, 1)
  | .enumerate r => some (r, .rpg, 0, Off.RPG_ENUM_CMD, true, 1)
  | .tcSend r => some (r, .rpg, 0, Off.RPG_TC_CMD, true, 1)
  | .xferStart r c => some (r, .rpg, 0, (xoff c.val Off.RPG_X_CTRL), true, 1)
  | .xferAbort r c => some (r, .rpg, 0, (xoff c.val Off.RPG_X_CTRL), true, 2)
  | .rregGo r => some (r, .rpg, 0, Off.RPG_RREG_CMD, true, 1)
  | .wakeSend r => some (r, .rpg, 0, Off.RPG_ENUM_CMD, true, 2)
  | .intcClaim r => some (r, .intc, 0, Off.INTC_CLAIM, false, 0)
  | .intcComplete r v => some (r, .intc, 0, Off.INTC_COMPLETE, true, v)
  | .globalHold r v => some (r, .intc, 0, Off.INTC_GLOBAL_HOLD, true, v)
  | .dbRaise r hi v => some (r, .intc, 0, (if hi then Off.INTC_DB_RAISE_HI else Off.INTC_DB_RAISE_LO), true, v)
  | .pendClr r i v => some (r, .isrc, (i.val / 2), (pendClrOff i.val), true, v)
  | .srcCfgWrite r s v => some (r, .isrc, (s.val / 64), (Off.ISRC_SRC_CFG + 4 * (s.val % 64)), true, v)
  | .profileWrite r i v => some (r, .intc, 0, (Off.INTC_PROFILE + 4 * i.val), true, v)
  | .rptrWrite r q v => some (r, .elog, 0, (Off.ELOG_RPTR + 8 * q.val), true, v)
  | .spillRptrWrite r v => some (r, .elog, 0, Off.ELOG_SPILL_RPTR, true, v)
  | .win0Read r => some (r, .elog, 0, Off.ELOG_WIN, false, 0)
  | .spillEnWrite r v => some (r, .elog, 0, Off.ELOG_ELOG_CTRL, true, v)
  | .satClear r => some (r, .elog, 0, Off.ELOG_ELOG_CMD, true, 1)
  | .belayClear r ports => some (r, .safe, 0, Off.SAFE_BELAY_CLEAR, true, ports.zeroExtend 32)
  | .injectGo r us found => some (r, .safe, 0, Off.SAFE_INJECT_CMD, true, 1)
  | .selftest r => some (r, .safe, 0, Off.SAFE_INJECT_CMD, true, 2)
  | .modeReqReady r => some (r, .pwr, 0, Off.PWR_MODE_REQ, true, 4)
  | .modeReqRun r => some (r, .pwr, 0, Off.PWR_MODE_REQ, true, 5)
  | .modeReqBivouac r => some (r, .pwr, 0, Off.PWR_MODE_REQ, true, 9)
  | .modeReqTest r => some (r, .pwr, 0, Off.PWR_MODE_REQ, true, 10)
  | .modeReqShutdown r => some (r, .pwr, 0, Off.PWR_MODE_REQ, true, 11)
  | .resetCmd r v => some (r, .pwr, 0, Off.PWR_RESET_CMD, true, v)
  | .vpReq r high => some (r, .pwr, 0, Off.PWR_VP_REQ, true, BitVec.ofNat 32 high.toNat)
  | .activate r => some (r, .fwm, 0, Off.FWM_FW_CMD, true, 1)
  | .approve r => some (r, .fwm, 0, Off.FWM_FW_CMD, true, 2)
  | .rejectTrial r => some (r, .fwm, 0, Off.FWM_FW_CMD, true, 4)
  | .restartTrial r => some (r, .fwm, 0, Off.FWM_FW_CMD, true, 8)
  | .discard r => some (r, .fwm, 0, Off.FWM_FW_CMD, true, 16)
  | .trialCtrlWrite r v => some (r, .fwm, 0, Off.FWM_TRIAL_CTRL, true, v)
  | .confirm r => some (r, .fwm, 0, Off.FWM_HEALTH_CONFIRM, true, 1)
  | .healthFail r => some (r, .fwm, 0, Off.FWM_HEALTH_CONFIRM, true, 2)
  | .svcCtrlWrite r v => some (r, .svc, 0, Off.SVC_SVC_CTRL, true, v)
  | .registerWrite .. | .cadenceTick .. | .fenceReadDone .. | .waitFenceReread .. | .waitBoundExpiry .. | .metaReadDone ..
  | .pixelReadReturn .. | .releaseWrite .. | .bandComplete .. | .blenderRowWrite .. | .composeDone .. | .toneLutBuildDone ..
  | .adapterStagingDone .. | .adapterReloadDone .. | .xferDone .. | .hbmRound .. | .fmScrubRead .. | .vblankStart .. | .lineStart ..
  | .rowFetchDeadline .. | .frameDone .. | .anchorEdge .. | .anchorLineEdge .. | .refLost .. | .pllBandSearchDone ..
  | .pllInternalLock .. | .pllAlignmentEdge .. | .lockPinCrossing .. | .lockPinTimeout .. | .pllInternalLoss .. | .fallbackLock ..
  | .pllRetry .. | .warmRelockTimeout .. | .referenceLoss .. | .referenceReturn .. | .trainingAttemptFail .. | .linkUp .. | .linkLoss ..
  | .scdcPoll .. | .hpdQualified .. | .hpdUnplug .. | .irqHpd .. | .sbDone .. | .dramTrainingDone .. | .dramReadEnqueue ..
  | .dramWriteEnqueue .. | .stalledWriteResume .. | .holdStallTimeout .. | .dramReadReturn .. | .dramWriteRetire .. | .dramRefresh ..
  | .dramTempPoll .. | .rhCountHalving .. | .dramPatrolScrub .. | .migLineCopy .. | .migDone .. | .srEntry .. | .srEntered ..
  | .srPrewake .. | .srExit .. | .srExited .. | .clockLoss .. | .bltOpDone .. | .bltDoneFence .. | .ropeBringupRetry .. | .ropePortUp ..
  | .helloSend .. | .hello .. | .replay .. | .keepaliveSend .. | .portDown .. | .claimReceived .. | .electionEnd .. | .teamFormed ..
  | .memberJoin .. | .orphanElection .. | .syncSend .. | .sync .. | .tick .. | .linkDelayMeasure .. | .tcRequest .. | .tcArm ..
  | .tcReply .. | .tcAckTimeout .. | .tcCancel .. | .tcOutcome .. | .xferSegment .. | .xferSegmentTimeout .. | .xferAck ..
  | .xferDestFence .. | .rregRequest .. | .rregReply .. | .rregTimeout .. | .cairnForward .. | .intfClaim .. | .intfComplete ..
  | .coalesceTimeout .. | .msixBlockEnd .. | .wakeCause .. | .logTokenRefill .. | .suppressedSummary .. | .checkReferenceDone ..
  | .stallWatchdog .. | .safetyCoreWatchdog .. | .supplySample .. | .clockMonitorWindow .. | .cadenceMonitorTimeout .. | .belayEntry ..
  | .selftestDone .. | .bivouacEntered .. | .bivouacReturnDone .. | .shutdownReady .. | .powerHoldRelease .. | .supplyBrownout ..
  | .porst .. | .watchdogReset .. | .thermalSample .. | .firmwareLoaded .. | .vpSettled .. | .vpRampTimeout .. | .rakinHello ..
  | .stageBegin .. | .stageData .. | .stageEnd .. | .stageVerifyDone .. | .rakinActivate .. | .rakinRestartTrial .. | .rakinDiscard ..
  | .logRead .. | .settingsRead .. | .settingsWrite .. | .enterBasecamp .. | .rakinReset .. | .rakinStatus .. | .loadCore ..
  | .unknownOp .. | .standbyBankLoaded .. | .selfCheckPass .. | .trialExpiring .. | .trialWindowExpiry .. | .unresponsive ..
  | .fallbackStateSaved .. | .getInfo .. | .saveSettings .. | .loadDefaults .. | .settingsInfo .. | .setPoweronFrame .. | .stagedInfo ..
  | .fallbackLog .. | .unknownFunc .. | .mbxDone .. | .dfuDnload .. | .baseCampCopyDone .. | .attach .. | .detach .. | .pcieLinkUp ..
  | .pePerst .. | .flr .. | .hostBar2Write .. | .hostBar2Read .. | .qspiRead .. | .qspiWrite .. | .qspiStatus .. | .readReg ..
  | .writeReg .. | .smbusStatus .. | .smbusTemp .. | .alertResponse .. | .gpioEvent .. | .declarationLoss .. | .throttleEpisodeEnd ..
  | .configurationIntegrityCheck .. | .lutIntegrityCheck .. | .rerouteTables .. | .configurationRequest .. | .pcieSpeedChange ..
  | .boundaryScanInstruction .. => none

/-- A command that is a register access arrives at its register. -/
def Machine.State.Arrives (s : State) (c : Instr) : Prop :=
  match c.register with
  | some (r, p, n, off, write, v) => s.Reaches r p n off write v
  | none => True

/-- A Rakin command of an opcode is carried out: the USB port is attached to a host, its length and CRC are right, a session is open or
it opens one, it exists in Base camp if the device is there, the mode allows it, and the write gate is open if it needs it (R532 to
R535). -/
abbrev Machine.Dev.RakinTaken (d : Dev) (op : Nat) (h : RakinHdr) (bs : List (BitVec 8)) (gated : Bool) (allowed : Nat → Bool) : Prop :=
  d.bit .svc 0 Off.SVC_SVC_STAT 3 = true ∧ h.length = bs.length ∧ bs.length ≤ 65536 ∧ h.crc = crc32 bs ∧
    (d.bit .svc 0 Off.SVC_SVC_STAT 4 = true ∨ op = 1) ∧ (d.mode = 2 → campOps op = true) ∧ allowed d.mode = true ∧
    (gated = true → d.writeOk = true)

/-- The mailbox holds a request of a function that has no answer yet and is not held back by a handover (R551). -/
abbrev Machine.Dev.Asked (d : Dev) (func : Nat) : Prop := ∃ m, d.fw.mbx = some m ∧ m.func = func ∧ m.answer = none ∧ m.held = false

/-- What the device holds beside its registers, its interrupt sources, the Cairn log and the words of the latest read: device time, the
configuration in use, delivery gates and deliveries, MSI-X vectors, and the model's counter of free values. -/
def Machine.Core.shared (c : Core) : Nat × Bool × Bool × Tbl Word × Tbl Bool × Tbl Nat × Option Delivery × Bool × Tbl Vector × Nat :=
  (c.time, c.timeRuns, c.powerHold, c.inUse, c.gates, c.sent, c.lastSent, c.irqLow, c.vectors, c.free)

/-- Every register of every page but ELOG reads as it did, but for those that `c` names. -/
def Machine.Dev.SameRegsBut (d e : Dev) (c : Page × Nat × Nat → Prop) : Prop :=
  ∀ (q : Page) (m o : Nat), m < q.count → o < 4096 → q ≠ .elog → ¬ c (q, m, o) → e.rd q m o = d.rd q m o

/-- The frame of a command that writes registers and may raise events: the device `e` differs from `d` in the registers that `c` names
by page, instance and offset, in the sources and the Cairn log with its ELOG registers, and in the words a read returned, at most.
Memories, queues, blocks and every other register are as they were. -/
def Machine.Dev.RegsOnly (d e : Dev) (c : Page × Nat × Nat → Prop) : Prop :=
  d.SameRegsBut e c ∧ { e with core := d.core } = d ∧ e.core.shared = d.core.shared

/-- The sources that a list does not name are as they were (R428). -/
def Machine.Dev.SourcesBut (d e : Dev) (l : List Nat) : Prop := ∀ k, k ∉ l → e.core.src k = d.core.src k

/-- The frame of a command that writes the registers listed and raises the sources listed: beside those, the Cairn log, its ELOG registers
and its own sources 8 and 9, and the words a read returned, the device `e` is the device `d`. -/
def Machine.Dev.Touches (d e : Dev) (regs : List (Page × Nat × Nat)) (srcs : List Nat) : Prop :=
  d.RegsOnly e (· ∈ regs) ∧ d.SourcesBut e (8 :: 9 :: srcs)

/-- Every byte of DDR5 and of frame memory reads as it did. -/
def Machine.Dev.SameBytes (d e : Dev) : Prop := ∀ a, readByte e.mem a = readByte d.mem a ∧ readByte e.fm a = readByte d.fm a

/-- The step at a state goes on: no fault and no refusal. -/
def Machine.State.Goes (s : State) : Prop := ∃ t, step s = .next t

/-- A run of the machine is safe when each of its states goes on. -/
def Machine.State.Safe (s : State) : Prop := ∀ k, ∃ t, Sys2Proof.core.run k s = .next t

end Sys2Proof
end

