-- ==== Sys2Proof/Certificates/Slice0/Obligations.lean ====
section
/-! DEFINITION. The statements for the provers. Each docstring names the commands that its statement covers and the rules it rests on. -/

open Sys2Proof Sys2Proof.Machine
open Host (Outcome)

/-- A step takes the command at the front of the queue and is that command's effect on the state with the queue's rest. -/
def Obligations.StepRunsTheFrontCommand : Prop :=
  ∀ (c : Instr) (rest : List Instr) (s : State), s.pending = c :: rest → step s = exec c { s with pending := rest }

/-- A step with no command waiting: the first command that was held behind a write which is stalled no more is carried out; with none,
one nanosecond passes (the model's choice, log entry 3). -/
def Obligations.EmptyQueue : Prop :=
  ∀ (s : State), s.pending = [] →
    (∀ k c, s.dev.readyDeferred = some (k, c) → step s = s.runDeferred k c) ∧
    (s.dev.readyDeferred = none → ∃ t, step s = .next t ∧ t.pending = [] ∧ (s.dev.core.powerHold = true → t = s))

/-- Every command is answered with a next state and leaves the queue as it was. -/
def Obligations.EveryCommandAnswers : Prop := ∀ (c : Instr) (s : State), ∃ t, exec c s = .next t ∧ t.pending = s.pending

/-- No run stops: each of its steps answers a next state. -/
def Obligations.EveryRunIsSafe : Prop := ∀ (s : State), s.Safe

/-- The canonical form of DDR5 and of frame memory is an invariant of the step. -/
def Obligations.StepKeepsSound : Prop := ∀ (s t : State), s.Sound → step s = .next t → t.Sound

/-- The state after reset is sound. -/
def Obligations.ResetIsSound : Prop := State.reset.Sound

/-- The machine right after reset (R33, R34, R36, R46 and the register tables): every page instance shows its number, type and layout
version, joins groups and follows teams where it can, and has no flag set, no event enabled and nothing armed; every active mirror reads as its shadow;
MODE reads 1, VP_CTRL 0x1402, THERM_CTRL 0x55F, INTC.CLAIM and INTF.CLAIM 0xFFFF (no source), MWIN.CTRL 0, TRIAL_CTRL 0x258,
DEVICE_ID 0x8440; both memories list nothing; the device is in POWER_HOLD and no command waits. That an invalid memory
lists nothing is the model's choice (log entry 2). -/
def Obligations.ResetValues : Prop :=
  (∀ (p : Page) (n : Nat), n < p.count →
    State.reset.dev.rd p n Off.PAGE_ID = BitVec.ofNat 32 (n + 256 * p.code + 0x10000) ∧
    State.reset.dev.rd p n Off.PAGE_CTRL = (if p.groupable then 3 else 0) ∧
    State.reset.dev.rd p n Off.PAGE_STAT = 0 ∧ State.reset.dev.rd p n Off.PAGE_EVT_EN = 0 ∧ State.reset.dev.armOf p n = none ∧
    ∀ off, p.shadowed = true → 0x100 ≤ off → off < 0x800 →
      State.reset.dev.act p n off = State.reset.dev.rd p n off) ∧
  State.reset.dev.rd .leng 5 Off.PAGE_ID = 0x00012005 ∧ State.reset.dev.rd .scan 3 Off.PAGE_ID = 0x00013003 ∧
  State.reset.dev.rd .pwr 0 Off.PWR_MODE = 1 ∧ State.reset.dev.rd .pwr 0 Off.PWR_VP_CTRL = 0x1402 ∧
  State.reset.dev.rd .pwr 0 Off.PWR_THERM_CTRL = 0x55F ∧ State.reset.dev.rd .intc 0 Off.INTC_CLAIM = 0xFFFF ∧
  State.reset.dev.rd .intf 0 Off.INTF_CLAIM = 0xFFFF ∧ State.reset.dev.rd .mwin 0 Off.MWIN_CTRL = 0 ∧
  State.reset.dev.rd .fwm 0 Off.FWM_TRIAL_CTRL = 0x258 ∧ State.reset.dev.rd .sys 0 Off.SYS_DEVICE_ID = 0x8440 ∧
  State.reset.dev.mem = [] ∧ State.reset.dev.fm = [] ∧ State.reset.dev.core.powerHold = true ∧ State.reset.pending = []

/-- While a write of a host function is stalled by a hold window, a register access of that function waits behind it: it is kept, in
order, and changes nothing else (R96). -/
def Obligations.StalledFunctionWaits : Prop :=
  ∀ (c : Instr) (s : State) (k : Fin 8) (p : Page) (n off : Nat) (write : Bool) (v : Word),
    (c.register = some (.pf k, p, n, off, write, v) ∨ ∃ bar4 a size x, c = .registerWrite (.pf k) bar4 a size x) → s.dev.fnStalled (.pf k) = true →
    exec c s = .next { s with dev := { s.dev with deferred := s.dev.deferred ++ [(k.val, c)] } }

/-- A register access to a page that the present mode does not serve (R498). -/
def Obligations.AccessesNotServed : Prop :=
  ∀ (c : Instr) (s : State) (r : Requester) (p : Page) (n off : Nat) (write : Bool) (v : Word),
    (c.register = some (r, p, n, off, write, v) ∨ (write = true ∧ ∃ a x, c = .registerWrite r false a 4 x ∧ a.toNat = p.reg n off ∧
      off < 4096 ∧ off % 4 = 0)) → s.dev.fnStalled r = false → s.dev.mode ≠ 0 → n < p.count → servedIn s.dev.mode p = false →
    ∃ t, exec c s = .next t ∧
      t.dev.rd .pwr 0 Off.PWR_ASLEEP_ACCESS = satWord ((s.dev.rd .pwr 0 Off.PWR_ASLEEP_ACCESS).toNat + 1) ∧
      (write = false → t.dev.core.resp = [0]) ∧ (write = true → t.dev.core.resp = s.dev.core.resp) ∧
      s.dev.Touches t.dev [(.pwr, 0, Off.PWR_ASLEEP_ACCESS)] []

/-- A register access that its page denies, a REGISTER_WRITE of 4 bytes among them (R63): a read returns 0, a write does nothing; PROT flag 8, DENY_LAST
and DENY_COUNT report it, source 1 is raised, and its Cairn record is written where the bucket of source 1 holds a token (R449). DENY_LAST and
DENY_COUNT take no write. (Denials of the SMBus target do not involve PROT, R574.) -/
def Obligations.DeniedAccesses : Prop :=
  (∀ (c : Instr) (s : State) (r : Requester) (p : Page) (n off : Nat) (write : Bool) (v : Word),
    (c.register = some (r, p, n, off, write, v) ∨ (write = true ∧ ∃ a x, c = .registerWrite r false a 4 x ∧ a.toNat = p.reg n off ∧
      off < 4096 ∧ off % 4 = 0 ∧ msixOff p off = false ∧ v = x.truncate 32)) → r ≠ .smbus → s.dev.fnStalled r = false → n < p.count →
    servedIn s.dev.mode p = true → s.dev.core.mayAccess r p n off write v = false →
    ∃ t, exec c s = .next t ∧
      t.dev.rd .prot 0 Off.PROT_DENY_LAST = rejectWord 0xFF (p.slot n) off r.id ∧
      t.dev.rd .prot 0 Off.PROT_DENY_COUNT = satWord ((s.dev.rd .prot 0 Off.PROT_DENY_COUNT).toNat + 1) ∧
      t.dev.bit .prot 0 Off.PAGE_STAT 8 = true ∧
      (t.dev.core.src 1).pending = true ∧ (t.dev.core.src 1).seq = (s.dev.core.src 1).seq + 1 ∧
      (s.dev.core.hasToken 1 = true → t.dev.core.ringRec (ringSlot (partitionOf 1) (s.dev.core.wptr (partitionOf 1))) =
        s.dev.core.mkRec 1 ((s.dev.core.src 1).seq + 1) (8 + 256 * 0xFF) false (rejectWord 0xFF (p.slot n) off r.id) 0 0 0) ∧
      (write = false → t.dev.core.resp = [0]) ∧ (write = true → t.dev.core.resp = s.dev.core.resp) ∧
      s.dev.Touches t.dev [(.prot, 0, Off.PROT_DENY_LAST), (.prot, 0, Off.PROT_DENY_COUNT), (.prot, 0, Off.PAGE_STAT)] [1]) ∧
  (∀ (s : State) (r : Requester) (off : Nat) (a : BitVec 24) (x : BitVec 64), off ∈ [Off.PROT_DENY_LAST, Off.PROT_DENY_COUNT] →
    a.toNat = Page.prot.reg 0 off → s.Reaches r .prot 0 off true (x.truncate 32) → exec (.registerWrite r false a 4 x) s = .next s)

/-- REGISTER_WRITE of 4 bytes (R8, R9): on a page all of whose registers only store, an immediate register takes the written bits that it
implements and that are not read-only, and keeps its other bits; a read-only register, an offset that no register occupies (R32) and a page
slot that holds no page keep the whole device as it was. -/
def Obligations.RegisterWriteStores : Prop :=
  ∀ (s : State) (r : Requester) (v : BitVec 64), s.dev.fnStalled r = false →
    (∀ (p : Page) (n off : Nat) (a : BitVec 24) (x : RegDesc), p ∈ [Page.mwin, .leng, .scn, .tone, .schk, .scan, .dsc, .mcc, .bly] →
      n < p.count → 0x20 ≤ off → off < 4096 → off % 4 = 0 → a.toNat = p.reg n off → servedIn s.dev.mode p = true →
      s.dev.core.mayAccess r p n off true (v.truncate 32) = true → p.desc off = some x →
      (x.access = .im → ∃ t, exec (.registerWrite r false a 4 v) s = .next t ∧
        t.dev.rd p n off = (s.dev.rd p n off &&& ~~~ BitVec.ofNat 32 (x.mask &&& (0xFFFFFFFF - x.rom)))
          ||| (v.truncate 32 &&& BitVec.ofNat 32 (x.mask &&& (0xFFFFFFFF - x.rom))) ∧
        s.dev.Touches t.dev [(p, n, off)] []) ∧
      (x.access = .ro → exec (.registerWrite r false a 4 v) s = .next s)) ∧
    (∀ a : BitVec 24, Page.ofSlot (a.toNat / 4096) = none → a.toNat % 4 = 0 → exec (.registerWrite r false a 4 v) s = .next s)

/-- REGISTER_WRITE of 8 bytes (R31): it is two writes of 4 bytes, the lower address first; and of a size or an alignment that R31 does not
take, it is dropped and reported (R566). -/
def Obligations.RegisterWriteSizes : Prop :=
  ∀ (s : State) (r : Requester) (bar4 : Bool) (a : BitVec 24) (v : BitVec 64), s.dev.fnStalled r = false →
    (a.toNat % 4 = 0 → a.toNat + 4 < 2 ^ 24 → ∀ s1, exec (.registerWrite r bar4 a 4 v) s = .next s1 → s1.dev.fnStalled r = false →
      exec (.registerWrite r bar4 a 8 v) s = exec (.registerWrite r bar4 (a + 4) 4 (v >>> 32)) s1) ∧
    (∀ (k : Fin 8) (size : Nat), r = .pf k → s.dev.mode ≠ 0 → ¬ (a.toNat % 4 = 0 ∧ (size = 4 ∨ size = 8)) →
      ∃ t, exec (.registerWrite r bar4 a size v) s = .next t ∧
        t.dev.rd .pcie 0 Off.PCIE_BAD_LAST = BitVec.ofNat 32 (a.toNat + k.val * 2 ^ 24 + 2 ^ 27 + bar4.toNat * 2 ^ 28 + min (size - 1) 7 * 2 ^ 29) ∧
        t.dev.rd .pcie 0 Off.PCIE_BAD_COUNT = satWord ((s.dev.rd .pcie 0 Off.PCIE_BAD_COUNT).toNat + 1) ∧
        t.dev.bit .pcie 0 Off.PAGE_STAT 10 = true ∧
        s.dev.Touches t.dev [(.pcie, 0, Off.PCIE_BAD_LAST), (.pcie, 0, Off.PCIE_BAD_COUNT), (.pcie, 0, Off.PAGE_STAT)] [850])

/-- SHADOW_WRITE (R8, R43): on a page that is not armed it sets the shadow alone, in the bits that the register implements (SAFE and SCHK
store some fields at a limit first, `shadowStored`); while the page is armed it is dropped, with reason SHADOW_LOCKED, 0x01. -/
def Obligations.ShadowWrite : Prop :=
  ∀ (s : State) (r : Requester) (p : Page) (n off : Nat) (v : Word) (x : RegDesc), s.Arrives (.shadowWrite r p n off v) →
    off < 0x800 → p.desc off = some x → x.access = .sh →
    (s.dev.armOf p n = none →
      ∃ t, exec (.shadowWrite r p n off v) s = .next t ∧
        t.dev.rd p n off = shadowStored p off v &&& BitVec.ofNat 32 (x.mask &&& (0xFFFFFFFF - x.rom)) ∧
        s.dev.Touches t.dev [(p, n, off)] []) ∧
    (s.dev.armOf p n ≠ none →
      ∃ t, exec (.shadowWrite r p n off v) s = .next t ∧
        t.dev.rd .sys 0 Off.SYS_REJECT_LAST = rejectWord 0x01 (p.slot n) off r.id ∧
        (t.dev.core.src 0).pending = true ∧ (t.dev.core.src 0).seq = (s.dev.core.src 0).seq + 1 ∧
        s.dev.Touches t.dev [(p, n, Off.PAGE_STAT), (.sys, 0, Off.SYS_REJECT_LAST), (.sys, 0, Off.SYS_REJECT_COUNT)] [0])

/-- SQ_CLEAR and the registers with access type SQ (R54): their sequence resets to 0 and advances, modulo 256, whenever the device sets a flag,
set already or not; a clear whose sequence matches clears the flags written as 1 and keeps the sequence; any other does nothing, and no clear raises
an event. -/
def Obligations.SequencedClear : Prop :=
  (∀ (s : State) (r : Requester) (p : Page) (n off : Nat) (v : Word) (x : RegDesc), s.Arrives (.sqClear r p n off v) → off < 4096 →
    p.desc off = some x → x.access = .sq →
    ∃ t, exec (.sqClear r p n off v) s = .next t ∧
      (bitsOf v 24 8 = bitsOf (s.dev.rd p n off) 24 8 → t.dev.rd p n off = s.dev.rd p n off &&& ~~~ (v &&& 0xFFFFFF)) ∧
      (bitsOf v 24 8 ≠ bitsOf (s.dev.rd p n off) 24 8 → t.dev.rd p n off = s.dev.rd p n off) ∧
      bitsOf (t.dev.rd p n off) 24 8 = bitsOf (s.dev.rd p n off) 24 8 ∧
      ({ s.dev with board := t.dev.board, safe := t.dev.safe }).Touches t.dev [(p, n, off)] [] ∧
      t.dev.core.srcs = s.dev.core.srcs) ∧
  (∀ (p : Page) (n off : Nat) (x : RegDesc), n < p.count → off < 4096 → p.desc off = some x → x.access = .sq →
    bitsOf (State.reset.dev.rd p n off) 24 8 = 0) ∧
  (∀ (w : Word) (flags : Nat), bitsOf (sqSet w flags) 24 8 = (bitsOf w 24 8 + 1) % 256 ∧
    ∀ i, i < 24 → bitOf (sqSet w flags) i = (bitOf w i || flags.testBit i)) ∧
  (∀ (c : Core) (p : Page) (n bit : Nat), (c.flagOnly p n bit).rd p n Off.PAGE_STAT = sqSet (c.rd p n Off.PAGE_STAT) (2 ^ bit))

/-- The latching reads (R46, R59, R206, R240, R419, R489): a read of the low word of a number returns bits 31:0 and latches the rest in the
register at the next offset; nothing else changes. SHOWN_LO is that of the frame shown (R240, R241). -/
def Obligations.LatchingReads : Prop :=
  ∀ (s : State) (r : Requester),
    (s.Arrives (.timeLoRead r) → ∃ t, exec (.timeLoRead r) s = .next t ∧ t.dev.core.resp = [BitVec.ofNat 32 s.dev.core.time] ∧
      t.dev.rd .sys 0 Off.SYS_TIME_HI = BitVec.ofNat 32 (s.dev.core.time / 2 ^ 32) ∧ s.dev.Touches t.dev [(.sys, 0, Off.SYS_TIME_HI)] []) ∧
    (∀ p n, p.shadowed = true → s.Arrives (.appliedLoRead r p n) → ∃ t, exec (.appliedLoRead r p n) s = .next t ∧
      t.dev.core.resp = [BitVec.ofNat 32 (s.dev.appliedAt p n)] ∧
      t.dev.rd p n Off.APPLIED_HI = BitVec.ofNat 32 (s.dev.appliedAt p n / 2 ^ 32 % 2 ^ 16) ∧ s.dev.Touches t.dev [(p, n, Off.APPLIED_HI)] []) ∧
    (∀ k, s.Arrives (.frameLoRead r k) → ∃ t, exec (.frameLoRead r k) s = .next t ∧
      t.dev.core.resp = [BitVec.ofNat 32 (s.dev.cad k.val).frame] ∧
      t.dev.rd .stim k.val Off.STIM_FRAME_HI = BitVec.ofNat 32 ((s.dev.cad k.val).frame / 2 ^ 32 % 2 ^ 16) ∧
      s.dev.Touches t.dev [(.stim, k.val, Off.STIM_FRAME_HI)] []) ∧
    (∀ p, s.Arrives (.pframeLoRead r p) → ∃ t, exec (.pframeLoRead r p) s = .next t ∧
      t.dev.core.resp = [BitVec.ofNat 32 (s.dev.port p.val).pframe] ∧
      t.dev.rd .scan p.val Off.SCAN_PFRAME_HI = BitVec.ofNat 32 ((s.dev.port p.val).pframe / 2 ^ 32 % 2 ^ 16) ∧
      s.dev.Touches t.dev [(.scan, p.val, Off.SCAN_PFRAME_HI)] []) ∧
    (∀ p, s.Arrives (.shownLoRead r p) → ∃ t, exec (.shownLoRead r p) s = .next t ∧
      t.dev.core.resp = [(s.dev.port p.val).shownLo] ∧ t.dev.rd .scan p.val Off.SCAN_SHOWN_HI = (s.dev.port p.val).shownHi ∧
      s.dev.Touches t.dev [(.scan, p.val, Off.SCAN_SHOWN_HI)] []) ∧
    (s.Arrives (.teamTimeLoRead r) → ∃ t, exec (.teamTimeLoRead r) s = .next t ∧ t.dev.core.resp = [BitVec.ofNat 32 s.dev.teamTime] ∧
      t.dev.rd .rpg 0 Off.RPG_TEAM_TIME_HI = BitVec.ofNat 32 (s.dev.teamTime / 2 ^ 32) ∧
      s.dev.Touches t.dev [(.rpg, 0, Off.RPG_TEAM_TIME_HI)] []) ∧
    (s.Arrives (.teamFrameLoRead r) → ∃ t, exec (.teamFrameLoRead r) s = .next t ∧ t.dev.core.resp = [BitVec.ofNat 32 s.dev.teamFrame] ∧
      t.dev.rd .rpg 0 Off.RPG_TEAM_FRAME_HI = BitVec.ofNat 32 (s.dev.teamFrame / 2 ^ 32 % 2 ^ 16) ∧
      s.dev.Touches t.dev [(.rpg, 0, Off.RPG_TEAM_FRAME_HI)] []) ∧
    (s.Arrives (.faultTimeLoRead r) → ∃ t, exec (.faultTimeLoRead r) s = .next t ∧
      t.dev.core.resp = [BitVec.ofNat 32 s.dev.safe.faultAt] ∧
      t.dev.rd .safe 0 Off.SAFE_FAULT_TIME_HI = BitVec.ofNat 32 (s.dev.safe.faultAt / 2 ^ 32) ∧
      s.dev.Touches t.dev [(.safe, 0, Off.SAFE_FAULT_TIME_HI)] [])

/-- ARM (R41, R44): a page that is not armed is armed for the boundary that the plan of R41 gives, ARMED set, LATE as the plan says and the
other state bits of COMMIT_STAT cleared (SAFE and BLY, which arm by portions, and MCC in self-refresh, whose page has no boundary to wait
for, are stated apart); a page armed for the next boundary takes no effect; and a page armed for a stated frame number rejects it with
reason ALREADY_ARMED, 0x07. -/
def Obligations.CommitArm : Prop :=
  ∀ (s : State) (r : Requester) (p : Page) (n : Nat), p.shadowed = true → s.Arrives (.arm r p n) →
    (∀ w late, s.dev.armOf p n = none → (s.dev.commitStat p n false false false false false false).armPlan p n = .wait w late →
      p ≠ .safe → p ≠ .bly → ¬ (p = .mcc ∧ s.dev.selfRefresh = true) →
      ∃ t, exec (.arm r p n) s = .next t ∧ t.dev.armOf p n = some { wait := w } ∧
        t.dev.fld p n Off.COMMIT_STAT 0 6 = 1 + 2 * late.toNat) ∧
    (∀ a, s.dev.armOf p n = some a → s.dev.targetedArm a = false → exec (.arm r p n) s = .next s) ∧
    (∀ a, s.dev.armOf p n = some a → s.dev.targetedArm a = true →
      ∃ t, exec (.arm r p n) s = .next t ∧ t.dev.rd .sys 0 Off.SYS_REJECT_LAST = rejectWord 0x07 (p.slot n) Off.COMMIT r.id ∧
        t.dev.arms = s.dev.arms ∧
        s.dev.Touches t.dev [(p, n, Off.PAGE_STAT), (.sys, 0, Off.SYS_REJECT_LAST), (.sys, 0, Off.SYS_REJECT_COUNT)] [0])

/-- CANCEL (R44, R59): a page that is not armed takes no effect; one armed on its own is disarmed before the cut-off of the boundary it waits
for, CANCELLED set and ARMED cleared, and one armed through a scene group is disarmed before the group's cut-off; at or after it the command
is rejected with reason CANCEL_TOO_LATE, 0x03, and the page stays armed. -/
def Obligations.CommitCancel : Prop :=
  ∀ (s : State) (r : Requester) (p : Page) (n : Nat), p.shadowed = true → s.Arrives (.cancel r p n) →
    (s.dev.armOf p n = none → exec (.cancel r p n) s = .next s) ∧
    (∀ a, s.dev.armOf p n = some a → a.group = none → s.dev.cutReached p n a = false →
      ∃ t, exec (.cancel r p n) s = .next t ∧ t.dev.armOf p n = none ∧
        t.dev.rd p n Off.COMMIT_STAT = putBits (putBits (s.dev.rd p n Off.COMMIT_STAT) 0 1 0) 3 1 1) ∧
    (∀ a, s.dev.armOf p n = some a → (a.group = none → s.dev.cutReached p n a = true) →
      (∀ g, a.group = some g → s.dev.groupCancellable g = false) →
      ∃ t, exec (.cancel r p n) s = .next t ∧ t.dev.rd .sys 0 Off.SYS_REJECT_LAST = rejectWord 0x03 (p.slot n) Off.COMMIT r.id ∧
        t.dev.armOf p n = some a ∧
        s.dev.Touches t.dev [(p, n, Off.PAGE_STAT), (.sys, 0, Off.SYS_REJECT_LAST), (.sys, 0, Off.SYS_REJECT_COUNT)] [0])

/-- GROUP_ARM (R49 to R52): a write that names one scene k, an active pair being one scene. It is rejected with reason PAIR_SPLIT, 0x04, when it
names one half of an active pair alone; with AT_FRAME, with the reason of R52 when its target has passed or lies too far; and with reason
ALREADY_ARMED, 0x07, when a page of the group is armed for a stated frame number. Otherwise every page of the group is armed through it, the
group is armed and GROUP_STAT.ARMED shows it. (Without AT_FRAME the scene's timing runs and no port of a VBL page of the group is idle: a page
whose source is idle applies at once, R42.) -/
def Obligations.GroupArm : Prop :=
  ∀ (s : State) (r : Requester) (scenes : BitVec 4) (atFrame : Bool), s.Arrives (.groupArm r scenes atFrame) →
    (s.dev.pairSplit scenes.toNat = true →
      ∃ t, exec (.groupArm r scenes atFrame) s = .next t ∧
        t.dev.rd .sys 0 Off.SYS_REJECT_LAST = rejectWord 0x04 (Page.sys.slot 0) Off.SYS_GROUP_COMMIT r.id ∧ t.dev.arms = s.dev.arms ∧
        s.dev.Touches t.dev [(.sys, 0, Off.PAGE_STAT), (.sys, 0, Off.SYS_REJECT_LAST), (.sys, 0, Off.SYS_REJECT_COUNT)] [0]) ∧
    (∀ k : Fin 4, s.dev.pairSplit scenes.toNat = false → s.dev.groupScenes scenes.toNat = [k.val] →
      (∀ e, atFrame = true → s.dev.targetReason k.val s.dev.groupTarget = some e →
        ∃ t, exec (.groupArm r scenes atFrame) s = .next t ∧
          t.dev.rd .sys 0 Off.SYS_REJECT_LAST = rejectWord e (Page.sys.slot 0) Off.SYS_GROUP_COMMIT r.id ∧ t.dev.arms = s.dev.arms ∧
          s.dev.Touches t.dev [(.sys, 0, Off.PAGE_STAT), (.sys, 0, Off.SYS_REJECT_LAST), (.sys, 0, Off.SYS_REJECT_COUNT)] [0]) ∧
      ((atFrame = true → s.dev.targetReason k.val s.dev.groupTarget = none) →
        (∃ x ∈ s.dev.groupPages k.val 0, ∃ a, s.dev.armOf x.1 x.2 = some a ∧ s.dev.targetedArm a = true) →
        ∃ t, exec (.groupArm r scenes atFrame) s = .next t ∧
          t.dev.rd .sys 0 Off.SYS_REJECT_LAST = rejectWord 0x07 (Page.sys.slot 0) Off.SYS_GROUP_COMMIT r.id ∧ t.dev.arms = s.dev.arms ∧
          s.dev.Touches t.dev [(.sys, 0, Off.PAGE_STAT), (.sys, 0, Off.SYS_REJECT_LAST), (.sys, 0, Off.SYS_REJECT_COUNT)] [0]) ∧
      ((atFrame = true → s.dev.targetReason k.val s.dev.groupTarget = none) →
        (∀ x ∈ s.dev.groupPages k.val 0, ∀ a, s.dev.armOf x.1 x.2 = some a → s.dev.targetedArm a = false) →
        (atFrame = false → s.dev.sceneIdle k.val = false ∧
          ∀ x ∈ s.dev.groupPages k.val 0, x.1.boundary = .vbl → (s.dev.source x.1 x.2).2 = false) →
        ∃ t, exec (.groupArm r scenes atFrame) s = .next t ∧
          (∀ x ∈ s.dev.groupPages k.val 0, ∃ a, t.dev.armOf x.1 x.2 = some a ∧ a.group = some k.val ∧
            (x.1.boundary = .vbl → a.wait = .group k.val) ∧
            (x.1.boundary ≠ .vbl → a.wait = if atFrame then .frame s.dev.groupTarget else .next (s.dev.frameCutPassed k.val).toNat)) ∧
          (t.dev.group k.val).phase = .armed ∧
          (t.dev.group k.val).target = (if atFrame then some s.dev.groupTarget else none) ∧
          t.dev.bit .sys 0 Off.SYS_GROUP_STAT k.val = true ∧
          t.dev.bit .sys 0 Off.SYS_GROUP_STAT (4 + k.val) = (!atFrame && s.dev.frameCutPassed k.val)))

/-- GROUP_CANCEL (R59): CANCEL_SCN of a scene whose group is armed and whose FRAME cut-off has not been reached disarms every page of the group;
once it is reached the cancel is rejected with reason CANCEL_TOO_LATE and no page is disarmed; a group that is not armed takes no effect. -/
def Obligations.GroupCancel : Prop :=
  ∀ (s : State) (r : Requester) (scenes : BitVec 4) (k : Fin 4), s.Arrives (.groupCancel r scenes) →
    s.dev.pairSplit scenes.toNat = false → s.dev.groupScenes scenes.toNat = [k.val] →
    ((s.dev.group k.val).phase ≠ .idle → s.dev.groupCancellable k.val = true →
      ∃ t, exec (.groupCancel r scenes) s = .next t ∧
        (∀ x ∈ s.dev.armedGroup k.val, t.dev.armOf x.1 x.2 = none) ∧ (t.dev.group k.val).phase = .idle ∧
        t.dev.bit .sys 0 Off.SYS_GROUP_STAT k.val = false) ∧
    ((s.dev.group k.val).phase ≠ .idle → s.dev.groupCancellable k.val = false → s.dev.armedGroup k.val ≠ [] →
      ∃ t, exec (.groupCancel r scenes) s = .next t ∧
        t.dev.rd .sys 0 Off.SYS_REJECT_LAST = rejectWord 0x03 (Page.sys.slot 0) Off.SYS_GROUP_COMMIT r.id ∧ t.dev.arms = s.dev.arms ∧
        s.dev.Touches t.dev [(.sys, 0, Off.PAGE_STAT), (.sys, 0, Off.SYS_REJECT_LAST), (.sys, 0, Off.SYS_REJECT_COUNT)] [0])

/-- FENCE_READ_DONE, META_READ_DONE and PIXEL_READ_RETURN (R85, R86, R90, R91, R129): a fence read that is not outstanding and a block that
the use does not wait for change nothing. A fence that reads the value of the descriptor or more makes the use ready. A good block gives
the layer its fields, and any other sets BUF_STAT flag 5. A read that is denied or poisoned is counted in POISON_READS and sets
FETCH_POISON. No memory changes. -/
def Obligations.EngineReads : Prop :=
  ∀ (s : State) (e : Fin 64),
    (∀ k l, (s.dev.eng e.val).scene = some k → s.dev.decidingOf k = some l → l.contains e.val = false →
      exec (.fenceReadDone e) s = .next s) ∧
    (∀ k l u x bs, (s.dev.eng e.val).scene = some k → s.dev.decidingOf k = some l → l.contains e.val = true → x ∈ l → x ≠ e.val →
      (s.dev.eng e.val).use = some u → u.ready = false → s.dev.core.mwinAllows .comp (descAddr u.desc 0x138) 8 false = true →
      s.dev.dramBytes (descAddr u.desc 0x138) 8 = some bs →
      ∃ t, exec (.fenceReadDone e) s = .next t ∧ t.dev.decidingOf k = some (l.filter (· ≠ e.val)) ∧
        t.dev.eng e.val = { s.dev.eng e.val with use := some { u with ready := decide (descVal u.desc 0x140 ≤ leNat bs) } } ∧
        (∀ j, j ≠ e.val → t.dev.eng j = s.dev.eng j) ∧ t.dev.scenes = s.dev.scenes ∧ s.dev.SameBytes t.dev) ∧
    (∀ u, (s.dev.eng e.val).use = some u → (!u.ready || u.metaRead || !bitOf (descW u.desc 0x160) 2) = true →
      exec (.metaReadDone e) s = .next s) ∧
    (∀ u bs, (s.dev.eng e.val).use = some u → u.ready = true → u.metaRead = false → bitOf (descW u.desc 0x160) 2 = true →
      s.dev.core.mwinAllows .comp (descAddr u.desc 0x158) 64 false = true → s.dev.dramBytes (descAddr u.desc 0x158) 64 = some bs →
      bs.getD 0 0 = 1 →
      ∃ t v, exec (.metaReadDone e) s = .next t ∧ (t.dev.eng e.val).info = metaTake (s.dev.eng e.val).info bs ∧
        (t.dev.eng e.val).use = some { u with metaRead := true, timecode := v } ∧ s.dev.SameBytes t.dev) ∧
    (∀ u, (s.dev.eng e.val).use = some u → u.ready = true → u.metaRead = false → bitOf (descW u.desc 0x160) 2 = true →
      (s.dev.core.mwinAllows .comp (descAddr u.desc 0x158) 64 false = false ∨ s.dev.dramBytes (descAddr u.desc 0x158) 64 = none) →
      ∃ t, exec (.metaReadDone e) s = .next t ∧ (t.dev.eng e.val).info = (s.dev.eng e.val).info ∧
        (t.dev.eng e.val).use = some { u with metaRead := true } ∧ t.dev.bit .leng e.val Off.LENG_BUF_STAT 5 = true ∧
        s.dev.SameBytes t.dev) ∧
    (∀ a : BitVec 40, s.dev.core.mwinAllows .comp (a.toNat - a.toNat % 64) 64 false = true →
      s.dev.dramBytes (a.toNat - a.toNat % 64) 64 ≠ none →
      ∃ t, exec (.pixelReadReturn e a) s = .next t ∧ t.dev.engs = s.dev.engs ∧
        t.dev.rd .leng e.val Off.LENG_POISON_READS = s.dev.rd .leng e.val Off.LENG_POISON_READS ∧ s.dev.SameBytes t.dev) ∧
    (∀ a : BitVec 40, (s.dev.core.mwinAllows .comp (a.toNat - a.toNat % 64) 64 false = false ∨
        s.dev.dramBytes (a.toNat - a.toNat % 64) 64 = none) →
      ∃ t, exec (.pixelReadReturn e a) s = .next t ∧
        t.dev.rd .leng e.val Off.LENG_POISON_READS = satWord ((s.dev.rd .leng e.val Off.LENG_POISON_READS).toNat + 1) ∧
        t.dev.bit .leng e.val Off.PAGE_STAT 8 = true ∧
        (t.dev.eng e.val).poisonAt = some ((s.dev.eng e.val).poisonAt.getD (a.toNat - a.toNat % 64)) ∧ s.dev.SameBytes t.dev)

/-- WAIT_FENCE_REREAD and WAIT_BOUND_EXPIRY (R194, R195): with no layer waiting they change nothing. A fence found ready ends the wait:
the layer is composed from its present use, and the replaced one ends. One found not ready leaves the layer waiting. At the bound of a
single waiting layer WAIT_FALL decides it, hidden or from the use it replaced, NOT_READY is counted, and blending may begin. -/
def Obligations.WaitingLayers : Prop :=
  ∀ (s : State),
    (∀ e, s.dev.waitScene e.val = none → exec (.waitFenceReread e) s = .next s) ∧
    (∀ e k c u bs, s.dev.waitScene e.val = some k → (s.dev.scene k).comp = some c → (s.dev.eng e.val).use = some u → u.ready = false →
      s.dev.core.mwinAllows .comp (descAddr u.desc 0x138) 8 false = true → s.dev.dramBytes (descAddr u.desc 0x138) 8 = some bs →
      (descVal u.desc 0x140 ≤ leNat bs → ∃ t c2, exec (.waitFenceReread e) s = .next t ∧
        t.dev.eng e.val = { (s.dev.eng e.val).endOld with use := some { u with ready := true }, decision := .current } ∧
        (t.dev.scene k).comp = some c2 ∧ c2.waiting = c.waiting.filter (fun x => x.1 ≠ e.val) ∧ c2.waited = true ∧
        s.dev.SameBytes t.dev) ∧
      (leNat bs < descVal u.desc 0x140 → ∃ t, exec (.waitFenceReread e) s = .next t ∧ t.dev.scenes = s.dev.scenes ∧
        (∀ j, t.dev.eng j = s.dev.eng j) ∧ s.dev.SameBytes t.dev)) ∧
    (∀ k : Fin 4, ((s.dev.scene k.val).comp = none ∨ ∃ c, (s.dev.scene k.val).comp = some c ∧ c.waiting = []) →
      exec (.waitBoundExpiry k) s = .next s) ∧
    (∀ (k : Fin 4) (e : Fin 64) (c : Comp) (w : Nat), (s.dev.scene k.val).comp = some c → c.waiting = [(e.val, w)] → w ≤ s.dev.now →
      ∃ t c2, exec (.waitBoundExpiry k) s = .next t ∧
        (t.dev.eng e.val).decision = (if s.dev.waitFall e.val then .hidden else
          match (s.dev.eng e.val).old with
          | some u => if s.dev.holdOk e.val u then .heldUse else .hidden
          | none => .hidden) ∧
        (t.dev.scene k.val).comp = some c2 ∧ c2.waiting = [] ∧ c2.blendAt = s.dev.now ∧
        t.dev.rd .stim k.val Off.STIM_FALL_COUNT = satWord ((s.dev.rd .stim k.val Off.STIM_FALL_COUNT).toNat + 1) ∧
        t.dev.bit .scn k.val Off.PAGE_STAT 16 = true ∧ s.dev.SameBytes t.dev)

/-- RELEASE_WRITE (R89): the oldest ended use of an engine is over and its hold windows go with it. Under RELEASE_EN the eight bytes of
RELEASE_VAL are written at RELEASE_ADDR, both of the descriptor that began the use, and every other byte stays; where MWIN denies the
write, none is written and BUF_STAT flag 2 sets. -/
def Obligations.ReleaseFences : Prop :=
  ∀ (s : State) (e : Fin 64),
    ((s.dev.eng e.val).ending = [] → exec (.releaseWrite e) s = .next s) ∧
    ∀ u rest, (s.dev.eng e.val).ending = u :: rest →
      (bitOf (descW u.desc 0x160) 1 = false → exec (.releaseWrite e) s =
        .next { s with dev := s.dev.setEng e.val { s.dev.eng e.val with ending := rest } }) ∧
      (bitOf (descW u.desc 0x160) 1 = true → s.dev.core.mwinAllows .comp (descAddr u.desc 0x148) 8 true = true →
        descAddr u.desc 0x148 + 8 ≤ s.dev.core.installed → s.dev.behindStall .comp = false →
        ∃ t, exec (.releaseWrite e) s = .next t ∧ t.dev.eng e.val = { s.dev.eng e.val with ending := rest } ∧
          readBytes t.dev.mem (descAddr u.desc 0x148) 8 = leBytes 8 (descVal u.desc 0x150) ∧
          (∀ b, b < descAddr u.desc 0x148 ∨ descAddr u.desc 0x148 + 8 ≤ b → readByte t.dev.mem b = readByte s.dev.mem b) ∧
          t.dev.fm = s.dev.fm) ∧
      (bitOf (descW u.desc 0x160) 1 = true → s.dev.core.mwinAllows .comp (descAddr u.desc 0x148) 8 true = false →
        ∃ t, exec (.releaseWrite e) s = .next t ∧ t.dev.eng e.val = { s.dev.eng e.val with ending := rest } ∧
          t.dev.bit .leng e.val Off.LENG_BUF_STAT 2 = true ∧ s.dev.SameBytes t.dev)

/-- BAND_COMPLETE, BLENDER_ROW_WRITE and COMPOSE_DONE (R180, R183, R186, R207): the blender goes on with a frame that has rows to write and
no layer to wait for. A band is 64 rows or what is left of the frame. In chase mode it writes one row with its generation, once no
port has still to read that row's previous one. Compose done ends a frame whose every row is written: its buffer is complete, and slack
and COMPOSE_NS are kept for the next boundary. -/
def Obligations.ComposedFrames : Prop :=
  ∀ (s : State) (k : Fin 4),
    ((s.dev.scene k.val).comp = none → exec (.bandComplete k) s = .next s ∧ exec (.blenderRowWrite k) s = .next s ∧
      ∀ pace l, exec (.composeDone k pace l) s = .next s) ∧
    ∀ c, (s.dev.scene k.val).comp = some c →
      (c.waiting ≠ [] → exec (.bandComplete k) s = .next s ∧ exec (.blenderRowWrite k) s = .next s ∧
        ∀ pace l, exec (.composeDone k pace l) s = .next s) ∧
      (c.chase = true → exec (.bandComplete k) s = .next s) ∧ (c.h ≤ 64 * c.bands → exec (.bandComplete k) s = .next s) ∧
      (c.chase = false → exec (.blenderRowWrite k) s = .next s) ∧ (c.h ≤ c.rows → exec (.blenderRowWrite k) s = .next s) ∧
      (∀ p, p < 8 → s.dev.rowHeldBy k.val p c.rows = true → exec (.blenderRowWrite k) s = .next s) ∧
      (c.rows < c.h → ∀ pace l, exec (.composeDone k pace l) s = .next s) ∧
      (c.waiting = [] → c.chase = false → 64 * c.bands < c.h →
        ∃ t c2, exec (.bandComplete k) s = .next t ∧ (t.dev.scene k.val).comp = some c2 ∧ c2.bands = c.bands + 1 ∧
          c2.rows = min c.h (64 * (c.bands + 1)) ∧ t.dev.mem = s.dev.mem) ∧
      (c.waiting = [] → c.chase = true → c.rows < c.h → (∀ p, p < 8 → s.dev.rowHeldBy k.val p c.rows = false) →
        ∃ t c2, exec (.blenderRowWrite k) s = .next t ∧ (t.dev.scene k.val).comp = some c2 ∧ c2.rows = c.rows + 1 ∧
          t.dev.rowTag k.val c.rows = (s.dev.scene k.val).gen ∧ t.dev.mem = s.dev.mem) ∧
      (c.waiting = [] → c.h ≤ c.rows → ∀ pace l,
        ∃ t, exec (.composeDone k pace l) s = .next t ∧ (t.dev.scene k.val).comp = none ∧
          (t.dev.buf c.entry).complete = true ∧ (t.dev.buf c.entry).doneAt = s.dev.now ∧
          (t.dev.scene k.val).composeNs = some (s.dev.now - c.start) ∧
          (t.dev.scene k.val).stats = some (c.figures (c.late || decide ((c.deadline : Int) - s.dev.now < 0))
            ((c.deadline : Int) - s.dev.now) (s.dev.now - c.start) pace) ∧ s.dev.SameBytes t.dev)

/-- CADENCE_TICK (R201, R206, R245): a generator that does not go, or a mode without cadences, has no tick. Where nothing else falls due at
the tick, a boundary of a scene that does not follow the team advances the frame number by one, modulo 2 to the 48; a tick while the
timing is stopped leaves it. -/
def Obligations.SceneTicks : Prop :=
  ∀ (s : State) (k : Fin 4) (g : Bool),
    (cadModes.contains s.dev.mode = false ∨ (s.dev.cad k.val).going = false → exec (.cadenceTick k g) s = .next s) ∧
    (cadModes.contains s.dev.mode = true → (s.dev.cad k.val).going = true → s.dev.safe.injecting = none → s.dev.power.move = none →
      s.dev.power.restart = [] → s.dev.cadSource k.val ≠ 3 →
      ∃ t, exec (.cadenceTick k g) s = .next t ∧
        (t.dev.cad k.val).frame = if s.dev.tickIsBoundary k.val then ((s.dev.cad k.val).frame + 1) % 2 ^ 48 else (s.dev.cad k.val).frame)

/-- FORCE_RECOMPOSE and FORCE_FLAT_DROP (R207): asked of the next boundary on an enabled scene, and without effect on a disabled one. -/
def Obligations.ForceWrites : Prop :=
  ∀ (s : State) (r : Requester) (k : Fin 4),
    (s.Arrives (.forceRecompose r k) → exec (.forceRecompose r k) s = .next { s with dev :=
        (if s.dev.sceneEnabled k.val then s.dev.setScene k.val { s.dev.scene k.val with recompose := true } else s.dev) }) ∧
    (s.Arrives (.forceFlatDrop r k) → exec (.forceFlatDrop r k) s = .next { s with dev :=
        (if s.dev.sceneEnabled k.val then s.dev.setScene k.val { s.dev.scene k.val with flatDrop := true } else s.dev) })

/-- TONE_LUT_BUILD_DONE, PRESTAGE, ADAPTER_STAGING_DONE and ADAPTER_RELOAD_DONE (R146, R147, R149, R161, R162, R165, R166): with no build,
staging or reload they change nothing. A generated LUT is complete: a dynamic one waits as such, and one whose commit has not applied, or whose
scene runs, waits for its boundary. PRESTAGE starts staging of an image that is enabled and neither in use nor staged. A staging that fails
leaves the image in use and tells its reason: 0x52 for the read, 0x53 for the version, 0x54 for the CRC. A reload that reads uncorrectable
brings the former image back. -/
def Obligations.LutLoads : Prop :=
  ∀ (s : State),
    (∀ k ns, s.dev.buildsOf k.val = [] → exec (.toneLutBuildDone k ns) s = .next s) ∧
    (∀ k ns b l, s.dev.buildsOf k.val = b :: l → b.tone < 64 → 96 ≤ s.dev.lutSlots → exec (.toneLutBuildDone k ns) s = .next s) ∧
    (∀ k ns b l, s.dev.buildsOf k.val = b :: l → (64 ≤ b.tone ∨ s.dev.lutSlots < 96) → b.key.curve ≠ 2 →
      (b.dynamic = true → ∃ t, exec (.toneLutBuildDone k ns) s = .next t ∧ t.dev.buildsOf k.val = l ∧
        t.dev.tone b.tone = { s.dev.tone b.tone with dynBack := some { key := b.key, peak := b.peak } } ∧ s.dev.SameBytes t.dev) ∧
      (b.dynamic = false → (∀ w, (s.dev.tone b.tone).want = some w → w.applied = false) →
        ∃ t, exec (.toneLutBuildDone k ns) s = .next t ∧ t.dev.buildsOf k.val = l ∧
          t.dev.tone b.tone = { s.dev.tone b.tone with back := some { key := b.key, peak := b.peak } } ∧ s.dev.SameBytes t.dev)) ∧
    (∀ r p, s.Arrives (.prestage r p) → (lutWant (s.dev.rd .padp p.val)).en = 0 → exec (.prestage r p) s = .next s) ∧
    (∀ r p, s.Arrives (.prestage r p) → (lutWant (s.dev.rd .padp p.val)).en ≠ 0 → (s.dev.adp p.val).image = none →
      (s.dev.adp p.val).staged = none → ∃ t, exec (.prestage r p) s = .next t ∧
        t.dev.adp p.val = { s.dev.adp p.val with
          staging := some ((lutWant (s.dev.rd .padp p.val)).addr, (lutWant (s.dev.rd .padp p.val)).seq) } ∧
        t.dev.bit .padp p.val Off.PADP_LUT_STAT 16 = true ∧
        ({ s.dev with adps := t.dev.adps }).Touches t.dev [(.padp, p.val, Off.PADP_LUT_STAT)] []) ∧
    (∀ p, (s.dev.adp p.val).staging = none → exec (.adapterStagingDone p) s = .next s) ∧
    (∀ p addr seq, (s.dev.adp p.val).staging = some (addr, seq) →
      (s.dev.core.mwinAllows .comp addr imageBytes false = false ∨ s.dev.dramBytes addr imageBytes = none) →
      ∃ t, exec (.adapterStagingDone p) s = .next t ∧ t.dev.adp p.val = { s.dev.adp p.val with staging := none, want := none } ∧
        t.dev.rd .padp p.val Off.PADP_ADAPT_REJECT = 0x52 ∧ t.dev.bit .padp p.val Off.PAGE_STAT 9 = true ∧ s.dev.SameBytes t.dev) ∧
    (∀ p addr seq bs, (s.dev.adp p.val).staging = some (addr, seq) → s.dev.core.mwinAllows .comp addr imageBytes false = true →
      s.dev.dramBytes addr imageBytes = some bs →
      ∃ t, exec (.adapterStagingDone p) s = .next t ∧ t.dev.rd .padp p.val Off.PADP_LUT_CRC = crc32 (bs.drop 64) ∧ s.dev.SameBytes t.dev ∧
        (bs.getD 0 0 ≠ 1 → t.dev.adp p.val = { s.dev.adp p.val with staging := none, want := none } ∧
          t.dev.rd .padp p.val Off.PADP_ADAPT_REJECT = 0x53) ∧
        (bs.getD 0 0 = 1 → BitVec.ofNat 32 (leNat ((bs.drop 4).take 4)) ≠ crc32 (bs.drop 64) →
          t.dev.adp p.val = { s.dev.adp p.val with staging := none, want := none } ∧ t.dev.rd .padp p.val Off.PADP_ADAPT_REJECT = 0x54) ∧
        (bs.getD 0 0 = 1 → BitVec.ofNat 32 (leNat ((bs.drop 4).take 4)) = crc32 (bs.drop 64) → s.dev.portEnabled p.val = true →
          t.dev.adp p.val = { s.dev.adp p.val with staging := none, staged := some { addr := addr, seq := seq, bytes := bs } } ∧
          t.dev.bit .padp p.val Off.PADP_LUT_STAT 17 = true)) ∧
    (∀ p ecc a, (s.dev.adp p.val).reload = none → exec (.adapterReloadDone p ecc a) s = .next s) ∧
    (∀ p ecc a en image frame, (s.dev.adp p.val).reload = some (en, image, frame) →
      (ecc = .uncorrectable → ∃ t, exec (.adapterReloadDone p ecc a) s = .next t ∧
        t.dev.adp p.val = { s.dev.adp p.val with en := en, image := image, reload := none } ∧
        t.dev.rd .padp p.val Off.PADP_ADAPT_REJECT = 0x52) ∧
      (ecc ≠ .uncorrectable → ∃ t, exec (.adapterReloadDone p ecc a) s = .next t ∧
        t.dev.adp p.val = { s.dev.adp p.val with reload := none } ∧
        t.dev.rd .padp p.val Off.PADP_ACTIVE_SEQ = (match (s.dev.adp p.val).image with | some i => i.seq | none => 0) ∧
        t.dev.bit .padp p.val Off.PADP_LUT_STAT 18 = true ∧ s.dev.SameBytes t.dev))

/-- ALLOC_INSTALL and ALLOC_FREE (R215): a rejected install or free changes no entry and is told with its reason in ALLOC_STAT and by R57;
an install into a valid entry is ENTRY_VALID, 0x70, and a free of an entry in use ENTRY_IN_USE, 0x75. An install that passes gives the
entry the four NEW registers, valid; a free of a valid entry clears them; one of an entry that is not valid changes ALLOC_STAT alone. -/
def Obligations.AllocTable : Prop :=
  ∀ (s : State) (r : Requester) (i : Fin 64),
    (s.dev.entValid i.val = true → s.dev.installReason i.val = some 0x70) ∧
    (∀ e, s.Arrives (.allocInstall r i) → s.dev.installReason i.val = some e → ∃ t, exec (.allocInstall r i) s = .next t ∧
      t.dev.rd .fmem 0 Off.FMEM_ALLOC_STAT = BitVec.ofNat 32 (e + i.val * 256) ∧
      t.dev.rd .sys 0 Off.SYS_REJECT_LAST = rejectWord e (Page.fmem.slot 0) Off.FMEM_ALLOC_CMD r.id ∧
      s.dev.Touches t.dev [(.fmem, 0, Off.FMEM_ALLOC_STAT), (.fmem, 0, Off.PAGE_STAT), (.sys, 0, Off.SYS_REJECT_LAST),
        (.sys, 0, Off.SYS_REJECT_COUNT)] [0]) ∧
    (s.Arrives (.allocInstall r i) → s.dev.installReason i.val = none → ∃ t, exec (.allocInstall r i) s = .next t ∧
      t.dev.rd .fmem 0 (Off.FMEM_ENT_BASE + 16 * i.val) = putBit (s.dev.rd .fmem 0 Off.FMEM_NEW_BASE) 31 true ∧
      t.dev.rd .fmem 0 (Off.FMEM_ENT_SIZE + 16 * i.val) = s.dev.rd .fmem 0 Off.FMEM_NEW_SIZE ∧
      t.dev.rd .fmem 0 (Off.FMEM_ENT_DESC + 16 * i.val) = s.dev.rd .fmem 0 Off.FMEM_NEW_DESC ∧
      t.dev.rd .fmem 0 (Off.FMEM_ENT_DIM + 16 * i.val) = s.dev.rd .fmem 0 Off.FMEM_NEW_DIM ∧
      t.dev.rd .fmem 0 Off.FMEM_ALLOC_STAT = BitVec.ofNat 32 (i.val * 256) ∧ t.dev.buf i.val = {} ∧
      ({ s.dev with bufs := t.dev.bufs }).Touches t.dev [(.fmem, 0, Off.FMEM_ENT_BASE + 16 * i.val),
        (.fmem, 0, Off.FMEM_ENT_SIZE + 16 * i.val), (.fmem, 0, Off.FMEM_ENT_DESC + 16 * i.val),
        (.fmem, 0, Off.FMEM_ENT_DIM + 16 * i.val), (.fmem, 0, Off.FMEM_FREE), (.fmem, 0, Off.FMEM_ALLOC_STAT)] []) ∧
    (s.Arrives (.allocFree r i) → s.dev.entValid i.val = false → ∃ t, exec (.allocFree r i) s = .next t ∧
      t.dev.rd .fmem 0 Off.FMEM_ALLOC_STAT = BitVec.ofNat 32 (i.val * 256) ∧
      s.dev.Touches t.dev [(.fmem, 0, Off.FMEM_ALLOC_STAT)] []) ∧
    (s.Arrives (.allocFree r i) → s.dev.entValid i.val = true → s.dev.entInUse i.val = true → ∃ t, exec (.allocFree r i) s = .next t ∧
      t.dev.rd .fmem 0 Off.FMEM_ALLOC_STAT = BitVec.ofNat 32 (0x75 + i.val * 256) ∧
      t.dev.rd .sys 0 Off.SYS_REJECT_LAST = rejectWord 0x75 (Page.fmem.slot 0) Off.FMEM_ALLOC_CMD r.id ∧
      s.dev.Touches t.dev [(.fmem, 0, Off.FMEM_ALLOC_STAT), (.fmem, 0, Off.PAGE_STAT), (.sys, 0, Off.SYS_REJECT_LAST),
        (.sys, 0, Off.SYS_REJECT_COUNT)] [0]) ∧
    (s.Arrives (.allocFree r i) → s.dev.entValid i.val = true → s.dev.entInUse i.val = false → ∃ t, exec (.allocFree r i) s = .next t ∧
      t.dev.rd .fmem 0 (Off.FMEM_ENT_BASE + 16 * i.val) = 0 ∧ t.dev.rd .fmem 0 (Off.FMEM_ENT_SIZE + 16 * i.val) = 0 ∧
      t.dev.rd .fmem 0 (Off.FMEM_ENT_DESC + 16 * i.val) = 0 ∧ t.dev.rd .fmem 0 (Off.FMEM_ENT_DIM + 16 * i.val) = 0 ∧
      t.dev.rd .fmem 0 Off.FMEM_ALLOC_STAT = BitVec.ofNat 32 (i.val * 256) ∧ t.dev.buf i.val = {} ∧
      ({ s.dev with bufs := t.dev.bufs }).Touches t.dev [(.fmem, 0, Off.FMEM_ENT_BASE + 16 * i.val),
        (.fmem, 0, Off.FMEM_ENT_SIZE + 16 * i.val), (.fmem, 0, Off.FMEM_ENT_DESC + 16 * i.val),
        (.fmem, 0, Off.FMEM_ENT_DIM + 16 * i.val), (.fmem, 0, Off.FMEM_FREE), (.fmem, 0, Off.FMEM_ALLOC_STAT)] [])

/-- XFER_UPLOAD, XFER_CAPTURE, XFER_CAPTURE_FROM_PORT and XFER_DONE (R215, R219, R220, R221, R512): a start is turned away by a transition
(0x1A), by a Belay frame in use (0x75), by a transfer that runs (0x76) and by an illegal parameter (0x77), in that order, and changes
nothing else. One that passes is the transfer in progress: XFER_STAT reads 1, no byte is moved yet, and a buffer shown by a port is pinned unless it
is a chase buffer. Its end moves the rows: a capture leaves frame memory as it was, an upload DDR5. -/
def Obligations.Transfers : Prop :=
  ∀ (s : State) (r : Requester),
    (∀ (c : Instr) (e : Nat), s.Arrives c →
      ((∃ i, c = .xferUpload r i ∧ ((s.dev.moving = true ∧ e = 0x1A) ∨
          (s.dev.moving = false ∧ s.dev.belayEntry i.val = true ∧ s.dev.entInUse i.val = true ∧ e = 0x75) ∨
          (s.dev.moving = false ∧ (s.dev.belayEntry i.val = false ∨ s.dev.entInUse i.val = false) ∧ s.dev.xfer ≠ none ∧ e = 0x76) ∨
          (s.dev.moving = false ∧ s.dev.xfer = none ∧ s.dev.belayEntry i.val = false ∧ e = 0x77) ∨
          (s.dev.moving = false ∧ s.dev.xfer = none ∧ s.dev.entInUse i.val = false ∧ s.dev.xferLegal i.val = false ∧ e = 0x77))) ∨
        (∃ i, c = .xferCapture r i ∧ ((s.dev.moving = true ∧ e = 0x1A) ∨ (s.dev.moving = false ∧ s.dev.xfer ≠ none ∧ e = 0x76) ∨
          (s.dev.moving = false ∧ s.dev.xfer = none ∧ s.dev.xferLegal i.val = false ∧ e = 0x77))) ∨
        (∃ p, c = .xferCaptureFromPort r p ∧ ((s.dev.moving = true ∧ e = 0x1A) ∨ (s.dev.moving = false ∧ s.dev.xfer ≠ none ∧ e = 0x76) ∨
          (s.dev.moving = false ∧ s.dev.xfer = none ∧ ((s.dev.port p.val).shown = .off ∨ (s.dev.port p.val).shown = .noFrame) ∧ e = 0x77)))) →
      ∃ t, exec c s = .next t ∧ t.dev.rd .sys 0 Off.SYS_REJECT_LAST = rejectWord e (Page.fmem.slot 0) Off.FMEM_XFER_CTRL r.id ∧
        s.dev.Touches t.dev [(.fmem, 0, Off.PAGE_STAT), (.sys, 0, Off.SYS_REJECT_LAST), (.sys, 0, Off.SYS_REJECT_COUNT)] [0]) ∧
    (∀ (c : Instr) (e : Nat) (capture pinned : Bool), s.Arrives c → s.dev.moving = false → s.dev.xfer = none → s.dev.xferLegal e = true →
      ((∃ i, c = .xferUpload r i ∧ e = i.val ∧ s.dev.belayEntry e = true ∧ s.dev.entInUse e = false ∧ capture = false ∧ pinned = false) ∨
        (∃ i, c = .xferCapture r i ∧ e = i.val ∧ capture = true ∧ pinned = false) ∨
        (∃ p k n f b, c = .xferCaptureFromPort r p ∧ (s.dev.port p.val).shown = .buffer e k n f b ∧ capture = true ∧ pinned = !b) ∨
        (∃ p, c = .xferCaptureFromPort r p ∧ (s.dev.port p.val).shown = .still e ∧ capture = true ∧ pinned = true)) →
      ∃ t x, exec c s = .next t ∧ t.dev.xfer = some x ∧ x.entry = e ∧ x.capture = capture ∧ x.pinned = pinned ∧ x.dram = s.dev.xferDram ∧
        t.dev.rd .fmem 0 Off.FMEM_XFER_STAT = 1 ∧ t.dev.rd .fmem 0 Off.FMEM_XFER_BYTES = 0 ∧
        ({ s.dev with xfer := some x }).Touches t.dev [(.fmem, 0, Off.FMEM_XFER_STAT), (.fmem, 0, Off.FMEM_XFER_BYTES)] []) ∧
    (s.dev.xfer = none → exec .xferDone s = .next s) ∧
    (∀ x, s.dev.xfer = some x → ∃ t, exec .xferDone s = .next t ∧ t.dev.xfer = none ∧
      t.dev.bit .fmem 0 Off.FMEM_XFER_STAT 0 = false ∧ t.dev.bit .fmem 0 Off.FMEM_XFER_STAT 1 = true ∧
      t.dev.bit .fmem 0 Off.PAGE_STAT 10 = true ∧
      (x.capture = true → t.dev.fm = s.dev.fm) ∧ (x.capture = false → t.dev.mem = s.dev.mem))

/-- HBM_ROUND and FM_SCRUB_READ (R222, R223, R224, R226, R227): a port is granted what it asks up to its reservation, and a round has 320
slots where the reservations leave one free. A scrub read counts what its code corrects, and marks the 64 bytes that it cannot. -/
def Obligations.RoundsAndScrub : Prop :=
  ∀ (s : State),
    (∀ ports classes, ∃ t, exec (.hbmRound ports classes) s = .next t ∧ t.dev.hbm.grants.length = 12 ∧
      (∀ p, p < 8 → t.dev.hbm.grants.getD p 0 = min (ports.getD p 0) (s.dev.portSlots p)) ∧
      (((List.range 8).map s.dev.portSlots).foldl (· + ·) 0 ≤ 319 → t.dev.hbm.grants.foldl (· + ·) 0 ≤ 320) ∧
      ({ s.dev with hbm := t.dev.hbm }).Touches t.dev [(.fmem, 0, Off.FMEM_SLOT_BUSY)] []) ∧
    (∀ a ecc, ∃ t, exec (.fmScrubRead a ecc) s = .next t ∧ s.dev.SameBytes t.dev ∧
      t.dev.fld .fmem 0 Off.FMEM_SCRUB_STAT 0 16 = (if a.toNat / 64 = 2 ^ 28 - 1 then (s.dev.fld .fmem 0 Off.FMEM_SCRUB_STAT 0 16 + 1) % 65536
        else s.dev.fld .fmem 0 Off.FMEM_SCRUB_STAT 0 16) ∧
      (ecc = .good → s.dev.Touches t.dev [(.fmem, 0, Off.FMEM_SCRUB_STAT)] []) ∧
      (ecc = .corrected → t.dev.rd .fmem 0 Off.FMEM_CORR_COUNT = satWord ((s.dev.rd .fmem 0 Off.FMEM_CORR_COUNT).toNat + 1) ∧
        t.dev.bit .fmem 0 Off.PAGE_STAT 8 = true ∧ t.dev.fmBad = s.dev.fmBad) ∧
      (ecc = .uncorrectable → t.dev.rd .fmem 0 Off.FMEM_UNCORR_COUNT = satWord ((s.dev.rd .fmem 0 Off.FMEM_UNCORR_COUNT).toNat + 1) ∧
        t.dev.bit .fmem 0 Off.PAGE_STAT 9 = true ∧ t.dev.rd .fmem 0 Off.FMEM_ERR_ADDR_LO = BitVec.ofNat 32 a.toNat ∧
        t.dev.fmUncorrectable a.toNat 1 = true))

/-- VBLANK_START, LINE_START, ROW_FETCH_DEADLINE and FRAME_DONE (R230, R233, R235, R240): a port whose raster does not run has none of
them. A VBLANK_START begins a port frame: the port frame number advances by one, modulo 2 to the 48, and the first fetch deadline is that
of row 0. A line start moves LINE to the next line of the raster. A deadline is one window row. A port frame's data ends once. -/
def Obligations.PortFrames : Prop :=
  ∀ (s : State) (p : Fin 8),
    (∀ b, (s.dev.portEnabled p.val = false ∨ (s.dev.xp p.val).started = false ∨ (s.dev.cad (s.dev.portScene p.val)).going = false) →
      exec (.vblankStart p b) s = .next s) ∧
    (∀ b, s.dev.portEnabled p.val = true → (s.dev.xp p.val).started = true → (s.dev.cad (s.dev.portScene p.val)).going = true →
      s.dev.power.stopping = false → ∃ t, exec (.vblankStart p b) s = .next t ∧
        (t.dev.port p.val).pframe = ((s.dev.port p.val).pframe + 1) % 2 ^ 48 ∧ (t.dev.port p.val).row = 0) ∧
    (s.dev.rasterRuns p.val = false → (∀ c b o, exec (.lineStart p c b o) s = .next s) ∧ (∀ b, exec (.rowFetchDeadline p b) s = .next s) ∧
      exec (.frameDone p) s = .next s) ∧
    (∀ c b o n, s.dev.rasterRuns p.val = true → n = (if s.dev.vTotal p.val ≤ (s.dev.port p.val).line + 1 then 0 else (s.dev.port p.val).line + 1) →
      n ≠ s.dev.vActive p.val → ∃ t, exec (.lineStart p c b o) s = .next t ∧ (t.dev.port p.val).line = n ∧
        t.dev.rd .scan p.val Off.SCAN_LINE = BitVec.ofNat 32 n) ∧
    (∀ b, s.dev.rasterRuns p.val = true → s.dev.portReads p.val = true → (s.dev.port p.val).row < (s.dev.window p.val).h.toNat →
      ∃ t, exec (.rowFetchDeadline p b) s = .next t ∧ (t.dev.port p.val).row = (s.dev.port p.val).row + 1) ∧
    (s.dev.rasterRuns p.val = true → (s.dev.shownSurface p.val).isSome = true → (s.dev.port p.val).frameDone = false →
      ∃ t, exec (.frameDone p) s = .next t ∧ (t.dev.port p.val).frameDone = true ∧
        (t.dev.core.src (450 + 16 * p.val)).seq = (s.dev.core.src (450 + 16 * p.val)).seq + 1 ∧
        ({ s.dev with ports := t.dev.ports }).Touches t.dev [] [450 + 16 * p.val])

/-- CAD_CTRL_WRITE, APPLY_RATE, ACK_SLEW, ACK_SNAP and PRESET (R247, R261, R263, R264, R266, R267): a rejected write changes nothing but its
reports, and ANCH_REJECT keeps the reason and the scene: 0x88 for an illegal policy or bandwidth, 0x8E for TEAM outside a team, 0x8D for an
ACK in another state, 0x8F for PRESET while RUN is 1. A CAD_CTRL write that passes is stored with RETURN_COUNT at least 2; APPLY_RATE that
passes makes a rate change wait; an ACK corrects the error measured now; PRESET loads TARGET as the frame number. -/
def Obligations.CadenceCommands : Prop :=
  ∀ (s : State) (r : Requester) (k : Fin 4),
    (∀ (c : Instr) (off e : Nat), s.Arrives c → s.dev.power.vp = none → s.dev.fw.hand = none →
      ((∃ v, c = .cadCtrlWrite r k v ∧ off = Off.ANCH_CAD_CTRL ∧ (((bitsOf v 4 2 = 3 ∨ bitsOf v 6 2 = 3) ∧ e = 0x88) ∨
          (bitsOf v 4 2 ≠ 3 ∧ bitsOf v 6 2 ≠ 3 ∧ bitsOf v 1 2 = 3 ∧ s.dev.teamMember = false ∧ e = 0x8E))) ∨
        (∃ b, c = .applyRate r k b ∧ off = Off.ANCH_CAD_CMD ∧ s.dev.rateReason k.val b = some e) ∨
        ((c = .ackSlew r k ∨ c = .ackSnap r k) ∧ off = Off.ANCH_CAD_CMD ∧ s.dev.cadState k.val ≠ 4 ∧ e = 0x8D) ∨
        (c = .preset r k ∧ off = Off.ANCH_CAD_CMD ∧ s.dev.cadRun k.val = true ∧ e = 0x8F)) →
      ∃ t, exec c s = .next t ∧ t.dev.rd .anch 0 Off.ANCH_ANCH_REJECT = BitVec.ofNat 32 (e + k.val * 256) ∧
        t.dev.rd .sys 0 Off.SYS_REJECT_LAST = rejectWord e (Page.anch.slot 0) (cadOff k.val off) r.id ∧
        s.dev.Touches t.dev [(.anch, 0, Off.ANCH_ANCH_REJECT), (.anch, 0, Off.PAGE_STAT), (.sys, 0, Off.SYS_REJECT_LAST),
          (.sys, 0, Off.SYS_REJECT_COUNT)] [0]) ∧
    (∀ v, s.Arrives (.cadCtrlWrite r k v) → bitsOf v 4 2 ≠ 3 → bitsOf v 6 2 ≠ 3 → bitsOf v 1 2 ≠ 3 →
      ∃ t, exec (.cadCtrlWrite r k v) s = .next t ∧ t.dev.rd .anch 0 (cadOff k.val Off.ANCH_CAD_CTRL) = cadStored v ∧
        s.dev.SameBytes t.dev) ∧
    (∀ b, s.Arrives (.applyRate r k b) → s.dev.rateReason k.val b = none → ∃ t x, exec (.applyRate r k b) s = .next t ∧
      (t.dev.cad k.val) = { s.dev.cad k.val with change := some x } ∧
      x.num = s.dev.fld .anch 0 (cadOff k.val Off.ANCH_RATE_NUM) 0 20 ∧ x.den = s.dev.fld .anch 0 (cadOff k.val Off.ANCH_RATE_DEN) 0 16 ∧
      x.frames = s.dev.fld .anch 0 (cadOff k.val Off.ANCH_RAMP) 0 8 ∧ x.target = (if b then some (s.dev.cadTarget k.val) else none) ∧
      ({ s.dev with cads := t.dev.cads }).Touches t.dev [(.anch, 0, cadOff k.val Off.ANCH_CAD_STAT)] []) ∧
    (∀ (c : Instr) (snap : Bool) (e : Int), s.Arrives c → ((c = .ackSlew r k ∧ snap = false) ∨ (c = .ackSnap r k ∧ snap = true)) →
      s.dev.cadState k.val = 4 → e = s.dev.phaseError k.val ((s.dev.cad k.val).edges.headD s.dev.now) →
      ∃ t, exec c s = .next t ∧ (snap = true ∧ s.dev.belowThreshold k.val e = false →
          (t.dev.cad k.val).snap = some e ∧ t.dev.cadState k.val = 6) ∧
        (snap = false ∨ s.dev.belowThreshold k.val e = true →
          (t.dev.cad k.val).slew = e ∧ t.dev.cadState k.val = if smallError e then 2 else 5) ∧
        ({ s.dev with cads := t.dev.cads }).Touches t.dev
          [(.anch, 0, cadOff k.val Off.ANCH_CAD_STAT), (.anch, 0, cadOff k.val Off.ANCH_PHASE_ERR)] []) ∧
    (s.Arrives (.preset r k) → s.dev.cadRun k.val = false → exec (.preset r k) s =
      .next { s with dev := s.dev.setCad k.val { s.dev.cad k.val with frame := s.dev.cadTarget k.val } })

/-- ANCHOR_EDGE, ANCHOR_LINE_EDGE and REF_LOST (R254, R255, R257, R259, R265): a disabled input counts no edge. An enabled one counts it in
IN_COUNT, and reaches the scenes that select it and no other. A scene without an expected edge, or without an anchor source, loses no
reference; while it acquires, a loss starts its acquisition again; otherwise STATE reads HOLDOVER, 3, and flag REF_LOST of the scene sets. -/
def Obligations.AnchorEdges : Prop :=
  ∀ (s : State),
    (∀ k : Fin 2, s.dev.bit .anch 0 (Off.ANCH_IN_CTRL + 4 * k.val) 0 = false → exec (.anchorEdge k) s = .next s) ∧
    (∀ k : Fin 2, s.dev.bit .anch 0 (Off.ANCH_IN_CTRL + 4 * (2 + k.val)) 0 = false → exec (.anchorLineEdge k) s = .next s) ∧
    (∀ k : Fin 2, s.dev.bit .anch 0 (Off.ANCH_IN_CTRL + 4 * k.val) 0 = true → ∃ t, exec (.anchorEdge k) s = .next t ∧
      t.dev.rd .anch 0 (Off.ANCH_IN_COUNT + 4 * k.val) = s.dev.rd .anch 0 (Off.ANCH_IN_COUNT + 4 * k.val) + 1 ∧
      (∀ j, s.dev.cadSource j ≠ k.val + 1 → t.dev.cad j = s.dev.cad j) ∧ s.dev.SameBytes t.dev) ∧
    (∀ k : Fin 2, s.dev.bit .anch 0 (Off.ANCH_IN_CTRL + 4 * (2 + k.val)) 0 = true → ∃ t, exec (.anchorLineEdge k) s = .next t ∧
      t.dev.rd .anch 0 (Off.ANCH_IN_COUNT + 4 * (2 + k.val)) = s.dev.rd .anch 0 (Off.ANCH_IN_COUNT + 4 * (2 + k.val)) + 1 ∧
      (∀ j, s.dev.cadSource j ≠ k.val + 1 ∨ s.dev.cadCtl j 3 1 ≠ 1 → t.dev.cad j = s.dev.cad j) ∧ s.dev.SameBytes t.dev) ∧
    (∀ k : Fin 4, ((s.dev.cad k.val).expected = none ∨ (s.dev.cadSource k.val ≠ 1 ∧ s.dev.cadSource k.val ≠ 2)) →
      exec (.refLost k) s = .next s) ∧
    (∀ (k : Fin 4) (x : Nat), (s.dev.cad k.val).expected = some x → (s.dev.cadSource k.val = 1 ∨ s.dev.cadSource k.val = 2) →
      ∃ t, exec (.refLost k) s = .next t ∧ (t.dev.cad k.val).expected = none ∧ (t.dev.cad k.val).good = 0 ∧ s.dev.SameBytes t.dev ∧
        (s.dev.cadState k.val = 1 → t.dev.cadState k.val = 1 ∧ (t.dev.cad k.val).edges = []) ∧
        (s.dev.cadState k.val ≠ 1 → t.dev.cadState k.val = 3 ∧ t.dev.bit .anch 0 Off.PAGE_STAT (8 + 4 * k.val) = true))

/-- PLL_BAND_SEARCH_DONE, PLL_INTERNAL_LOCK, PLL_ALIGNMENT_EDGE, PLL_RETRY, WARM_RELOCK_TIMEOUT and RETRY_MAIN (R274, R275, R276, R279,
R282, R283): each acts in its own PLL state alone. A search ends in ACQUIRE with its band, or in RETRY_WAIT with flag BAND_FAIL; internal
lock sets INT_LOCK and the TUNE found; the alignment edge makes STATE LOCKED and starts the pin current; a retry, a warm relock without
internal lock 20 µs after its start, and RETRY_MAIN on the fall-back path each start a cold lock; RETRY_MAIN on the main path is rejected,
0x95. -/
def Obligations.ClockLocks : Prop :=
  ∀ (s : State) (k : Fin 10),
    (∀ b, s.dev.pllState k.val ≠ 1 → exec (.pllBandSearchDone k b) s = .next s) ∧
    (∀ v, s.dev.pllState k.val ≠ 2 → exec (.pllInternalLock k v) s = .next s) ∧
    ((s.dev.pllState k.val ≠ 2 ∨ s.dev.pllBit k.val 5 = false) → exec (.pllAlignmentEdge k) s = .next s) ∧
    ((s.dev.pllState k.val ≠ 6 ∨ (k.val < 8 ∧ s.dev.portEnabled k.val = false)) → exec (.pllRetry k) s = .next s) ∧
    (((s.dev.pll k.val).warm = false ∨ s.dev.pllState k.val ≠ 2 ∨ s.dev.pllBit k.val 5 = true) → exec (.warmRelockTimeout k) s = .next s) ∧
    (∀ b : Fin 64, s.dev.pllState k.val = 1 → ∃ t, exec (.pllBandSearchDone k (some b)) s = .next t ∧ t.dev.pllState k.val = 2 ∧
      t.dev.fld (pllPage k.val) (pllInst k.val) (pllBandOff k.val) 0 6 = b.val ∧
      s.dev.Touches t.dev [(pllPage k.val, pllInst k.val, pllBandOff k.val), (pllPage k.val, pllInst k.val, pllStatOff k.val)] []) ∧
    (s.dev.pllState k.val = 1 → ∃ t, exec (.pllBandSearchDone k none) s = .next t ∧ t.dev.pllState k.val = 6 ∧
      t.dev.bit (pllPage k.val) (pllInst k.val) Off.PAGE_STAT 10 = true ∧
      s.dev.Touches t.dev [(pllPage k.val, pllInst k.val, pllStatOff k.val), (pllPage k.val, pllInst k.val, Off.PAGE_STAT)]
        (flagSource (pllPage k.val) (pllInst k.val) 10).toList) ∧
    (∀ v : BitVec 16, s.dev.pllState k.val = 2 → ∃ t, exec (.pllInternalLock k v) s = .next t ∧ t.dev.pllBit k.val 5 = true ∧
      t.dev.fld (pllPage k.val) (pllInst k.val) (pllBandOff k.val) 16 16 = v.toNat ∧
      s.dev.Touches t.dev [(pllPage k.val, pllInst k.val, pllStatOff k.val), (pllPage k.val, pllInst k.val, pllBandOff k.val)] []) ∧
    (s.dev.pllState k.val = 2 → s.dev.pllBit k.val 5 = true → ∃ t, exec (.pllAlignmentEdge k) s = .next t ∧ t.dev.pllState k.val = 3 ∧
      (t.dev.pll k.val).pinAt = some ((s.dev.pll k.val).pinAt.getD s.dev.now) ∧ (t.dev.pll k.val).warm = false ∧ s.dev.SameBytes t.dev ∧
      ∀ j, j < 10 → j ≠ k.val → t.dev.pll j = s.dev.pll j ∧ t.dev.pllState j = s.dev.pllState j) ∧
    (∀ (c : Instr) (x : Nat), ((c = .pllRetry k ∧ s.dev.pllState k.val = 6 ∧ (8 ≤ k.val ∨ s.dev.portEnabled k.val = true) ∧ x = s.dev.now) ∨
        (c = .warmRelockTimeout k ∧ (s.dev.pll k.val).warm = true ∧ s.dev.pllState k.val = 2 ∧ s.dev.pllBit k.val 5 = false ∧
          x = (s.dev.advance ((s.dev.pll k.val).reqAt + 20000)).now) ∨
        (∃ (r : Requester) (p : Fin 8), k.val = p.val ∧ c = .retryMain r p ∧ s.Arrives c ∧ s.dev.pllBit k.val 4 = true ∧ s.dev.portEnabled p.val = true ∧
          x = s.dev.now)) →
      ∃ t, exec c s = .next t ∧ t.dev.pllState k.val = 1 ∧ t.dev.pllBit k.val 4 = false ∧ t.dev.pllBit k.val 5 = false ∧
        t.dev.fld (pllPage k.val) (pllInst k.val) (pllBandOff k.val) 16 16 = 32768 ∧ (t.dev.pll k.val).reqAt = x ∧
        (t.dev.pll k.val).pinAt = none ∧ s.dev.SameBytes t.dev ∧
        ∀ j, j < 10 → j ≠ k.val → t.dev.pll j = s.dev.pll j ∧ t.dev.pllState j = s.dev.pllState j) ∧
    (∀ (r : Requester) (p : Fin 8), s.Arrives (.retryMain r p) → s.dev.pllBit p.val 4 = true → s.dev.portEnabled p.val = false →
      exec (.retryMain r p) s = .next s) ∧
    (∀ (r : Requester) (p : Fin 8), s.Arrives (.retryMain r p) → s.dev.pllBit p.val 4 = false → ∃ t, exec (.retryMain r p) s = .next t ∧
      t.dev.rd .ppll p.val Off.PPLL_PPLL_REJECT = 0x95 ∧
      t.dev.rd .sys 0 Off.SYS_REJECT_LAST = rejectWord 0x95 (Page.ppll.slot p.val) Off.PPLL_CMD r.id ∧
      s.dev.Touches t.dev [(.ppll, p.val, Off.PPLL_PPLL_REJECT), (.ppll, p.val, Off.PAGE_STAT), (.sys, 0, Off.SYS_REJECT_LAST),
        (.sys, 0, Off.SYS_REJECT_COUNT)] [0, 639])

/-- LOCK_PIN_CROSSING, LOCK_PIN_TIMEOUT, PLL_INTERNAL_LOSS, FALLBACK_LOCK and DECLARATION_LOSS (R276, R277, R280, R283): a pin that is not
awaited declares nothing. A crossing after `us` µs records PIN_RISE, at most 0xFFFE, sets PIN_FAULT if it comes before 0.9 ms and declares
lock with its LOCK_US; a time-out records 0xFFFF with PIN_FAULT and declares lock. A loss makes a port PLL on its main path with FB_EN switch
to its fall-back, every other one wait to retry with flag LOCK_LOST, and none of them keeps its pin current; the fall-back lock counts in FB_COUNT.
The declaration falls only after the pin current stopped. -/
def Obligations.ClockDeclarations : Prop :=
  ∀ (s : State) (k : Fin 10),
    (∀ us, ((s.dev.pll k.val).pinAt = none ∨ s.dev.pllBit k.val 6 = true) → exec (.lockPinCrossing k us) s = .next s) ∧
    (((s.dev.pll k.val).pinAt = none ∨ s.dev.pllBit k.val 6 = true ∨ s.dev.pllBit k.val 5 = false) → exec (.lockPinTimeout k) s = .next s) ∧
    ((s.dev.pllState k.val ∉ [2, 3, 4, 7] ∨ (s.dev.pllState k.val = 4 ∧ s.dev.pllBit k.val 5 = false)) →
      exec (.pllInternalLoss k) s = .next s) ∧
    (∀ p : Fin 8, s.dev.pllState p.val ≠ 7 → exec (.fallbackLock p) s = .next s) ∧
    (((s.dev.pll k.val).pinAt ≠ none ∨ s.dev.pllBit k.val 6 = false) → exec (.declarationLoss k) s = .next s) ∧
    (∀ (c : Instr) (x us rise : Nat) (bad : Bool), (s.dev.pll k.val).pinAt = some x → s.dev.pllBit k.val 6 = false →
      ((c = .lockPinCrossing k us ∧ rise = min us 0xFFFE ∧ bad = decide (us * 10 < 9000)) ∨
        (c = .lockPinTimeout k ∧ s.dev.pllBit k.val 5 = true ∧ us = 3000 ∧ rise = 0xFFFF ∧ bad = true)) →
      ∃ t, exec c s = .next t ∧ t.dev.rd (pllPage k.val) (pllInst k.val) (pllRiseOff k.val) = BitVec.ofNat 32 rise ∧
        t.dev.pllBit k.val 6 = true ∧ t.dev.pllBit k.val 7 = bad ∧ t.dev.rd (pllPage k.val) (pllInst k.val) (pllLockOff k.val) =
          BitVec.ofNat 32 (((s.dev.advance (x + 1000 * us)).now - (s.dev.pll k.val).reqAt) / 1000) ∧
        (k.val = 9 → t.dev.core.timeRuns = true) ∧ t.dev.plls = s.dev.plls ∧ s.dev.SameBytes t.dev) ∧
    ((s.dev.pllState k.val = 2 ∨ s.dev.pllState k.val = 3) → s.dev.mayFallBack k.val = true → ∃ t, exec (.pllInternalLoss k) s = .next t ∧
      t.dev.pllState k.val = 7 ∧ t.dev.pllBit k.val 5 = false ∧ (t.dev.pll k.val).pinAt = none ∧ s.dev.SameBytes t.dev) ∧
    (((s.dev.pllState k.val = 2 ∨ s.dev.pllState k.val = 3) ∧ s.dev.mayFallBack k.val = false ∨ s.dev.pllState k.val = 7) →
      ∃ t, exec (.pllInternalLoss k) s = .next t ∧ t.dev.pllState k.val = 6 ∧ t.dev.pllBit k.val 5 = false ∧
        (t.dev.pll k.val).pinAt = none ∧ t.dev.bit (pllPage k.val) (pllInst k.val) Off.PAGE_STAT 8 = true ∧
        (k.val < 8 → t.dev.fld .xpt k.val Off.XPT_LINK_STAT 11 2 = 0) ∧ s.dev.SameBytes t.dev) ∧
    (s.dev.pllState k.val = 4 → s.dev.pllBit k.val 5 = true → ∃ t, exec (.pllInternalLoss k) s = .next t ∧ t.dev.pllState k.val = 4 ∧
      t.dev.pllBit k.val 5 = false ∧ t.dev.pll k.val = { s.dev.pll k.val with pinAt := none, lost := true } ∧
      t.dev.bit (pllPage k.val) (pllInst k.val) Off.PAGE_STAT 8 = true ∧ s.dev.SameBytes t.dev) ∧
    (∀ p : Fin 8, s.dev.pllState p.val = 7 → ∃ t, exec (.fallbackLock p) s = .next t ∧ t.dev.pllState p.val = 3 ∧
      t.dev.pllBit p.val 4 = true ∧ t.dev.pllBit p.val 5 = true ∧
      t.dev.rd .ppll p.val Off.PPLL_FB_COUNT = satWord ((s.dev.rd .ppll p.val Off.PPLL_FB_COUNT).toNat + 1) ∧
      t.dev.rd .ppll p.val Off.PPLL_SLIP_COUNT = 0 ∧ t.dev.bit .ppll p.val Off.PAGE_STAT 9 = true ∧ s.dev.SameBytes t.dev) ∧
    ((s.dev.pll k.val).pinAt = none → s.dev.pllBit k.val 6 = true → ∃ t, exec (.declarationLoss k) s = .next t ∧
      t.dev.pllBit k.val 6 = false ∧ t.dev.plls = s.dev.plls ∧ t.dev.pllState k.val = s.dev.pllState k.val ∧ s.dev.SameBytes t.dev)

/-- REFERENCE_LOSS, REFERENCE_RETURN and CKO_WRITE (R286, R287, R289, R292): a loss counts in REF_STAT and puts every PLL that is not off,
parked or in holdover already into holdover; the return relocks each from its frozen tuning, by a cold lock where its lock was lost. A clock
output's configuration with an illegal field is rejected, 0x93, and one above its format's maximum, 0x94; any other takes effect. -/
def Obligations.ReferenceAndOutputs : Prop :=
  ∀ (s : State),
    (s.dev.refOk = false → exec .referenceLoss s = .next s) ∧ (s.dev.refOk = true → exec .referenceReturn s = .next s) ∧
    (s.dev.refOk = true → ∃ t, exec .referenceLoss s = .next t ∧ t.dev.refOk = false ∧
      t.dev.fld .spll 1 Off.SPLL_REF_STAT 16 16 = min 0xFFFF (s.dev.fld .spll 1 Off.SPLL_REF_STAT 16 16 + 1) ∧
      t.dev.bit .safe 0 Off.SAFE_FAULT_STAT 15 = true ∧ s.dev.SameBytes t.dev ∧ ∀ k : Fin 10,
      (s.dev.pllState k.val ∉ [0, 4, 5] → t.dev.pllState k.val = 4 ∧ (t.dev.pll k.val).lost = decide (s.dev.pllState k.val ≠ 3)) ∧
      (s.dev.pllState k.val ∈ [0, 4, 5] → t.dev.pllState k.val = s.dev.pllState k.val ∧ t.dev.pll k.val = s.dev.pll k.val)) ∧
    (s.dev.refOk = false → ∃ t, exec .referenceReturn s = .next t ∧ t.dev.refOk = true ∧ s.dev.SameBytes t.dev ∧ ∀ k : Fin 10,
      (s.dev.pllState k.val = 4 → t.dev.pllState k.val = if (s.dev.pll k.val).lost then 1 else 3) ∧
      (s.dev.pllState k.val ≠ 4 → t.dev.pllState k.val = s.dev.pllState k.val ∧ t.dev.pll k.val = s.dev.pll k.val)) ∧
    (∀ (r : Requester) (c : Fin 4) (div : Bool) (v new : Word) (reason : Option Nat), s.Arrives (.ckoWrite r c div v) →
      new = v &&& (if div then 0xFFFF else 0x1F1F) →
      reason = s.dev.ckoReason (if div then s.dev.ckoCtrl c.val else new) (if div then new else s.dev.ckoDiv c.val) →
      (∀ e, reason = some e → (e = 0x93 ∨ e = 0x94) ∧ ∃ t, exec (.ckoWrite r c div v) s = .next t ∧
        t.dev.rd .spll (c.val / 2) Off.SPLL_SPLL_REJECT = BitVec.ofNat 32 e ∧
        t.dev.rd .sys 0 Off.SYS_REJECT_LAST = rejectWord e (Page.spll.slot (c.val / 2)) (ckoOff c.val div) r.id ∧
        s.dev.Touches t.dev [(.spll, c.val / 2, Off.SPLL_SPLL_REJECT), (.spll, c.val / 2, Off.PAGE_STAT), (.sys, 0, Off.SYS_REJECT_LAST),
          (.sys, 0, Off.SYS_REJECT_COUNT)] [0, 639]) ∧
      (reason = none → ∃ t, exec (.ckoWrite r c div v) s = .next t ∧ t.dev.rd .spll (c.val / 2) (ckoOff c.val div) = new ∧
        t.dev.ckoIsHeld c.val = false ∧ (∀ j, j ≠ c.val → t.dev.ckoIsHeld j = s.dev.ckoIsHeld j) ∧
        ({ s.dev with ckoHeld := t.dev.ckoHeld }).Touches t.dev [(.spll, c.val / 2, ckoOff c.val div)] []))

/-- TRAINING_ATTEMPT_FAIL and LINK_UP (R307, R308, R309): both act only while the port trains. Training fails, STATE FAILED with its cause
and flag TRAIN_FAIL, when the sink cannot take the configuration and the link may not fall back (cause 1), or a trained link cannot
carry NEED (cause 5); without a fall-back to try the failed attempt's own cause stays. DisplayPort with FALLBACK goes on with the next candidate
that carries NEED. A link that is up reads STATE 4 and TRAIN_US, with RATE, LANES, FEC and CAP_MBPS of the trained link for
DisplayPort, RATE and CAP_MBPS for FRL; the other codes are free values. -/
def Obligations.LinkTraining : Prop :=
  ∀ (s : State) (p : Fin 8) (us why sr sl : Nat),
    (s.dev.linkState p.val ≠ 3 → exec (.linkUp p us sr sl) s = .next s ∧ exec (.trainingAttemptFail p why sr sl) s = .next s) ∧
    (∀ (c : Instr) (cause : Nat), s.dev.linkState p.val = 3 →
      (((c = .linkUp p us sr sl ∨ c = .trainingAttemptFail p why sr sl) ∧ s.dev.capsRefused p.val sr sl = true ∧ cause = 1) ∨
        (c = .linkUp p us sr sl ∧ s.dev.capsRefused p.val sr sl = false ∧ (s.dev.proto p.val = 0 ∨ s.dev.proto p.val = 2) ∧
          s.dev.linkFits p.val (s.dev.attempt p.val sr sl).1 (s.dev.attempt p.val sr sl).2 = false ∧ cause = 5) ∨
        (c = .trainingAttemptFail p why sr sl ∧ s.dev.capsRefused p.val sr sl = false ∧ cause = why ∧
          (s.dev.proto p.val = 1 ∨ s.dev.proto p.val = 3 ∨
            (s.dev.proto p.val = 0 ∧ s.dev.useB .xpt p.val Off.XPT_XPT_CTRL 5 = false))) ∨
        (c = .trainingAttemptFail p why sr sl ∧ s.dev.proto p.val = 2 ∧ cause = 5 ∧ s.dev.useB .xpt p.val Off.XPT_XPT_CTRL 5 = false ∧
          sr < ((s.dev.xp p.val).attempt.getD (s.dev.useF .xpt p.val Off.XPT_LINK_CFG 0 4, 0)).1)) →
      ∃ t, exec c s = .next t ∧ t.dev.linkState p.val = 5 ∧ t.dev.fld .xpt p.val Off.XPT_LINK_STAT 16 4 = cause % 16 ∧
        t.dev.bit .xpt p.val Off.PAGE_STAT 11 = true ∧ t.dev.xports = s.dev.xports ∧ s.dev.SameBytes t.dev) ∧
    (∀ y r sk, s.dev.linkState p.val = 3 → s.dev.proto p.val = 0 → s.dev.useB .xpt p.val Off.XPT_XPT_CTRL 5 = true →
      s.dev.nextCandidate p.val sr sl (if (s.dev.xp p.val).attempt.isSome then (s.dev.xp p.val).candidates else
        ((dpOrder (s.dev.useF .xpt p.val Off.XPT_LINK_CFG 4 2)).dropWhile (· != s.dev.attempt p.val sr sl)).drop 1)
        (s.dev.xp p.val).skipped = (some (y, r), sk) →
      s.dev.linkFits p.val y.1 y.2 = true ∧ y.1 ≤ sr ∧ y.2 ≤ sl ∧ exec (.trainingAttemptFail p why sr sl) s =
        .next { s with dev := s.dev.setXp p.val { s.dev.xp p.val with attempt := some y, candidates := r, skipped := sk } }) ∧
    (s.dev.linkState p.val = 3 → s.dev.capsRefused p.val sr sl = false → (s.dev.proto p.val = 1 ∨ s.dev.proto p.val = 3 ∨
        s.dev.linkFits p.val (s.dev.attempt p.val sr sl).1 (s.dev.attempt p.val sr sl).2 = true) →
      ∃ t, exec (.linkUp p us sr sl) s = .next t ∧ t.dev.linkState p.val = 4 ∧ t.dev.rd .xpt p.val Off.XPT_TRAIN_US = satWord us ∧
        t.dev.bit .xpt p.val Off.PAGE_STAT 8 = true ∧
        (s.dev.proto p.val ≠ 1 → t.dev.fld .xpt p.val Off.XPT_LINK_STAT 4 4 = (s.dev.attempt p.val sr sl).1 % 16) ∧
        (s.dev.proto p.val = 0 → t.dev.fld .xpt p.val Off.XPT_LINK_STAT 8 2 = (s.dev.attempt p.val sr sl).2 % 4 ∧
          t.dev.bit .xpt p.val Off.XPT_LINK_STAT 10 = s.dev.fecAt p.val (s.dev.attempt p.val sr sl).1) ∧
        ((s.dev.proto p.val = 0 ∨ s.dev.proto p.val = 2) → t.dev.rd .xpt p.val Off.XPT_CAP_MBPS =
          BitVec.ofNat 32 (linkCap (s.dev.proto p.val) (s.dev.attempt p.val sr sl).1 (s.dev.attempt p.val sr sl).2
            (s.dev.fecAt p.val (s.dev.attempt p.val sr sl).1) / 1000000)) ∧ t.dev.xports = s.dev.xports ∧ s.dev.SameBytes t.dev)

/-- RETRAIN, LINK_LOSS, SCDC_POLL, HPD_QUALIFIED, HPD_UNPLUG and IRQ_HPD (R306, R307, R309, R310, R314): a retrain of a port that is not
enabled is rejected, 0xA8; one that starts counts once, applies armed LINK pages and sends no active video. A link that is up and is lost
counts in LINK_LOSS and retrains under AUTO_TRAIN, else it is FAILED with flag LINK_DOWN. Hot plug shows in HPD_STAT with flag HPD_CHANGE;
a port of SDI has no hot plug, and only DisplayPort takes IRQ_HPD. -/
def Obligations.LinkEvents : Prop :=
  ∀ (s : State) (p : Fin 8),
    (∀ r, s.Arrives (.retrain r p) → s.dev.portEnabled p.val = false → ∃ t, exec (.retrain r p) s = .next t ∧
      t.dev.rd .xpt p.val Off.XPT_XPT_REJECT = 0xA8 ∧
      t.dev.rd .sys 0 Off.SYS_REJECT_LAST = rejectWord 0xA8 (Page.xpt.slot p.val) Off.XPT_CMD r.id ∧
      s.dev.Touches t.dev [(.xpt, p.val, Off.XPT_XPT_REJECT), (.xpt, p.val, Off.PAGE_STAT), (.sys, 0, Off.SYS_REJECT_LAST),
        (.sys, 0, Off.SYS_REJECT_COUNT)] [0]) ∧
    ((s.dev.linkState p.val ≠ 4 ∧ s.dev.linkState p.val ≠ 6) → exec (.linkLoss p) s = .next s) ∧
    (∀ a, (a = false ∨ s.dev.proto p.val ≠ 2 ∨ s.dev.linkState p.val ≠ 4) → exec (.scdcPoll p a) s = .next s) ∧
    (s.dev.proto p.val = 3 → exec (.hpdQualified p) s = .next s ∧ exec (.hpdUnplug p) s = .next s) ∧
    (∀ l, s.dev.proto p.val ≠ 0 → exec (.irqHpd p l) s = .next s) ∧
    (∀ (c : Instr) (lost : Nat), (((∃ r, c = .retrain r p) ∧ s.Arrives c ∧ s.dev.portEnabled p.val = true ∧ lost = 0) ∨
        (c = .linkLoss p ∧ (s.dev.linkState p.val = 4 ∨ s.dev.linkState p.val = 6) ∧ s.dev.useB .xpt p.val Off.XPT_XPT_CTRL 4 = true ∧
          lost = 1) ∨
        (c = .scdcPoll p true ∧ s.dev.proto p.val = 2 ∧ s.dev.linkState p.val = 4 ∧ s.dev.useB .xpt p.val Off.XPT_XPT_CTRL 4 = true ∧
          lost = 1) ∨
        (c = .hpdUnplug p ∧ s.dev.proto p.val ≠ 3 ∧ (s.dev.linkState p.val = 4 ∨ s.dev.linkState p.val = 6) ∧
          s.dev.useB .xpt p.val Off.XPT_XPT_CTRL 4 = true ∧ lost = 1) ∨
        (c = .irqHpd p true ∧ s.dev.proto p.val = 0 ∧ s.dev.linkState p.val = 4 ∧ s.dev.useB .xpt p.val Off.XPT_XPT_CTRL 4 = true ∧
          lost = 1)) →
      ∃ t, exec c s = .next t ∧ t.dev.count .xpt p.val = s.dev.count .xpt p.val + 1 ∧ t.dev.linkState p.val ≤ 3 ∧
        t.dev.fld .xpt p.val Off.XPT_LINK_STAT 11 2 = 0 ∧ t.dev.linkArmed .xpt p.val = false ∧ t.dev.linkArmed .ppll p.val = false ∧
        (lost = 0 → t.dev.rd .xpt p.val Off.XPT_LINK_LOSS = s.dev.rd .xpt p.val Off.XPT_LINK_LOSS) ∧
        (lost = 1 → t.dev.rd .xpt p.val Off.XPT_LINK_LOSS = satWord ((s.dev.rd .xpt p.val Off.XPT_LINK_LOSS).toNat + 1)) ∧
        s.dev.SameBytes t.dev) ∧
    (∀ c : Instr, s.dev.useB .xpt p.val Off.XPT_XPT_CTRL 4 = false →
      ((c = .linkLoss p ∧ (s.dev.linkState p.val = 4 ∨ s.dev.linkState p.val = 6)) ∨
        (c = .scdcPoll p true ∧ s.dev.proto p.val = 2 ∧ s.dev.linkState p.val = 4) ∨
        (c = .hpdUnplug p ∧ s.dev.proto p.val ≠ 3 ∧ (s.dev.linkState p.val = 4 ∨ s.dev.linkState p.val = 6)) ∨
        (c = .irqHpd p true ∧ s.dev.proto p.val = 0 ∧ s.dev.linkState p.val = 4)) →
      ∃ t, exec c s = .next t ∧ t.dev.linkState p.val = 5 ∧ t.dev.fld .xpt p.val Off.XPT_LINK_STAT 11 2 = 0 ∧
        t.dev.rd .xpt p.val Off.XPT_LINK_LOSS = satWord ((s.dev.rd .xpt p.val Off.XPT_LINK_LOSS).toNat + 1) ∧
        t.dev.bit .xpt p.val Off.PAGE_STAT 9 = true ∧ t.dev.counts = s.dev.counts ∧ s.dev.SameBytes t.dev) ∧
    (s.dev.proto p.val ≠ 3 → ∃ t, exec (.hpdQualified p) s = .next t ∧ t.dev.fld .xpt p.val Off.XPT_HPD_STAT 0 2 = 3 ∧
      t.dev.bit .xpt p.val Off.PAGE_STAT 10 = true ∧ s.dev.SameBytes t.dev ∧
      (s.dev.portEnabled p.val = false → t.dev.xports = s.dev.xports ∧ t.dev.linkState p.val = s.dev.linkState p.val) ∧
      (s.dev.portEnabled p.val = true → s.dev.linkState p.val = 2 → t.dev.linkState p.val = 3 ∧ (t.dev.xp p.val).attempt = none)) ∧
    (s.dev.proto p.val ≠ 3 → s.dev.linkState p.val ≠ 4 → s.dev.linkState p.val ≠ 6 → ∃ t, exec (.hpdUnplug p) s = .next t ∧
      t.dev.fld .xpt p.val Off.XPT_HPD_STAT 0 2 = 0 ∧ t.dev.bit .xpt p.val Off.PAGE_STAT 10 = true ∧ t.dev.xports = s.dev.xports ∧
      s.dev.SameBytes t.dev ∧ t.dev.linkState p.val = if s.dev.linkState p.val = 3 then 2 else s.dev.linkState p.val) ∧
    (∀ l, s.dev.proto p.val = 0 → ∃ t, exec (.irqHpd p l) s = .next t ∧ s.dev.SameBytes t.dev ∧
      t.dev.fld .xpt p.val Off.XPT_HPD_STAT 8 8 = (s.dev.fld .xpt p.val Off.XPT_HPD_STAT 8 8 + 1) % 256 ∧
      t.dev.bit .xpt p.val Off.PAGE_STAT 10 = true ∧ (l = false ∨ s.dev.linkState p.val ≠ 4 → t.dev.linkState p.val = s.dev.linkState p.val))

/-- SB_GO, SB_DONE and TC_LOAD (R315, R316, R322): a transaction starts unless one runs (0xA9) or the protocol does not take its operation
(0xAA); SB_DONE ends one that runs, with its result, the count of its bytes and flag SB_DONE, and returns the bytes of a read alone; TC_LOAD
waits for VBLANK_START, or is rejected where the generator is not in use (0xAB). -/
def Obligations.SidebandAndTimecode : Prop :=
  ∀ (s : State) (r : Requester) (p : Fin 8),
    (∀ (c : Instr) (e : Nat), s.Arrives c → ((c = .sbGo r p ∧ s.dev.bit .xpt p.val Off.XPT_SB_STAT 0 = true ∧ e = 0xA9) ∨
        (c = .sbGo r p ∧ s.dev.bit .xpt p.val Off.XPT_SB_STAT 0 = false ∧ e = 0xAA ∧
          (s.dev.proto p.val = 3 ∨ 6 ≤ s.dev.fld .xpt p.val Off.XPT_SB_CTRL 0 3 ∨
            (s.dev.proto p.val ≠ 0 ∧ s.dev.fld .xpt p.val Off.XPT_SB_CTRL 0 3 ≤ 3) ∨
            (s.dev.proto p.val = 0 ∧ 4 ≤ s.dev.fld .xpt p.val Off.XPT_SB_CTRL 0 3))) ∨
        (c = .tcLoad r p ∧ s.dev.useF .xpt p.val Off.XPT_SDI_CFG 2 2 ≠ 2 ∧ e = 0xAB)) →
      ∃ t, exec c s = .next t ∧ t.dev.rd .xpt p.val Off.XPT_XPT_REJECT = BitVec.ofNat 32 e ∧
        t.dev.rd .sys 0 Off.SYS_REJECT_LAST = rejectWord e (Page.xpt.slot p.val) Off.XPT_CMD r.id ∧
        s.dev.Touches t.dev [(.xpt, p.val, Off.XPT_XPT_REJECT), (.xpt, p.val, Off.PAGE_STAT), (.sys, 0, Off.SYS_REJECT_LAST),
          (.sys, 0, Off.SYS_REJECT_COUNT)] [0]) ∧
    (s.Arrives (.sbGo r p) → s.dev.bit .xpt p.val Off.XPT_SB_STAT 0 = false → ((s.dev.proto p.val = 0 ∧
        s.dev.fld .xpt p.val Off.XPT_SB_CTRL 0 3 ≤ 3) ∨ ((s.dev.proto p.val = 1 ∨ s.dev.proto p.val = 2) ∧
        (s.dev.fld .xpt p.val Off.XPT_SB_CTRL 0 3 = 4 ∨ s.dev.fld .xpt p.val Off.XPT_SB_CTRL 0 3 = 5))) →
      ∃ t, exec (.sbGo r p) s = .next t ∧ t.dev.bit .xpt p.val Off.XPT_SB_STAT 0 = true ∧ t.dev.bit .xpt p.val Off.XPT_SB_STAT 1 = false ∧
        s.dev.Touches t.dev [(.xpt, p.val, Off.XPT_SB_STAT)] []) ∧
    (∀ res bs, s.dev.bit .xpt p.val Off.XPT_SB_STAT 0 = false → exec (.sbDone p res bs) s = .next s) ∧
    (∀ res bs, s.dev.bit .xpt p.val Off.XPT_SB_STAT 0 = true → ∃ t, exec (.sbDone p res bs) s = .next t ∧
      t.dev.bit .xpt p.val Off.XPT_SB_STAT 0 = false ∧ t.dev.bit .xpt p.val Off.XPT_SB_STAT 1 = true ∧
      t.dev.fld .xpt p.val Off.XPT_SB_STAT 2 2 = res % 4 ∧ t.dev.fld .xpt p.val Off.XPT_SB_STAT 4 5 = min 16 bs.length ∧
      t.dev.bit .xpt p.val Off.PAGE_STAT 15 = true ∧
      (s.dev.fld .xpt p.val Off.XPT_SB_CTRL 0 1 = 1 → ∀ i b, i < 16 → bs[i]? = some b →
        t.dev.fld .xpt p.val (Off.XPT_SB_DATA + 4 * (i / 4)) (8 * (i % 4)) 8 = b.toNat) ∧
      s.dev.Touches t.dev ((.xpt, p.val, Off.XPT_SB_STAT) :: (.xpt, p.val, Off.PAGE_STAT) ::
        (if s.dev.fld .xpt p.val Off.XPT_SB_CTRL 0 1 = 1 then (List.range 4).map fun i => (.xpt, p.val, Off.XPT_SB_DATA + 4 * i) else []))
        (flagSource .xpt p.val 15).toList) ∧
    (s.Arrives (.tcLoad r p) → s.dev.useF .xpt p.val Off.XPT_SDI_CFG 2 2 = 2 → exec (.tcLoad r p) s =
      .next { s with dev := s.dev.setXp p.val { s.dev.xp p.val with tcLoad := true } })

/-- MAP_APPLY and WEIGHT_WRITE (R338, R339, R344): APPLY outside TRAINING and READY, with a scene enabled or during a migration is rejected,
0xC0, and an illegal map, 0xC1; an accepted one makes the registers' map the active one, with flag MAP_APPLIED. Weights that would sum above 64 are
dropped whole, 0xC2; any other write is stored, WEIGHT_MNT as at least 1. -/
def Obligations.MapAndWeights : Prop :=
  ∀ (s : State) (r : Requester),
    (∀ (c : Instr) (off e : Nat), s.Arrives c → ((c = .mapApply r ∧ off = Off.MCG_MAP_CMD ∧ (((¬ (s.dev.mode = 3 ∨ s.dev.mode = 4) ∨
            (∃ k : Fin 4, s.dev.useB .scn k.val Off.SCN_SCN_CTRL 0 = true) ∨ s.dev.mc.mig ≠ none) ∧ e = 0xC0) ∨
          ((s.dev.mode = 3 ∨ s.dev.mode = 4) ∧ (∀ k : Fin 4, s.dev.useB .scn k.val Off.SCN_SCN_CTRL 0 = false) ∧ s.dev.mc.mig = none ∧
            e = 0xC1 ∧ (s.dev.mc.map = none ∨ ∃ o, s.dev.mc.map = some o ∧
              (s.dev.mapWritten o.k).legal (o.k == 2 && decide (s.dev.core.installed < 2 ^ o.width)) = false)))) ∨
        (∃ v, off = Off.MCG_WEIGHT_RT ∧ c = .weightWrite r 0 v ∧ e = 0xC2 ∧
          64 < byteSum v + byteSum (s.dev.rd .mcg 0 Off.MCG_WEIGHT_BULK) + byteSum (s.dev.rd .mcg 0 Off.MCG_WEIGHT_MNT)) ∨
        (∃ v, off = Off.MCG_WEIGHT_BULK ∧ c = .weightWrite r 1 v ∧ e = 0xC2 ∧
          64 < byteSum (s.dev.rd .mcg 0 Off.MCG_WEIGHT_RT) + byteSum v + byteSum (s.dev.rd .mcg 0 Off.MCG_WEIGHT_MNT)) ∨
        (∃ v, off = Off.MCG_WEIGHT_MNT ∧ c = .weightWrite r 2 v ∧ e = 0xC2 ∧
          64 < byteSum (s.dev.rd .mcg 0 Off.MCG_WEIGHT_RT) + byteSum (s.dev.rd .mcg 0 Off.MCG_WEIGHT_BULK) + max 1 (bitsOf v 0 8))) →
      ∃ t, exec c s = .next t ∧ t.dev.rd .mcg 0 Off.MCG_MCG_REJECT = BitVec.ofNat 32 e ∧
        t.dev.rd .sys 0 Off.SYS_REJECT_LAST = rejectWord e (Page.mcg.slot 0) off r.id ∧
        s.dev.Touches t.dev [(.mcg, 0, Off.MCG_MCG_REJECT), (.mcg, 0, Off.PAGE_STAT), (.sys, 0, Off.SYS_REJECT_LAST),
          (.sys, 0, Off.SYS_REJECT_COUNT)] [0]) ∧
    (∀ o, s.Arrives (.mapApply r) → (s.dev.mode = 3 ∨ s.dev.mode = 4) → (∀ k : Fin 4, s.dev.useB .scn k.val Off.SCN_SCN_CTRL 0 = false) →
      s.dev.mc.mig = none → s.dev.mc.map = some o →
      (s.dev.mapWritten o.k).legal (o.k == 2 && decide (s.dev.core.installed < 2 ^ o.width)) = true →
      ∃ t, exec (.mapApply r) s = .next t ∧ t.dev.mc = { s.dev.mc with map := some (s.dev.mapWritten o.k) } ∧
        t.dev.bit .mcg 0 Off.PAGE_STAT 8 = true ∧
        ({ s.dev with mc := t.dev.mc, mem := t.dev.mem, poison := t.dev.poison }).Touches t.dev [(.mcg, 0, Off.PAGE_STAT)] [7]) ∧
    (∀ (k : Fin 3) (v new : Word) (sum : Nat), s.Arrives (.weightWrite r k v) →
      new = (if k.val = 2 then BitVec.ofNat 32 (max 1 (bitsOf v 0 8)) else v) →
      sum = byteSum (if k.val = 0 then new else s.dev.rd .mcg 0 Off.MCG_WEIGHT_RT) +
        byteSum (if k.val = 1 then new else s.dev.rd .mcg 0 Off.MCG_WEIGHT_BULK) +
        byteSum (if k.val = 2 then new else s.dev.rd .mcg 0 Off.MCG_WEIGHT_MNT) → sum ≤ 64 →
      ∃ t, exec (.weightWrite r k v) s = .next t ∧ t.dev.rd .mcg 0 (Off.MCG_WEIGHT_RT + 4 * k.val) = new ∧
        s.dev.Touches t.dev [(.mcg, 0, Off.MCG_WEIGHT_RT + 4 * k.val)] [])

/-- DRAM_READ_ENQUEUE, DRAM_READ_RETURN and DRAM_WRITE_RETIRE (R65, R67, R334, R341, R342, R350): a read that MWIN denies returns zeros, one
outside installed DRAM is counted in RANGE_ERR, and any other joins its port's queue, in global arrival order, with the bytes of its line or
poison, starting a hazard episode behind a queued write to its row. A port retires its oldest request, in a subchannel with a hazard in
global order; an uncorrectable line is poisoned. -/
def Obligations.MemoryQueues : Prop :=
  ∀ (s : State) (r : Requester) (k : Fin 4) (a : BitVec 40) (l : Nat), l = a.toNat / 64 * 64 →
    (s.dev.core.mwinAllows r l 64 false = false → ∃ t, exec (.dramReadEnqueue r k a) s = .next t ∧
      t.dev.core.resp = deniedWords r 16 ∧ s.dev.Touches t.dev [(.mwin, 0, Off.MWIN_DENY_LAST_LO), (.mwin, 0, Off.MWIN_DENY_LAST_HI),
        (.mwin, 0, Off.MWIN_DENY_COUNT)] [2]) ∧
    (s.dev.core.mwinAllows r l 64 false = true → s.dev.core.installed < l + 64 → ∃ t, exec (.dramReadEnqueue r k a) s = .next t ∧
      t.dev.core.resp = [] ∧ t.dev.rd .mcg 0 Off.MCG_RANGE_ERR = satWord ((s.dev.rd .mcg 0 Off.MCG_RANGE_ERR).toNat + 1) ∧
      s.dev.Touches t.dev [(.mcg, 0, Off.MCG_RANGE_ERR), (.mcg, 0, Off.PAGE_STAT)] [7]) ∧
    (∀ m, s.dev.core.mwinAllows r l 64 false = true → l + 64 ≤ s.dev.core.installed → s.dev.mc.map = some m →
      ∃ t, exec (.dramReadEnqueue r k a) s = .next t ∧ t.dev.mem = s.dev.mem ∧ t.dev.fm = s.dev.fm ∧ t.dev.poison = s.dev.poison ∧
        t.dev.mc.nextId = s.dev.mc.nextId + 1 ∧ t.dev.mc.queue = s.dev.mc.queue ++ [{
          id := s.dev.mc.nextId, port := memPort r k.val, who := r, write := false, addr := l, data := s.dev.dramBytes l 64
          loc := m.locOf l }] ∧
        (∀ w, (s.dev.mc.queue.filter fun q => q.write && q.loc.sub == (m.locOf l).sub && q.loc.rank == (m.locOf l).rank &&
            q.loc.bank == (m.locOf l).bank && q.loc.row == (m.locOf l).row).getLast? = some w →
          ∃ h ∈ t.dev.mc.hazards, h.write = w.id)) ∧
    (∀ (p : Fin 9) (ecc : Ecc), (s.dev.retirable p.val = none ∨ ∃ q, s.dev.retirable p.val = some q ∧ q.write = true) →
      exec (.dramReadReturn p ecc) s = .next s) ∧
    (∀ p : Fin 9, (s.dev.retirable p.val = none ∨ ∃ q, s.dev.retirable p.val = some q ∧ q.write = false) →
      exec (.dramWriteRetire p) s = .next s) ∧
    (∀ (p : Fin 9) (ecc : Ecc) q, s.dev.retirable p.val = some q → q.write = false → ∃ t, exec (.dramReadReturn p ecc) s = .next t ∧
      t.dev.mc.queue = s.dev.mc.queue.filter (fun x => x.id != q.id) ∧ t.dev.mem = s.dev.mem ∧ t.dev.fm = s.dev.fm ∧
      (∀ bs, q.data = some bs → ecc ≠ .uncorrectable → t.dev.core.resp = wordsOf bs ∧ t.dev.poison = s.dev.poison) ∧
      (q.data = none → t.dev.core.resp = [] ∧ t.dev.poison = s.dev.poison) ∧
      (∀ bs, q.data = some bs → ecc = .uncorrectable → t.dev.core.resp = [] ∧ t.dev.linePoisoned (q.addr / 64) = true)) ∧
    (∀ (p : Fin 9) q, s.dev.retirable p.val = some q → q.write = true → ∃ t, exec (.dramWriteRetire p) s = .next t ∧
      t.dev.mc = { s.dev.mc with queue := s.dev.mc.queue.filter (fun x => x.id != q.id)
                                 hazards := s.dev.mc.hazards.filter (fun h => h.write != q.id) } ∧
      ({ s.dev with mc := t.dev.mc }).Touches t.dev [(.mcg, 0, Off.MCG_HAZARD_MAX)] [])

/-- DRAM_WRITE_ENQUEUE, STALLED_WRITE_RESUME and HOLD_STALL_TIMEOUT (R65, R92, R94 to R97, R334): a write that MWIN denies, that lies outside
installed DRAM or that meets a REJECT window changes no byte; one behind a stalled write of its requester, or that meets STALL windows alone,
waits; any other lands and joins its port's queue. A stalled write lands when its windows are gone, and is dropped at the bound of one, whose
use then rejects. A write that lands changes the bytes it stores and no other. -/
def Obligations.MemoryWrites : Prop :=
  ∀ (s : State) (r : Requester) (k : Fin 4) (a : BitVec 40) (bs : List (BitVec 8)),
    (s.dev.core.mwinAllows r a.toNat bs.length true = false → ∃ t, exec (.dramWriteEnqueue r k a bs) s = .next t ∧ s.dev.SameBytes t.dev ∧
      t.dev.mc = s.dev.mc ∧ t.dev.stalled = s.dev.stalled ∧
      t.dev.rd .mwin 0 Off.MWIN_DENY_COUNT = satWord ((s.dev.rd .mwin 0 Off.MWIN_DENY_COUNT).toNat + 1)) ∧
    (s.dev.core.mwinAllows r a.toNat bs.length true = true → s.dev.core.installed < a.toNat + bs.length →
      ∃ t, exec (.dramWriteEnqueue r k a bs) s = .next t ∧ s.dev.SameBytes t.dev ∧ t.dev.mc = s.dev.mc ∧ t.dev.stalled = s.dev.stalled ∧
        t.dev.rd .mcg 0 Off.MCG_RANGE_ERR = satWord ((s.dev.rd .mcg 0 Off.MCG_RANGE_ERR).toNat + 1)) ∧
    (s.dev.core.mwinAllows r a.toNat bs.length true = true → a.toNat + bs.length ≤ s.dev.core.installed → s.dev.behindStall r = true →
      exec (.dramWriteEnqueue r k a bs) s = .next { s with dev := { s.dev with stalled := s.dev.stalled ++ [{
        who := r, addr := a.toNat, data := bs, uses := [], since := s.dev.now, bad := false }] } }) ∧
    (∀ ws, s.dev.core.mwinAllows r a.toNat bs.length true = true → a.toNat + bs.length ≤ s.dev.core.installed →
      s.dev.behindStall r = false → ws = (if r.holdExempt then [] else s.dev.windowsAt a.toNat bs.length) →
      ((∃ w ∈ ws, w.2.2 = 2) → ∃ t, exec (.dramWriteEnqueue r k a bs) s = .next t ∧ s.dev.SameBytes t.dev ∧ t.dev.mc = s.dev.mc ∧
        t.dev.stalled = s.dev.stalled ∧ t.dev.engs = s.dev.engs) ∧
      ((∀ w ∈ ws, w.2.2 ≠ 2) → ws ≠ [] → ∃ t, exec (.dramWriteEnqueue r k a bs) s = .next t ∧ s.dev.SameBytes t.dev ∧ t.dev.mc = s.dev.mc ∧
        t.dev.stalled = s.dev.stalled ++ [{ who := r, addr := a.toNat, data := bs, uses := ws.map fun w => (w.1, w.2.1), since := s.dev.now
                                            bad := false }]) ∧
      (∀ m, ws = [] → s.dev.mc.map = some m → ∃ t, exec (.dramWriteEnqueue r k a bs) s = .next t ∧ t.dev.stalled = s.dev.stalled ∧
        t.dev.fm = s.dev.fm ∧ (∀ i b, bs[i]? = some b → readByte t.dev.mem (a.toNat + i) = b) ∧
        (∀ x, (x < a.toNat ∨ a.toNat + bs.length ≤ x) → readByte t.dev.mem x = readByte s.dev.mem x) ∧
        t.dev.mc.queue = s.dev.mc.queue ++ [{ id := s.dev.mc.nextId, port := memPort r k.val, who := r, write := true, addr := a.toNat
                                              data := none, loc := m.locOf a.toNat }])) ∧
    (s.dev.resumable s.dev.stalled [] = none → exec .stalledWriteResume s = .next s) ∧
    (∀ i w, s.dev.resumable s.dev.stalled [] = some i → s.dev.stalled[i]? = some w →
      (w.uses ≠ [] ∨ w.who.holdExempt = true ∨ s.dev.windowsAt w.addr w.data.length = [] →
        ∃ t, exec .stalledWriteResume s = .next t ∧ t.dev.stalled = s.dev.stalled.eraseIdx i ∧ t.dev.fm = s.dev.fm ∧
          (∀ j b, w.data[j]? = some b → readByte t.dev.mem (w.addr + j) = b) ∧
          (∀ x, (x < w.addr ∨ w.addr + w.data.length ≤ x) → readByte t.dev.mem x = readByte s.dev.mem x)) ∧
      (w.uses = [] → w.who.holdExempt = false → (∃ y ∈ s.dev.windowsAt w.addr w.data.length, y.2.2 = 2) →
        ∃ t, exec .stalledWriteResume s = .next t ∧ t.dev.stalled = s.dev.stalled.eraseIdx i ∧ s.dev.SameBytes t.dev) ∧
      (w.uses = [] → w.who.holdExempt = false → s.dev.windowsAt w.addr w.data.length ≠ [] →
        (∀ y ∈ s.dev.windowsAt w.addr w.data.length, y.2.2 ≠ 2) →
        ∃ t, exec .stalledWriteResume s = .next t ∧ s.dev.SameBytes t.dev ∧ t.dev.stalled = s.dev.stalled.eraseIdx i ++ [{ w with
          uses := (s.dev.windowsAt w.addr w.data.length).map fun y => (y.1, y.2.1), since := s.dev.now }])) ∧
    (∀ (i : Nat) (e : Fin 64) (u : Nat), (s.dev.stalled[i]? = none ∨ ∃ w, s.dev.stalled[i]? = some w ∧
        ((e.val, u) ∉ w.uses ∨ s.dev.useHeld (e.val, u) = false)) → exec (.holdStallTimeout i e u) s = .next s) ∧
    (∀ (i : Nat) (e : Fin 64) (u : Nat) (w : Stalled), s.dev.stalled[i]? = some w → (e.val, u) ∈ w.uses → s.dev.useHeld (e.val, u) = true →
      ∃ t, exec (.holdStallTimeout i e u) s = .next t ∧ t.dev.stalled = s.dev.stalled.eraseIdx i ∧ s.dev.SameBytes t.dev ∧
        (∀ x ∈ (t.dev.eng e.val).uses, x.id = u → x.rejecting = true) ∧ t.dev.mc = s.dev.mc ∧
        t.dev.rd .leng e.val Off.LENG_VIOL_ADDR_LO = BitVec.ofNat 32 w.addr ∧
        t.dev.rd .leng e.val Off.LENG_VIOL_INFO = BitVec.ofNat 32 (w.addr / 2 ^ 32 % 256 + w.who.id * 256 + 4096))

/-- DRAM_REFRESH, DRAM_TEMP_POLL, RH_COUNT_HALVING, THROTTLE_EPISODE_END and DRAM_PATROL_SCRUB (R346 to R349, R352): a refresh closes
rows and is the boundary at which an armed MCC page applies, and none happens untrained, in self-refresh or without the DDR5 clock; TEMP holds the
hottest rank, with doubling above 85 °C where it is enabled; halving keeps every tracked row and halves its count; an episode's end takes the
oldest one of its channel away; a patrol read changes no byte and poisons an uncorrectable line. Which way an odd count rounds is a free
value. -/
def Obligations.RowsAndRefresh : Prop :=
  ∀ (s : State) (c : Fin 8),
    (∀ b, (s.dev.trained = false ∨ s.dev.ddrActive = false ∨ (s.dev.pllState 8 ≠ 3 ∧ s.dev.pllState 8 ≠ 4)) →
      exec (.dramRefresh c b) s = .next s) ∧
    (∀ b : Fin 4, s.dev.trained = true → s.dev.ddrActive = true → (s.dev.pllState 8 = 3 ∨ s.dev.pllState 8 = 4) →
      s.dev.useF .mcc c.val Off.MCC_REF_CTRL 0 2 = 2 → s.dev.armOf .mcc c.val = none → exec (.dramRefresh c b) s =
        .next { s with dev := s.dev.onMc fun m => { m with
          openRow := m.openRow.filter fun e => !(decide (e.1 / 256 = c.val) && e.1 % 32 % 4 == b.val) } }) ∧
    (∀ b : Fin 4, s.dev.trained = true → s.dev.ddrActive = true → (s.dev.pllState 8 = 3 ∨ s.dev.pllState 8 = 4) →
      (s.dev.useF .mcc c.val Off.MCC_REF_CTRL 0 2 ≠ 2 ∨ s.dev.armOf .mcc c.val ≠ none) → ∃ t, exec (.dramRefresh c b) s = .next t ∧
        t.dev.count .mcc c.val = s.dev.count .mcc c.val + 1 ∧ t.dev.armOf .mcc c.val = none ∧ s.dev.SameBytes t.dev ∧
        (∀ e ∈ t.dev.mc.openRow, e.1 / 256 ≠ c.val) ∧ (∀ e ∈ s.dev.mc.openRow, e.1 / 256 ≠ c.val → e ∈ t.dev.mc.openRow)) ∧
    (∀ temp, ∃ t, exec (.dramTempPoll c temp) s = .next t ∧ t.dev.rd .mcc c.val Off.MCC_TEMP =
      BitVec.ofNat 32 (temp % 256 + if s.dev.useB .mcc c.val Off.MCC_REF_CTRL 8 = true ∧ 85 < temp then 256 else 0) ∧
      s.dev.Touches t.dev [(.mcc, c.val, Off.MCC_TEMP), (.mcc, c.val, Off.PAGE_STAT)] [648 + 16 * c.val]) ∧
    (∃ t, exec .rhCountHalving s = .next t ∧ ({ s.dev with mc := t.dev.mc, core := t.dev.core }) = t.dev ∧
      t.dev.core = { s.dev.core with free := t.dev.core.free } ∧ t.dev.mc = { s.dev.mc with rows := t.dev.mc.rows } ∧
      ∀ (key i : Nat) (z : RowTrack), (Tbl.get (fun _ => []) s.dev.mc.rows key)[i]? = some z →
        ∃ y : RowTrack, (Tbl.get (fun _ => []) t.dev.mc.rows key)[i]? = some y ∧
        y.row = z.row ∧ y.last = z.last ∧ z.count / 2 ≤ y.count ∧ y.count ≤ (z.count + 1) / 2) ∧
    ((∀ x ∈ s.dev.mc.throttles, x.bank / 256 ≠ c.val) → exec (.throttleEpisodeEnd c) s = .next s) ∧
    (∀ x, s.dev.mc.throttles.find? (fun y => y.bank / 256 == c.val) = some x → ∃ t, exec (.throttleEpisodeEnd c) s = .next t ∧
      t.dev.mc = { s.dev.mc with throttles := s.dev.mc.throttles.erase x } ∧ s.dev.SameBytes t.dev) ∧
    (∀ (a : BitVec 40) (ecc : Ecc), (s.dev.mc.map = none ∨ s.dev.core.installed < a.toNat / 64 * 64 + 64) →
      exec (.dramPatrolScrub a ecc) s = .next s) ∧
    (∀ (a : BitVec 40) (ecc : Ecc) m, s.dev.mc.map = some m → a.toNat / 64 * 64 + 64 ≤ s.dev.core.installed →
      ∃ t, exec (.dramPatrolScrub a ecc) s = .next t ∧ t.dev.mem = s.dev.mem ∧ t.dev.fm = s.dev.fm ∧
        t.dev.linePoisoned (a.toNat / 64) = (s.dev.linePoisoned (a.toNat / 64) || decide (ecc = .uncorrectable)) ∧
        t.dev.mc.queue = s.dev.mc.queue)

/-- MIG_START, MIG_LINE_COPY and MIG_DONE (R353 to R356): a start is rejected, 0xC4, while a migration runs, outside READY, RUN and RUN_DEGRADED, for a
rank not in service and without a spare; one that passes makes the rank FAILING and copies from line 0. A copy moves the pointer on by one
line and counts poison; past the last line, nothing is copied. At the end the spare is IN_SERVICE and the rank RETIRED. -/
def Obligations.RankMigration : Prop :=
  ∀ (s : State) (r : Requester) (u : Fin 16) (k : Fin 4),
    (s.Arrives (.migStart r u k) → (s.dev.mc.mig ≠ none ∨ s.dev.mode ∉ [4, 5, 6] ∨ s.dev.rankState u.val k.val ≠ 1 ∨
        s.dev.spareOf u.val = none) → ∃ t, exec (.migStart r u k) s = .next t ∧ t.dev.rd .mcg 0 Off.MCG_MCG_REJECT = 0xC4 ∧
      t.dev.rd .sys 0 Off.SYS_REJECT_LAST = rejectWord 0xC4 (Page.mcg.slot 0) Off.MCG_MIG_CMD r.id ∧
      s.dev.Touches t.dev [(.mcg, 0, Off.MCG_MCG_REJECT), (.mcg, 0, Off.PAGE_STAT), (.sys, 0, Off.SYS_REJECT_LAST),
        (.sys, 0, Off.SYS_REJECT_COUNT)] [0]) ∧
    (∀ sp, s.Arrives (.migStart r u k) → s.dev.mc.mig = none → s.dev.mode ∈ [4, 5, 6] → s.dev.rankState u.val k.val = 1 →
      s.dev.spareOf u.val = some sp → ∃ t, exec (.migStart r u k) s = .next t ∧ t.dev.rankState u.val k.val = 3 ∧
        t.dev.mc = { s.dev.mc with mig := some { sub := u.val, rank := k.val, spare := sp, ptr := 0, poison := 0 } } ∧
        t.dev.rd .mcg 0 Off.MCG_MIG_PTR = 0 ∧ t.dev.bit .mcg 0 Off.MCG_MIG_STAT 0 = true ∧
        t.dev.bit .mcg 0 Off.MCG_SPARE_STAT (16 + u.val) = true ∧ t.dev.bit .mcc (u.val / 2) Off.PAGE_STAT 12 = true ∧
        t.dev.bit .pwr 0 Off.PWR_DEGRADE 0 = true ∧ s.dev.SameBytes t.dev) ∧
    (∀ ecc, (s.dev.mc.mig = none ∨ s.dev.mc.map = none ∨ ∃ m, s.dev.mc.mig = some m ∧ s.dev.rankLines ≤ m.ptr) →
      exec (.migLineCopy ecc) s = .next s) ∧
    (∀ ecc m mp, s.dev.mc.mig = some m → s.dev.mc.map = some mp → m.ptr < s.dev.rankLines → ∃ t x, exec (.migLineCopy ecc) s = .next t ∧
      t.dev.mc.mig = some x ∧ x.sub = m.sub ∧ x.rank = m.rank ∧ x.spare = m.spare ∧ x.ptr = m.ptr + 1 ∧
      (ecc = .uncorrectable → x.poison = m.poison + 1) ∧ x.poison ≤ m.poison + 1 ∧
      t.dev.rd .mcg 0 Off.MCG_MIG_PTR = BitVec.ofNat 32 (m.ptr + 1) ∧ t.dev.mem = s.dev.mem ∧ t.dev.fm = s.dev.fm) ∧
    ((s.dev.mc.mig = none ∨ ∃ m, s.dev.mc.mig = some m ∧ m.ptr < s.dev.rankLines) → exec .migDone s = .next s) ∧
    (∀ m, s.dev.mc.mig = some m → s.dev.rankLines ≤ m.ptr → m.sub < 16 → m.rank < 4 → m.spare < 4 → m.spare ≠ m.rank →
      s.dev.mc.migQueue = [] → ∃ t, exec .migDone s = .next t ∧ t.dev.mc.mig = none ∧ t.dev.rankState m.sub m.spare = 1 ∧
        t.dev.rankState m.sub m.rank = 4 ∧ t.dev.physRank m.sub (s.dev.logicalOf m.sub m.rank) = m.spare ∧
        t.dev.bit .mcc (m.sub / 2) Off.PAGE_STAT 13 = true ∧ s.dev.SameBytes t.dev)

/-- SR_ENTRY, SR_ENTERED, SR_PREWAKE, SR_EXIT, SR_EXITED, CLOCK_LOSS and DRAM_TRAINING_DONE (R335, R336, R358, R359, R360, R505): each acts in its own
state of SR_STAT alone: ACTIVE 0, ENTERING 1, SELF_REFRESH 2, EXITING 3. Entry is counted and closes every row; the exit waits for system PLL
0. A lost clock of active DDR5 sets CLOCK_LOSS. The end of training, which happens in TRAINING alone, leaves both memories without content. That an invalid memory
lists nothing is the model's choice (log entry 2). -/
def Obligations.SelfRefreshAndTraining : Prop :=
  ∀ (s : State) (x : Nat), x = s.dev.fld .mcg 0 Off.MCG_SR_STAT 0 2 →
    (s.dev.trained = true → x = 0 → (s.dev.bit .mcg 0 Off.MCG_SR_CTRL 0 = true ∨ s.dev.mode = 9) → s.dev.scenesQuiet = true →
      s.dev.mc.queue = [] → s.dev.mc.mig = none → ∃ t, exec .srEntry s = .next t ∧ t.dev.fld .mcg 0 Off.MCG_SR_STAT 0 2 = 1 ∧
        s.dev.Touches t.dev [(.mcg, 0, Off.MCG_SR_STAT)] []) ∧
    ((s.dev.trained = false ∨ x ≠ 0 ∨ (s.dev.bit .mcg 0 Off.MCG_SR_CTRL 0 = false ∧ s.dev.mode ≠ 9) ∨ s.dev.scenesQuiet = false ∨
      s.dev.mc.queue ≠ [] ∨ s.dev.mc.mig ≠ none) → exec .srEntry s = .next s) ∧
    (x ≠ 1 → exec .srEntered s = .next s) ∧
    (x = 1 → ∃ t, exec .srEntered s = .next t ∧ t.dev.fld .mcg 0 Off.MCG_SR_STAT 0 2 = 2 ∧
      t.dev.fld .mcg 0 Off.MCG_SR_STAT 16 16 = (s.dev.fld .mcg 0 Off.MCG_SR_STAT 16 16 + 1) % 65536 ∧
      t.dev.bit .mcg 0 Off.PAGE_STAT 9 = true ∧ (∀ e ∈ t.dev.mc.openRow, 8 ≤ e.1 / 256) ∧ t.dev.mc.srSince = s.dev.now ∧
      s.dev.SameBytes t.dev) ∧
    (∀ k : Fin 4, (x ≠ 2 ∨ s.dev.timingRuns k.val = false ∨ s.dev.frameArmed k.val = false) → exec (.srPrewake k) s = .next s) ∧
    (x ≠ 2 → exec .srExit s = .next s) ∧
    (∀ c : Instr, x = 2 → (c = .srExit ∨ ∃ k : Fin 4, c = .srPrewake k ∧ s.dev.timingRuns k.val = true ∧ s.dev.frameArmed k.val = true) →
      ∃ t, exec c s = .next t ∧ t.dev.fld .mcg 0 Off.MCG_SR_STAT 0 2 = 3 ∧
        (s.dev.pllState 8 = 5 → t.dev.pllState 8 = 2 ∧ (t.dev.pll 8).warm = true) ∧ s.dev.SameBytes t.dev) ∧
    ((x ≠ 3 ∨ (s.dev.pllState 8 ≠ 3 ∧ s.dev.pllState 8 ≠ 4)) → exec .srExited s = .next s) ∧
    (x = 3 → (s.dev.pllState 8 = 3 ∨ s.dev.pllState 8 = 4) → ∃ t, exec .srExited s = .next t ∧
      t.dev.fld .mcg 0 Off.MCG_SR_STAT 0 2 = 0 ∧ t.dev.bit .mcg 0 Off.PAGE_STAT 10 = true ∧
      t.dev.mc = { s.dev.mc with srNs := s.dev.mc.srNs + (s.dev.now - s.dev.mc.srSince), srReq := none } ∧
      ({ s.dev with mc := t.dev.mc }).Touches t.dev [(.mcg, 0, Off.MCG_SR_STAT), (.mcg, 0, Off.MCG_SR_EXIT_MAX), (.mcg, 0, Off.PAGE_STAT)] [6]) ∧
    ((s.dev.trained = false ∨ x ≠ 0 ∨ s.dev.pllState 8 = 3 ∨ s.dev.pllState 8 = 4) → exec .clockLoss s = .next s) ∧
    (s.dev.trained = true → x = 0 → s.dev.pllState 8 ≠ 3 → s.dev.pllState 8 ≠ 4 → ∃ t, exec .clockLoss s = .next t ∧
      t.dev.bit .mcg 0 Off.PAGE_STAT 13 = true ∧ t.dev.bit .safe 0 Off.SAFE_FAULT_STAT 8 = true ∧ s.dev.SameBytes t.dev) ∧
    (∀ rep, s.dev.mode ≠ 3 → exec (.dramTrainingDone rep) s = .next s) ∧
    (∀ rep, s.dev.mode = 3 → s.dev.fw.config = [] → s.dev.fw.frame = none → s.dev.safe.deviceDue = false →
      ∃ t, exec (.dramTrainingDone rep) s = .next t ∧ t.dev.mem = [] ∧ t.dev.fm = [] ∧ t.dev.poison = [] ∧
        t.dev.mode = (if s.dev.fld .pwr 0 Off.PWR_RESET_CAUSE 8 2 = 2 then 10 else 4) ∧
        t.dev.rd .pwr 0 Off.PWR_BOOT_TIME = BitVec.ofNat 32 (min rep.bootMs 0xFFFF) ∧ 2 ≤ t.dev.fld .mcg 0 Off.MCG_TRAIN_STAT 0 3 ∧
        t.dev.fld .mcg 0 Off.MCG_TRAIN_STAT 0 3 ≤ 6 ∧ (t.dev.fld .mcg 0 Off.MCG_TRAIN_STAT 0 3 = 5 ↔ t.dev.mc.map = none) ∧
        (rep.supported = false → t.dev.fld .mcg 0 Off.MCG_TRAIN_STAT 0 3 = 5 ∧ t.dev.core.installed = 0))

/-- BLT_START, BLT_ABORT, BLT_OP_DONE and BLT_DONE_FENCE (R369 to R371, R379, R380, R383): a start is rejected while an operation runs
(0xD0) and during a transition (0x1A). One that passes counts, applies an armed commit, and runs if its
configuration is legal; an illegal one ends with RESULT 4 and its reason. An abort marks the operation. The end writes the accesses of the operation
and no other byte, and publishes RESULT, ROWS_DONE and BYTES_LAST unless a write still stalls. A done fence stores its eight bytes. -/
def Obligations.BlockOperations : Prop :=
  ∀ (s : State) (r : Requester),
    (∀ e, s.Arrives (.bltStart r) → ((s.dev.blt.op ≠ none ∧ e = 0xD0) ∨
        (s.dev.blt.op = none ∧ s.dev.mode ∈ [4, 5, 6, 7, 8, 10] ∧ s.dev.moving = true ∧ e = 0x1A)) →
      ∃ t, exec (.bltStart r) s = .next t ∧
        t.dev.rd .sys 0 Off.SYS_REJECT_LAST = rejectWord e (Page.blt.slot 0) Off.BLT_CMD r.id ∧
        s.dev.Touches t.dev [(.blt, 0, Off.PAGE_STAT), (.sys, 0, Off.SYS_REJECT_LAST), (.sys, 0, Off.SYS_REJECT_COUNT)] [0]) ∧
    (s.Arrives (.bltStart r) → s.dev.blt.op = none → s.dev.mode ∈ [4, 5, 6, 7, 8, 10] → s.dev.moving = false →
      ∃ t, exec (.bltStart r) s = .next t ∧ t.dev.count .blt 0 = s.dev.count .blt 0 + 1 ∧ t.dev.armOf .blt 0 = none ∧
        t.dev.mem = s.dev.mem ∧ t.dev.fm = s.dev.fm ∧ t.dev.rd .blt 0 Off.BLT_BYTES_LAST = 0 ∧
        (s.dev.armOf .blt 0 = none → s.dev.bltReason = none →
          t.dev.blt = { s.dev.blt with op := some { start := s.dev.now } } ∧ t.dev.bit .blt 0 Off.BLT_BLT_STAT 0 = true) ∧
        (∀ e, s.dev.armOf .blt 0 = none → s.dev.bltReason = some e → t.dev.blt = s.dev.blt ∧
          t.dev.bit .blt 0 Off.BLT_BLT_STAT 0 = false ∧ t.dev.fld .blt 0 Off.BLT_BLT_STAT 1 3 = 4 ∧
          t.dev.rd .blt 0 Off.BLT_BLT_REJECT = BitVec.ofNat 32 e ∧ t.dev.bit .blt 0 Off.PAGE_STAT 9 = true)) ∧
    (s.Arrives (.bltAbort r) → s.dev.blt.op = none → exec (.bltAbort r) s = .next s) ∧
    (∀ o, s.Arrives (.bltAbort r) → s.dev.blt.op = some o → exec (.bltAbort r) s =
      .next { s with dev := { s.dev with blt := { s.dev.blt with op := some { o with abort := true } } } }) ∧
    (∀ full part, s.dev.blt.op = none → exec (.bltOpDone full part) s = .next s) ∧
    (∀ full part o, s.dev.blt.op = some o → ∃ t, exec (.bltOpDone full part) s = .next t ∧ t.dev.fm = s.dev.fm ∧
      (∀ x : Nat, (o.moved = none → ∀ p ∈ (if o.abort then s.dev.bltPieces full part else s.dev.bltPieces s.dev.bltRows.length 0),
        x < p.addr ∨ p.addr + p.bytes.length ≤ x) → readByte t.dev.mem x = readByte s.dev.mem x) ∧
      ((s.dev.bltRun o full part).1.bltStalled = true →
        t.dev.blt = { s.dev.blt with op := some { o with moved := some (s.dev.bltRun o full part).2 } }) ∧
      ((s.dev.bltRun o full part).1.bltStalled = false → t.dev.blt.op = none ∧ t.dev.bit .blt 0 Off.BLT_BLT_STAT 0 = false ∧
        (o.abort = true → t.dev.fld .blt 0 Off.BLT_BLT_STAT 1 3 = 5) ∧
        (o.abort = false → t.dev.fld .blt 0 Off.BLT_BLT_STAT 1 3 ∈ [1, 2, 3]) ∧
        t.dev.rd .blt 0 Off.BLT_ROWS_DONE = BitVec.ofNat 32 (s.dev.bltRun o full part).2.rows ∧
        t.dev.rd .blt 0 Off.BLT_BYTES_LAST = satWord (s.dev.bltRun o full part).2.bytes ∧
        t.dev.rd .blt 0 Off.BLT_TIME_NS = satWord (s.dev.now - o.start))) ∧
    (s.dev.blt.fences = [] → exec .bltDoneFence s = .next s) ∧
    (∀ a v l, s.dev.blt.fences = (a, v, true) :: l → s.dev.bltStalled = true → exec .bltDoneFence s = .next s) ∧
    (∀ a v l, s.dev.blt.fences = (a, v, true) :: l → s.dev.bltStalled = false → ∃ t, exec .bltDoneFence s = .next t ∧
      t.dev.blt.fences = l ∧ s.dev.SameBytes t.dev ∧ (∀ x ∈ t.dev.dropped, x.1 ≠ .blt) ∧
      t.dev.bit .blt 0 Off.PAGE_STAT (if s.dev.dropped.any fun x => x.1 == Requester.blt then 11 else 8) = true) ∧
    (∀ a v l, s.dev.blt.fences = (a, v, false) :: l → ∃ t, exec .bltDoneFence s = .next t ∧ t.dev.fm = s.dev.fm ∧
      ((s.dev.dramWrite .blt a (leBytes 8 v)).2 = .landed → t.dev.blt.fences = l ∧ t.dev.bit .blt 0 Off.PAGE_STAT 8 = true ∧
        readBytes t.dev.mem a 8 = leBytes 8 v ∧ ∀ x, (x < a ∨ a + 8 ≤ x) → readByte t.dev.mem x = readByte s.dev.mem x) ∧
      ((s.dev.dramWrite .blt a (leBytes 8 v)).2 = .stalled → t.dev.blt.fences = (a, v, true) :: l ∧ s.dev.SameBytes t.dev) ∧
      ((s.dev.dramWrite .blt a (leBytes 8 v)).2 ∈ [WriteFate.denied, .outside, .dropped] → t.dev.blt.fences = l ∧ s.dev.SameBytes t.dev ∧
        t.dev.bit .blt 0 Off.PAGE_STAT 11 = true))

/-- ROPE_RETRAIN, ROPE_BRINGUP_RETRY, ROPE_PORT_UP, HELLO_SEND, HELLO, REPLAY, KEEPALIVE_SEND, PORT_DOWN and LINK_DELAY_MEASURE (R387 to R392, R414,
R423): PORT_STAT.STATE reads 0 OFF, 1 TRAINING, 2 UP, 3 INCOMPAT, 4 DOWN, 5 LOW_RATE. A bring-up counts and applies an armed page; it ends UP, or
INCOMPAT where the ends share no version; a HELLO shows the neighbour. A port that does not carry traffic sends nothing, and one that is OFF or
DOWN does not go down again. A retrain of a port that is not enabled is rejected, 0xF2. -/
def Obligations.RopePorts : Prop :=
  ∀ (s : State) (p : Fin 4),
    (∀ r, s.Arrives (.ropeRetrain r p) → s.dev.useB .rpp p.val Off.RPP_PORT_CTRL 0 = false → ∃ t, exec (.ropeRetrain r p) s = .next t ∧
      t.dev.rd .rpg 0 Off.RPG_RG_REJECT = 0xF2 ∧
      t.dev.rd .sys 0 Off.SYS_REJECT_LAST = rejectWord 0xF2 (Page.rpp.slot p.val) Off.RPP_CMD r.id ∧
      s.dev.hush.Touches t.dev [(.rpg, 0, Off.RPG_RG_REJECT), (.rpp, p.val, Off.PAGE_STAT), (.sys, 0, Off.SYS_REJECT_LAST),
        (.sys, 0, Off.SYS_REJECT_COUNT)] [0]) ∧
    ((s.dev.ropeState p.val ≠ 4 ∨ s.dev.useB .rpp p.val Off.RPP_PORT_CTRL 0 = false) → exec (.ropeBringupRetry p) s = .next s) ∧
    (∀ c : Instr, s.dev.useB .rpp p.val Off.RPP_PORT_CTRL 0 = true → (((∃ r, c = .ropeRetrain r p) ∧ s.Arrives c) ∨
        (c = .ropeBringupRetry p ∧ s.dev.ropeState p.val = 4)) → ∃ t, exec c s = .next t ∧
      t.dev.count .rpp p.val = s.dev.count .rpp p.val + 1 ∧ t.dev.armOf .rpp p.val = none ∧ s.dev.SameBytes t.dev ∧
      (s.dev.armOf .rpp p.val = none → t.dev.ropeState p.val = 1) ∧
      (s.dev.armOf .rpp p.val ≠ none → t.dev.ropeState p.val = if bitOf (s.dev.rd .rpp p.val Off.RPP_PORT_CTRL) 0 then 1 else 0)) ∧
    (∀ h delay, s.dev.ropeState p.val ≠ 1 → exec (.ropePortUp p h delay) s = .next { s with dev := s.dev.hush }) ∧
    (∀ h, s.dev.carries p.val = false → s.dev.ropeState p.val ≠ 3 → exec (.hello p h) s = .next s) ∧
    (∀ (c : Instr) (h : Hello) (v : Option Nat), v = commonVersion (s.dev.rd .rpg 0 Off.RPG_PROTO_VER) h.ver →
      (((∃ delay, c = .ropePortUp p h delay) ∧ s.dev.ropeState p.val = 1) ∨
        (c = .hello p h ∧ (s.dev.carries p.val = true ∨ s.dev.ropeState p.val = 3))) → ∃ t, exec c s = .next t ∧
      t.dev.rd .rpp p.val Off.RPP_PEER_VER = h.ver ∧ t.dev.rd .rpp p.val Off.RPP_PEER_CAP = h.caps &&& 0xFF ∧
      t.dev.rd .rpp p.val Off.RPP_PEER_ID = BitVec.ofNat 32 (h.id.toNat + h.port.val * 65536 + 2 ^ 31) ∧ s.dev.SameBytes t.dev ∧
      (v = none → t.dev.ropeState p.val = 3 ∧ (s.dev.ropeState p.val ≠ 3 → t.dev.bit .rpp p.val Off.PAGE_STAT 10 = true)) ∧
      (v ≠ none → s.dev.ropeState p.val = 1 → t.dev.ropeState p.val = 2 ∧ t.dev.bit .rpp p.val Off.PAGE_STAT 8 = true) ∧
      (v ≠ none → s.dev.ropeState p.val ≠ 1 → t.dev.ropeState p.val = s.dev.ropeState p.val)) ∧
    (∀ (c : Instr) (m : RopeMsg), (c = .helloSend p ∧ (s.dev.carries p.val = true ∨ s.dev.ropeState p.val = 3) ∧
        m = .hello (s.dev.ownHello p)) ∨ (c = .keepaliveSend p ∧ s.dev.carries p.val = true ∧ m = .keepalive) →
      exec c s = .next { s with dev := s.dev.onRope fun x => { x with out := [(.port p.val, m)] } }) ∧
    (s.dev.carries p.val = false → exec (.keepaliveSend p) s = .next { s with dev := s.dev.hush } ∧
      (s.dev.ropeState p.val ≠ 3 → exec (.helloSend p) s = .next { s with dev := s.dev.hush }) ∧
      (∀ n u b, exec (.replay p n u b) s = .next { s with dev := s.dev.hush }) ∧
      ∀ delay, exec (.linkDelayMeasure p delay) s = .next s) ∧
    (∀ n u b, s.dev.carries p.val = true → ∃ t, exec (.replay p n u b) s = .next t ∧
      t.dev.rope = { s.dev.rope with out := [(.port p.val, if b then .replay else .replayAsk)] } ∧
      t.dev.rd .rpp p.val Off.RPP_FEC_CORR = satWord ((s.dev.rd .rpp p.val Off.RPP_FEC_CORR).toNat + n) ∧
      t.dev.rd .rpp p.val Off.RPP_REPLAY_COUNT = satWord ((s.dev.rd .rpp p.val Off.RPP_REPLAY_COUNT).toNat + 1) ∧
      t.dev.rd .rpp p.val Off.RPP_FEC_UNCORR = (if u then satWord ((s.dev.rd .rpp p.val Off.RPP_FEC_UNCORR).toNat + 1)
        else s.dev.rd .rpp p.val Off.RPP_FEC_UNCORR) ∧ t.dev.bit .rpp p.val Off.PAGE_STAT 12 = true ∧
      ({ s.dev with rope := t.dev.rope }).Touches t.dev [(.rpp, p.val, Off.RPP_FEC_CORR), (.rpp, p.val, Off.RPP_REPLAY_COUNT),
        (.rpp, p.val, Off.RPP_FEC_UNCORR), (.rpp, p.val, Off.PAGE_STAT)] [787 + 12 * p.val, 788 + 12 * p.val]) ∧
    (∀ delay, s.dev.carries p.val = true → ∃ t, exec (.linkDelayMeasure p delay) s = .next t ∧
      t.dev.rd .rpp p.val Off.RPP_LINK_DELAY = BitVec.ofNat 32 (min delay 0xFFFFF) ∧ s.dev.Touches t.dev [(.rpp, p.val, Off.RPP_LINK_DELAY)] []) ∧
    (∀ left, (s.dev.ropeState p.val = 0 ∨ s.dev.ropeState p.val = 4) → exec (.portDown p left) s = .next { s with dev := s.dev.hush }) ∧
    (∀ left, s.dev.ropeState p.val ≠ 0 → s.dev.ropeState p.val ≠ 4 → ∃ t, exec (.portDown p left) s = .next t ∧
      t.dev.ropeState p.val = 4 ∧ t.dev.rd .rpp p.val Off.RPP_DOWN_COUNT = satWord ((s.dev.rd .rpp p.val Off.RPP_DOWN_COUNT).toNat + 1) ∧
      t.dev.bit .rpp p.val Off.PAGE_STAT 9 = true ∧ s.dev.SameBytes t.dev ∧
      (s.dev.rope.tables = none → t.dev.rope = { s.dev.rope with out := [] }))

/-- CLAIM_RECEIVED, ELECTION_END, ENUMERATE, TEAM_FORMED, MEMBER_JOIN, REROUTE_TABLES, ORPHAN_ELECTION and WAKE_SEND (R393 to R395, R414,
R416, R418): TEAM_STAT.STATE reads 0 OFF, 1 LINKING, 2 ELECTING, 3 ENUMERATING, 4 FORMED, 5 ORPHAN, 6 FULL. A better claim is kept and
flooded, a worse one answered with the better; the winner leads; a formed team's tables stand on every member; an orphan without a candidate reads
ORPHAN; a wake message needs a team, 0xE8. -/
def Obligations.TeamForming : Prop :=
  ∀ (s : State),
    (∀ (p : Fin 4) (c : Claim) (d : Dev), d = (if s.dev.teamState = 0 ∨ s.dev.teamState = 1 ∨ s.dev.teamState = 6 then s.dev.hush.takeRole
        else s.dev.hush) →
      (s.dev.carries p.val = false ∨ d.rope.role = 0 → exec (.claimReceived p c) s = .next { s with dev := d }) ∧
      (s.dev.carries p.val = true → d.rope.role ≠ 0 → (d.rope.best.or d.ownClaim = none ∨
          ∃ b, d.rope.best.or d.ownClaim = some b ∧ c.beats b = true) →
        ∃ t, exec (.claimReceived p c) s = .next t ∧ t.dev.teamState = 2 ∧ t.dev.rope = { d.rope with
          best := some c, electAt := s.dev.now, out := (s.dev.upPorts.filter (· ≠ p.val)).map fun q => (.port q, .claim c) } ∧
          ({ s.dev with rope := t.dev.rope }).Touches t.dev [(.rpg, 0, Off.RPG_TEAM_STAT)] []) ∧
      (∀ b, s.dev.carries p.val = true → d.rope.role ≠ 0 → d.rope.best.or d.ownClaim = some b → c.beats b = false → b ≠ c →
        ∃ t, exec (.claimReceived p c) s = .next t ∧ t.dev.rope.best = some b ∧ t.dev.rope.out = [(.port p.val, .claim b)] ∧
          t.dev.teamState = (if s.dev.teamState = 3 ∨ s.dev.teamState = 4 then s.dev.teamState else 2) ∧
          ({ s.dev with rope := t.dev.rope }).Touches t.dev [(.rpg, 0, Off.RPG_TEAM_STAT)] []) ∧
      (s.dev.carries p.val = true → d.rope.role ≠ 0 → d.rope.best.or d.ownClaim = some c →
        c.beats c = false ∧ exec (.claimReceived p c) s = .next { s with dev := d })) ∧
    (s.dev.teamState ≠ 2 → exec .electionEnd s = .next s) ∧
    (s.dev.teamState = 2 → s.dev.rope.best = none → ∃ t, exec .electionEnd s = .next t ∧ t.dev.teamState = 1 ∧ t.dev.rope.out = []) ∧
    (∀ b, s.dev.teamState = 2 → s.dev.rope.best = some b → ∃ t, exec .electionEnd s = .next t ∧ t.dev.teamState = 3 ∧
      t.dev.rope.leadUnit = some b.unit ∧ t.dev.bit .rpg 0 Off.RPG_TEAM_STAT 3 = (s.dev.ownClaim == some b) ∧
      t.dev.rope.out = (if s.dev.ownClaim = some b then s.dev.upPorts.map fun q => (.port q, .enumerate) else []) ∧ s.dev.SameBytes t.dev) ∧
    (∀ r, s.Arrives (.enumerate r) → s.dev.fld .rpg 0 Off.RPG_TEAM_CTRL 0 2 = 0 → ∃ t, exec (.enumerate r) s = .next t ∧
      t.dev.teamState = 0 ∧ t.dev.teamLead = false ∧ t.dev.rope.tables = none ∧ t.dev.rope.role = 0) ∧
    (∀ r b, s.Arrives (.enumerate r) → s.dev.fld .rpg 0 Off.RPG_TEAM_CTRL 0 2 = 1 → s.dev.rope.best = some b →
      ∃ t, exec (.enumerate r) s = .next t ∧ t.dev.teamState = 3 ∧ t.dev.rope.out = s.dev.upPorts.map (fun q => (.port q, .enumerate)) ∧
        ({ s.dev with rope := t.dev.rope }).Touches t.dev [(.rpg, 0, Off.RPG_TEAM_STAT)] []) ∧
    (∀ r, s.Arrives (.enumerate r) → s.dev.fld .rpg 0 Off.RPG_TEAM_CTRL 0 2 = 2 → s.dev.rope.best = none →
      ∃ t c, exec (.enumerate r) s = .next t ∧ c = { prio := s.dev.fld .rpg 0 Off.RPG_TEAM_CTRL 8 8, unit := s.dev.unitId } ∧
        t.dev.teamState = 2 ∧ t.dev.rope.best = some c ∧ t.dev.rope.out = (s.dev.upPorts.filter (· ≠ 4)).map fun q => (.port q, .claim c)) ∧
    (∀ x, s.dev.teamState ≠ 3 → exec (.teamFormed x) s = .next { s with dev := s.dev.hush }) ∧
    (s.dev.teamState = 3 → ∃ t, exec (.teamFormed .full) s = .next t ∧ t.dev.teamState = 6 ∧
      s.dev.hush.Touches t.dev [(.rpg, 0, Off.RPG_TEAM_STAT)] []) ∧
    (∀ l n, s.dev.teamState = 3 → s.dev.bit .rpg 0 Off.RPG_TEAM_STAT 3 = true → ∃ t, exec (.teamFormed (.leads l n)) s = .next t ∧
      t.dev.teamState = 4 ∧ t.dev.teamLead = true ∧ t.dev.rope.tables = some (leadTables l 0 [] [] n) ∧ t.dev.rope.reserved = [] ∧
      t.dev.bit .rpg 0 Off.PAGE_STAT 8 = true ∧ t.dev.ownId = 0 ∧ s.dev.SameBytes t.dev) ∧
    (∀ x, s.dev.teamState = 3 → s.dev.bit .rpg 0 Off.RPG_TEAM_STAT 3 = false → ∃ t, exec (.teamFormed (.member x)) s = .next t ∧
      t.dev.teamState = 4 ∧ t.dev.teamLead = false ∧ t.dev.rope.tables = some x ∧ t.dev.timingState = 1 ∧ t.dev.ownId = x.id % 16384 ∧
      t.dev.bit .rpg 0 Off.PAGE_STAT 8 = true ∧ (x.conflict = true → t.dev.bit .rpg 0 Off.PAGE_STAT 23 = true) ∧ s.dev.SameBytes t.dev) ∧
    (s.dev.teamState ≠ 4 → ∃ t, exec (.memberJoin .full) s = .next t ∧ t.dev.teamState = 6) ∧
    (∀ x, s.dev.teamLead = true → exec (.memberJoin (.member x)) s = .next { s with dev := s.dev.hush }) ∧
    (∀ l n x, s.dev.teamLead = true → s.dev.rope.tables = some x → l.length ≤ 16384 → ∃ t, exec (.memberJoin (.leads l n)) s = .next t ∧
      t.dev.rope.tables = some (leadTables l x.id x.kept s.dev.rope.reserved n) ∧ t.dev.bit .rpg 0 Off.PAGE_STAT 11 = true ∧
      t.dev.teamState = 4 ∧ s.dev.SameBytes t.dev) ∧
    (∀ x, s.dev.bit .rpg 0 Off.RPG_TEAM_STAT 3 = false → ∃ t, exec (.memberJoin (.member x)) s = .next t ∧ t.dev.teamState = 4 ∧
      t.dev.rope.tables = some x ∧ (s.dev.teamState ≠ 4 → t.dev.timingState = 1) ∧ s.dev.SameBytes t.dev) ∧
    (∀ x, s.dev.rope.tables = none → exec (.rerouteTables x) s = .next { s with dev := s.dev.hush }) ∧
    (∀ l n x, s.dev.bit .rpg 0 Off.RPG_TEAM_STAT 3 = true → s.dev.rope.tables = some x → ∃ t, exec (.rerouteTables (.leads l n)) s = .next t ∧
      t.dev.rope.tables = some (leadTables l x.id x.kept s.dev.rope.reserved n) ∧ t.dev.bit .rpg 0 Off.PAGE_STAT 13 = true ∧
      s.dev.SameBytes t.dev) ∧
    (∀ x y, s.dev.bit .rpg 0 Off.RPG_TEAM_STAT 3 = false → s.dev.rope.tables = some x → ∃ t, exec (.rerouteTables (.member y)) s = .next t ∧
      t.dev.rope.tables = some y ∧ t.dev.teamState = s.dev.teamState ∧ s.dev.SameBytes t.dev) ∧
    (∀ w, s.dev.rope.lostAt = none → exec (.orphanElection w) s = .next s) ∧
    (∀ a, s.dev.rope.lostAt = some a → ∃ t, exec (.orphanElection none) s = .next t ∧ t.dev.teamState = 5 ∧ t.dev.rope.lostAt = none ∧
      s.dev.SameBytes t.dev) ∧
    (∀ a u id, s.dev.rope.lostAt = some a → ∃ t, exec (.orphanElection (some (u, id))) s = .next t ∧ t.dev.rope.lostAt = none ∧
      t.dev.rope.leadUnit = some u ∧ t.dev.bit .rpg 0 Off.RPG_TEAM_STAT 3 = (s.dev.ownClaim.isSome && u == s.dev.unitId) ∧
      t.dev.bit .rpg 0 Off.PAGE_STAT 10 = true ∧ t.dev.teamState = s.dev.teamState ∧ s.dev.SameBytes t.dev) ∧
    (∀ r, s.Arrives (.wakeSend r) → s.dev.teamMember = false → ∃ t, exec (.wakeSend r) s = .next t ∧
      t.dev.rd .rpg 0 Off.RPG_RG_REJECT = 0xE8 ∧
      t.dev.rd .sys 0 Off.SYS_REJECT_LAST = rejectWord 0xE8 (Page.rpg.slot 0) Off.RPG_ENUM_CMD r.id ∧
      s.dev.hush.Touches t.dev [(.rpg, 0, Off.RPG_RG_REJECT), (.rpg, 0, Off.PAGE_STAT), (.sys, 0, Off.SYS_REJECT_LAST),
        (.sys, 0, Off.SYS_REJECT_COUNT)] [0]) ∧
    (∀ r, s.Arrives (.wakeSend r) → s.dev.teamMember = true → s.dev.bit .rpg 0 Off.RPG_WAKE_TARGET 15 = false →
      exec (.wakeSend r) s = .next { s with dev := s.dev.onRope fun x => { x with out := [(.devices [s.dev.fld .rpg 0 Off.RPG_WAKE_TARGET 0 14],
        .wake false (s.dev.fld .rpg 0 Off.RPG_WAKE_TARGET 0 14) (s.dev.fld .rpg 0 Off.RPG_WAKE_TARGET 16 8))] } })

/-- SYNC_SEND, SYNC, TICK, RREG_GO, RREG_REQUEST, RREG_REPLY, RREG_TIMEOUT and CAIRN_FORWARD (R397, R398, R411 to R413): team time and
ticks pass down the timing tree, from the lead and from the timing parent alone. A remote access is rejected while one runs (0xEF), outside a team
(0xE8) and for this device itself (0xF0), waits for its reply, and ends once; the target answers every request, with ASLEEP in BIVOUAC. A record of
this device leaves its queue whether or not the hop takes it. -/
def Obligations.TeamTimeAndRemoteAccess : Prop :=
  ∀ (s : State),
    ((s.dev.teamLead = false ∨ s.dev.rope.tables = none) → exec .syncSend s = .next { s with dev := s.dev.hush }) ∧
    (∀ x, s.dev.teamLead = true → s.dev.rope.tables = some x → exec .syncSend s = .next { s with dev := s.dev.onRope fun y => { y with
      out := (x.children.filter s.dev.carries).map fun q => (.port q, .sync s.dev.teamTime) } }) ∧
    (∀ (p : Fin 4) time err locked tk, s.dev.isParent p.val = false → exec (.sync p time err locked) s = .next { s with dev := s.dev.hush } ∧
      exec (.tick p tk) s = .next { s with dev := s.dev.hush }) ∧
    (∀ (p : Fin 4) time err locked x, s.dev.isParent p.val = true → s.dev.rope.tables = some x → ∃ t, exec (.sync p time err locked) s = .next t ∧
      t.dev.rope = { s.dev.rope with offset := (time : Int) - s.dev.now
                                     out := (x.children.filter s.dev.carries).map fun q => (.port q, .sync time) } ∧
      t.dev.teamTime = time ∧ (locked = true ∨ s.dev.timingState = 2 ∨ s.dev.timingState = 3 → t.dev.timingState = 2) ∧
      ({ s.dev with rope := t.dev.rope }).Touches t.dev [(.rpg, 0, Off.RPG_TIME_ERR), (.rpg, 0, Off.RPG_TIMING_STAT), (.rpg, 0, Off.PAGE_STAT)]
        (flagSource .rpg 0 15).toList) ∧
    (∀ (p : Fin 4) tk x, s.dev.isParent p.val = true → s.dev.rope.tables = some x → ∃ t, exec (.tick p tk) s = .next t ∧
      t.dev.rope = { s.dev.rope with frame := tk.n, out := (x.children.filter s.dev.carries).map fun q => (.port q, .tick tk) } ∧
      (∀ k : Fin 4, s.dev.cadSource k.val = 3 → (t.dev.cad k.val).teamNext = some (((tk.next : Int) - s.dev.rope.offset).toNat, tk.n + 1)) ∧
      (∀ k : Fin 4, s.dev.cadSource k.val ≠ 3 → t.dev.cad k.val = s.dev.cad k.val) ∧ s.dev.SameBytes t.dev) ∧
    (∀ r e, s.Arrives (.rregGo r) → ((s.dev.rope.rregAt ≠ none ∧ e = 0xEF) ∨ (s.dev.rope.rregAt = none ∧ s.dev.teamMember = false ∧ e = 0xE8) ∨
        (s.dev.rope.rregAt = none ∧ s.dev.teamMember = true ∧ s.dev.fld .rpg 0 Off.RPG_RREG_CTRL 0 14 = s.dev.ownId ∧ e = 0xF0)) →
      ∃ t, exec (.rregGo r) s = .next t ∧ t.dev.rd .rpg 0 Off.RPG_RG_REJECT = BitVec.ofNat 32 e ∧
        t.dev.rd .sys 0 Off.SYS_REJECT_LAST = rejectWord e (Page.rpg.slot 0) Off.RPG_RREG_CMD r.id ∧
        s.dev.hush.Touches t.dev [(.rpg, 0, Off.RPG_RG_REJECT), (.rpg, 0, Off.PAGE_STAT), (.sys, 0, Off.SYS_REJECT_LAST),
          (.sys, 0, Off.SYS_REJECT_COUNT)] [0]) ∧
    (∀ r id, s.Arrives (.rregGo r) → s.dev.rope.rregAt = none → s.dev.teamMember = true → id = s.dev.fld .rpg 0 Off.RPG_RREG_CTRL 0 14 →
      id ≠ s.dev.ownId → ∃ t, exec (.rregGo r) s = .next t ∧
        (∀ m, s.dev.member id = some m → m.rreg = true → s.dev.reaches m = true → t.dev.rd .rpg 0 Off.RPG_RREG_STAT = 1 ∧
          t.dev.rope = { s.dev.rope with rregAt := some (id, s.dev.now), out := [(.devices [id], .rregRequest
            (s.dev.fld .rpg 0 Off.RPG_RREG_ADDR 2 22 * 4) (s.dev.bit .rpg 0 Off.RPG_RREG_CTRL 16) (s.dev.rd .rpg 0 Off.RPG_RREG_DATA))] }) ∧
        ((∀ m, s.dev.member id = some m → m.rreg = false ∨ s.dev.reaches m = false) → t.dev.rd .rpg 0 Off.RPG_RREG_STAT = 10 ∧
          t.dev.rope.rregAt = none ∧ t.dev.bit .rpg 0 Off.PAGE_STAT 21 = true) ∧ s.dev.SameBytes t.dev) ∧
    (∀ v n, s.dev.rope.rregAt = none → exec (.rregReply n v) s = .next s ∧ exec .rregTimeout s = .next s) ∧
    (∀ v n x, s.dev.rope.rregAt = some x → ∃ t, exec (.rregReply n v) s = .next t ∧ t.dev.rope.rregAt = none ∧
      t.dev.rd .rpg 0 Off.RPG_RREG_STAT = BitVec.ofNat 32 (2 + n * 4) ∧ t.dev.bit .rpg 0 Off.PAGE_STAT 21 = true ∧
      t.dev.rd .rpg 0 Off.RPG_RREG_DATA = (if n = 0 ∧ s.dev.bit .rpg 0 Off.RPG_RREG_CTRL 16 = false then v
        else s.dev.rd .rpg 0 Off.RPG_RREG_DATA) ∧ s.dev.SameBytes t.dev) ∧
    (∀ x, s.dev.rope.rregAt = some x → ∃ t, exec .rregTimeout s = .next t ∧ t.dev.rope.rregAt = none ∧
      t.dev.rd .rpg 0 Off.RPG_RREG_STAT = 14 ∧ t.dev.bit .rpg 0 Off.PAGE_STAT 21 = true ∧ s.dev.SameBytes t.dev) ∧
    (∀ o a w v, s.dev.core.powerHold = true → exec (.rregRequest o a w v) s = .next { s with dev := s.dev.hush }) ∧
    (∀ o a w v, s.dev.mode = 9 → exec (.rregRequest o a w v) s =
      .next { s with dev := s.dev.onRope fun y => { y with out := [(.devices [o], .rregReply 4 0)] } }) ∧
    (∀ o a v, s.dev.core.powerHold = false → s.dev.mode ≠ 9 → ∃ t u, exec (.rregRequest o a true v) s = .next t ∧
      exec (.rregRequest o a false v) s = .next u ∧
      t.dev.rope.out.getLast? = some (.devices [o], .rregReply (s.dev.hush.deniedAt .remote (a.toNat / 4 * 4) true v).toNat 0) ∧
      u.dev.rope.out.getLast? = some (.devices [o],
        .rregReply (s.dev.hush.deniedAt .remote (a.toNat / 4 * 4) false v).toNat (u.dev.core.resp.headD 0))) ∧
    (∀ b, s.dev.core.forwardQ = [] → exec (.cairnForward (.own b)) s = .next { s with dev := s.dev.hush }) ∧
    (∀ b x, nextForward s.dev.core.forwardQ = some x → ∃ t, exec (.cairnForward (.own b)) s = .next t ∧
      t.dev.core.forwardQ = s.dev.core.forwardQ.erase x ∧ s.dev.SameBytes t.dev ∧
      (b = true → s.dev.teamMember = true → s.dev.fld .rpg 0 Off.RPG_FWD_CTRL 16 14 ≠ s.dev.ownId →
        s.dev.hopHas (s.dev.fld .rpg 0 Off.RPG_FWD_CTRL 16 14) 3 = true → t.dev.rope.out.head? =
          some (.devices [s.dev.fld .rpg 0 Off.RPG_FWD_CTRL 16 14], .record s.dev.ownId (wordBytes (s.dev.teamRec x).words)))) ∧
    (∀ o src n, ∃ t, exec (.cairnForward (.transit o src n false)) s = .next t ∧
      t.dev.rd .rpg 0 Off.RPG_FWD_DROP = satWord ((s.dev.rd .rpg 0 Off.RPG_FWD_DROP).toNat + 1) ∧
      ∃ x ∈ t.dev.rope.drops, x.origin = o ∧ x.source = src ∧ x.last = n) ∧
    (∀ o bs, s.dev.bit .rpg 0 Off.RPG_COLLECT_CTRL 0 = true → o ≠ s.dev.ownId → ∃ t, exec (.cairnForward (.arrive o bs)) s = .next t ∧
      t.dev.rd .rpg 0 Off.RPG_COLLECT_WPTR = s.dev.rd .rpg 0 Off.RPG_COLLECT_WPTR + 1 ∧ t.dev.fm = s.dev.fm) ∧
    (∀ o bs, (s.dev.bit .rpg 0 Off.RPG_COLLECT_CTRL 0 = false ∨ o = s.dev.ownId) →
      exec (.cairnForward (.arrive o bs)) s = .next { s with dev := s.dev.hush })

/-- TC_SEND, TC_REQUEST, TC_ARM, TC_REPLY, TC_ACK_TIMEOUT, TC_CANCEL and TC_OUTCOME (R402 to R406): a send is rejected for no scene or group
(0xEB), outside a team (0xE8), while one is pending (0xEA) and in a transition (0x1A); a member's goes to the lead. The lead answers a
request for a frame that is too near (0xE9) or too far (0x06), queues up to 16, and refuses more (0xEA). A member that receives ARM replies with
its result, and one that cannot arm changes nothing. Replies that are not awaited change nothing. The outcome ends a pending commit. -/
def Obligations.TeamCommits : Prop :=
  ∀ (s : State),
    (∀ r e, s.Arrives (.tcSend r) →
      (((s.dev.fld .rpg 0 Off.RPG_TC_CTRL 0 4 = 0 ∨ s.dev.fld .rpg 0 Off.RPG_TC_CTRL 8 8 = 0) ∧ e = 0xEB) ∨
        (s.dev.fld .rpg 0 Off.RPG_TC_CTRL 0 4 ≠ 0 ∧ s.dev.fld .rpg 0 Off.RPG_TC_CTRL 8 8 ≠ 0 ∧ ((s.dev.teamMember = false ∧ e = 0xE8) ∨
          (s.dev.teamMember = true ∧ ((s.dev.fld .rpg 0 Off.RPG_TC_STAT 0 3 = 1 ∧ e = 0xEA) ∨
            (s.dev.fld .rpg 0 Off.RPG_TC_STAT 0 3 ≠ 1 ∧ s.dev.moving = true ∧ e = 0x1A)))))) →
      ∃ t, exec (.tcSend r) s = .next t ∧ t.dev.rd .rpg 0 Off.RPG_RG_REJECT = BitVec.ofNat 32 e ∧
        t.dev.rd .sys 0 Off.SYS_REJECT_LAST = rejectWord e (Page.rpg.slot 0) Off.RPG_TC_CMD r.id ∧
        s.dev.hush.Touches t.dev [(.rpg, 0, Off.RPG_RG_REJECT), (.rpg, 0, Off.PAGE_STAT), (.sys, 0, Off.SYS_REJECT_LAST),
          (.sys, 0, Off.SYS_REJECT_COUNT)] [0]) ∧
    (∀ r, s.Arrives (.tcSend r) → s.dev.fld .rpg 0 Off.RPG_TC_CTRL 0 4 ≠ 0 → s.dev.fld .rpg 0 Off.RPG_TC_CTRL 8 8 ≠ 0 →
      s.dev.teamMember = true → s.dev.teamLead = false → s.dev.fld .rpg 0 Off.RPG_TC_STAT 0 3 ≠ 1 → s.dev.moving = false →
      ∃ t, exec (.tcSend r) s = .next t ∧ t.dev.rd .rpg 0 Off.RPG_TC_STAT = 1 ∧ t.dev.rope = { s.dev.rope with
        out := [(.devices [s.dev.leadId], .tcRequest {
          origin := s.dev.ownId, scenes := s.dev.fld .rpg 0 Off.RPG_TC_CTRL 0 4, groups := s.dev.fld .rpg 0 Off.RPG_TC_CTRL 8 8
          atomic := s.dev.bit .rpg 0 Off.RPG_TC_CTRL 16
          target := (s.dev.rd .rpg 0 Off.RPG_TC_TARGET_LO).toNat + s.dev.fld .rpg 0 Off.RPG_TC_TARGET_HI 0 16 * 2 ^ 32 })] } ∧
        ({ s.dev with rope := t.dev.rope }).Touches t.dev [(.rpg, 0, Off.RPG_TC_STAT)] []) ∧
    (∀ q, s.dev.teamLead = false → exec (.tcRequest q) s = .next s) ∧
    (∀ q x, s.dev.teamLead = true → s.dev.rope.tcRun = some x → 16 ≤ s.dev.rope.tcQueue.length → q.origin ≠ s.dev.ownId →
      exec (.tcRequest q) s = .next { s with dev := s.dev.onRope fun y => { y with out := [(.devices [q.origin],
        .tcOutcome { state := 3, reason := 0xEA, first := 0, commit := 0, armed := 0, failed := 0 })] } }) ∧
    (∀ q x, s.dev.teamLead = true → s.dev.rope.tcRun = some x → s.dev.rope.tcQueue.length < 16 → x.failed = [] → x.wait ≠ [] →
      exec (.tcRequest q) s = .next { s with dev := s.dev.onRope fun y => { y with out := [], tcQueue := y.tcQueue ++ [q] } }) ∧
    (∀ q, s.dev.teamLead = true → s.dev.rope.tcRun = none → s.dev.rope.tcQueue = [] → q.origin ≠ s.dev.ownId → ∃ t,
      exec (.tcRequest q) s = .next t ∧ s.dev.SameBytes t.dev ∧
      (q.target ≤ (s.dev.cad s.dev.rope.cadScene).frame ∨ s.dev.boundaryIn s.dev.rope.cadScene q.target < s.dev.teamNotice →
        t = { s with dev := s.dev.onRope fun y => { y with out := [(.devices [q.origin],
          .tcOutcome { state := 3, reason := 0xE9, first := 0, commit := 0, armed := 0, failed := 0 })] } }) ∧
      ((s.dev.cad s.dev.rope.cadScene).frame < q.target → s.dev.teamNotice ≤ s.dev.boundaryIn s.dev.rope.cadScene q.target →
        (s.dev.cad s.dev.rope.cadScene).frame + 65535 < q.target →
        t = { s with dev := s.dev.onRope fun y => { y with out := [(.devices [q.origin],
          .tcOutcome { state := 3, reason := 0x06, first := 0, commit := 0, armed := 0, failed := 0 })] } })) ∧
    (∀ n q e, s.dev.hush.tcArmHere n q = .error e → exec (.tcArm n q) s =
      .next { s with dev := s.dev.onRope fun y => { y with out := [(.devices [s.dev.leadId], .tcReply n e)] } }) ∧
    (∀ n q, s.dev.mode = 9 → s.dev.hush.tcArmHere n q = .error 0xF5) ∧
    (∀ n q, s.dev.mode ≠ 9 → s.dev.pairSplit q.scenes = true → s.dev.hush.tcArmHere n q = .error 0x04) ∧
    (∀ n q d, s.dev.hush.tcArmHere n q = .ok d → ∃ t, exec (.tcArm n q) s = .next t ∧
      t.dev.rope.tcArmed = s.dev.rope.tcArmed ++ [(n, q.scenes)] ∧ t.dev.rope.out = [(.devices [s.dev.leadId], .tcReply n 0)] ∧
      s.dev.SameBytes t.dev ∧ s.dev.mode ≠ 9 ∧ s.dev.pairSplit q.scenes = false ∧ ∀ k ∈ s.dev.groupScenes q.scenes, k ∉ s.dev.rope.mismatch) ∧
    (∀ id n e o, (s.dev.rope.tcRun = none ∨ ∃ x, s.dev.rope.tcRun = some x ∧ (x.commit ≠ n ∨ (o = none ∧ id ∉ x.wait) ∨
        (o ≠ none ∧ id ∉ x.acks))) → exec (.tcReply id n e o) s = .next { s with dev := s.dev.hush }) ∧
    (∀ id x, s.dev.rope.tcRun = some x → id ∈ x.wait → x.cancelling = false → x.failed = [] → (∃ y ∈ x.wait, y ≠ id) →
      exec (.tcReply id x.commit 0 none) s = .next { s with dev := s.dev.onRope fun y => { y with
        out := [], tcRun := some { x with wait := x.wait.filter (· ≠ id), armed := x.armed ++ [id] } } }) ∧
    (∀ id x, s.dev.rope.tcRun = some x → id ∈ x.wait → x.cancelling = false → x.failed = [] → x.req.atomic = false → x.acks = [] →
      (∀ y ∈ x.wait, y = id) → s.dev.rope.tcQueue = [] → x.req.origin ≠ s.dev.ownId →
      exec (.tcReply id x.commit 0 none) s = .next { s with dev := s.dev.onRope fun y => { y with
        tcRun := none, out := [(.devices [x.req.origin], .tcOutcome
          { state := 2, reason := 0, first := 0, commit := x.commit, armed := x.armed.length + 1, failed := 0 })] } }) ∧
    (s.dev.rope.tcRun = none → exec .tcAckTimeout s = .next s) ∧
    (∀ x, s.dev.rope.tcRun = some x → x.req.atomic = false → s.dev.rope.tcQueue = [] → x.req.origin ≠ s.dev.ownId → ∃ t o,
      exec .tcAckTimeout s = .next t ∧ t.dev.rope.tcRun = none ∧ t.dev.rope.out = [(.devices [x.req.origin], .tcOutcome o)] ∧
      o.armed = x.armed.length ∧ o.failed = x.failed.length + x.wait.length ∧ o.commit = x.commit ∧
      o.state = (if x.failed = [] ∧ x.wait = [] then 2 else 5) ∧ s.dev.SameBytes t.dev) ∧
    (∀ n, ∃ t ok, exec (.tcCancel n) s = .next t ∧ t.dev.rope.out = [(.devices [s.dev.leadId], .tcAck n ok)] ∧ s.dev.SameBytes t.dev ∧
      t.dev.rope.tcArmed = s.dev.rope.tcArmed.filter (fun x => x.1 != n) ∧
      ((∀ x ∈ s.dev.rope.tcArmed, x.1 ≠ n) → ok = true ∧ t.dev = { s.dev with rope := t.dev.rope })) ∧
    (∀ o, s.dev.fld .rpg 0 Off.RPG_TC_STAT 0 3 ≠ 1 → exec (.tcOutcome o) s = .next s) ∧
    (∀ o, s.dev.fld .rpg 0 Off.RPG_TC_STAT 0 3 = 1 → ∃ t, exec (.tcOutcome o) s = .next t ∧
      t.dev.rd .rpg 0 Off.RPG_TC_STAT = BitVec.ofNat 32 (o.state + o.reason * 256) ∧
      t.dev.rd .rpg 0 Off.RPG_TC_INFO = BitVec.ofNat 32 (o.first % 16384 + o.commit * 65536) ∧
      t.dev.rd .rpg 0 Off.RPG_TC_COUNT = BitVec.ofNat 32 (min o.armed 0xFFFF + min o.failed 0xFFFF * 65536) ∧
      t.dev.bit .rpg 0 Off.PAGE_STAT (if o.state = 2 then 16 else 17) = true ∧
      s.dev.Touches t.dev [(.rpg, 0, Off.RPG_TC_STAT), (.rpg, 0, Off.RPG_TC_INFO), (.rpg, 0, Off.RPG_TC_COUNT), (.rpg, 0, Off.PAGE_STAT)]
        [840, 841])

/-- XFER_START, XFER_ABORT, XFER_SEGMENT, XFER_SEGMENT_TIMEOUT, XFER_ACK and XFER_DEST_FENCE (R407 to R410): a start is rejected while
its channel runs (0xED), outside a team (0xE8), in a transition (0x1A) and for an illegal region (0xEE); one without a destination in reach ends at
once. An abort ends with RESULT 5. A segment's bytes are those its pieces name and no other is written; in BIVOUAC none is, and it is
answered ASLEEP, 6. A destination is given up after eight attempts. The fence follows a complete transfer alone. -/
def Obligations.BulkTransfers : Prop :=
  ∀ (s : State) (r : Requester) (c : Fin 8),
    (∀ e, s.Arrives (.xferStart r c) → s.dev.xferReason c.val (s.dev.xferPlan c.val) = some e →
      e ∈ [0xED, 0xE8, 0x1A, 0xEE] ∧ ∃ t, exec (.xferStart r c) s = .next t ∧ t.dev.rd .rpg 0 Off.RPG_RG_REJECT = BitVec.ofNat 32 e ∧
        t.dev.rd .sys 0 Off.SYS_REJECT_LAST = rejectWord e (Page.rpg.slot 0) (xoff c.val Off.RPG_X_CTRL) r.id ∧
        s.dev.hush.Touches t.dev [(.rpg, 0, Off.RPG_RG_REJECT), (.rpg, 0, Off.PAGE_STAT), (.sys, 0, Off.SYS_REJECT_LAST),
          (.sys, 0, Off.SYS_REJECT_COUNT)] [0]) ∧
    (s.Arrives (.xferStart r c) → s.dev.xferReason c.val (s.dev.xferPlan c.val) = none → ∃ t, exec (.xferStart r c) s = .next t ∧
      s.dev.SameBytes t.dev ∧ t.dev.rd .rpg 0 (xoff c.val Off.RPG_X_BYTES) = 0 ∧
      ((∀ y ∈ (s.dev.xferPlan c.val).dests, y.closed = true) → t.dev.chan c.val = none ∧
        t.dev.rd .rpg 0 (xoff c.val Off.RPG_X_STAT) = BitVec.ofNat 32 ((s.dev.xferPlan c.val).result * 2) ∧
        t.dev.rope = { s.dev.rope with chans := t.dev.rope.chans, out := [] }) ∧
      ((∃ y ∈ (s.dev.xferPlan c.val).dests, y.closed = false) → t.dev.rd .rpg 0 (xoff c.val Off.RPG_X_STAT) = 1 ∧
        ∃ x, t.dev.chan c.val = some x ∧ x.dests = (s.dev.xferPlan c.val).dests ∧ x.index = 0 ∧ x.src = (s.dev.xferPlan c.val).src ∧
          x.dst = (s.dev.xferPlan c.val).dst)) ∧
    (s.Arrives (.xferAbort r c) → s.dev.chan c.val = none → exec (.xferAbort r c) s = .next s) ∧
    (∀ x, s.Arrives (.xferAbort r c) → s.dev.chan c.val = some x → ∃ t, exec (.xferAbort r c) s = .next t ∧ t.dev.chan c.val = none ∧
      t.dev.rd .rpg 0 (xoff c.val Off.RPG_X_STAT) = 10 ∧ t.dev.bit .rpg 0 Off.PAGE_STAT 20 = true ∧
      ({ s.dev with rope := t.dev.rope }).Touches t.dev [(.rpg, 0, xoff c.val Off.RPG_X_STAT), (.rpg, 0, Off.PAGE_STAT)]
        (flagSource .rpg 0 20).toList) ∧
    (∀ x, s.dev.mode = 9 → exec (.xferSegment x) s = .next { s with dev := s.dev.onRope fun y => { y with
      out := [(.devices [x.sender], .segmentAck x.chan.val x.index 6)] } }) ∧
    (∀ x, s.dev.mode ≠ 9 → ∃ t y, exec (.xferSegment x) s = .next t ∧ t.dev.fm = s.dev.fm ∧ y ∈ t.dev.rope.rx ∧ y.sender = x.sender ∧
      y.chan = x.chan.val ∧ y.last = x.last ∧ y.fence = x.fence ∧
      (∀ a, (∀ p ∈ x.pieces, a < p.addr.toNat ∨ p.addr.toNat + p.data.length ≤ a) → readByte t.dev.mem a = readByte s.dev.mem a) ∧
      ((x.last = true ∧ x.fence ≠ none) → t.dev.rope.out = [] ∧ x.index ∈ y.owed)) ∧
    (∀ id, (s.dev.chan c.val = none ∨ ∃ x, s.dev.chan c.val = some x ∧ ∀ y ∈ x.dests, y.id = id → y.closed = true ∨ y.acked = true) →
      exec (.xferSegmentTimeout c id) s = .next { s with dev := s.dev.hush }) ∧
    (∀ id x y, s.dev.chan c.val = some x → x.dests.find? (fun y => y.id == id && !y.closed && !y.acked) = some y → y.attempts < 8 →
      ∃ t z, exec (.xferSegmentTimeout c id) s = .next t ∧ t.dev.chan c.val = some z ∧ s.dev.SameBytes t.dev ∧ z.index = x.index ∧
        z.dests = x.dests.map (fun w => if w.id = id then { w with attempts := w.attempts + 1 } else w)) ∧
    (∀ id x y, s.dev.chan c.val = some x → x.dests.find? (fun y => y.id == id && !y.closed && !y.acked) = some y → 8 ≤ y.attempts →
      (∀ w ∈ x.dests, w.id ≠ id → w.closed = true) → ∃ t, exec (.xferSegmentTimeout c id) s = .next t ∧ t.dev.chan c.val = none ∧
        t.dev.bit .rpg 0 Off.PAGE_STAT 20 = true) ∧
    (∀ id n e, (s.dev.chan c.val = none ∨ ∃ x, s.dev.chan c.val = some x ∧ (x.index ≠ n ∨
        ∀ y ∈ x.dests, y.id = id → y.closed = true ∨ y.acked = true)) → exec (.xferAck c id n e) s = .next { s with dev := s.dev.hush }) ∧
    (∀ id e x, s.dev.chan c.val = some x → (∃ y ∈ x.dests, y.id = id ∧ y.closed = false ∧ y.acked = false) → e ≠ 4 → e ≠ 6 →
      ∃ t, exec (.xferAck c id x.index e) s = .next t ∧ s.dev.SameBytes t.dev ∧ t.dev.rd .rpg 0 (xoff c.val Off.RPG_X_BYTES) = satWord
        ((s.dev.rd .rpg 0 (xoff c.val Off.RPG_X_BYTES)).toNat + min 65536 (x.bytes - x.index * 65536)) ∧
        ((∃ y ∈ x.dests, y.id ≠ id ∧ y.closed = false ∧ y.acked = false) → ∃ z, t.dev.chan c.val = some z ∧ z.index = x.index) ∧
        (x.atLast = true → (∀ y ∈ x.dests, y.id ≠ id → y.closed = true ∨ y.acked = true) → t.dev.chan c.val = none ∧
          t.dev.bit .rpg 0 (xoff c.val Off.RPG_X_STAT) 0 = false)) ∧
    (∀ n, (s.dev.rplStalled = true ∨ ∀ y ∈ s.dev.rope.rx, ¬ (y.sender = n ∧ y.chan = c.val)) →
      exec (.xferDestFence n c) s = .next { s with dev := s.dev.hush }) ∧
    (∀ n y, s.dev.rplStalled = false → s.dev.rope.rx.find? (fun y => y.sender == n && y.chan == c.val) = some y → ∃ t,
      exec (.xferDestFence n c) s = .next t ∧ t.dev.fm = s.dev.fm ∧
      (y.fence = none ∨ y.last = false ∨ y.denied = true → t.dev.mem = s.dev.mem) ∧
      (∀ a v, y.fence = some (a, v) → ∀ x, (x < a.toNat ∨ a.toNat + 8 ≤ x) → readByte t.dev.mem x = readByte s.dev.mem x) ∧
      (∀ a v, y.fence = some (a, v) → y.last = true → y.denied = false → y.issued = false → (∀ z ∈ s.dev.dropped, z.1 ≠ .rpl) →
        (s.dev.dramWrite .rpl a.toNat (leBytes 8 v.toNat)).2 = .landed →
        readBytes t.dev.mem a.toNat 8 = leBytes 8 v.toNat ∧ t.dev.rope.out = y.owed.map fun i => (.devices [n], .segmentAck c.val i y.result)))

/-- INTC_CLAIM, INTF_CLAIM, INTC_COMPLETE and INTF_COMPLETE (R429, R431, R433, R434, R435): a claim takes the lowest claimable source of its
target and class, which is then active and no longer pending, and answers its number with its count; with none it answers 0xFFFF, counts in
EMPTY_COUNT and reopens the gate; a requester that is no target gets 0xFFFF. A COMPLETE of an active source of the writer's target and class clears it and
reopens the gate; any other is rejected, 0x14. INTF serves a function through its own BAR4, or BAR0 under PROT. -/
def Obligations.ClaimAndComplete : Prop :=
  ∀ (s : State) (r : Requester) (c : Instr) (fast : Bool) (p : Page),
    (((c = .intcClaim r ∧ s.Arrives c ∧ fast = false) ∨ (fast = true ∧ s.dev.fnStalled r = false ∧
        ((c = .intfClaim r true ∧ (∃ k, r = .pf k) ∧ s.dev.mode ≠ 0 ∧ servedIn s.dev.mode .intf = true) ∨
          (c = .intfClaim r false ∧ s.Reaches r .intf 0 Off.INTF_CLAIM false 0)))) →
      (r.target = none → exec c s = .next { s with dev := s.dev.answer [0xFFFF] }) ∧
      (∀ t, r.target = some t → s.dev.core.lowest t fast = none → ∃ u, exec c s = .next u ∧ u.dev.core.resp = [0xFFFF] ∧
        u.dev.rd .intc 0 Off.INTC_EMPTY_COUNT = satWord ((s.dev.rd .intc 0 Off.INTC_EMPTY_COUNT).toNat + 1) ∧
        u.dev.core.gateClosed t fast = false ∧ u.dev.core.srcs = s.dev.core.srcs ∧ { s.dev with core := u.dev.core } = u.dev) ∧
      (∀ t j, r.target = some t → s.dev.core.lowest t fast = some j → s.dev.core.claimable t fast j = true ∧
        (∀ k, s.dev.core.claimable t fast k = true → j ≤ k) ∧ ∃ u, exec c s = .next u ∧
        u.dev.core.resp = [claimWord j (s.dev.core.src j).edges] ∧
        u.dev.core.src j = { s.dev.core.src j with pending := false, active := true, edges := 0, t0 := 0 } ∧
        (∀ k, k ≠ j → u.dev.core.src k = s.dev.core.src k) ∧
        { s.dev with core := { s.dev.core with srcs := u.dev.core.srcs, resp := u.dev.core.resp } } = u.dev)) ∧
    (∀ (v : Word) (j : Nat), ((c = .intcComplete r v ∧ s.Arrives c ∧ fast = false ∧ p = .intc) ∨ (fast = true ∧ p = .intf ∧
        s.dev.fnStalled r = false ∧
        ((c = .intfComplete r true v ∧ (∃ k, r = .pf k) ∧ s.dev.mode ≠ 0 ∧ servedIn s.dev.mode .intf = true) ∨
          (c = .intfComplete r false v ∧ s.Reaches r .intf 0 Off.INTF_COMPLETE true v)))) → j = bitsOf v 0 10 →
      ((s.dev.core.src j).active = true → r.target = some (bitsOf (s.dev.core.srcCfg j) 8 8) → bitOf (s.dev.core.srcCfg j) 1 = fast →
        ∃ u, exec c s = .next u ∧ u.dev.core.src j = { s.dev.core.src j with active := false } ∧
          (∀ k, k ≠ j → u.dev.core.src k = s.dev.core.src k) ∧
          u.dev.core.gateClosed (bitsOf (s.dev.core.srcCfg j) 8 8) fast = false ∧
          { s.dev with core := { s.dev.core with srcs := u.dev.core.srcs, gates := u.dev.core.gates, irqLow := u.dev.core.irqLow } } = u.dev) ∧
      (((s.dev.core.src j).active = false ∨ r.target ≠ some (bitsOf (s.dev.core.srcCfg j) 8 8) ∨ bitOf (s.dev.core.srcCfg j) 1 ≠ fast) →
        ∃ u, exec c s = .next u ∧ u.dev.rd .sys 0 Off.SYS_REJECT_LAST = rejectWord 0x14 (p.slot 0) 0x24 r.id ∧
          s.dev.Touches u.dev [(p, 0, Off.PAGE_STAT), (.sys, 0, Off.SYS_REJECT_LAST), (.sys, 0, Off.SYS_REJECT_COUNT)] [0]))

/-- COALESCE_TIMEOUT, GLOBAL_HOLD, DB_RAISE, PEND_CLR, SRC_CFG_WRITE, PROFILE_WRITE, MSIX_BLOCK_END and WAKE_CAUSE (R429 to R432, R436 to R441): what can be
delivered once a coalescing time or a block ends is delivered; a doorbell raises the sources whose bits are set and no other, and PEND_CLR clears
those; a source's configuration is dropped whole for a locked source (0x12), an illegal target (0x10), a core's target by another
requester (0x11) and a target or class change while active (0x13). An enabled wake cause starts the exit from BIVOUAC. -/
def Obligations.SourcesAndDelivery : Prop :=
  ∀ (s : State),
    (∀ k : Fin 1024, (s.dev.core.src k.val).pending = false → exec (.coalesceTimeout k) s = .next s) ∧
    (∀ k : Fin 1024, (s.dev.core.src k.val).pending = true → ∃ t, exec (.coalesceTimeout k) s = .next t ∧
      t.dev.now = (s.dev.advance (s.dev.core.coalesceAt k.val)).now ∧ t.dev.core.regs = s.dev.core.regs ∧ t.dev.core.srcs = s.dev.core.srcs ∧
      { s.dev with core := t.dev.core } = t.dev ∧ ∀ j ∈ targets, ∀ fast, t.dev.core.gateClosed j fast = true ∨ t.dev.core.held fast = true ∨
        t.dev.core.blocked j fast = true ∨ t.dev.core.lowest j fast = none) ∧
    (∀ k : Fin 8, ∃ t, exec (.msixBlockEnd k) s = .next t ∧ t.dev.core.regs = s.dev.core.regs ∧ t.dev.core.srcs = s.dev.core.srcs ∧
      { s.dev with core := t.dev.core } = t.dev ∧ ∀ fast, t.dev.core.gateClosed k.val fast = true ∨ t.dev.core.held fast = true ∨
        t.dev.core.blocked k.val fast = true ∨ t.dev.core.lowest k.val fast = none) ∧
    (∀ r v, s.Arrives (.globalHold r v) → exec (.globalHold r v) s = .next { s with dev := s.dev.wr .intc 0 Off.INTC_GLOBAL_HOLD (v &&& 3) }) ∧
    (∀ r (k : Fin 32) v, s.Arrives (.profileWrite r k v) → exec (.profileWrite r k v) s =
      .next { s with dev := s.dev.wr .intc 0 (Off.INTC_PROFILE + 4 * k.val) (profileClamp v) }) ∧
    (∀ r hi (v : Word) (base : Nat), s.Arrives (.dbRaise r hi v) → base = (if hi then 992 else 960) → ∃ t, exec (.dbRaise r hi v) s = .next t ∧
      (∀ i, i < 32 → bitOf v i = true → (t.dev.core.src (base + i)).pending = true ∧
        (t.dev.core.src (base + i)).edges = (s.dev.core.src (base + i)).edges + 1) ∧
      s.dev.Touches t.dev [] ((bitsSet v.toNat 32).map (base + ·))) ∧
    (∀ r (i : Fin 32) (v : Word), s.Arrives (.pendClr r i v) → ∃ t, exec (.pendClr r i v) s = .next t ∧
      { s.dev with core := { s.dev.core with srcs := t.dev.core.srcs } } = t.dev ∧
      (∀ j, j < 32 → bitOf v j = true → t.dev.core.src (32 * i.val + j) =
        { s.dev.core.src (32 * i.val + j) with pending := false, edges := 0, t0 := 0 }) ∧
      (∀ k, (k < 32 * i.val ∨ 32 * i.val + 32 ≤ k ∨ bitOf v (k - 32 * i.val) = false) → t.dev.core.src k = s.dev.core.src k)) ∧
    (∀ r (k : Fin 1024) (v old : Word), s.Arrives (.srcCfgWrite r k v) → old = s.dev.core.srcCfg k.val →
      (∀ e, ((bitOf old 24 = true ∧ r.isCpu = false ∧ e = 0x12) ∨ ((bitOf old 24 = false ∨ r.isCpu = true) ∧
          ((targetLegal (bitsOf v 8 8) = false ∧ e = 0x10) ∨ (targetLegal (bitsOf v 8 8) = true ∧
            ((0x10 ≤ bitsOf v 8 8 ∧ r.isCpu = false ∧ e = 0x11) ∨ ((bitsOf v 8 8 < 0x10 ∨ r.isCpu = true) ∧ e = 0x13 ∧
              (s.dev.core.src k.val).active = true ∧ (bitsOf v 8 8 ≠ bitsOf old 8 8 ∨ bitOf v 1 ≠ bitOf old 1))))))) →
        ∃ t, exec (.srcCfgWrite r k v) s = .next t ∧ t.dev.rd .sys 0 Off.SYS_REJECT_LAST =
          rejectWord e (Page.isrc.slot (k.val / 64)) (Off.ISRC_SRC_CFG + 4 * (k.val % 64)) r.id ∧
          s.dev.Touches t.dev [(.isrc, k.val / 64, Off.PAGE_STAT), (.sys, 0, Off.SYS_REJECT_LAST), (.sys, 0, Off.SYS_REJECT_COUNT)] [0]) ∧
      ((bitOf old 24 = false ∨ r.isCpu = true) → targetLegal (bitsOf v 8 8) = true → (bitsOf v 8 8 < 0x10 ∨ r.isCpu = true) →
        ((s.dev.core.src k.val).active = false ∨ (bitsOf v 8 8 = bitsOf old 8 8 ∧ bitOf v 1 = bitOf old 1)) →
        ∃ t, exec (.srcCfgWrite r k v) s = .next t ∧ t.dev.core.srcCfg k.val =
          (old &&& ~~~ BitVec.ofNat 32 srcCfgMask) ||| (v &&& BitVec.ofNat 32 srcCfgMask) ∧
          (bitsOf v 16 2 ≠ bitsOf old 16 2 → (t.dev.core.src k.val).used = 0) ∧
          (bitsOf v 16 2 = bitsOf old 16 2 → t.dev.core.srcs = s.dev.core.srcs) ∧
          s.dev.Touches t.dev [(.isrc, k.val / 64, Off.ISRC_SRC_CFG + 4 * (k.val % 64))] [k.val])) ∧
    (∀ (v : BitVec 18) (l : Nat), l = v.toNat &&& 0x3F00F →
      (l &&& (s.dev.rd .intc 0 Off.INTC_WAKE_CTRL).toNat = 0 → exec (.wakeCause v) s = .next s) ∧
      (l &&& (s.dev.rd .intc 0 Off.INTC_WAKE_CTRL).toNat ≠ 0 → s.dev.mode = 9 → s.dev.moving = false → ∃ t, exec (.wakeCause v) s = .next t ∧
        t.dev.power.move = some (.wake s.dev.returnMode) ∧ t.dev.rd .intc 0 Off.INTC_WAKE_STAT = BitVec.ofNat 32 l ∧ s.dev.SameBytes t.dev) ∧
      (l &&& (s.dev.rd .intc 0 Off.INTC_WAKE_CTRL).toNat ≠ 0 → s.dev.mode ≠ 9 → s.dev.power.move = some (.entry false) →
        ∃ t, exec (.wakeCause v) s = .next t ∧ t.dev.power = { s.dev.power with wakeDue := true } ∧
          t.dev.rd .intc 0 Off.INTC_WAKE_STAT = BitVec.ofNat 32 l ∧
          ({ s.dev with power := t.dev.power }).Touches t.dev [(.intc, 0, Off.INTC_WAKE_STAT)] []))

/-- LOG_TOKEN_REFILL, SUPPRESSED_SUMMARY, RPTR_WRITE, SPILL_RPTR_WRITE, WIN_0_READ, SPILL_EN_WRITE and SAT_CLEAR (R446, R448 to R451, R456): a full bucket
or a rate of 0 takes no token; a refill gives one back, and a full bucket ends its episode; a summary covers what was suppressed. A read pointer
beyond its write pointer is rejected, 0x17; the window shows the selected record; spilling into an illegal ring is rejected, 0x16;
saturation clears only when it is latched and its partition is consumed, else 0x15. -/
def Obligations.CairnLog : Prop :=
  ∀ (s : State) (r : Requester),
    (∀ k : Fin 1024, ((s.dev.core.src k.val).used = 0 ∨ s.dev.core.rate k.val = 0) → exec (.logTokenRefill k) s = .next s) ∧
    (∀ k : Fin 1024, (s.dev.core.src k.val).used ≠ 0 → s.dev.core.rate k.val ≠ 0 → ∃ t, exec (.logTokenRefill k) s = .next t ∧
      (t.dev.core.src k.val).used = (s.dev.core.src k.val).used - 1 ∧ { s.dev with core := t.dev.core } = t.dev ∧
      ((s.dev.core.src k.val).used = 1 → (t.dev.core.src k.val).episode = false)) ∧
    (∀ k : Fin 1024, ((s.dev.core.src k.val).episode = false ∨ (s.dev.core.src k.val).supp = 0) →
      exec (.suppressedSummary k) s = .next s) ∧
    (∀ k : Fin 1024, (s.dev.core.src k.val).episode = true → (s.dev.core.src k.val).supp ≠ 0 → ∃ t, exec (.suppressedSummary k) s = .next t ∧
      (t.dev.core.src k.val).supp = 0 ∧ (t.dev.core.src k.val).episode = true ∧ { s.dev with core := t.dev.core } = t.dev) ∧
    (∀ (c : Instr) (off e : Nat), s.Arrives c → ((∃ (q : Fin 3) (v : Word), c = .rptrWrite r q v ∧ off = Off.ELOG_RPTR + 8 * q.val ∧ e = 0x17 ∧
          rptrNew (s.dev.core.wptr q.val) (s.dev.core.rptr q.val) v = none) ∨
        (∃ v, c = .spillRptrWrite r v ∧ off = Off.ELOG_SPILL_RPTR ∧ e = 0x17 ∧
          rptrNew (s.dev.rd .elog 0 Off.ELOG_SPILL_WPTR) (s.dev.rd .elog 0 Off.ELOG_SPILL_RPTR) v = none) ∨
        (∃ v, c = .spillEnWrite r v ∧ off = Off.ELOG_ELOG_CTRL ∧ e = 0x16 ∧ bitOf v 0 = true ∧ s.dev.core.spillLegal = false) ∨
        (c = .satClear r ∧ off = Off.ELOG_ELOG_CMD ∧ e = 0x15 ∧
          (s.dev.bit .elog 0 Off.ELOG_ELOG_STAT 0 = false ∨ s.dev.core.wptr 0 ≠ s.dev.core.rptr 0))) →
      ∃ t, exec c s = .next t ∧ t.dev.rd .sys 0 Off.SYS_REJECT_LAST = rejectWord e (Page.elog.slot 0) off r.id ∧
        s.dev.Touches t.dev [(.sys, 0, Off.SYS_REJECT_LAST), (.sys, 0, Off.SYS_REJECT_COUNT)] [0]) ∧
    (∀ (q : Fin 3) v x, s.Arrives (.rptrWrite r q v) → rptrNew (s.dev.core.wptr q.val) (s.dev.core.rptr q.val) v = some x →
      (x = v ∨ x = s.dev.core.rptr q.val) ∧ exec (.rptrWrite r q v) s =
        .next { s with dev := s.dev.wr .elog 0 (Off.ELOG_RPTR + 8 * q.val) x }) ∧
    (∀ v x, s.Arrives (.spillRptrWrite r v) →
      rptrNew (s.dev.rd .elog 0 Off.ELOG_SPILL_WPTR) (s.dev.rd .elog 0 Off.ELOG_SPILL_RPTR) v = some x →
      exec (.spillRptrWrite r v) s = .next { s with dev := s.dev.wr .elog 0 Off.ELOG_SPILL_RPTR x }) ∧
    (∀ x, s.Arrives (.win0Read r) → x = s.dev.core.windowRec (s.dev.fld .elog 0 Off.ELOG_WIN_SEL 0 14) → ∃ t, exec (.win0Read r) s = .next t ∧
      t.dev.core.resp = [x.time.truncate 32] ∧ (∀ i w, x.words[i]? = some w → t.dev.rd .elog 0 (Off.ELOG_WIN + 4 * i) = w) ∧
      t.dev.core.ring = s.dev.core.ring ∧ s.dev.Touches t.dev [] []) ∧
    (∀ v, s.Arrives (.spillEnWrite r v) → (bitOf v 0 = false ∨ s.dev.core.spillLegal = true) →
      exec (.spillEnWrite r v) s = .next { s with dev := s.dev.wr .elog 0 Off.ELOG_ELOG_CTRL (v &&& 1) }) ∧
    (s.Arrives (.satClear r) → s.dev.bit .elog 0 Off.ELOG_ELOG_STAT 0 = true → s.dev.core.wptr 0 = s.dev.core.rptr 0 →
      ∃ t, exec (.satClear r) s = .next t ∧ t.dev.core.sat = [] ∧ t.dev.bit .elog 0 Off.ELOG_ELOG_STAT 0 = false ∧
        t.dev.core.wptr 0 = s.dev.core.wptr 0 + BitVec.ofNat 32 s.dev.core.sat.length ∧ s.dev.Touches t.dev [] [])

/-- CHECK_REFERENCE_DONE, STALL_WATCHDOG, SAFETY_CORE_WATCHDOG, SUPPLY_SAMPLE, CLOCK_MONITOR_WINDOW, CADENCE_MONITOR_TIMEOUT,
CONFIGURATION_INTEGRITY_CHECK, LUT_INTEGRITY_CHECK, BELAY_ENTRY, BELAY_CLEAR, INJECT_GO, SELFTEST and SELFTEST_DONE (R462, R465, R476, R477, R479, R480, R482,
R486, R487): a detection sets its bit of FAULT_STAT, loads FAULT_INFO and the fault time, and latches the fault; with REPORT it does no more,
with PORT each port of its scope is in Belay, or is due to be if it sends video. A monitor that finds nothing, or whose output is covered, changes
nothing. BELAY_CLEAR is rejected, 0x39, in BELAY or for a port whose fault is latched; an injection is rejected outside TEST or while BUSY, 0x38,
and for a mechanism or unit that does not exist, 0x3A. -/
def Obligations.SafetyMechanisms : Prop :=
  ∀ (s : State) (r : Requester) (k : Fin 4) (p : Fin 8),
    ((s.dev.chk k.val).making = none → ∀ pace, exec (.checkReferenceDone k pace) s = .next s) ∧
    (∀ pace entry frame b start, (s.dev.chk k.val).making = some (entry, frame, b, start) → ∃ t, exec (.checkReferenceDone k pace) s = .next t ∧
      t.dev.rd .schk k.val Off.SCHK_REF_STAT = BitVec.ofNat 32 (frame % 65536) ∧
      t.dev.rd .schk k.val Off.SCHK_CHECK_NS = satWord (s.dev.now - start) ∧ t.dev.rd .bly 0 Off.BLY_CC_PACE = BitVec.ofNat 32 (pace % 65536) ∧
      (t.dev.chk k.val).making = none ∧ (t.dev.chk k.val).last = s.dev.refBlocks k.val frame ∧ (t.dev.ref entry).done = true ∧
      (t.dev.ref entry).blocks = s.dev.refBlocks k.val frame ∧ (∀ j, j ≠ k.val → t.dev.chk j = s.dev.chk j) ∧
      ({ s.dev with chks := t.dev.chks, refs := t.dev.refs }).Touches t.dev
        [(.schk, k.val, Off.SCHK_REF_STAT), (.schk, k.val, Off.SCHK_CHECK_NS), (.bly, 0, Off.BLY_CC_PACE)] []) ∧
    (∀ c, (c = .configurationIntegrityCheck false ∨ (∃ l, c = .lutIntegrityCheck l false) ∨ (∃ q, c = .clockMonitorWindow q false) ∨
        (c = .clockMonitorWindow (some p) true ∧ s.dev.timingCovered p.val = true) ∨
        (c = .cadenceMonitorTimeout k ∧ s.dev.cadenceCovered k.val = true) ∨
        (s.dev.core.powerHold = true ∧ ∃ g v b, c = .supplySample g v b)) → exec c s = .next s) ∧
    (∀ g v, s.dev.core.powerHold = false → ∃ t, exec (.supplySample g v false) s = .next t ∧
      t.dev.rd .pwr 0 Off.PWR_SUPPLY_STAT = BitVec.ofNat 32 g.toNat ∧ t.dev.fld .pwr 0 Off.PWR_VP_STAT 16 16 = v.toNat ∧
      t.dev.fld .pwr 0 Off.PWR_VP_STAT 0 16 = s.dev.fld .pwr 0 Off.PWR_VP_STAT 0 16 ∧
      s.dev.Touches t.dev [(.pwr, 0, Off.PWR_SUPPLY_STAT), (.pwr, 0, Off.PWR_VP_STAT)] []) ∧
    (∀ (c : Instr) (sm scope unit : Nat) (more : List (Page × Nat × Nat)),
      ((c = .stallWatchdog k ∧ (sm, scope, unit) = (11, 1, k.val) ∧ more = []) ∨
        (c = .safetyCoreWatchdog ∧ (sm, scope, unit) = (21, 0, 0) ∧ more = []) ∨
        (c = .clockMonitorWindow none true ∧ (sm, scope, unit) = (15, 0, 0) ∧ more = []) ∨
        (c = .clockMonitorWindow (some p) true ∧ s.dev.timingCovered p.val = false ∧ (sm, scope, unit) = (15, 2, p.val) ∧ more = []) ∨
        (c = .cadenceMonitorTimeout k ∧ s.dev.cadenceCovered k.val = false ∧ (sm, scope, unit) = (18, 1, k.val) ∧ more = []) ∨
        (c = .configurationIntegrityCheck true ∧ (sm, scope, unit) = (7, 0, 0) ∧ more = []) ∨
        (c = .lutIntegrityCheck (.tone k) true ∧ (sm, scope, unit) = (20, 1, k.val) ∧ more = []) ∨
        (c = .lutIntegrityCheck (.adapter p) true ∧ (sm, scope, unit) = (20, 2, p.val) ∧ more = []) ∨
        (∃ g v, c = .supplySample g v true ∧ s.dev.core.powerHold = false ∧ (sm, scope, unit) = (24, 0, 0) ∧
          more = [(.pwr, 0, Off.PWR_SUPPLY_STAT), (.pwr, 0, Off.PWR_VP_STAT)])) →
      ∃ t, exec c s = .next t ∧ t.dev.bit .safe 0 Off.SAFE_FAULT_STAT (sm - 1) = true ∧
        (∀ j, j < 24 → s.dev.bit .safe 0 Off.SAFE_FAULT_STAT j = true → t.dev.bit .safe 0 Off.SAFE_FAULT_STAT j = true) ∧
        t.dev.rd .safe 0 Off.SAFE_FAULT_INFO = BitVec.ofNat 32 (sm + scope * 32 + unit * 256 +
          (if s.dev.fld .safe 0 Off.SAFE_FAULT_STAT 0 24 = 0 then 1 else min 255 (s.dev.fld .safe 0 Off.SAFE_FAULT_INFO 16 8 + 1)) * 65536) ∧
        t.dev.safe.faultAt = s.dev.now ∧ t.dev.safe.latched = s.dev.safe.latched ++ [{ sm := sm, scope := scope, unit := unit }] ∧
        s.dev.SameBytes t.dev ∧
        (s.dev.fld .safe 0 (Off.SAFE_REACT + 4 * (sm - 1)) 0 2 = 0 → ({ s.dev with safe := t.dev.safe }).Touches t.dev
          ((.safe, 0, Off.SAFE_FAULT_STAT) :: (.safe, 0, Off.SAFE_FAULT_INFO) :: (.safe, 0, Off.PAGE_STAT) :: more)
          [63 + sm, 96, 462 + 16 * unit, 463 + 16 * unit]) ∧
        (s.dev.fld .safe 0 (Off.SAFE_REACT + 4 * (sm - 1)) 0 2 = 1 → ∀ q, q < 8 → q ∈ s.dev.scopePorts scope unit →
          t.dev.bit .safe 0 Off.SAFE_BELAY_STAT q = true ∨ (s.dev.sendsVideo q = true ∧ q ∈ t.dev.safe.due))) ∧
    (p.val ∉ s.dev.safe.due → exec (.belayEntry p) s = .next s) ∧
    (p.val ∈ s.dev.safe.due → ∃ t, exec (.belayEntry p) s = .next t ∧ t.dev.bit .safe 0 Off.SAFE_BELAY_STAT p.val = true ∧
      p.val ∉ t.dev.safe.due ∧ p.val ∉ t.dev.safe.clears ∧
      ({ s.dev with safe := t.dev.safe }).Touches t.dev [(.safe, 0, Off.SAFE_BELAY_STAT)] [455 + 16 * p.val]) ∧
    (∀ ports : BitVec 8, s.Arrives (.belayClear r ports) →
      (ports = 0 → exec (.belayClear r ports) s = .next s) ∧
      (ports ≠ 0 → (s.dev.mode = 8 ∨ ∃ q ∈ bitsSet ports.toNat 8, s.dev.faultHolds q = true) → ∃ t, exec (.belayClear r ports) s = .next t ∧
        t.dev.rd .safe 0 Off.SAFE_SAFE_REJECT = 0x39 ∧
        t.dev.rd .sys 0 Off.SYS_REJECT_LAST = rejectWord 0x39 (Page.safe.slot 0) Off.SAFE_BELAY_CLEAR r.id ∧
        s.dev.Touches t.dev [(.safe, 0, Off.SAFE_SAFE_REJECT), (.safe, 0, Off.PAGE_STAT), (.sys, 0, Off.SYS_REJECT_LAST),
          (.sys, 0, Off.SYS_REJECT_COUNT)] [0]) ∧
      (ports ≠ 0 → s.dev.mode ≠ 8 → (∀ q ∈ bitsSet ports.toNat 8, s.dev.faultHolds q = false) → ∃ t, exec (.belayClear r ports) s = .next t ∧
        { s.dev with safe := { s.dev.safe with clears := t.dev.safe.clears, due := t.dev.safe.due } } = t.dev ∧
        ∀ q ∈ bitsSet ports.toNat 8, q ∉ t.dev.safe.due ∧ (s.dev.inBelay q = true → q ∈ t.dev.safe.clears))) ∧
    (∀ (c : Instr) (e sm unit : Nat), s.Arrives c → sm = s.dev.fld .safe 0 Off.SAFE_INJECT_CTRL 0 5 →
        unit = s.dev.fld .safe 0 Off.SAFE_INJECT_CTRL 8 3 → ((((∃ us f, c = .injectGo r us f) ∨ c = .selftest r) ∧ e = 0x38 ∧
          (s.dev.mode ≠ 10 ∨ s.dev.bit .safe 0 Off.SAFE_INJECT_STAT 0 = true)) ∨
        ((∃ us f, c = .injectGo r us f) ∧ e = 0x3A ∧ s.dev.mode = 10 ∧ s.dev.bit .safe 0 Off.SAFE_INJECT_STAT 0 = false ∧
          (sm = 0 ∨ 24 < sm ∨ (sm ∈ [9, 11, 18, 22] ∧ 4 ≤ unit)))) →
      ∃ t, exec c s = .next t ∧ t.dev.rd .safe 0 Off.SAFE_SAFE_REJECT = BitVec.ofNat 32 e ∧
        t.dev.rd .sys 0 Off.SYS_REJECT_LAST = rejectWord e (Page.safe.slot 0) Off.SAFE_INJECT_CMD r.id ∧
        s.dev.Touches t.dev [(.safe, 0, Off.SAFE_SAFE_REJECT), (.safe, 0, Off.PAGE_STAT), (.sys, 0, Off.SYS_REJECT_LAST),
          (.sys, 0, Off.SYS_REJECT_COUNT)] [0, 99]) ∧
    (∀ (us : Nat) (f : Option Bool) (ctl : Word), s.Arrives (.injectGo r us f) → ctl = s.dev.rd .safe 0 Off.SAFE_INJECT_CTRL → s.dev.mode = 10 →
      s.dev.bit .safe 0 Off.SAFE_INJECT_STAT 0 = false → 1 ≤ bitsOf ctl 0 5 → bitsOf ctl 0 5 ≤ 24 →
      (bitsOf ctl 0 5 ∈ [9, 11, 18, 22] → bitsOf ctl 8 3 < 4) → ∃ t, exec (.injectGo r us f) s = .next t ∧
      t.dev.bit .safe 0 Off.SAFE_INJECT_STAT 0 = true ∧
      t.dev.safe = { s.dev.safe with injecting := some { due := s.dev.now + 1000 * us, us := us, sm := bitsOf ctl 0 5, unit := bitsOf ctl 8 3,
                                                         region := bitsOf ctl 12 4, react := !bitOf ctl 16, found := f } } ∧
      ({ s.dev with safe := t.dev.safe }).Touches t.dev [(.safe, 0, Off.SAFE_INJECT_STAT)] []) ∧
    (s.Arrives (.selftest r) → s.dev.mode = 10 → s.dev.bit .safe 0 Off.SAFE_INJECT_STAT 0 = false → ∃ t, exec (.selftest r) s = .next t ∧
      t.dev.bit .safe 0 Off.SAFE_INJECT_STAT 0 = true ∧ t.dev.safe = { s.dev.safe with selftest := true } ∧
      ({ s.dev with safe := t.dev.safe }).Touches t.dev [(.safe, 0, Off.SAFE_INJECT_STAT)] []) ∧
    (∀ v : BitVec 24, s.dev.safe.selftest = false → exec (.selftestDone v) s = .next s) ∧
    (∀ v : BitVec 24, s.dev.safe.selftest = true → ∃ t, exec (.selftestDone v) s = .next t ∧
      t.dev.rd .safe 0 Off.SAFE_SELFTEST_STAT = BitVec.ofNat 32 v.toNat ∧ t.dev.bit .safe 0 Off.SAFE_INJECT_STAT 0 = false ∧
      t.dev.safe.selftest = false ∧ t.dev.fld .safe 0 Off.SAFE_FAULT_STAT 0 24 = s.dev.fld .safe 0 Off.SAFE_FAULT_STAT 0 24 ∧
      t.dev.bit .safe 0 Off.PAGE_STAT 12 = true ∧ t.dev.power = s.dev.power ∧ t.dev.mode = s.dev.mode ∧ s.dev.SameBytes t.dev)

/-- MODE_REQ_READY, MODE_REQ_RUN, MODE_REQ_BIVOUAC, MODE_REQ_TEST and MODE_REQ_SHUTDOWN, BIVOUAC_ENTERED, BIVOUAC_RETURN_DONE and SHUTDOWN_READY (R500 to R502, R511,
R512, R514, R516): a request is rejected while a transition runs, 0x1A, from a mode that the table of R500 bars, 0x19, for failed memory, 0x1B, for
latched faults in BELAY, 0x39, and for armed frames, 0x1C; one for the present mode has no effect; READY, RUN and TEST are entered at once,
RUN as RUN_DEGRADED while DEGRADE is not 0; BIVOUAC and SHUTDOWN start an entry, and a request in BIVOUAC a return. An entry ends only once its
scenes and ports have stopped; then MODE reads BIVOUAC with one entry more, or SHUTDOWN with SHUTDOWN_READY. A return ends in its mode. -/
def Obligations.ModeRequests : Prop :=
  ∀ (s : State) (r : Requester) (c : Instr) (t m : Nat),
    (∀ x, m = s.dev.mode → s.Arrives c →
      (c, t) ∈ [(Instr.modeReqReady r, 4), (.modeReqRun r, 5), (.modeReqBivouac r, 9), (.modeReqTest r, 10), (.modeReqShutdown r, 11)] →
      (((s.dev.moving = true ∨ m = 7) ∧ x = some 0x1A) ∨
        (s.dev.moving = false ∧ ((m < 4 ∨ m = 11 ∨ (m, t) ∈ [(9, 10), (10, 9), (8, 9), (8, 10)]) ∧ x = some 0x19 ∨
          (m, t) ∈ [(4, 5), (4, 10), (10, 5)] ∧ s.dev.memoryFailed = true ∧ x = some 0x1B ∨
          (m, t) ∈ [(8, 4), (8, 5)] ∧ s.dev.fld .safe 0 Off.SAFE_FAULT_STAT 0 24 ≠ 0 ∧ x = some 0x39 ∨
          (m, t) ∈ [(4, 9), (5, 9), (6, 9), (4, 11), (5, 11), (6, 11), (8, 11), (10, 11)] ∧ s.dev.entryBarred = true ∧ x = some 0x1C)) →
        ∀ e, x = some e → ∃ u, exec c s = .next u ∧ u.dev.rd .pwr 0 Off.PWR_PWR_REJECT = BitVec.ofNat 32 e ∧
          u.dev.mode = s.dev.mode ∧ (u.dev.core.src 0).pending = true ∧ (u.dev.core.src 0).seq = (s.dev.core.src 0).seq + 1 ∧
          u.dev.rd .sys 0 Off.SYS_REJECT_LAST = rejectWord e (Page.pwr.slot 0) Off.PWR_MODE_REQ r.id ∧
          s.dev.Touches u.dev [(.pwr, 0, Off.PWR_PWR_REJECT), (.pwr, 0, Off.PAGE_STAT), (.sys, 0, Off.SYS_REJECT_LAST),
            (.sys, 0, Off.SYS_REJECT_COUNT)] [0]) ∧
      (s.dev.moving = false → (m, t) ∈ [(4, 4), (5, 5), (6, 5), (9, 9), (10, 10)] → exec c s = .next s) ∧
      (s.dev.moving = false → s.dev.safe.deviceDue = false →
        ((m, t) ∈ [(5, 4), (6, 4), (5, 10), (6, 10), (10, 4)] ∨ ((m, t) ∈ [(4, 5), (4, 10), (10, 5)] ∧ s.dev.memoryFailed = false) ∨
          ((m, t) ∈ [(8, 4), (8, 5)] ∧ s.dev.fld .safe 0 Off.SAFE_FAULT_STAT 0 24 = 0)) →
        ∃ u, exec c s = .next u ∧ u.dev.mode = (if t = 5 ∧ s.dev.rd .pwr 0 Off.PWR_DEGRADE ≠ 0 then 6 else t) ∧
          u.dev.fld .pwr 0 Off.PWR_MODE 4 4 = m ∧ u.dev.bit .pwr 0 Off.PAGE_STAT 8 = true ∧
          (m = 8 → u.dev.bit .safe 0 Off.SAFE_BELAY_STAT 16 = false) ∧ (m ≠ 8 → u.dev.safe = s.dev.safe ∧
            u.dev.rd .safe 0 Off.SAFE_BELAY_STAT = s.dev.rd .safe 0 Off.SAFE_BELAY_STAT) ∧
          ({ s.dev with safe := u.dev.safe, board := u.dev.board, runSince := u.dev.runSince }).Touches u.dev
            [(.pwr, 0, Off.PWR_MODE), (.pwr, 0, Off.PAGE_STAT), (.safe, 0, Off.SAFE_BELAY_STAT)] [16]) ∧
      (s.dev.moving = false → (m, t) ∈ [(4, 9), (5, 9), (6, 9), (4, 11), (5, 11), (6, 11), (8, 11), (10, 11)] → s.dev.entryBarred = false →
        ∃ u, exec c s = .next u ∧ u.dev.power = { s.dev.power with move := some (.entry (t == 11)), stopping := s.dev.workDone, stopped := []
                                                                   parked := [] } ∧
          u.dev.rd .pwr 0 Off.PWR_MODE_STAT = BitVec.ofNat 32 (1 + 16 * t) ∧
          ({ s.dev with power := u.dev.power }).Touches u.dev [(.pwr, 0, Off.PWR_MODE_STAT)] []) ∧
      (s.dev.moving = false → (m, t) ∈ [(9, 4), (9, 5), (9, 11)] → ∃ u, exec c s = .next u ∧ u.dev.power.move = some (.wake t) ∧
        u.dev.rd .pwr 0 Off.PWR_MODE_STAT = BitVec.ofNat 32 (1 + 16 * t) ∧ u.dev.mode = 9 ∧
        (s.dev.fld .mcg 0 Off.MCG_SR_STAT 0 2 = 2 → u.dev.fld .mcg 0 Off.MCG_SR_STAT 0 2 = 3) ∧ s.dev.SameBytes u.dev)) ∧
    ((s.dev.power.move ≠ some (.entry false) ∨ s.dev.moveStep.entryDone = false) → exec .bivouacEntered s = .next s) ∧
    ((∀ x, s.dev.power.move ≠ some (.wake x)) → exec .bivouacReturnDone s = .next s) ∧
    (∀ f, (s.dev.power.move ≠ some (.entry true) ∨ s.dev.moveStep.entryDone = false) → exec (.shutdownReady f) s = .next s) ∧
    (s.dev.core.powerHold = false → s.dev.power.move = some (.entry false) → s.dev.moveStep.entryDone = true →
      ∃ u, exec .bivouacEntered s = .next u ∧ u.dev.mode = 9 ∧ u.dev.returnMode = s.dev.mode ∧
        u.dev.fld .pwr 0 Off.PWR_BIV_STAT 0 16 = (s.dev.fld .pwr 0 Off.PWR_BIV_STAT 0 16 + 1) % 65536 ∧
        u.dev.power.move = (if s.dev.power.wakeDue = true ∨ s.dev.gpioWake ≠ 0 then some (.wake s.dev.mode) else none) ∧
        (∀ k : Fin 4, (u.dev.cad k.val).going = false) ∧ s.dev.SameBytes u.dev) ∧
    (∀ x, s.dev.mode = 9 → s.dev.power.move = some (.wake x) → ∃ u, exec .bivouacReturnDone s = .next u ∧ s.dev.SameBytes u.dev ∧
      (s.dev.safe.deviceDue = true → u.dev.mode = 8) ∧
      (s.dev.safe.deviceDue = false → x ∈ [4, 5, 6, 10] → u.dev.power.move = none ∧ u.dev.mode =
        if x = 5 ∨ x = 6 then (if s.dev.rd .pwr 0 Off.PWR_DEGRADE = 0 then 5 else 6) else x) ∧
      (x = 11 → u.dev.power.move = some (.entry true))) ∧
    (∀ f, s.dev.core.powerHold = false → s.dev.power.move = some (.entry true) → s.dev.moveStep.entryDone = true →
      ∃ u, exec (.shutdownReady f) s = .next u ∧ u.dev.mode = 11 ∧ u.dev.power.move = none ∧ u.dev.bit .pwr 0 Off.PAGE_STAT 13 = true ∧
        (s.dev.trialOn = true → u.dev.fw.setA = s.dev.fw.setA ∧ u.dev.fw.setB = s.dev.fw.setB) ∧
        (∀ k : Fin 4, (u.dev.cad k.val).going = false) ∧ s.dev.SameBytes u.dev)

/-- POWER_HOLD_RELEASE, SUPPLY_BROWNOUT, PORST, RESET_CMD, WATCHDOG_RESET, THERMAL_SAMPLE, FIRMWARE_LOADED, VP_REQ, VP_SETTLED and VP_RAMP_TIMEOUT
(R503 to R506, R508 to R510, R547, R550): the release samples the straps and starts system PLL 1; a reset leaves POWER_HOLD with its cause, every
other register at its reset value, both memories lost and the boot flash kept; a wrong key is rejected, 0x1F, and 120 °C resets. The
ROM enters BASE_CAMP for a strap, a damaged header, a request or an image missing or too old, and otherwise TRAINING with the image loaded. A
voltage point change moves on at boundaries or, with stopped timing, at once. -/
def Obligations.ResetsAndPower : Prop :=
  ∀ (s : State) (r : Requester),
    (∀ b v, s.dev.core.powerHold = false → exec (.powerHoldRelease b v) s = .next s) ∧
    (∀ b v, s.dev.core.powerHold = true → ∃ t, exec (.powerHoldRelease b v) s = .next t ∧ t.dev.core.powerHold = false ∧
      (s.dev.fld .pwr 0 Off.PWR_MODE 0 4 = 1 → t.dev.mode = 1) ∧ t.dev.fld .pwr 0 Off.PWR_RESET_CAUSE 8 2 = b.val ∧
      t.dev.bit .pwr 0 Off.PWR_RESET_CAUSE 10 = v ∧ t.dev.bit .svc 0 Off.SVC_SVC_STAT 0 = v ∧ t.dev.pllState 9 = 1 ∧ s.dev.SameBytes t.dev) ∧
    (∀ (c : Instr) (all : Nat) (tj : BitVec 12) (k : Fin 16),
      ((∃ cause, (c, cause) ∈ [(Instr.supplyBrownout false, 2), (.porst, 4),
          (.watchdogReset, if s.dev.fld .fwm 0 Off.FWM_FW_STAT 1 3 = 6 then 0x28 else 0x20)] ∧
          all = (if s.dev.core.powerHold then s.dev.fld .pwr 0 Off.PWR_RESET_CAUSE 0 6 ||| cause else cause)) ∨
        (c = .supplyBrownout true ∧ all = 1) ∨
        (∃ v, c = .resetCmd r v ∧ s.Arrives c ∧ bitsOf v 0 8 = 0xB7 ∧ bitOf v 8 = true ∧ all = 8) ∨
        (c = .thermalSample tj k ∧ s.dev.core.powerHold = false ∧ 480 ≤ tj.toInt ∧ all = 0x10)) →
      ∃ t, exec c s = .next t ∧ t.dev.mode = 0 ∧ t.dev.rd .pwr 0 Off.PWR_RESET_CAUSE = BitVec.ofNat 32 all ∧
        (∀ q n o, (q, n, o) ≠ (Page.pwr, 0, Off.PWR_RESET_CAUSE) → n < q.count → o < 4096 → t.dev.rd q n o = State.reset.dev.rd q n o) ∧
        t.dev.fw = s.dev.fw.kept ∧
        { State.reset.dev with core := { State.reset.dev.core with regs := t.dev.core.regs, free := s.dev.core.free }, fw := t.dev.fw } = t.dev) ∧
    (∀ v, s.Arrives (.resetCmd r v) → bitsOf v 0 8 = 0xB7 → bitOf v 8 = false → exec (.resetCmd r v) s = .next s) ∧
    (∀ (c : Instr) (off e : Nat), s.Arrives c →
      ((∃ v, c = .resetCmd r v ∧ bitsOf v 0 8 ≠ 0xB7 ∧ off = Off.PWR_RESET_CMD ∧ e = 0x1F) ∨
        (∃ h, c = .vpReq r h ∧ off = Off.PWR_VP_REQ ∧ ((s.dev.moving = true ∧ e = 0x1D) ∨
          (s.dev.moving = false ∧ s.dev.mode ∉ [4, 5, 6, 10] ∧ e = 0x1E) ∨
          (s.dev.moving = false ∧ s.dev.mode ∈ [4, 5, 6, 10] ∧ s.dev.bit .pwr 0 Off.PWR_VP_STAT 1 = true ∧ e = 0x1D) ∨
          (s.dev.moving = false ∧ s.dev.mode ∈ [4, 5, 6, 10] ∧ s.dev.bit .pwr 0 Off.PWR_VP_STAT 1 = false ∧ h = true ∧ e = 0x1E ∧
            (s.dev.bit .pwr 0 Off.PWR_VP_CTRL 0 = false ∨ s.dev.bit .pwr 0 Off.PWR_DEGRADE 2 = true))))) →
      ∃ t, exec c s = .next t ∧ t.dev.rd .pwr 0 Off.PWR_PWR_REJECT = BitVec.ofNat 32 e ∧
        t.dev.rd .sys 0 Off.SYS_REJECT_LAST = rejectWord e (Page.pwr.slot 0) off r.id ∧
        s.dev.Touches t.dev [(.pwr, 0, Off.PWR_PWR_REJECT), (.pwr, 0, Off.PAGE_STAT), (.sys, 0, Off.SYS_REJECT_LAST),
          (.sys, 0, Off.SYS_REJECT_COUNT)] [0]) ∧
    (∀ h, s.Arrives (.vpReq r h) → s.dev.moving = false → s.dev.mode ∈ [4, 5, 6, 10] → s.dev.bit .pwr 0 Off.PWR_VP_STAT 1 = false →
      (h = true → s.dev.bit .pwr 0 Off.PWR_VP_CTRL 0 = true ∧ s.dev.bit .pwr 0 Off.PWR_DEGRADE 2 = false) →
      (s.dev.bit .pwr 0 Off.PWR_VP_STAT 0 = h → exec (.vpReq r h) s = .next s) ∧
      (s.dev.bit .pwr 0 Off.PWR_VP_STAT 0 ≠ h → ∃ t, exec (.vpReq r h) s = .next t ∧ t.dev.bit .pwr 0 Off.PWR_VP_STAT 1 = true ∧
        t.dev.power = { s.dev.power with vp := some { up := h, step := s.dev.vpStopped.toNat } } ∧
        t.dev.bit .pwr 0 Off.PWR_VP_STAT 0 = (!h && !s.dev.vpStopped) ∧
        (s.dev.vpStopped = true → t.dev.bit .pwr 0 Off.PWR_VP_STAT 2 = h) ∧
        ({ s.dev with power := t.dev.power }).Touches t.dev [(.pwr, 0, Off.PWR_VP_STAT)] [])) ∧
    ((∀ up, s.dev.power.vp ≠ some { up := up, step := 1 }) → exec .vpSettled s = .next s ∧ exec .vpRampTimeout s = .next s) ∧
    (∀ (c : Instr) (up point done : Bool), s.dev.power.vp = some { up := up, step := 1 } →
      ((c = .vpSettled ∧ (up = false ∨ s.dev.vpStopped = true) ∧ point = up ∧ done = true) ∨
        (c = .vpRampTimeout ∧ s.dev.vpStopped = true ∧ point = !up ∧ done = false)) →
      ∃ t, exec c s = .next t ∧ t.dev.power = { s.dev.power with vp := none } ∧ t.dev.bit .pwr 0 Off.PWR_VP_STAT 0 = point ∧
        t.dev.bit .pwr 0 Off.PWR_VP_STAT 1 = false ∧ t.dev.bit .pwr 0 Off.PAGE_STAT (if done then 9 else 10) = true ∧
        t.dev.bit .pwr 0 Off.PWR_VP_STAT 2 = (if done then s.dev.bit .pwr 0 Off.PWR_VP_STAT 2 else !up) ∧
        ({ s.dev with power := t.dev.power }).Touches t.dev [(.pwr, 0, Off.PWR_VP_STAT), (.pwr, 0, Off.PAGE_STAT)] [if done then 17 else 18]) ∧
    (s.dev.power.vp = some { up := true, step := 1 } → s.dev.vpStopped = false → exec .vpSettled s =
      .next { s with dev := { s.dev with power := { s.dev.power with vp := some { up := true, step := 2 } } } }) ∧
    (∀ up, s.dev.power.vp = some { up := up, step := 1 } → s.dev.vpStopped = false → ∃ t, exec .vpRampTimeout s = .next t ∧
      t.dev.power.vp = some { up := up, step := 3 } ∧ t.dev.bit .pwr 0 Off.PWR_VP_STAT 2 = !up ∧
      ({ s.dev with power := t.dev.power }).Touches t.dev [(.pwr, 0, Off.PWR_VP_STAT)] []) ∧
    (∀ tj k, s.dev.core.powerHold = true → exec (.thermalSample tj k) s = .next s) ∧
    (∀ (tj : BitVec 12) (k : Fin 16) (warn cool : Int), s.dev.core.powerHold = false → tj.toInt < 480 →
      warn = 4 * (s.dev.fld .pwr 0 Off.PWR_THERM_CTRL 0 8 : Nat) → cool = warn - 4 * (s.dev.fld .pwr 0 Off.PWR_THERM_CTRL 8 8 : Nat) →
      ∃ t, exec (.thermalSample tj k) s = .next t ∧ t.dev.rd .pwr 0 Off.PWR_TEMP = BitVec.ofNat 32 (tj.toNat + k.val * 65536) ∧
        t.dev.rd .pwr 0 Off.PWR_TEMP_MAX = (if s.dev.power.read = false ∨
          signedOf (s.dev.fld .pwr 0 Off.PWR_TEMP_MAX 0 12) 12 < tj.toInt then BitVec.ofNat 32 (tj.toNat + k.val * 65536)
          else s.dev.rd .pwr 0 Off.PWR_TEMP_MAX) ∧ t.dev.power.read = true ∧
        t.dev.power.hot = (decide (warn ≤ tj.toInt) || (!decide (tj.toInt < cool) && s.dev.power.hot)) ∧
        (warn ≤ tj.toInt → s.dev.power.hot = false → t.dev.bit .pwr 0 Off.PAGE_STAT 11 = true) ∧
        (tj.toInt < cool → s.dev.power.hot = true → t.dev.bit .pwr 0 Off.PWR_DEGRADE 2 = false) ∧ s.dev.SameBytes t.dev) ∧
    (∀ b, s.dev.mode ≠ 1 → exec (.firmwareLoaded b) s = .next s) ∧
    (∀ (b : BootReport) (st : Nat) (m : Option Image), s.dev.mode = 1 → st = s.dev.fw.record.stage →
      m = (if st = 6 then some (imageOf s.dev.fw.staged) else b.active) →
      (∀ e, (s.dev.fld .pwr 0 Off.PWR_RESET_CAUSE 8 2 = 1 ∧ e = 1) ∨ (s.dev.fld .pwr 0 Off.PWR_RESET_CAUSE 8 2 ≠ 1 ∧
          ((b.header = false ∧ e = 2) ∨ (b.header = true ∧ ((s.dev.fw.record.request = true ∧ e = 5) ∨
            (s.dev.fw.record.request = false ∧ (st = 5 → s.dev.fw.record.armed = none ∨ s.dev.fw.record.begun = true) ∧
              ((m = none ∧ e = 3) ∨ ∃ x, m = some x ∧ x.secVer < s.dev.fw.fuses ∧ e = 4)))))) →
        ∃ t, exec (.firmwareLoaded b) s = .next t ∧ t.dev.mode = 2 ∧ t.dev.fld .svc 0 Off.SVC_BOOT_STAT 0 2 = 2 ∧
          t.dev.fld .svc 0 Off.SVC_BOOT_STAT 4 4 = e ∧ t.dev.fw.authority = (e == 5) ∧ t.dev.fw.record.request = false ∧ s.dev.SameBytes t.dev) ∧
      (∀ (x : Image) (trial : Bool), s.dev.fld .pwr 0 Off.PWR_RESET_CAUSE 8 2 ≠ 1 → b.header = true → s.dev.fw.record.request = false →
        ((trial = false ∧ (st = 5 → s.dev.fw.record.armed = none ∨ s.dev.fw.record.begun = true) ∧ m = some x ∧ s.dev.fw.fuses ≤ x.secVer) ∨
          (trial = true ∧ st = 5 ∧ s.dev.fw.record.armed ≠ none ∧ s.dev.fw.record.begun = false ∧ x = imageOf s.dev.fw.staged)) →
        ∃ t, exec (.firmwareLoaded b) s = .next t ∧ t.dev.mode = 3 ∧ t.dev.fw.image = x ∧ t.dev.fld .mcg 0 Off.MCG_TRAIN_STAT 0 3 = 1 ∧
          (trial = true → t.dev.trial = 6) ∧ (∀ k : Fin 4, (t.dev.cad k.val).frame = 0) ∧ s.dev.SameBytes t.dev))

/-- RAKIN_HELLO, STAGE_BEGIN, STAGE_DATA, STAGE_END, RAKIN_ACTIVATE, RAKIN_RESTART_TRIAL, RAKIN_DISCARD, LOG_READ, SETTINGS_READ, SETTINGS_WRITE, ENTER_BASECAMP,
RAKIN_RESET, RAKIN_STATUS, LOAD_CORE and UNKNOWN_OP (R532 to R537, R546, R548): a detached port takes no message; a bad length, a bad CRC, a missing
session, a command that its mode bars and a closed write gate are answered in that order (the order is the model's choice, log entry 23) with
no other effect than the gate's flag; an accepted command has its action and is answered with its status and payload. That an invalid memory
lists nothing is the model's choice (log entry 2). -/
def Obligations.RakinCommands : Prop :=
  ∀ (s : State) (h : RakinHdr) (bs : List (BitVec 8)) (f : Bool) (ans : Nat → Nat → List Word → List Word),
    ans = (fun op e ws => [BitVec.ofNat 32 (op + 0x8000 + e * 65536), h.tag, BitVec.ofNat 32 (4 * ws.length),
      crc32 (ws.flatMap fun w => leBytes 4 w.toNat)] ++ ws) →
    (∀ (c : Instr) (op : Nat) (gated : Bool) (allow : List Nat) (e : Nat),
      (c, op, gated, allow) ∈ [(Instr.rakinHello h bs, 1, false, List.range 16), (.stageBegin h bs f, 2, true, (List.range 16).erase 7),
        (.stageData h bs f, 3, true, (List.range 16).erase 7), (.stageEnd h bs, 4, true, (List.range 16).erase 7),
        (.rakinActivate h bs, 5, true, [4, 5, 6]), (.rakinRestartTrial h bs, 6, true, [4, 5, 6, 10]),
        (.rakinDiscard h bs, 7, true, ((List.range 16).erase 7).erase 2), (.logRead h bs, 8, false, ((List.range 16).erase 1).erase 2),
        (.settingsRead h bs, 9, false, ((List.range 16).erase 1).erase 2), (.settingsWrite h bs f, 0xA, true, [4, 10]),
        (.enterBasecamp h bs, 0xB, true, ((List.range 16).erase 1).erase 2), (.rakinReset h bs, 0xC, true, List.range 16),
        (.rakinStatus h bs, 0xD, false, List.range 16), (.loadCore h bs, 0xE, true, [2, 10])] →
      (s.dev.bit .svc 0 Off.SVC_SVC_STAT 3 = false → exec c s = .next s) ∧
      (s.dev.bit .svc 0 Off.SVC_SVC_STAT 3 = true → e = (if h.length ≠ bs.length ∨ 65536 < bs.length then 3 else if h.crc ≠ crc32 bs then 1
          else if s.dev.bit .svc 0 Off.SVC_SVC_STAT 4 = false ∧ op ≠ 1 then 5
          else if s.dev.mode = 2 ∧ op ∉ [1, 2, 3, 4, 0xC, 0xD, 0xE] then 0x11 else if s.dev.mode ∉ allow then 5 else 0) →
        (e ≠ 0 → exec c s = .next { s with dev := s.dev.answer (ans op e []) }) ∧
        (e = 0 → gated = true → s.dev.writeOk = false → ∃ t, exec c s = .next t ∧ t.dev.core.resp = ans op 4 [] ∧
          t.dev.bit .svc 0 Off.PAGE_STAT 13 = true ∧ s.dev.Touches t.dev [(.svc, 0, Off.PAGE_STAT)] [885]))) ∧
    (∀ op : BitVec 16, (op.toNat ∈ List.range' 1 14 ∨ s.dev.bit .svc 0 Off.SVC_SVC_STAT 3 = false) → exec (.unknownOp op h bs) s = .next s) ∧
    (∀ op : BitVec 16, op.toNat ∉ List.range' 1 14 → s.dev.bit .svc 0 Off.SVC_SVC_STAT 3 = true → exec (.unknownOp op h bs) s =
      .next { s with dev := s.dev.answer (ans op.toNat (if h.length ≠ bs.length ∨ 65536 < bs.length then 3 else if h.crc ≠ crc32 bs then 1
        else 2) []) }) ∧
    (∀ v lo hi, s.dev.RakinTaken 1 h bs false (fun _ => true) → lo = fieldAt bs 0 2 →
      v = min (fieldAt bs 2 2) (s.dev.fld .svc 0 Off.SVC_RAKIN_VER 16 16) → hi = s.dev.fld .svc 0 Off.SVC_RAKIN_VER 0 16 →
      ((v < lo ∨ v < hi) → exec (.rakinHello h bs) s = .next { s with dev := s.dev.answer (ans 1 0x11 []) }) ∧
      (lo ≤ v → hi ≤ v → ∃ t, exec (.rakinHello h bs) s = .next t ∧ t.dev.bit .svc 0 Off.SVC_SVC_STAT 4 = true ∧
        t.dev.core.resp = ans 1 0 [BitVec.ofNat 32 v, 0x8440, BitVec.ofNat 32 s.dev.unitId, BitVec.ofNat 32 (s.dev.unitId / 2 ^ 32),
          BitVec.ofNat 32 s.dev.mode, s.dev.fw.image.version, s.dev.rd .svc 0 Off.SVC_STAGE_VER, BitVec.ofNat 32 s.dev.fw.fuses] ∧
        s.dev.Touches t.dev [(.svc, 0, Off.SVC_SVC_STAT), (.svc, 0, Off.PAGE_STAT)] [882])) ∧
    (∀ (c : Instr) (op e : Nat),
      ((c = .stageBegin h bs f ∧ op = 2 ∧ s.dev.RakinTaken 2 h bs true (allBut [7]) ∧ ((s.dev.stageHeld = true ∧ e = 5) ∨
          (s.dev.stageHeld = false ∧ 12582912 < fieldAt bs 0 4 ∧ e = 0xC))) ∨
        (c = .stageData h bs f ∧ op = 3 ∧ s.dev.RakinTaken 3 h bs true (allBut [7]) ∧
          (((s.dev.stage ≠ 1 ∨ fieldAt bs 0 4 ≠ s.dev.fw.staged.length) ∧ e = 5) ∨ (s.dev.stage = 1 ∧
            fieldAt bs 0 4 = s.dev.fw.staged.length ∧ s.dev.fw.total < s.dev.fw.staged.length + (bs.drop 4).length ∧ e = 0xC))) ∨
        (c = .stageEnd h bs ∧ op = 4 ∧ s.dev.RakinTaken 4 h bs true (allBut [7]) ∧
          (s.dev.stage ≠ 1 ∨ s.dev.fw.staged.length < s.dev.fw.total) ∧ e = 5) ∨
        (c = .rakinRestartTrial h bs ∧ op = 6 ∧ s.dev.RakinTaken 6 h bs true [4, 5, 6, 10].contains ∧ s.dev.restartBarred = true ∧ e = 5) ∨
        (c = .rakinDiscard h bs ∧ op = 7 ∧ s.dev.RakinTaken 7 h bs true (allBut [7, 2]) ∧ s.dev.trialBusy = true ∧ e = 5) ∨
        (c = .logRead h bs ∧ op = 8 ∧ s.dev.RakinTaken 8 h bs false (allBut [1, 2]) ∧ 3 ≤ fieldAt bs 0 4 ∧ e = 6) ∨
        (c = .settingsWrite h bs f ∧ op = 0xA ∧ s.dev.RakinTaken 0xA h bs true [4, 10].contains ∧ s.dev.trialOn = true ∧ e = 5) ∨
        (c = .loadCore h bs ∧ op = 0xE ∧ s.dev.RakinTaken 0xE h bs true [2, 10].contains ∧ ((s.dev.stage ≠ 3 ∧ e = 5) ∨ (s.dev.stage = 3 ∧
          ((imageOf s.dev.fw.staged).comp (fieldAt bs 0 4) = none ∨ 7 < fieldAt bs 0 4) ∧ e = 6)))) →
      exec c s = .next { s with dev := s.dev.answer (ans op e []) }) ∧
    (∀ (c : Instr) (op : Nat), f = false →
      ((c = .stageBegin h bs f ∧ op = 2 ∧ s.dev.RakinTaken 2 h bs true (allBut [7]) ∧ s.dev.stageHeld = false ∧ fieldAt bs 0 4 ≤ 12582912) ∨
        (c = .stageData h bs f ∧ op = 3 ∧ s.dev.RakinTaken 3 h bs true (allBut [7]) ∧ s.dev.stage = 1 ∧
          fieldAt bs 0 4 = s.dev.fw.staged.length ∧ s.dev.fw.staged.length + (bs.drop 4).length ≤ s.dev.fw.total) ∨
        (c = .settingsWrite h bs f ∧ op = 0xA ∧ s.dev.RakinTaken 0xA h bs true [4, 10].contains ∧ s.dev.trialOn = false)) →
      ∃ t, exec c s = .next t ∧ t.dev.core.resp = ans op 0xE [] ∧
        t.dev.rd .svc 0 Off.SVC_FLASH_ERRS = satWord ((s.dev.rd .svc 0 Off.SVC_FLASH_ERRS).toNat + 1) ∧
        t.dev.stage = (if op = 0xA then s.dev.stage else 4) ∧ t.dev.fw.staged = s.dev.fw.staged ∧
        ({ s.dev with fw := t.dev.fw }).Touches t.dev [(.svc, 0, Off.SVC_STAGE_STAT), (.svc, 0, Off.SVC_FLASH_ERRS), (.svc, 0, Off.PAGE_STAT)] [886]) ∧
    (f = true → s.dev.RakinTaken 2 h bs true (allBut [7]) → s.dev.stageHeld = false → fieldAt bs 0 4 ≤ 12582912 →
      ∃ t, exec (.stageBegin h bs f) s = .next t ∧ t.dev.core.resp = ans 2 0 [] ∧ t.dev.stage = 1 ∧ t.dev.fw.staged = [] ∧
        t.dev.fw.total = fieldAt bs 0 4 ∧ t.dev.rd .svc 0 Off.SVC_STAGE_BYTES = 0 ∧ t.dev.fw.image = s.dev.fw.image ∧
        ({ s.dev with fw := t.dev.fw }).Touches t.dev [(.svc, 0, Off.SVC_STAGE_STAT), (.svc, 0, Off.SVC_STAGE_VER), (.svc, 0, Off.SVC_STAGE_BYTES)] []) ∧
    (f = true → s.dev.RakinTaken 3 h bs true (allBut [7]) → s.dev.stage = 1 → fieldAt bs 0 4 = s.dev.fw.staged.length →
      s.dev.fw.staged.length + (bs.drop 4).length ≤ s.dev.fw.total → ∃ t, exec (.stageData h bs f) s = .next t ∧ t.dev.core.resp = ans 3 0 [] ∧
        t.dev.fw = { s.dev.fw with staged := s.dev.fw.staged ++ bs.drop 4 } ∧
        t.dev.rd .svc 0 Off.SVC_STAGE_BYTES = BitVec.ofNat 32 (s.dev.fw.staged.length + (bs.drop 4).length) ∧
        ({ s.dev with fw := t.dev.fw }).Touches t.dev [(.svc, 0, Off.SVC_STAGE_BYTES)] []) ∧
    (s.dev.RakinTaken 4 h bs true (allBut [7]) → s.dev.stage = 1 → s.dev.fw.total ≤ s.dev.fw.staged.length →
      ∃ t, exec (.stageEnd h bs) s = .next t ∧ t.dev.core.resp = [] ∧ t.dev.stage = 2 ∧
        t.dev.fw = { s.dev.fw with ending := some h.tag, record := { s.dev.fw.record with stage := 2 } } ∧
        ({ s.dev with fw := t.dev.fw }).Touches t.dev [(.svc, 0, Off.SVC_STAGE_STAT)] []) ∧
    (s.dev.RakinTaken 5 h bs true [4, 5, 6].contains → (∀ e d, s.dev.actReason = some (e, d) → ∃ t, exec (.rakinActivate h bs) s = .next t ∧
        t.dev.core.resp = ans 5 (if e = 0xF8 then 5 else 0x10) [] ∧ t.dev.rd .fwm 0 Off.FWM_FW_REJECT = BitVec.ofNat 32 (e + d * 256) ∧
        s.dev.Touches t.dev [(.fwm, 0, Off.FWM_FW_REJECT)] []) ∧
      (s.dev.actReason = none → ∃ t, exec (.rakinActivate h bs) s = .next t ∧ t.dev.core.resp = ans 5 0 [] ∧ t.dev.mode = 7 ∧ t.dev.trial = 1 ∧
        t.dev.returnMode = s.dev.mode ∧ t.dev.bit .fwm 0 Off.PAGE_STAT 8 = true ∧ s.dev.SameBytes t.dev)) ∧
    (s.dev.RakinTaken 6 h bs true [4, 5, 6, 10].contains → s.dev.restartBarred = false → ∃ t, exec (.rakinRestartTrial h bs) s = .next t ∧
      t.dev.core.resp = ans 6 0 [] ∧ t.dev.stage = 5 ∧ t.dev.fw.record.armed = some (s.dev.rd .fwm 0 Off.FWM_TRIAL_CTRL) ∧
      ({ s.dev with fw := t.dev.fw }).Touches t.dev [(.svc, 0, Off.SVC_STAGE_STAT)] []) ∧
    (s.dev.RakinTaken 7 h bs true (allBut [7, 2]) → s.dev.trialBusy = false → ∃ t, exec (.rakinDiscard h bs) s = .next t ∧
      t.dev.core.resp = ans 7 0 [] ∧ t.dev.stage = 0 ∧ t.dev.fw.staged = [] ∧ t.dev.fw.record.armed = none ∧ t.dev.fw.image = s.dev.fw.image ∧
      ({ s.dev with fw := t.dev.fw }).Touches t.dev [(.svc, 0, Off.SVC_STAGE_STAT), (.svc, 0, Off.SVC_STAGE_VER)] []) ∧
    (∀ q n, s.dev.RakinTaken 8 h bs false (allBut [1, 2]) → q = fieldAt bs 0 4 → q < 3 →
      n = min 2048 (min (min (partSize q) (s.dev.core.wptr q - s.dev.core.rptr q).toNat) (fieldAt bs 4 4)) →
      ∃ ws, ws.length = 8 * n ∧ (∀ i, i < n → (ws.drop (8 * i)).take 8 =
          (s.dev.core.ringRec (ringSlot q (s.dev.core.rptr q + BitVec.ofNat 32 i))).words) ∧
        exec (.logRead h bs) s = .next { s with dev := s.dev.answer (ans 8 0 ws) }) ∧
    (s.dev.RakinTaken 9 h bs false (allBut [1, 2]) → exec (.settingsRead h bs) s = .next { s with dev := s.dev.answer (ans 9 0
      (match s.dev.fw.inUse with | some x => x.header ++ wordsOf x.body.readBytes | none => [])) }) ∧
    (f = true → s.dev.RakinTaken 0xA h bs true [4, 10].contains → s.dev.trialOn = false → ∃ t, exec (.settingsWrite h bs f) s = .next t ∧
      t.dev.core.resp = ans 0xA 0 [] ∧ t.dev.fw = s.dev.fw.putSettings (.bytes bs) ∧
      ({ s.dev with fw := t.dev.fw }).Touches t.dev [(.svc, 0, Off.PAGE_STAT)] [887]) ∧
    (∀ c op, s.dev.mode ≠ 0 → ((c = .enterBasecamp h bs ∧ op = 0xB ∧ s.dev.RakinTaken 0xB h bs true (allBut [1, 2])) ∨
        (c = .rakinReset h bs ∧ op = 0xC ∧ s.dev.RakinTaken 0xC h bs true (fun _ => true))) → ∃ t, exec c s = .next t ∧
      t.dev.core.resp = ans op 0 [] ∧ t.dev.mode = 0 ∧ t.dev.rd .pwr 0 Off.PWR_RESET_CAUSE = 8 ∧ t.dev.fw.staged = s.dev.fw.staged ∧
      t.dev.fw.record = { s.dev.fw.record with request := op == 0xB || s.dev.fw.record.request } ∧ t.dev.mem = [] ∧ t.dev.fm = []) ∧
    (s.dev.RakinTaken 0xD h bs false (fun _ => true) → exec (.rakinStatus h bs) s = .next { s with dev := s.dev.answer (ans 0xD 0
      [s.dev.rd .svc 0 Off.SVC_STAGE_STAT, s.dev.rd .fwm 0 Off.FWM_FW_STAT, BitVec.ofNat 32 s.dev.mode, s.dev.rd .svc 0 Off.SVC_BOOT_STAT]) }) ∧
    (∀ x running, s.dev.RakinTaken 0xE h bs true [2, 10].contains → s.dev.stage = 3 → (imageOf s.dev.fw.staged).comp (fieldAt bs 0 4) = some x →
      fieldAt bs 0 4 ≤ 7 → running = (if s.dev.mode = 2 then s.dev.fw.loaded else
        (s.dev.fw.image.comps.filter fun y => !(s.dev.fw.loaded.any fun n => n.number == y.number)) ++ s.dev.fw.loaded) →
      ∃ t, exec (.loadCore h bs) s = .next t ∧ { s.dev with core := { s.dev.core with resp := t.dev.core.resp }, fw := t.dev.fw } = t.dev ∧
        ((((imageOf s.dev.fw.staged).needs.filter fun n => n.core == fieldAt bs 0 4).all (·.holds running)) = false →
          t.dev.fw = s.dev.fw ∧ t.dev.core.resp = ans 0xE 0x10 []) ∧
        ((((imageOf s.dev.fw.staged).needs.filter fun n => n.core == fieldAt bs 0 4).all (·.holds running)) = true →
          t.dev.fw = { s.dev.fw with loaded := (s.dev.fw.loaded.filter fun y => y.number != x.number) ++ [x] } ∧
            t.dev.core.resp = ans 0xE 0 []))

/-- ACTIVATE, STANDBY_BANK_LOADED, APPROVE, REJECT, RESTART_TRIAL, DISCARD, TRIAL_CTRL_WRITE, SELF_CHECK_PASS, CONFIRM, HEALTH_FAIL, TRIAL_EXPIRING,
TRIAL_WINDOW_EXPIRY, UNRESPONSIVE and FALLBACK_STATE_SAVED (R538, R539, R541 to R545, R552): an activation is rejected with ACT_STATE or ACT_COMPAT, or enters
HANDOVER; a bundle that fails its checks abandons it, and one that passes runs on trial. A trial falls back for each of four causes, a restart
trial by a reset; CONFIRM belongs to CPU, 0xFB, outside a trial is rejected, 0xFA, waits for SELF_OK and APPROVED, and else advances the fuses.
The saved state brings the old image back and marks the bundle REJECTED. That an invalid memory
lists nothing is the model's choice (log entry 2). -/
def Obligations.ActivationAndTrials : Prop :=
  ∀ (s : State) (r : Requester),
    (∀ (c : Instr) (off e d : Nat), s.Arrives c →
      ((c = .activate r ∧ off = Off.FWM_FW_CMD ∧ s.dev.actReason = some (e, d)) ∨
        (c = .approve r ∧ off = Off.FWM_FW_CMD ∧ s.dev.trialOn = false ∧ e = 0xFA ∧ d = 0) ∨
        (c = .rejectTrial r ∧ off = Off.FWM_FW_CMD ∧ s.dev.trialOn = false ∧ e = 0xFA ∧ d = 0) ∨
        (c = .restartTrial r ∧ off = Off.FWM_FW_CMD ∧ (s.dev.stage ≠ 3 ∨ s.dev.trial ∈ [1, 2, 4, 6]) ∧ e = 0xF8 ∧ d = 0) ∨
        (c = .discard r ∧ off = Off.FWM_FW_CMD ∧ s.dev.trial ∈ [1, 2, 4, 6] ∧ e = 0xF8 ∧ d = 0) ∨
        ((c = .confirm r ∨ c = .healthFail r) ∧ off = Off.FWM_HEALTH_CONFIRM ∧ d = 0 ∧
          ((r.isCpu = false ∧ e = 0xFB) ∨ (r.isCpu = true ∧ s.dev.trialOn = false ∧ e = 0xFA)))) →
      ∃ t, exec c s = .next t ∧ t.dev.rd .fwm 0 Off.FWM_FW_REJECT = BitVec.ofNat 32 (e + d * 256) ∧
        t.dev.rd .sys 0 Off.SYS_REJECT_LAST = rejectWord e (Page.fwm.slot 0) off r.id ∧
        s.dev.Touches t.dev [(.fwm, 0, Off.FWM_FW_REJECT), (.fwm, 0, Off.PAGE_STAT), (.sys, 0, Off.SYS_REJECT_LAST),
          (.sys, 0, Off.SYS_REJECT_COUNT)] [0]) ∧
    ((s.dev.mode ∉ [4, 5, 6] ∨ s.dev.moving = true ∨ s.dev.stage ≠ 3 ∨ s.dev.trial ∉ [0, 3, 5]) ↔ s.dev.actReason = some (0xF8, 0)) ∧
    (∀ e d, s.dev.actReason = some (e, d) → e ≠ 0xF8 → e = 0xF9 ∧ 1 ≤ d ∧ d ≤ 4) ∧
    (s.Arrives (.activate r) → s.dev.actReason = none → ∃ t, exec (.activate r) s = .next t ∧ t.dev.mode = 7 ∧ t.dev.trial = 1 ∧
      t.dev.returnMode = s.dev.mode ∧ t.dev.bit .fwm 0 Off.PAGE_STAT 8 = true ∧ t.dev.fw =
        { s.dev.fw with hand := some { back := false, since := s.dev.now, former := s.dev.trial, home := some s.dev.mode } } ∧ s.dev.SameBytes t.dev) ∧
    (∀ f, (∀ h, s.dev.fw.hand = some h → h.back = true ∨ h.loading = false) → exec (.standbyBankLoaded f) s = .next s) ∧
    (∀ (f : Bool) (h : Handover) (m st : Nat), s.dev.fw.hand = some h → h.back = false → h.loading = true → h.switched = false → h.home = some m →
      m ∈ [4, 5, 6] → s.dev.mode = 7 → s.dev.safe.deviceDue = false → st = (if f then s.dev.bundleStatus s.dev.fw.staged else 0xE) →
      (st ≠ 0 → ∃ t, exec (.standbyBankLoaded f) s = .next t ∧ t.dev.fw.hand = none ∧ t.dev.trial = h.former % 8 ∧
        t.dev.rd .svc 0 Off.SVC_STAGE_STAT = BitVec.ofNat 32 (4 + st * 256) ∧ t.dev.fw.image = s.dev.fw.image ∧
        t.dev.mode = (if m = 4 then 4 else if s.dev.rd .pwr 0 Off.PWR_DEGRADE = 0 then 5 else 6) ∧
        t.dev.bit .fwm 0 Off.PAGE_STAT 13 = true ∧ s.dev.SameBytes t.dev) ∧
      (st = 0 → s.dev.runScenes ≠ [] → exec (.standbyBankLoaded f) s = .next { s with dev := { s.dev with
        fw := { s.dev.fw with hand := some { h with loading := false } } } }) ∧
      (st = 0 → s.dev.runScenes = [] → ∃ t, exec (.standbyBankLoaded f) s = .next t ∧ t.dev.fw.hand = none ∧ t.dev.trial = 2 ∧ t.dev.stage = 5 ∧
        t.dev.fw.image = imageOf s.dev.fw.staged ∧ t.dev.fw.other = some s.dev.fw.image ∧ t.dev.fw.trialAt = s.dev.now ∧
        t.dev.rd .fwm 0 Off.FWM_IMAGE_VER = (imageOf s.dev.fw.staged).version ∧ t.dev.bit .fwm 0 Off.PAGE_STAT 9 = true ∧
        t.dev.mode = (if m = 4 then 4 else if s.dev.rd .pwr 0 Off.PWR_DEGRADE = 0 then 5 else 6) ∧ s.dev.SameBytes t.dev)) ∧
    (s.Arrives (.approve r) → s.dev.trialOn = true → s.dev.trialExpired = false → ∃ t, exec (.approve r) s = .next t ∧
      t.dev.bit .fwm 0 Off.FWM_FW_STAT 5 = true ∧ t.dev.trial = s.dev.trial ∧ s.dev.Touches t.dev [(.fwm, 0, Off.FWM_FW_STAT)] []) ∧
    (s.Arrives (.restartTrial r) → s.dev.stage = 3 → s.dev.trial ∉ [1, 2, 4, 6] → ∃ t, exec (.restartTrial r) s = .next t ∧ t.dev.stage = 5 ∧
      t.dev.fw = { s.dev.fw with record := { s.dev.fw.record with stage := 5, armed := some (s.dev.rd .fwm 0 Off.FWM_TRIAL_CTRL)
                                                                  begun := false } } ∧
      ({ s.dev with fw := t.dev.fw }).Touches t.dev [(.svc, 0, Off.SVC_STAGE_STAT)] []) ∧
    (s.Arrives (.discard r) → s.dev.trial ∉ [1, 2, 4, 6] → ∃ t, exec (.discard r) s = .next t ∧ t.dev.stage = 0 ∧ t.dev.fw =
      { s.dev.fw with staged := [], record := { s.dev.fw.record with stage := 0, armed := none, begun := false } } ∧
      ({ s.dev with fw := t.dev.fw }).Touches t.dev [(.svc, 0, Off.SVC_STAGE_STAT), (.svc, 0, Off.SVC_STAGE_VER)] []) ∧
    (∀ v w, s.Arrives (.trialCtrlWrite r v) → w = putBits (v &&& 0x1FFFF) 0 16 (max 10 (bitsOf v 0 16)) →
      (s.dev.trialOn = false → exec (.trialCtrlWrite r v) s = .next { s with dev := s.dev.wr .fwm 0 Off.FWM_TRIAL_CTRL w }) ∧
      (s.dev.trialOn = true → s.dev.trialTime < bitsOf w 0 16 * 1000000000 → ∃ t, exec (.trialCtrlWrite r v) s = .next t ∧
        t.dev.rd .fwm 0 Off.FWM_TRIAL_CTRL = w ∧ t.dev.fw = { s.dev.fw with expiring := t.dev.fw.expiring } ∧
        (s.dev.fw.expiring = false → t.dev.fw.expiring = false) ∧
        ({ s.dev with fw := t.dev.fw }).Touches t.dev [(.fwm, 0, Off.FWM_TRIAL_CTRL)] [])) ∧
    (s.dev.trialOn = false → exec .selfCheckPass s = .next s) ∧
    (s.dev.trialOn = true → ∃ t, exec .selfCheckPass s = .next t ∧ t.dev.bit .fwm 0 Off.FWM_FW_STAT 4 = true ∧ t.dev.trial = s.dev.trial ∧
      s.dev.Touches t.dev [(.fwm, 0, Off.FWM_FW_STAT)] []) ∧
    (s.Arrives (.confirm r) → r.isCpu = true → s.dev.trialOn = true → s.dev.trialExpired = false →
      ((s.dev.bit .fwm 0 Off.FWM_FW_STAT 4 = false ∨ (s.dev.bit .fwm 0 Off.FWM_TRIAL_CTRL 16 = true ∧ s.dev.bit .fwm 0 Off.FWM_FW_STAT 5 = false)) →
        exec (.confirm r) s = .next s) ∧
      (s.dev.bit .fwm 0 Off.FWM_FW_STAT 4 = true → (s.dev.bit .fwm 0 Off.FWM_TRIAL_CTRL 16 = true → s.dev.bit .fwm 0 Off.FWM_FW_STAT 5 = true) →
        ∃ t, exec (.confirm r) s = .next t ∧ t.dev.trial = 3 ∧ t.dev.stage = 6 ∧ t.dev.fw.fuses = max s.dev.fw.fuses s.dev.fw.image.secVer ∧
          t.dev.fw.revoked = (if s.dev.fw.image.revokeLower then s.dev.fw.revoked ||| BitVec.ofNat 3 (2 ^ s.dev.fw.image.keySlot - 1)
            else s.dev.fw.revoked) ∧ t.dev.fw.record.armed = none ∧ t.dev.fw.image = s.dev.fw.image ∧
          t.dev.bit .fwm 0 Off.FWM_FW_STAT 0 = (s.dev.bit .fwm 0 Off.FWM_FW_STAT 0 != (s.dev.trial == 2)) ∧
          t.dev.bit .fwm 0 Off.PAGE_STAT 10 = true ∧ ({ s.dev with fw := t.dev.fw }).Touches t.dev [(.svc, 0, Off.SVC_STAGE_STAT),
            (.fwm, 0, Off.FWM_IMAGE_VER), (.fwm, 0, Off.FWM_SEC_STAT), (.fwm, 0, Off.FWM_FW_STAT), (.fwm, 0, Off.PAGE_STAT)] [34])) ∧
    ((s.dev.trialOn = false ∨ s.dev.mode = 9) → exec .trialWindowExpiry s = .next s ∧ exec .unresponsive s = .next s) ∧
    ((s.dev.trialOn = false ∨ s.dev.mode = 9 ∨ s.dev.fw.expiring = true ∨ s.dev.trialWindow < 60000000000) → exec .trialExpiring s = .next s) ∧
    (s.dev.trialOn = true → s.dev.mode ≠ 9 → s.dev.fw.expiring = false → 60000000000 ≤ s.dev.trialWindow → ∃ t, exec .trialExpiring s = .next t ∧
      t.dev.fw = { s.dev.fw with expiring := true } ∧ t.dev.now = (s.dev.advance (s.dev.trialInstant 60000000000)).now ∧
      t.dev.bit .fwm 0 Off.PAGE_STAT 12 = true ∧ { s.dev with core := t.dev.core, fw := t.dev.fw } = t.dev) ∧
    (∀ (c : Instr) (cause at_ : Nat), s.dev.mode ≠ 0 → s.dev.trialOn = true →
      ((c = .rejectTrial r ∧ s.Arrives c ∧ cause = 2 ∧ at_ = s.dev.now) ∨ (c = .healthFail r ∧ s.Arrives c ∧ r.isCpu = true ∧ cause = 3 ∧ at_ = s.dev.now) ∨
        (c = .unresponsive ∧ s.dev.mode ≠ 9 ∧ cause = 4 ∧ at_ = s.dev.now) ∨
        (c = .trialWindowExpiry ∧ s.dev.mode ≠ 9 ∧ cause = 1 ∧ at_ = (s.dev.advance (s.dev.trialInstant 0)).now) ∨
        (s.Arrives c ∧ s.dev.trialExpired = true ∧ cause = 1 ∧ at_ = s.dev.now ∧ (c = .approve r ∨ (c = .confirm r ∧ r.isCpu = true))) ∨
        (∃ v, c = .trialCtrlWrite r v ∧ s.Arrives c ∧ cause = 1 ∧ at_ = s.dev.now ∧ max 10 (bitsOf v 0 16) * 1000000000 ≤ s.dev.trialTime)) →
      ∃ t, exec c s = .next t ∧
        (s.dev.trial = 6 → t.dev.mode = 0 ∧ t.dev.rd .pwr 0 Off.PWR_RESET_CAUSE = 8 ∧ t.dev.fw.record = { s.dev.fw.record with cause := cause } ∧
          t.dev.mem = [] ∧ t.dev.fm = []) ∧
        (s.dev.trial = 2 → t.dev.trial = 4 ∧ t.dev.rd .fwm 0 Off.FWM_FALLBACK_INFO = BitVec.ofNat 32 cause ∧ t.dev.fw =
          { s.dev.fw with hand := some { back := true, since := at_, former := 2, home := (if s.dev.moving = true ∨ s.dev.mode = 9 then none else some s.dev.mode) } } ∧
          t.dev.mode = (if s.dev.moving = true ∨ s.dev.mode = 9 then s.dev.mode else 7) ∧ s.dev.SameBytes t.dev)) ∧
    (∀ f, (∀ h, s.dev.fw.hand = some h → h.back = false ∨ h.loading = false) → exec (.fallbackStateSaved f) s = .next s) ∧
    (∀ (f : Bool) (h : Handover), s.dev.fw.hand = some h → h.back = true → h.loading = true → ∃ t, exec (.fallbackStateSaved f) s = .next t ∧
      t.dev.bit .fwm 0 Off.FWM_FALLBACK_INFO 4 = !f ∧ t.dev.fw.image = s.dev.fw.other.getD s.dev.fw.image ∧ s.dev.SameBytes t.dev ∧
      (s.dev.runScenes ≠ [] → t.dev.fw.hand = some { h with loading := false, switched := true, left := s.dev.runScenes.map fun k => (k, 0) } ∧
        t.dev.mode = s.dev.mode) ∧
      (s.dev.runScenes = [] → t.dev.fw.hand = none ∧ t.dev.fw.other = none ∧ t.dev.trial = 5 ∧ t.dev.stage = 7 ∧
        t.dev.fw.falls = { time := s.dev.now, cause := s.dev.fld .fwm 0 Off.FWM_FALLBACK_INFO 0 4
                           version := (imageOf s.dev.fw.staged).version } :: s.dev.fw.falls.take 7 ∧
        t.dev.bit .fwm 0 Off.PAGE_STAT 11 = true))

/-- GET_INFO, SAVE_SETTINGS, LOAD_DEFAULTS, SETTINGS_INFO, SET_POWERON_FRAME, STAGED_INFO, FALLBACK_LOG, UNKNOWN_FUNC, MBX_DONE, STAGE_VERIFY_DONE, DFU_DNLOAD,
BASE_CAMP_COPY_DONE, SVC_CTRL_WRITE, ATTACH and DETACH (R532, R534, R537, R550, R551, R553 to R555, R577): the mailbox answers the request it holds and no other; a
trial bars saving, status 3; MBX_DONE shows the answer in MBX_RSP with DONE. Verification ends VALID or INVALID with its error. Base camp writes a
block unless writing is locked, and its copy ends in a reset. SVC_CTRL.ENABLE belongs to PF0, 0xFB; a lost VBUS ends the session. That an invalid memory
lists nothing is the model's choice (log entry 2). -/
def Obligations.MailboxAndService : Prop :=
  ∀ (s : State) (r : Requester) (f : Bool),
    (∀ c n, (c, n) ∈ [(Instr.getInfo, 1), (.saveSettings f, 2), (.loadDefaults f, 3), (.settingsInfo, 4), (.setPoweronFrame, 5), (.stagedInfo, 6),
      (.fallbackLog, 7)] → ¬ s.dev.Asked n → exec c s = .next s) ∧
    ((∀ n, (n = 0 ∨ 7 < n) → ¬ s.dev.Asked n) → exec .unknownFunc s = .next s) ∧
    (∀ (c : Instr) (m : Mbx) (st : Nat) (ws : List Word), s.dev.fw.mbx = some m → s.dev.Asked m.func →
      ((c = .getInfo ∧ m.func = 1 ∧ st = 0 ∧ ws.take 2 = [s.dev.fw.image.version, s.dev.rd .fwm 0 Off.FWM_API_VER] ∧ ws.length = 11 ∧
          ∀ k, k < 9 → ws[k + 2]? = some (match s.dev.fw.image.comp k with
            | some x => BitVec.ofNat 32 (x.ifMajor + x.ifMinor * 256 + x.stVer * 65536) | none => 0)) ∨
        ((c = .saveSettings f ∧ m.func = 2 ∨ c = .loadDefaults f ∧ m.func = 3) ∧ s.dev.trialOn = true ∧ st = 3 ∧ ws = []) ∨
        (c = .settingsInfo ∧ m.func = 4 ∧ st = 0 ∧ ws = (match s.dev.fw.inUse with
          | some x => [BitVec.ofNat 32 (s.dev.fw.setUse == some true).toNat, x.seq, BitVec.ofNat 32 (x.minor + x.major * 256)]
          | none => [2, 0, BitVec.ofNat 32 (s.dev.fw.image.setMinor + s.dev.fw.image.setMajor * 256)])) ∨
        (c = .setPoweronFrame ∧ m.func = 5 ∧ m.arg ≠ 0x3F ∧ (0x3F ≤ m.arg.toNat ∨ s.dev.frameKept m.arg.toNat = false) ∧ st = 2 ∧ ws = []) ∨
        (c = .stagedInfo ∧ m.func = 6 ∧ st = 0 ∧ ws = (wordsOf (partOf s.dev.fw.staged 0 64 ++
          partOf s.dev.fw.staged (fieldAt s.dev.fw.staged 40 4) 576)).take 63) ∨
        (c = .fallbackLog ∧ m.func = 7 ∧ st = 0 ∧ ws = (s.dev.fw.falls.take 8).flatMap fun x =>
          [BitVec.ofNat 32 x.time, BitVec.ofNat 32 (x.time / 2 ^ 32), BitVec.ofNat 32 x.cause, x.version]) ∨
        (c = .unknownFunc ∧ (m.func = 0 ∨ 7 < m.func) ∧ st = 1 ∧ ws = [])) →
      exec c s = .next { s with dev := { s.dev with fw := { s.dev.fw with mbx := some { m with answer := some (st, ws) } } } }) ∧
    (∀ m, s.dev.fw.mbx = some m → s.dev.Asked 5 → (m.arg = 0x3F ∨ (m.arg.toNat < 0x3F ∧ s.dev.frameKept m.arg.toNat = true)) →
      exec .setPoweronFrame s = .next { s with dev := { s.dev with fw := { s.dev.fw with
        frameSel := if m.arg = 0x3F then none else some m.arg.toNat, mbx := some { m with answer := some (0, []) } } } }) ∧
    (∀ (c : Instr) (m : Mbx), s.dev.fw.mbx = some m → s.dev.Asked m.func → s.dev.trialOn = false →
      ((c = .saveSettings f ∧ m.func = 2) ∨ (c = .loadDefaults f ∧ m.func = 3)) → ∃ t, exec c s = .next t ∧
        ({ s.dev with fw := t.dev.fw }).Touches t.dev [(.svc, 0, Off.SVC_FLASH_ERRS), (.svc, 0, Off.PAGE_STAT)] [886, 887] ∧
        (f = false → t.dev.fw = { s.dev.fw with mbx := some { m with answer := some (4, []) } } ∧ t.dev.bit .svc 0 Off.PAGE_STAT 14 = true ∧
          t.dev.rd .svc 0 Off.SVC_FLASH_ERRS = satWord ((s.dev.rd .svc 0 Off.SVC_FLASH_ERRS).toNat + 1)) ∧
        (f = true → t.dev.bit .svc 0 Off.PAGE_STAT 15 = true ∧ ∃ fr lost, t.dev.fw = { (s.dev.fw.putSettings (if m.func = 3 then .config [] none else
            .config s.dev.savedConfig fr)) with frameSel := if lost = true then none else s.dev.fw.frameSel
                                                mbx := some { m with answer := some (0, if m.func = 3 then [] else [if lost = true then 1 else 0]) } } ∧
          (lost = true ↔ m.func = 2 ∧ ∃ e, s.dev.fw.frameSel = some e ∧ s.dev.frameKept e = false) ∧
          (m.func = 2 → (lost = true ∨ s.dev.fw.frameSel = none → fr = none) ∧
            ∀ e, s.dev.fw.frameSel = some e → lost = false → fr = some (s.dev.frameOf e)))) ∧
    ((∀ m, s.dev.fw.mbx = some m → m.answer = none) → exec .mbxDone s = .next s) ∧
    (∀ (m : Mbx) (st : Nat) (ws : List Word), s.dev.fw.mbx = some m → m.answer = some (st, ws) → ws.length ≤ 63 → ∃ t, exec .mbxDone s = .next t ∧
      t.dev.fw = { s.dev.fw with mbx := none } ∧ t.dev.fld .fwm 0 Off.FWM_MBX_STAT 0 2 = 2 ∧ t.dev.bit .fwm 0 Off.PAGE_STAT 15 = true ∧
      t.dev.rd .fwm 0 Off.FWM_MBX_RSP = BitVec.ofNat 32 (st + 4 * ws.length * 65536) ∧
      (∀ i w, ws[i]? = some w → t.dev.rd .fwm 0 (Off.FWM_MBX_RSP + 4 + 4 * i) = w) ∧
      ({ s.dev with fw := t.dev.fw }).Touches t.dev ((.fwm, 0, Off.FWM_MBX_STAT) :: (.fwm, 0, Off.PAGE_STAT) ::
        (List.range 64).map fun i => (.fwm, 0, Off.FWM_MBX_RSP + 4 * i)) [896]) ∧
    (s.dev.stage ≠ 2 → exec (.stageVerifyDone f) s = .next s) ∧
    (∀ st, s.dev.stage = 2 → st = (if f then s.dev.stagedStatus s.dev.fw.staged else 0xE) → ∃ t, exec (.stageVerifyDone f) s = .next t ∧
      t.dev.rd .svc 0 Off.SVC_STAGE_STAT = (if st = 0 then 3 else BitVec.ofNat 32 (4 + st * 256)) ∧
      t.dev.bit .svc 0 Off.PAGE_STAT (if st = 0 then 11 else 12) = true ∧ t.dev.rd .svc 0 Off.SVC_STAGE_VER = (imageOf s.dev.fw.staged).version ∧
      (∀ tag, s.dev.fw.ending = some tag → t.dev.core.resp = [BitVec.ofNat 32 (0x8004 + st * 65536), tag, 0, crc32 []]) ∧
      t.dev.fw = { s.dev.fw with ending := none, record := { s.dev.fw.record with stage := if st = 0 then 3 else 4 } } ∧
      ({ s.dev with fw := t.dev.fw }).Touches t.dev [(.svc, 0, Off.SVC_STAGE_STAT), (.svc, 0, Off.SVC_STAGE_VER), (.svc, 0, Off.SVC_FLASH_ERRS),
        (.svc, 0, Off.PAGE_STAT)] [883, 884, 886]) ∧
    (∀ bs, (s.dev.mode ≠ 2 ∨ s.dev.bit .svc 0 Off.SVC_SVC_STAT 3 = false) → exec (.dfuDnload bs f) s = .next s) ∧
    (∀ bs, s.dev.mode = 2 → s.dev.bit .svc 0 Off.SVC_SVC_STAT 3 = true →
      (s.dev.writeOk = false → ∃ t, exec (.dfuDnload bs f) s = .next t ∧ t.dev.fw = { s.dev.fw with dfuError := true } ∧
        t.dev.bit .svc 0 Off.PAGE_STAT 13 = true ∧ ({ s.dev with fw := t.dev.fw }).Touches t.dev [(.svc, 0, Off.PAGE_STAT)] [885]) ∧
      (s.dev.writeOk = true → bs ≠ [] → f = true → ∃ t, exec (.dfuDnload bs f) s = .next t ∧ t.dev.stage = 1 ∧
        t.dev.fw.staged = ((if s.dev.stage = 1 then s.dev.fw.staged else []) ++ bs).take 12582912 ∧
        t.dev.rd .svc 0 Off.SVC_STAGE_BYTES = BitVec.ofNat 32 t.dev.fw.staged.length ∧ s.dev.SameBytes t.dev) ∧
      (s.dev.writeOk = true → bs ≠ [] → f = false → ∃ t, exec (.dfuDnload bs f) s = .next t ∧
        t.dev.rd .svc 0 Off.SVC_STAGE_STAT = BitVec.ofNat 32 (4 + 0xE * 256) ∧ t.dev.fw.staged = s.dev.fw.staged ∧ s.dev.SameBytes t.dev) ∧
      (s.dev.writeOk = true → bs = [] → (s.dev.stage ≠ 1 → exec (.dfuDnload bs f) s = .next s) ∧
        (s.dev.stage = 1 → ∃ t, exec (.dfuDnload bs f) s = .next t ∧ s.dev.SameBytes t.dev ∧
          t.dev.stage = if s.dev.stagedStatus s.dev.fw.staged = 0 then 3 else 4))) ∧
    ((s.dev.mode ≠ 2 ∨ s.dev.stage ≠ 3) → exec .baseCampCopyDone s = .next s) ∧
    (s.dev.mode = 2 → s.dev.stage = 3 → ∃ t, exec .baseCampCopyDone s = .next t ∧ t.dev.mode = 0 ∧ t.dev.fw.staged = [] ∧ t.dev.fw.record.stage = 0 ∧
      t.dev.rd .pwr 0 Off.PWR_RESET_CAUSE = 8 ∧ t.dev.mem = [] ∧ t.dev.fm = []) ∧
    (∀ v, s.Arrives (.svcCtrlWrite r v) →
      (r ≠ .pf 0 → bitOf v 0 ≠ s.dev.bit .svc 0 Off.SVC_SVC_CTRL 0 → ∃ t, exec (.svcCtrlWrite r v) s = .next t ∧
        t.dev.rd .svc 0 Off.SVC_SVC_REJECT = 0xFB ∧ t.dev.rd .sys 0 Off.SYS_REJECT_LAST = rejectWord 0xFB (Page.svc.slot 0) Off.SVC_SVC_CTRL r.id ∧
        s.dev.Touches t.dev [(.svc, 0, Off.SVC_SVC_REJECT), (.svc, 0, Off.PAGE_STAT), (.sys, 0, Off.SYS_REJECT_LAST),
          (.sys, 0, Off.SYS_REJECT_COUNT)] [0]) ∧
      ((r = .pf 0 ∨ bitOf v 0 = s.dev.bit .svc 0 Off.SVC_SVC_CTRL 0) → ∃ t, exec (.svcCtrlWrite r v) s = .next t ∧
        t.dev.rd .svc 0 Off.SVC_SVC_CTRL = v &&& 3 ∧ t.dev.bit .svc 0 Off.SVC_SVC_STAT 3 = (!bitOf v 1 && s.dev.bit .svc 0 Off.SVC_SVC_STAT 3) ∧
        s.dev.Touches t.dev [(.svc, 0, Off.SVC_SVC_CTRL), (.svc, 0, Off.SVC_SVC_STAT)] [])) ∧
    (s.dev.core.powerHold = true → exec .attach s = .next s) ∧
    (s.dev.core.powerHold = false → ∃ t, exec .attach s = .next t ∧ t.dev.bit .svc 0 Off.SVC_SVC_STAT 2 = true ∧
      (s.dev.bit .svc 0 Off.SVC_SVC_CTRL 1 = true → t.dev.bit .svc 0 Off.SVC_SVC_STAT 3 = s.dev.bit .svc 0 Off.SVC_SVC_STAT 3) ∧
      (s.dev.bit .svc 0 Off.SVC_SVC_CTRL 1 = false → t.dev.bit .svc 0 Off.SVC_SVC_STAT 3 = true ∧ t.dev.bit .svc 0 Off.PAGE_STAT 8 = true) ∧
      (s.dev.mode ≠ 9 → s.dev.Touches t.dev [(.svc, 0, Off.SVC_SVC_STAT), (.svc, 0, Off.PAGE_STAT)] [880]) ∧ s.dev.SameBytes t.dev) ∧
    (s.dev.bit .svc 0 Off.SVC_SVC_STAT 2 = false → exec .detach s = .next s) ∧
    (s.dev.bit .svc 0 Off.SVC_SVC_STAT 2 = true → ∃ t, exec .detach s = .next t ∧ t.dev.fld .svc 0 Off.SVC_SVC_STAT 2 3 = 0 ∧
      t.dev.bit .svc 0 Off.PAGE_STAT 9 = true ∧ s.dev.Touches t.dev [(.svc, 0, Off.SVC_SVC_STAT), (.svc, 0, Off.PAGE_STAT)] [881])

/-- PCIE_LINK_UP, PCIE_SPEED_CHANGE, CONFIGURATION_REQUEST, FLR, PE_PERST, HOST_BAR2_WRITE, HOST_BAR2_READ, QSPI_READ, QSPI_WRITE, QSPI_STATUS, READ_REG, WRITE_REG,
SMBUS_STATUS, SMBUS_TEMP, ALERT_RESPONSE, GPIO_EVENT and BOUNDARY_SCAN_INSTRUCTION (R334, R431, R441, R561, R563, R566, R567, R570, R571, R573 to R576, R579): link and
function resets change the PCIE page, vectors, ACTIVE bits and stalled writes, and no mode, memory or other register. A BAR2 access needs Memory Space
Enable and its window; a denied or sleeping one stores nothing and reads zero, a poisoned line reads zero with EP. Quad-SPI keeps sticky status;
SMBus reads six pages and writes SHUTDOWN and RESET_CMD alone, counts what it denies, and wakes the device from BIVOUAC. -/
def Obligations.HostAndBoard : Prop :=
  ∀ (s : State) (k : Fin 8),
    (∀ x, (s.dev.core.powerHold = true ∨ s.dev.linkIsUp = true) → exec (.pcieLinkUp x) s = .next s) ∧
    (∀ x y, s.dev.linkIsUp = false → exec (.pcieSpeedChange x) s = .next s ∧ exec (.configurationRequest k y) s = .next s) ∧
    (∀ (c : Instr) (x : PcieLink) (w : Word) (b : Nat), w = BitVec.ofNat 32 (x.speed.val + 1 + 2 ^ x.lanes.val * 8 + 256 + x.reversed.toNat * 512) →
      ((c = .pcieLinkUp x ∧ s.dev.core.powerHold = false ∧ s.dev.linkIsUp = false ∧ b = 8) ∨
        (c = .pcieSpeedChange x ∧ s.dev.linkIsUp = true ∧ b = if bitsOf (s.dev.rd .pcie 0 Off.PCIE_LINK_STAT) 0 8 = bitsOf w 0 8 then 0 else 15)) →
      (b = 0 → exec c s = .next { s with dev := s.dev.wr .pcie 0 Off.PCIE_LINK_STAT w }) ∧
      (b ≠ 0 → ∃ t, exec c s = .next t ∧ t.dev.rd .pcie 0 Off.PCIE_LINK_STAT = w ∧ t.dev.bit .pcie 0 Off.PAGE_STAT b = true ∧
        s.dev.Touches t.dev [(.pcie, 0, Off.PCIE_LINK_STAT), (.pcie, 0, Off.PAGE_STAT)] [840 + b])) ∧
    (∀ y : CfgWrite, s.dev.linkIsUp = true → ∃ t, exec (.configurationRequest k y) s = .next t ∧
      t.dev.bit .pcie 0 Off.PCIE_FUNC_STAT k.val = y.mem ∧ t.dev.bit .pcie 0 Off.PCIE_FUNC_STAT (8 + k.val) = y.bme ∧
      t.dev.bit .pcie 0 Off.PCIE_FUNC_STAT (16 + k.val) = y.msix ∧ t.dev.bit .pcie 0 Off.PCIE_FUNC_STAT (24 + k.val) = y.d3 ∧
      (∀ i, i < 32 → i % 8 ≠ k.val → t.dev.bit .pcie 0 Off.PCIE_FUNC_STAT i = s.dev.bit .pcie 0 Off.PCIE_FUNC_STAT i) ∧
      t.dev.rd .pcie 0 Off.PCIE_BAR2_SIZE = BitVec.ofNat 32 y.bar2.val ∧
      s.dev.Touches t.dev [(.pcie, 0, Off.PCIE_FUNC_STAT), (.pcie, 0, Off.PCIE_BAR2_SIZE)] []) ∧
    (∀ x, s.dev.core.powerHold = true → exec (.flr k) s = .next s ∧ exec (.pePerst x) s = .next s) ∧
    (∀ (c : Instr) (x : HotReset) (fs : List Nat), s.dev.core.powerHold = false → ((c = .flr k ∧ fs = [k.val]) ∨ (c = .pePerst x ∧ fs = List.range 8)) →
      ∃ t, exec c s = .next t ∧ t.dev.mode = s.dev.mode ∧ s.dev.SameBytes t.dev ∧
        s.dev.SameRegsBut t.dev (· ∈ [(.pcie, 0, Off.PCIE_FUNC_STAT), (.pcie, 0, Off.PCIE_LINK_STAT), (.pcie, 0, Off.PCIE_BAR2_SIZE),
          (.pcie, 0, Off.PCIE_RESET_COUNT), (.pcie, 0, Off.PAGE_STAT)]) ∧
        (∀ w, w ∈ t.dev.stalled ↔ w ∈ s.dev.stalled ∧ ∀ j : Fin 8, j.val ∈ fs → w.who ≠ .pf j) ∧ (∀ j i, j < 4 → i ∈ fs →
          t.dev.bit .pcie 0 Off.PCIE_FUNC_STAT (8 * j + i) = false) ∧
        (∀ i, bitsOf (s.dev.core.srcCfg i) 8 8 ∈ fs → (t.dev.core.src i).active = false) ∧
        (∀ i, i ∉ [8, 9, 849, 853, 854] → bitsOf (s.dev.core.srcCfg i) 8 8 ∉ fs → t.dev.core.src i = s.dev.core.src i) ∧
        (∀ i, i ∈ fs → Tbl.get (fun _ => {}) t.dev.core.vectors (2 * i) = ({} : Vector) ∧
          Tbl.get (fun _ => {}) t.dev.core.vectors (2 * i + 1) = ({} : Vector)) ∧
        (c = .flr k → t.dev.bit .pcie 0 Off.PAGE_STAT 13 = true ∧ t.dev.rd .pcie 0 Off.PCIE_LINK_STAT = s.dev.rd .pcie 0 Off.PCIE_LINK_STAT ∧
          t.dev.fld .pcie 0 Off.PCIE_RESET_COUNT 0 16 = min 0xFFFF (s.dev.fld .pcie 0 Off.PCIE_RESET_COUNT 0 16 + 1)) ∧
        (c = .pePerst x → t.dev.bit .pcie 0 Off.PAGE_STAT 14 = true ∧ t.dev.rd .pcie 0 Off.PCIE_LINK_STAT = 0 ∧ t.dev.rd .pcie 0 Off.PCIE_BAR2_SIZE = 6 ∧
          (s.dev.linkIsUp = true → t.dev.bit .pcie 0 Off.PAGE_STAT 9 = true) ∧
          t.dev.fld .pcie 0 Off.PCIE_RESET_COUNT 16 16 = min 0xFFFF (s.dev.fld .pcie 0 Off.PCIE_RESET_COUNT 16 16 + 1))) ∧
    (∀ (a : BitVec 40) (bs : List (BitVec 8)) (ep : Bool), s.dev.fnStalled (.pf k) = false →
      ((s.dev.takesMemory k = false ∨ s.dev.inBar2 a.toNat bs.length = false ∨ bs = []) → exec (.hostBar2Write k a bs ep) s = .next s) ∧
      (s.dev.takesMemory k = true → s.dev.inBar2 a.toNat bs.length = true → bs ≠ [] → ∃ t, exec (.hostBar2Write k a bs ep) s = .next t ∧
        (servedIn s.dev.mode .mcc = false → t.dev.rd .pwr 0 Off.PWR_ASLEEP_ACCESS =
          satWord ((s.dev.rd .pwr 0 Off.PWR_ASLEEP_ACCESS).toNat + 1) ∧ s.dev.Touches t.dev [(.pwr, 0, Off.PWR_ASLEEP_ACCESS)] []) ∧
        (servedIn s.dev.mode .mcc = true → (s.dev.core.mwinAllows (.pf k) a.toNat bs.length true = false ∨ s.dev.core.installed < a.toNat + bs.length) →
          s.dev.SameBytes t.dev ∧ t.dev.stalled = s.dev.stalled) ∧
        (servedIn s.dev.mode .mcc = true → ep = true → t.dev.bit .pcie 0 Off.PAGE_STAT 12 = true ∧
          t.dev.rd .pcie 0 Off.PCIE_POISON_RX = satWord ((s.dev.rd .pcie 0 Off.PCIE_POISON_RX).toNat + 1)) ∧
        (servedIn s.dev.mode .mcc = true → s.dev.core.mwinAllows (.pf k) a.toNat bs.length true = true → a.toNat + bs.length ≤ s.dev.core.installed →
          (∃ w ∈ s.dev.windowsAt a.toNat bs.length, w.2.2 ≠ 2) → (∀ w ∈ s.dev.windowsAt a.toNat bs.length, w.2.2 ≠ 2) → s.dev.SameBytes t.dev ∧
          ∃ w, t.dev.stalled = s.dev.stalled ++ [w] ∧ w.who = .pf k ∧ w.addr = a.toNat ∧ w.data = bs ∧ w.bad = ep) ∧
        (servedIn s.dev.mode .mcc = true → s.dev.core.mwinAllows (.pf k) a.toNat bs.length true = true → a.toNat + bs.length ≤ s.dev.core.installed →
          s.dev.windowsAt a.toNat bs.length = [] → t.dev.fm = s.dev.fm ∧ (∀ i b, bs[i]? = some b → readByte t.dev.mem (a.toNat + i) = b) ∧
          (∀ x, (x < a.toNat ∨ a.toNat + bs.length ≤ x) → readByte t.dev.mem x = readByte s.dev.mem x) ∧
          (ep = true → ∀ l ∈ linesOf a.toNat bs.length, t.dev.linePoisoned l = true)))) ∧
    (∀ (a : BitVec 40) (n : Nat), s.dev.fnStalled (.pf k) = false →
      ((s.dev.takesMemory k = false ∨ s.dev.inBar2 a.toNat n = false) → exec (.hostBar2Read k a n) s =
        .next { s with dev := ({ s.dev with board := { s.dev.board with ep := [] } }).answer [] }) ∧
      (s.dev.takesMemory k = true → s.dev.inBar2 a.toNat n = true → ∃ t, exec (.hostBar2Read k a n) s = .next t ∧ s.dev.SameBytes t.dev ∧
        ((servedIn s.dev.mode .mcc = false ∨ s.dev.core.mwinAllows (.pf k) a.toNat n false = false) →
          t.dev.core.resp = wordsOf (List.replicate n 0) ∧ t.dev.board.ep = []) ∧
        (servedIn s.dev.mode .mcc = true → s.dev.core.mwinAllows (.pf k) a.toNat n false = true →
          t.dev.board.ep = (linesOf a.toNat n).filter s.dev.badLine ∧
          t.dev.core.resp = wordsOf ((List.range n).map fun i => if s.dev.badLine ((a.toNat + i) / 64) = true then 0
            else readByte s.dev.mem (a.toNat + i)) ∧
          ((∃ l ∈ linesOf a.toNat n, s.dev.badLine l = true) → t.dev.bit .pcie 0 Off.PAGE_STAT 11 = true)))) ∧
    (∀ (a a' : BitVec 24) f ws v (p : Option Bool) n l, s.dev.core.powerHold = true → exec (.qspiRead a f) s = .next s ∧ exec (.qspiWrite a ws) s = .next s ∧
      exec .qspiStatus s = .next s ∧ exec (.readReg a) s = .next s ∧ exec (.writeReg a' v p) s = .next s ∧ exec .smbusStatus s = .next s ∧
      exec .smbusTemp s = .next s ∧ exec .alertResponse s = .next s ∧ exec (.gpioEvent n l) s = .next s) ∧
    (s.dev.core.powerHold = false → ∃ t, exec .qspiStatus s = .next t ∧ t.dev.core.resp = [s.dev.rd .pcie 0 Off.PCIE_QSPI_STAT &&& 0xF] ∧
      t.dev.rd .pcie 0 Off.PCIE_QSPI_STAT = 0 ∧ s.dev.Touches t.dev [(.pcie, 0, Off.PCIE_QSPI_STAT)] []) ∧
    (∀ (c : Instr) (a : BitVec 24) (b : Nat) (x : List Word), s.dev.core.powerHold = false →
      (((∃ f, c = .qspiRead a f) ∧ a.toNat % 4 ≠ 0 ∧ b = 1 ∧ x ≠ []) ∨ (c = .qspiRead a false ∧ a.toNat % 4 = 0 ∧ b = 2 ∧ x ≠ []) ∨
        ((∃ ws, c = .qspiWrite a ws) ∧ a.toNat % 4 ≠ 0 ∧ b = 1 ∧ x = [])) →
      ∃ t, exec c s = .next t ∧ t.dev.bit .pcie 0 Off.PCIE_QSPI_STAT b = true ∧ t.dev.bit .pcie 0 Off.PAGE_STAT 16 = true ∧
        (x ≠ [] → t.dev.core.resp = [0, t.dev.rd .pcie 0 Off.PCIE_QSPI_STAT &&& 0xF]) ∧
        s.dev.Touches t.dev [(.pcie, 0, Off.PCIE_QSPI_STAT), (.pcie, 0, Off.PAGE_STAT)] [856]) ∧
    (∀ a : BitVec 24, s.dev.mode ≠ 0 → a.toNat % 4 = 0 →
      (s.dev.asleepAt a.toNat = false → ∃ w, (s.dev.busRead (.pf 0) a.toNat false).core.resp.headD 0 = w ∧ ∃ t, exec (.qspiRead a true) s =
        .next t ∧ t = { s with dev := t.dev } ∧ t.dev = (s.dev.busRead (.pf 0) a.toNat false).answer
          [w, (s.dev.busRead (.pf 0) a.toNat false).rd .pcie 0 Off.PCIE_QSPI_STAT &&& 0xF]) ∧
      (s.dev.asleepAt a.toNat = true → ∃ t, exec (.qspiRead a true) s = .next t ∧ t.dev.bit .pcie 0 Off.PCIE_QSPI_STAT 3 = true ∧
        t.dev.core.resp = [0, t.dev.rd .pcie 0 Off.PCIE_QSPI_STAT &&& 0xF] ∧
        s.dev.Touches t.dev [(.pcie, 0, Off.PCIE_QSPI_STAT), (.pwr, 0, Off.PWR_ASLEEP_ACCESS)] [])) ∧
    (∀ (a : BitVec 24) (w : Word) (ws : List Word), s.dev.mode ≠ 0 → a.toNat % 4 = 0 → exec (.qspiWrite a []) s = .next s ∧
      (s.dev.asleepAt a.toNat = false → exec (.qspiWrite a [w]) s = .next { s with dev := s.dev.busWrite (.pf 0) a.toNat w false }) ∧
      (s.dev.asleepAt a.toNat = true → ∃ t, exec (.qspiWrite a [w]) s = .next t ∧ t.dev.bit .pcie 0 Off.PCIE_QSPI_STAT 3 = true ∧
        s.dev.Touches t.dev [(.pcie, 0, Off.PCIE_QSPI_STAT), (.pwr, 0, Off.PWR_ASLEEP_ACCESS)] []) ∧
      ∃ t, exec (.qspiWrite a [w]) s = .next t ∧ exec (.qspiWrite a (w :: ws)) s = exec (.qspiWrite (a + 4) ws) t) ∧
    (∀ (c : Instr) (d : Dev) (x : List Word), s.dev.core.powerHold = false → s.dev.mode ≠ 9 → d = { s.dev with board := { s.dev.board with nack := false } } →
      ((c = .smbusStatus ∧ x = [BitVec.ofNat 32 (s.dev.mode + 16 * (decide (s.dev.fld .safe 0 Off.SAFE_FAULT_STAT 0 24 ≠ 0)).toNat +
          32 * (s.dev.bit .pwr 0 Off.PAGE_STAT 11).toNat + 64 * (s.dev.bit .pcie 0 Off.PCIE_LINK_STAT 8).toNat)]) ∨
        (c = .smbusTemp ∧ x = [BitVec.ofNat 32 (ofSigned (signedOf (s.dev.fld .pwr 0 Off.PWR_TEMP 0 12) 12) 16)])) →
      exec c s = .next { s with dev := d.answer x }) ∧
    (∀ c, s.dev.mode = 9 → s.dev.moving = false → s.dev.bit .intc 0 Off.INTC_WAKE_CTRL 16 = true →
      (c = .smbusStatus ∨ c = .smbusTemp ∨ (∃ a, c = .readReg a) ∨ (∃ a v, c = .writeReg a v (some false) ∧ s.dev.bit .pcie 0 Off.PCIE_SMB_CTRL 8 = true)) →
      ∃ t, exec c s = .next t ∧ t.dev.power.move = some (.wake s.dev.returnMode) ∧ s.dev.SameBytes t.dev) ∧
    (∀ (d : Dev) (a : BitVec 24) (p : Page) (n : Nat), s.dev.mode ≠ 0 → s.dev.mode ≠ 9 →
      d = { s.dev with board := { s.dev.board with nack := false } } → Page.ofSlot (a.toNat / 4096) = some (p, n) →
      (p ∉ [.sys, .pwr, .fwm, .svc, .safe, .pcie] → exec (.readReg a) s =
        .next { s with dev := (d.inc .pcie 0 Off.PCIE_SMB_DENY).answer [0] }) ∧
      (p ∈ [.sys, .pwr, .fwm, .svc, .safe, .pcie] → a.toNat % 4 ≠ 0 → exec (.readReg a) s = .next { s with dev := d.answer [0] }) ∧
      (p ∈ [.sys, .pwr, .fwm, .svc, .safe, .pcie] → a.toNat % 4 = 0 → servedIn s.dev.mode p = true → n < p.count → msixOff p (a.toNat % 4096) = false →
        exec (.readReg a) s = .next { s with dev := d.readReg .smbus p n (a.toNat % 4096) }) ∧
      (p ∈ [.sys, .pwr, .fwm, .svc, .safe, .pcie] → a.toNat % 4 = 0 → servedIn s.dev.mode p = false → n < p.count → exec (.readReg a) s =
        .next { s with dev := (d.answer [0]).inc .pwr 0 Off.PWR_ASLEEP_ACCESS }) ∧
      (∀ v q, s.dev.bit .pcie 0 Off.PCIE_SMB_CTRL 8 = true → q ≠ some true → exec (.writeReg a v q) s =
        .next { s with dev := { s.dev with board := { s.dev.board with nack := true } } }) ∧
      (∀ v q, (s.dev.bit .pcie 0 Off.PCIE_SMB_CTRL 8 = false ∨ q = some true) →
        (p ≠ .pwr ∨ (a.toNat % 4096 ≠ Off.PWR_RESET_CMD ∧ (a.toNat % 4096 ≠ Off.PWR_MODE_REQ ∨ bitsOf v 0 4 ≠ 11)) →
          exec (.writeReg a v q) s = .next { s with dev := d.inc .pcie 0 Off.PCIE_SMB_DENY }) ∧
        (p = .pwr → n = 0 → a.toNat % 4096 = Off.PWR_MODE_REQ → bitsOf v 0 4 = 11 → exec (.writeReg a v q) s =
          .next { s with dev := d.modeReq .smbus 11 }) ∧
        (p = .pwr → n = 0 → a.toNat % 4096 = Off.PWR_RESET_CMD → exec (.writeReg a v q) s = .next { s with dev := d.resetCmd .smbus v }))) ∧
    (s.dev.alertLow = false → exec .alertResponse s = .next s) ∧
    (s.dev.core.powerHold = false → s.dev.alertLow = true → ∃ t, exec .alertResponse s = .next t ∧ t.dev.alertLow = false ∧
      t.dev.core.resp = [BitVec.ofNat 32 (s.dev.fld .pcie 0 Off.PCIE_SMB_CTRL 0 7)] ∧ ({ s.dev with board := t.dev.board }).Touches t.dev [] []) ∧
    (∀ (n : Fin 16) (l edge : Bool) (e : Nat), s.dev.core.powerHold = false → s.dev.mode ≠ 9 → s.dev.power.move ≠ some (.entry false) →
      edge = (s.dev.bit .pcie 0 Off.PCIE_GPIO_IN n.val != l) → e = s.dev.fld .pcie 0 Off.PCIE_GPIO_EVT (2 * n.val) 2 →
      ∃ t, exec (.gpioEvent n l) s = .next t ∧ t.dev.bit .pcie 0 Off.PCIE_GPIO_IN n.val = l ∧
        (edge = true → (e = 3 ∨ e = 1 ∧ l = true ∨ e = 2 ∧ l = false) → s.dev.bit .pcie 0 Off.PCIE_GPIO_DIR n.val = false →
          (t.dev.core.src (864 + n.val)).pending = true ∧
          (t.dev.core.src (864 + n.val)).edges = (s.dev.core.src (864 + n.val)).edges + 1 ∧
          s.dev.Touches t.dev [(.pcie, 0, Off.PCIE_GPIO_IN)] [864 + n.val]) ∧
        ((edge = false ∨ s.dev.bit .pcie 0 Off.PCIE_GPIO_DIR n.val = true ∨ e = 0 ∨ (e = 1 ∧ l = false) ∨ (e = 2 ∧ l = true)) →
          s.dev.Touches t.dev [(.pcie, 0, Off.PCIE_GPIO_IN)] [])) ∧
    (∀ (n : Fin 16) (l : Bool), n.val < 4 → s.dev.mode = 9 → s.dev.moving = false → s.dev.bit .intc 0 Off.INTC_WAKE_CTRL n.val = true →
      l = s.dev.bit .intc 0 Off.INTC_WAKE_CTRL (4 + n.val) →
      (s.dev.bit .pcie 0 Off.PCIE_GPIO_IN n.val ≠ l ∨ s.dev.bit .intc 0 Off.INTC_WAKE_CTRL (8 + n.val) = false) →
      ∃ t, exec (.gpioEvent n l) s = .next t ∧ t.dev.power.move = some (.wake s.dev.returnMode) ∧ s.dev.SameBytes t.dev) ∧
    (∀ x : ScanInstr, (x ∈ [.extest, .extestPulse, .extestTrain, .highz, .clamp] → exec (.boundaryScanInstruction x) s =
        .next { s with dev := { s.dev with board := { s.dev.board with scanned := true } } }) ∧
      (x = .idcode → exec (.boundaryScanInstruction x) s = .next { s with dev := s.dev.answer [0x28440A6B] }) ∧
      (x ∈ [.bypass, .samplePreload] → exec (.boundaryScanInstruction x) s = .next s))
end

