-- ==== Sys2Proof/Laws/Bits.lean ====
section
/-! SUPPORT. The laws of bit fields: what a field reads after a field of the same word is replaced. -/

namespace Sys2Proof.Machine

section
variable {w : Word} {lo len v : Nat}

/-- The number of a word with a field replaced. -/
theorem toNat_putBits (h : lo + len ≤ 32) :
    (putBits w lo len v).toNat = w.toNat % 2 ^ lo + (v % 2 ^ len) * 2 ^ lo + w.toNat / 2 ^ (lo + len) * 2 ^ (lo + len) := by
  unfold putBits
  rw [BitVec.toNat_ofNat, Nat.mod_eq_of_lt]
  have h1 : w.toNat % 2 ^ lo < 2 ^ lo := Nat.mod_lt _ (Nat.two_pow_pos _)
  have h2 : v % 2 ^ len < 2 ^ len := Nat.mod_lt _ (Nat.two_pow_pos _)
  have h3 : 2 ^ 32 = 2 ^ (32 - (lo + len)) * 2 ^ (lo + len) := by rw [← Nat.pow_add]; congr 1; omega
  have h4 : w.toNat / 2 ^ (lo + len) < 2 ^ (32 - (lo + len)) := by
    rw [Nat.div_lt_iff_lt_mul (Nat.two_pow_pos _), ← h3]
    exact w.isLt
  have h5 : w.toNat % 2 ^ lo + (v % 2 ^ len) * 2 ^ lo < 2 ^ (lo + len) := by
    have : (v % 2 ^ len + 1) * 2 ^ lo ≤ 2 ^ len * 2 ^ lo := Nat.mul_le_mul_right _ h2
    rw [Nat.pow_add, Nat.mul_comm (2 ^ lo)]
    rw [Nat.add_mul, Nat.one_mul] at this
    omega
  have h6 : (w.toNat / 2 ^ (lo + len) + 1) * 2 ^ (lo + len) ≤ 2 ^ (32 - (lo + len)) * 2 ^ (lo + len) := Nat.mul_le_mul_right _ h4
  rw [Nat.add_mul, Nat.one_mul, ← h3] at h6
  omega

/-- A replaced field reads what it was given. -/
theorem bitsOf_putBits (h : lo + len ≤ 32) : bitsOf (putBits w lo len v) lo len = v % 2 ^ len := by
  unfold bitsOf
  rw [toNat_putBits h]
  have h1 : w.toNat % 2 ^ lo < 2 ^ lo := Nat.mod_lt _ (Nat.two_pow_pos _)
  have h2 : w.toNat % 2 ^ lo + v % 2 ^ len * 2 ^ lo + w.toNat / 2 ^ (lo + len) * 2 ^ (lo + len)
      = w.toNat % 2 ^ lo + (v % 2 ^ len + w.toNat / 2 ^ (lo + len) * 2 ^ len) * 2 ^ lo := by
    rw [Nat.pow_add, Nat.add_mul, Nat.mul_assoc _ (2 ^ len), Nat.mul_comm (2 ^ len) (2 ^ lo), Nat.add_assoc]
  rw [h2, Nat.add_mul_div_right _ _ (Nat.two_pow_pos _), Nat.div_eq_of_lt h1, Nat.zero_add, Nat.add_mul_mod_self_right, Nat.mod_mod]

/-- A field below the one that is replaced reads as it did. -/
theorem bitsOf_putBits_below {a b : Nat} (h : lo + len ≤ 32) (hb : a + b ≤ lo) : bitsOf (putBits w lo len v) a b = bitsOf w a b := by
  have key : ∀ x : Nat, x / 2 ^ a % 2 ^ b = x % 2 ^ lo / 2 ^ a % 2 ^ b := by
    intro x
    have e : x % 2 ^ (a + b) / 2 ^ a = x / 2 ^ a % 2 ^ b := by rw [Nat.pow_add, Nat.mod_mul_right_div_self]
    have f : x % 2 ^ lo % 2 ^ (a + b) / 2 ^ a = x % 2 ^ lo / 2 ^ a % 2 ^ b := by rw [Nat.pow_add, Nat.mod_mul_right_div_self]
    rw [← e, ← f, Nat.mod_mod_of_dvd _ (Nat.pow_dvd_pow 2 hb)]
  have h1 : w.toNat % 2 ^ lo < 2 ^ lo := Nat.mod_lt _ (Nat.two_pow_pos _)
  unfold bitsOf
  rw [toNat_putBits h, key, key w.toNat, Nat.pow_add, Nat.add_assoc]
  have h2 : v % 2 ^ len * 2 ^ lo + w.toNat / (2 ^ lo * 2 ^ len) * (2 ^ lo * 2 ^ len)
      = (v % 2 ^ len + w.toNat / (2 ^ lo * 2 ^ len) * 2 ^ len) * 2 ^ lo := by
    rw [Nat.add_mul, Nat.mul_assoc _ (2 ^ len), Nat.mul_comm (2 ^ len) (2 ^ lo)]
  rw [h2, Nat.add_mul_mod_self_right, Nat.mod_mod]

/-- A field above the one that is replaced reads as it did. -/
theorem bitsOf_putBits_above {a b : Nat} (h : lo + len ≤ 32) (ha : lo + len ≤ a) : bitsOf (putBits w lo len v) a b = bitsOf w a b := by
  obtain ⟨k, rfl⟩ : ∃ k, a = lo + len + k := ⟨a - (lo + len), by omega⟩
  have h1 : w.toNat % 2 ^ lo < 2 ^ lo := Nat.mod_lt _ (Nat.two_pow_pos _)
  have h2 : v % 2 ^ len < 2 ^ len := Nat.mod_lt _ (Nat.two_pow_pos _)
  have h5 : w.toNat % 2 ^ lo + (v % 2 ^ len) * 2 ^ lo < 2 ^ (lo + len) := by
    have : (v % 2 ^ len + 1) * 2 ^ lo ≤ 2 ^ len * 2 ^ lo := Nat.mul_le_mul_right _ h2
    rw [Nat.pow_add, Nat.mul_comm (2 ^ lo)]
    rw [Nat.add_mul, Nat.one_mul] at this
    omega
  unfold bitsOf
  rw [toNat_putBits h, Nat.pow_add 2 (lo + len) k, ← Nat.div_div_eq_div_mul, ← Nat.div_div_eq_div_mul,
    Nat.add_mul_div_right _ _ (Nat.two_pow_pos _), Nat.div_eq_of_lt h5, Nat.zero_add]

theorem bitOf_eq_bitsOf {i : Nat} : bitOf w i = decide (bitsOf w i 1 = 1) := by
  unfold bitOf bitsOf
  rw [Nat.pow_one]
  rfl

/-- A replaced bit reads what it was given. -/
theorem bitOf_putBits {i : Nat} {b : Bool} (h : i < 32) : bitOf (putBits w i 1 b.toNat) i = b := by
  rw [bitOf_eq_bitsOf, bitsOf_putBits (by omega)]
  cases b <;> decide

/-- A bit outside the field that is replaced reads as it did. -/
theorem bitOf_putBits_ne {i : Nat} (h : lo + len ≤ 32) (hi : i < lo ∨ lo + len ≤ i) : bitOf (putBits w lo len v) i = bitOf w i := by
  rw [bitOf_eq_bitsOf, bitOf_eq_bitsOf]
  rcases hi with hi | hi
  · rw [bitsOf_putBits_below h (by omega)]
  · rw [bitsOf_putBits_above h hi]

end
end Sys2Proof.Machine
end

