-- ==== Sys2Proof/Laws/Tbl.lean ====
section
/-! SUPPORT. The laws of sparse tables: what a read returns after a write, and that a write keeps the canonical form. -/

namespace Sys2Proof.Machine

variable {α : Type}

theorem Tbl.find_erase_same (t : Tbl α) (k : Nat) : Tbl.find (Tbl.erase t k) k = none := by
  induction t with
  | nil => rfl
  | cons e r ih =>
    by_cases h : e.1 = k
    · simp [Tbl.erase, h, ih]
    · simp [Tbl.erase, Tbl.find, h, ih]

theorem Tbl.find_erase_ne (t : Tbl α) {k j : Nat} (h : j ≠ k) : Tbl.find (Tbl.erase t k) j = Tbl.find t j := by
  induction t with
  | nil => rfl
  | cons e r ih =>
    by_cases hk : e.1 = k
    · have : e.1 ≠ j := by omega
      simp [Tbl.erase, Tbl.find, hk, ih]
      omega
    · simp only [Tbl.erase, hk, if_false, Tbl.find, ih]

theorem Tbl.find_insert_same (t : Tbl α) (k : Nat) (v : α) (h : Tbl.find t k = none) :
    Tbl.find (Tbl.insert t k v) k = some v := by
  induction t with
  | nil => simp [Tbl.insert, Tbl.find]
  | cons e r ih =>
    have hk : e.1 ≠ k := by intro he; simp [Tbl.find, he] at h
    have hr : Tbl.find r k = none := by simpa [Tbl.find, hk] using h
    by_cases hlt : e.1 < k
    · simp [Tbl.insert, hlt, Tbl.find, hk, ih hr]
    · simp [Tbl.insert, hlt, Tbl.find]

theorem Tbl.find_insert_ne (t : Tbl α) {k j : Nat} (v : α) (h : j ≠ k) : Tbl.find (Tbl.insert t k v) j = Tbl.find t j := by
  have h' : k ≠ j := by omega
  induction t with
  | nil => simp [Tbl.insert, Tbl.find, h']
  | cons e r ih =>
    by_cases hlt : e.1 < k
    · simp only [Tbl.insert, hlt, if_true, Tbl.find, ih]
    · simp [Tbl.insert, hlt, Tbl.find, h']

variable [DecidableEq α] (d : Nat → α)

/-- A read after a write to the same key gives what was written. -/
@[simp] theorem Tbl.get_set_same (t : Tbl α) (k : Nat) (v : α) : Tbl.get d (Tbl.set d t k v) k = v := by
  by_cases h : v = d k
  · simp [Tbl.get, Tbl.set, h, Tbl.find_erase_same]
  · simp [Tbl.get, Tbl.set, h, Tbl.find_insert_same _ _ _ (Tbl.find_erase_same t k)]

/-- A write leaves every other key as it was. -/
theorem Tbl.get_set_ne (t : Tbl α) {k j : Nat} (v : α) (h : j ≠ k) : Tbl.get d (Tbl.set d t k v) j = Tbl.get d t j := by
  by_cases hv : v = d k
  · simp [Tbl.get, Tbl.set, hv, Tbl.find_erase_ne t h]
  · simp [Tbl.get, Tbl.set, hv, Tbl.find_insert_ne _ _ h, Tbl.find_erase_ne t h]

/-- What a read returns after a write. -/
theorem Tbl.get_set (t : Tbl α) (k j : Nat) (v : α) : Tbl.get d (Tbl.set d t k v) j = if j = k then v else Tbl.get d t j := by
  by_cases h : j = k
  · subst h; simp
  · simp [h, Tbl.get_set_ne d t v h]

/-! Slices and copies -/

omit [DecidableEq α] in
theorem Tbl.find_slice (t : Tbl α) (lo hi a : Nat) : Tbl.find (Tbl.slice t lo hi) a = if lo ≤ a ∧ a < hi then Tbl.find t a else none := by
  induction t with
  | nil => simp [Tbl.slice, Tbl.find]
  | cons e r ih =>
    unfold Tbl.slice at ih ⊢
    by_cases h : lo ≤ e.1 ∧ e.1 < hi
    · rw [List.filter_cons_of_pos (by simpa using h)]
      by_cases he : e.1 = a
      · subst he; simp [Tbl.find, h]
      · simp [Tbl.find, he, ih]
    · rw [List.filter_cons_of_neg (by simpa using h), ih]
      by_cases he : e.1 = a
      · subst he; simp [h]
      · simp [Tbl.find, he]

omit [DecidableEq α] in
theorem Tbl.find_without (t : Tbl α) (lo hi a : Nat) : Tbl.find (Tbl.without t lo hi) a = if lo ≤ a ∧ a < hi then none else Tbl.find t a := by
  induction t with
  | nil => simp [Tbl.without, Tbl.find]
  | cons e r ih =>
    unfold Tbl.without at ih ⊢
    by_cases h : e.1 < lo ∨ hi ≤ e.1
    · rw [List.filter_cons_of_pos (by simpa using h)]
      by_cases he : e.1 = a
      · subst he
        have : ¬ (lo ≤ e.1 ∧ e.1 < hi) := by omega
        simp [Tbl.find, this]
      · simp [Tbl.find, he, ih]
    · rw [List.filter_cons_of_neg (by simpa using h), ih]
      by_cases he : e.1 = a
      · subst he
        have : lo ≤ e.1 ∧ e.1 < hi := by omega
        simp [this]
      · simp [Tbl.find, he]

theorem Tbl.get_setAll (k : Nat) (t : Tbl α) (l : List (Nat × α)) (a : Nat) :
    Tbl.get d (Tbl.setAll d k t l) (a + k) = match Tbl.find l a with | some v => v | none => Tbl.get d t (a + k) := by
  induction l with
  | nil => rfl
  | cons e r ih =>
    obtain ⟨b, v⟩ := e
    rw [Tbl.setAll, Tbl.get_set]
    by_cases h : b = a
    · subst h; simp [Tbl.find]
    · have h' : ¬ a + k = b + k := by omega
      rw [if_neg h', ih]
      simp only [Tbl.find, h, if_false]

theorem Tbl.get_setAll_below (k : Nat) (t : Tbl α) (l : List (Nat × α)) {a : Nat} (h : ∀ e ∈ l, a ≠ e.1 + k) :
    Tbl.get d (Tbl.setAll d k t l) a = Tbl.get d t a := by
  induction l with
  | nil => rfl
  | cons e r ih =>
    rw [Tbl.setAll, Tbl.get_set, if_neg (h e (List.mem_cons_self ..)), ih fun x hx => h x (List.mem_cons_of_mem _ hx)]

/-! The canonical form -/

theorem Tbl.wfFrom_mono {t : Tbl α} {a b : Nat} (h : a ≤ b) (hw : Tbl.wfFrom d b t = true) : Tbl.wfFrom d a t = true := by
  cases t with
  | nil => rfl
  | cons e r =>
    simp only [Tbl.wfFrom, Bool.and_eq_true, decide_eq_true_eq] at hw ⊢
    exact ⟨⟨by omega, hw.1.2⟩, hw.2⟩

theorem Tbl.erase_wf {t : Tbl α} {lo : Nat} (k : Nat) (hw : Tbl.wfFrom d lo t = true) : Tbl.wfFrom d lo (Tbl.erase t k) = true := by
  induction t generalizing lo with
  | nil => rfl
  | cons e r ih =>
    simp only [Tbl.wfFrom, Bool.and_eq_true, decide_eq_true_eq] at hw
    by_cases h : e.1 = k
    · simpa [Tbl.erase, h] using ih (Tbl.wfFrom_mono d (by omega) hw.2)
    · simp [Tbl.erase, h, Tbl.wfFrom, hw.1, ih hw.2]

theorem Tbl.insert_wf {t : Tbl α} {lo k : Nat} {v : α} (hk : lo ≤ k) (hv : v ≠ d k) (hn : Tbl.find t k = none)
    (hw : Tbl.wfFrom d lo t = true) : Tbl.wfFrom d lo (Tbl.insert t k v) = true := by
  induction t generalizing lo with
  | nil => simp [Tbl.insert, Tbl.wfFrom, hk, hv]
  | cons e r ih =>
    simp only [Tbl.wfFrom, Bool.and_eq_true, decide_eq_true_eq] at hw
    have he : e.1 ≠ k := by intro he; simp [Tbl.find, he] at hn
    have hr : Tbl.find r k = none := by simpa [Tbl.find, he] using hn
    by_cases hlt : e.1 < k
    · simp [Tbl.insert, hlt, Tbl.wfFrom, hw.1, ih (by omega) hr hw.2]
    · have : Tbl.wfFrom d (k + 1) (e :: r) = true := by
        simp only [Tbl.wfFrom, Bool.and_eq_true, decide_eq_true_eq]
        exact ⟨⟨by omega, hw.1.2⟩, hw.2⟩
      simp [Tbl.insert, hlt, hk, hv, Tbl.wfFrom] at this ⊢
      exact this

/-- A write keeps the canonical form. -/
theorem Tbl.set_wf {t : Tbl α} (k : Nat) (v : α) (hw : Tbl.wf d t = true) : Tbl.wf d (Tbl.set d t k v) = true := by
  by_cases h : v = d k
  · simpa [Tbl.wf, Tbl.set, h] using Tbl.erase_wf d k hw
  · simpa [Tbl.wf, Tbl.set, h] using Tbl.insert_wf d (Nat.zero_le k) h (Tbl.find_erase_same t k) (Tbl.erase_wf d k hw)

end Sys2Proof.Machine
end

