-- ==== Sys2Proof/Laws/State.lean ====
section
/-! SUPPORT. What each updater of the state leaves in each field, and what a table holds after it is set. -/

namespace Sys2Proof.Machine

section
variable (d : Dev) (f : Core → Core)
@[simp] theorem Dev.onCore_core : (d.onCore f).core = f d.core := rfl
@[simp] theorem Dev.onCore_arms : (d.onCore f).arms = d.arms := rfl
@[simp] theorem Dev.onCore_groups : (d.onCore f).groups = d.groups := rfl
@[simp] theorem Dev.onCore_applied : (d.onCore f).applied = d.applied := rfl
@[simp] theorem Dev.onCore_counts : (d.onCore f).counts = d.counts := rfl
@[simp] theorem Dev.onCore_cads : (d.onCore f).cads = d.cads := rfl
@[simp] theorem Dev.onCore_ports : (d.onCore f).ports = d.ports := rfl
@[simp] theorem Dev.onCore_anchors : (d.onCore f).anchors = d.anchors := rfl
@[simp] theorem Dev.onCore_plls : (d.onCore f).plls = d.plls := rfl
@[simp] theorem Dev.onCore_ckoHeld : (d.onCore f).ckoHeld = d.ckoHeld := rfl
@[simp] theorem Dev.onCore_xports : (d.onCore f).xports = d.xports := rfl
@[simp] theorem Dev.onCore_encs : (d.onCore f).encs = d.encs := rfl
@[simp] theorem Dev.onCore_scenes : (d.onCore f).scenes = d.scenes := rfl
@[simp] theorem Dev.onCore_engs : (d.onCore f).engs = d.engs := rfl
@[simp] theorem Dev.onCore_tones : (d.onCore f).tones = d.tones := rfl
@[simp] theorem Dev.onCore_builds : (d.onCore f).builds = d.builds := rfl
@[simp] theorem Dev.onCore_adps : (d.onCore f).adps = d.adps := rfl
@[simp] theorem Dev.onCore_safe : (d.onCore f).safe = d.safe := rfl
@[simp] theorem Dev.onCore_chks : (d.onCore f).chks = d.chks := rfl
@[simp] theorem Dev.onCore_portChks : (d.onCore f).portChks = d.portChks := rfl
@[simp] theorem Dev.onCore_refs : (d.onCore f).refs = d.refs := rfl
@[simp] theorem Dev.onCore_useId : (d.onCore f).useId = d.useId := rfl
@[simp] theorem Dev.onCore_runSince : (d.onCore f).runSince = d.runSince := rfl
@[simp] theorem Dev.onCore_deciding : (d.onCore f).deciding = d.deciding := rfl
@[simp] theorem Dev.onCore_rowGen : (d.onCore f).rowGen = d.rowGen := rfl
@[simp] theorem Dev.onCore_bufs : (d.onCore f).bufs = d.bufs := rfl
@[simp] theorem Dev.onCore_xfer : (d.onCore f).xfer = d.xfer := rfl
@[simp] theorem Dev.onCore_hbm : (d.onCore f).hbm = d.hbm := rfl
@[simp] theorem Dev.onCore_fm : (d.onCore f).fm = d.fm := rfl
@[simp] theorem Dev.onCore_fmBad : (d.onCore f).fmBad = d.fmBad := rfl
@[simp] theorem Dev.onCore_mc : (d.onCore f).mc = d.mc := rfl
@[simp] theorem Dev.onCore_mem : (d.onCore f).mem = d.mem := rfl
@[simp] theorem Dev.onCore_poison : (d.onCore f).poison = d.poison := rfl
@[simp] theorem Dev.onCore_stalled : (d.onCore f).stalled = d.stalled := rfl
@[simp] theorem Dev.onCore_dropped : (d.onCore f).dropped = d.dropped := rfl
@[simp] theorem Dev.onCore_blt : (d.onCore f).blt = d.blt := rfl
@[simp] theorem Dev.onCore_rope : (d.onCore f).rope = d.rope := rfl
@[simp] theorem Dev.onCore_power : (d.onCore f).power = d.power := rfl
@[simp] theorem Dev.onCore_fw : (d.onCore f).fw = d.fw := rfl
@[simp] theorem Dev.onCore_board : (d.onCore f).board = d.board := rfl
@[simp] theorem Dev.onCore_deferred : (d.onCore f).deferred = d.deferred := rfl
end

section
variable (d : Dev) (f : Safe → Safe)
@[simp] theorem Dev.onSafe_core : (d.onSafe f).core = d.core := rfl
@[simp] theorem Dev.onSafe_arms : (d.onSafe f).arms = d.arms := rfl
@[simp] theorem Dev.onSafe_groups : (d.onSafe f).groups = d.groups := rfl
@[simp] theorem Dev.onSafe_applied : (d.onSafe f).applied = d.applied := rfl
@[simp] theorem Dev.onSafe_counts : (d.onSafe f).counts = d.counts := rfl
@[simp] theorem Dev.onSafe_cads : (d.onSafe f).cads = d.cads := rfl
@[simp] theorem Dev.onSafe_ports : (d.onSafe f).ports = d.ports := rfl
@[simp] theorem Dev.onSafe_anchors : (d.onSafe f).anchors = d.anchors := rfl
@[simp] theorem Dev.onSafe_plls : (d.onSafe f).plls = d.plls := rfl
@[simp] theorem Dev.onSafe_ckoHeld : (d.onSafe f).ckoHeld = d.ckoHeld := rfl
@[simp] theorem Dev.onSafe_xports : (d.onSafe f).xports = d.xports := rfl
@[simp] theorem Dev.onSafe_encs : (d.onSafe f).encs = d.encs := rfl
@[simp] theorem Dev.onSafe_scenes : (d.onSafe f).scenes = d.scenes := rfl
@[simp] theorem Dev.onSafe_engs : (d.onSafe f).engs = d.engs := rfl
@[simp] theorem Dev.onSafe_tones : (d.onSafe f).tones = d.tones := rfl
@[simp] theorem Dev.onSafe_builds : (d.onSafe f).builds = d.builds := rfl
@[simp] theorem Dev.onSafe_adps : (d.onSafe f).adps = d.adps := rfl
@[simp] theorem Dev.onSafe_safe : (d.onSafe f).safe = f d.safe := rfl
@[simp] theorem Dev.onSafe_chks : (d.onSafe f).chks = d.chks := rfl
@[simp] theorem Dev.onSafe_portChks : (d.onSafe f).portChks = d.portChks := rfl
@[simp] theorem Dev.onSafe_refs : (d.onSafe f).refs = d.refs := rfl
@[simp] theorem Dev.onSafe_useId : (d.onSafe f).useId = d.useId := rfl
@[simp] theorem Dev.onSafe_runSince : (d.onSafe f).runSince = d.runSince := rfl
@[simp] theorem Dev.onSafe_deciding : (d.onSafe f).deciding = d.deciding := rfl
@[simp] theorem Dev.onSafe_rowGen : (d.onSafe f).rowGen = d.rowGen := rfl
@[simp] theorem Dev.onSafe_bufs : (d.onSafe f).bufs = d.bufs := rfl
@[simp] theorem Dev.onSafe_xfer : (d.onSafe f).xfer = d.xfer := rfl
@[simp] theorem Dev.onSafe_hbm : (d.onSafe f).hbm = d.hbm := rfl
@[simp] theorem Dev.onSafe_fm : (d.onSafe f).fm = d.fm := rfl
@[simp] theorem Dev.onSafe_fmBad : (d.onSafe f).fmBad = d.fmBad := rfl
@[simp] theorem Dev.onSafe_mc : (d.onSafe f).mc = d.mc := rfl
@[simp] theorem Dev.onSafe_mem : (d.onSafe f).mem = d.mem := rfl
@[simp] theorem Dev.onSafe_poison : (d.onSafe f).poison = d.poison := rfl
@[simp] theorem Dev.onSafe_stalled : (d.onSafe f).stalled = d.stalled := rfl
@[simp] theorem Dev.onSafe_dropped : (d.onSafe f).dropped = d.dropped := rfl
@[simp] theorem Dev.onSafe_blt : (d.onSafe f).blt = d.blt := rfl
@[simp] theorem Dev.onSafe_rope : (d.onSafe f).rope = d.rope := rfl
@[simp] theorem Dev.onSafe_power : (d.onSafe f).power = d.power := rfl
@[simp] theorem Dev.onSafe_fw : (d.onSafe f).fw = d.fw := rfl
@[simp] theorem Dev.onSafe_board : (d.onSafe f).board = d.board := rfl
@[simp] theorem Dev.onSafe_deferred : (d.onSafe f).deferred = d.deferred := rfl
end

section
variable (d : Dev) (f : MemCtl → MemCtl)
@[simp] theorem Dev.onMc_core : (d.onMc f).core = d.core := rfl
@[simp] theorem Dev.onMc_arms : (d.onMc f).arms = d.arms := rfl
@[simp] theorem Dev.onMc_groups : (d.onMc f).groups = d.groups := rfl
@[simp] theorem Dev.onMc_applied : (d.onMc f).applied = d.applied := rfl
@[simp] theorem Dev.onMc_counts : (d.onMc f).counts = d.counts := rfl
@[simp] theorem Dev.onMc_cads : (d.onMc f).cads = d.cads := rfl
@[simp] theorem Dev.onMc_ports : (d.onMc f).ports = d.ports := rfl
@[simp] theorem Dev.onMc_anchors : (d.onMc f).anchors = d.anchors := rfl
@[simp] theorem Dev.onMc_plls : (d.onMc f).plls = d.plls := rfl
@[simp] theorem Dev.onMc_ckoHeld : (d.onMc f).ckoHeld = d.ckoHeld := rfl
@[simp] theorem Dev.onMc_xports : (d.onMc f).xports = d.xports := rfl
@[simp] theorem Dev.onMc_encs : (d.onMc f).encs = d.encs := rfl
@[simp] theorem Dev.onMc_scenes : (d.onMc f).scenes = d.scenes := rfl
@[simp] theorem Dev.onMc_engs : (d.onMc f).engs = d.engs := rfl
@[simp] theorem Dev.onMc_tones : (d.onMc f).tones = d.tones := rfl
@[simp] theorem Dev.onMc_builds : (d.onMc f).builds = d.builds := rfl
@[simp] theorem Dev.onMc_adps : (d.onMc f).adps = d.adps := rfl
@[simp] theorem Dev.onMc_safe : (d.onMc f).safe = d.safe := rfl
@[simp] theorem Dev.onMc_chks : (d.onMc f).chks = d.chks := rfl
@[simp] theorem Dev.onMc_portChks : (d.onMc f).portChks = d.portChks := rfl
@[simp] theorem Dev.onMc_refs : (d.onMc f).refs = d.refs := rfl
@[simp] theorem Dev.onMc_useId : (d.onMc f).useId = d.useId := rfl
@[simp] theorem Dev.onMc_runSince : (d.onMc f).runSince = d.runSince := rfl
@[simp] theorem Dev.onMc_deciding : (d.onMc f).deciding = d.deciding := rfl
@[simp] theorem Dev.onMc_rowGen : (d.onMc f).rowGen = d.rowGen := rfl
@[simp] theorem Dev.onMc_bufs : (d.onMc f).bufs = d.bufs := rfl
@[simp] theorem Dev.onMc_xfer : (d.onMc f).xfer = d.xfer := rfl
@[simp] theorem Dev.onMc_hbm : (d.onMc f).hbm = d.hbm := rfl
@[simp] theorem Dev.onMc_fm : (d.onMc f).fm = d.fm := rfl
@[simp] theorem Dev.onMc_fmBad : (d.onMc f).fmBad = d.fmBad := rfl
@[simp] theorem Dev.onMc_mc : (d.onMc f).mc = f d.mc := rfl
@[simp] theorem Dev.onMc_mem : (d.onMc f).mem = d.mem := rfl
@[simp] theorem Dev.onMc_poison : (d.onMc f).poison = d.poison := rfl
@[simp] theorem Dev.onMc_stalled : (d.onMc f).stalled = d.stalled := rfl
@[simp] theorem Dev.onMc_dropped : (d.onMc f).dropped = d.dropped := rfl
@[simp] theorem Dev.onMc_blt : (d.onMc f).blt = d.blt := rfl
@[simp] theorem Dev.onMc_rope : (d.onMc f).rope = d.rope := rfl
@[simp] theorem Dev.onMc_power : (d.onMc f).power = d.power := rfl
@[simp] theorem Dev.onMc_fw : (d.onMc f).fw = d.fw := rfl
@[simp] theorem Dev.onMc_board : (d.onMc f).board = d.board := rfl
@[simp] theorem Dev.onMc_deferred : (d.onMc f).deferred = d.deferred := rfl
end

section
variable (d : Dev) (f : Rope → Rope)
@[simp] theorem Dev.onRope_core : (d.onRope f).core = d.core := rfl
@[simp] theorem Dev.onRope_arms : (d.onRope f).arms = d.arms := rfl
@[simp] theorem Dev.onRope_groups : (d.onRope f).groups = d.groups := rfl
@[simp] theorem Dev.onRope_applied : (d.onRope f).applied = d.applied := rfl
@[simp] theorem Dev.onRope_counts : (d.onRope f).counts = d.counts := rfl
@[simp] theorem Dev.onRope_cads : (d.onRope f).cads = d.cads := rfl
@[simp] theorem Dev.onRope_ports : (d.onRope f).ports = d.ports := rfl
@[simp] theorem Dev.onRope_anchors : (d.onRope f).anchors = d.anchors := rfl
@[simp] theorem Dev.onRope_plls : (d.onRope f).plls = d.plls := rfl
@[simp] theorem Dev.onRope_ckoHeld : (d.onRope f).ckoHeld = d.ckoHeld := rfl
@[simp] theorem Dev.onRope_xports : (d.onRope f).xports = d.xports := rfl
@[simp] theorem Dev.onRope_encs : (d.onRope f).encs = d.encs := rfl
@[simp] theorem Dev.onRope_scenes : (d.onRope f).scenes = d.scenes := rfl
@[simp] theorem Dev.onRope_engs : (d.onRope f).engs = d.engs := rfl
@[simp] theorem Dev.onRope_tones : (d.onRope f).tones = d.tones := rfl
@[simp] theorem Dev.onRope_builds : (d.onRope f).builds = d.builds := rfl
@[simp] theorem Dev.onRope_adps : (d.onRope f).adps = d.adps := rfl
@[simp] theorem Dev.onRope_safe : (d.onRope f).safe = d.safe := rfl
@[simp] theorem Dev.onRope_chks : (d.onRope f).chks = d.chks := rfl
@[simp] theorem Dev.onRope_portChks : (d.onRope f).portChks = d.portChks := rfl
@[simp] theorem Dev.onRope_refs : (d.onRope f).refs = d.refs := rfl
@[simp] theorem Dev.onRope_useId : (d.onRope f).useId = d.useId := rfl
@[simp] theorem Dev.onRope_runSince : (d.onRope f).runSince = d.runSince := rfl
@[simp] theorem Dev.onRope_deciding : (d.onRope f).deciding = d.deciding := rfl
@[simp] theorem Dev.onRope_rowGen : (d.onRope f).rowGen = d.rowGen := rfl
@[simp] theorem Dev.onRope_bufs : (d.onRope f).bufs = d.bufs := rfl
@[simp] theorem Dev.onRope_xfer : (d.onRope f).xfer = d.xfer := rfl
@[simp] theorem Dev.onRope_hbm : (d.onRope f).hbm = d.hbm := rfl
@[simp] theorem Dev.onRope_fm : (d.onRope f).fm = d.fm := rfl
@[simp] theorem Dev.onRope_fmBad : (d.onRope f).fmBad = d.fmBad := rfl
@[simp] theorem Dev.onRope_mc : (d.onRope f).mc = d.mc := rfl
@[simp] theorem Dev.onRope_mem : (d.onRope f).mem = d.mem := rfl
@[simp] theorem Dev.onRope_poison : (d.onRope f).poison = d.poison := rfl
@[simp] theorem Dev.onRope_stalled : (d.onRope f).stalled = d.stalled := rfl
@[simp] theorem Dev.onRope_dropped : (d.onRope f).dropped = d.dropped := rfl
@[simp] theorem Dev.onRope_blt : (d.onRope f).blt = d.blt := rfl
@[simp] theorem Dev.onRope_rope : (d.onRope f).rope = f d.rope := rfl
@[simp] theorem Dev.onRope_power : (d.onRope f).power = d.power := rfl
@[simp] theorem Dev.onRope_fw : (d.onRope f).fw = d.fw := rfl
@[simp] theorem Dev.onRope_board : (d.onRope f).board = d.board := rfl
@[simp] theorem Dev.onRope_deferred : (d.onRope f).deferred = d.deferred := rfl
end

section
variable (d : Dev) (f : Power → Power)
@[simp] theorem Dev.onPower_core : (d.onPower f).core = d.core := rfl
@[simp] theorem Dev.onPower_arms : (d.onPower f).arms = d.arms := rfl
@[simp] theorem Dev.onPower_groups : (d.onPower f).groups = d.groups := rfl
@[simp] theorem Dev.onPower_applied : (d.onPower f).applied = d.applied := rfl
@[simp] theorem Dev.onPower_counts : (d.onPower f).counts = d.counts := rfl
@[simp] theorem Dev.onPower_cads : (d.onPower f).cads = d.cads := rfl
@[simp] theorem Dev.onPower_ports : (d.onPower f).ports = d.ports := rfl
@[simp] theorem Dev.onPower_anchors : (d.onPower f).anchors = d.anchors := rfl
@[simp] theorem Dev.onPower_plls : (d.onPower f).plls = d.plls := rfl
@[simp] theorem Dev.onPower_ckoHeld : (d.onPower f).ckoHeld = d.ckoHeld := rfl
@[simp] theorem Dev.onPower_xports : (d.onPower f).xports = d.xports := rfl
@[simp] theorem Dev.onPower_encs : (d.onPower f).encs = d.encs := rfl
@[simp] theorem Dev.onPower_scenes : (d.onPower f).scenes = d.scenes := rfl
@[simp] theorem Dev.onPower_engs : (d.onPower f).engs = d.engs := rfl
@[simp] theorem Dev.onPower_tones : (d.onPower f).tones = d.tones := rfl
@[simp] theorem Dev.onPower_builds : (d.onPower f).builds = d.builds := rfl
@[simp] theorem Dev.onPower_adps : (d.onPower f).adps = d.adps := rfl
@[simp] theorem Dev.onPower_safe : (d.onPower f).safe = d.safe := rfl
@[simp] theorem Dev.onPower_chks : (d.onPower f).chks = d.chks := rfl
@[simp] theorem Dev.onPower_portChks : (d.onPower f).portChks = d.portChks := rfl
@[simp] theorem Dev.onPower_refs : (d.onPower f).refs = d.refs := rfl
@[simp] theorem Dev.onPower_useId : (d.onPower f).useId = d.useId := rfl
@[simp] theorem Dev.onPower_runSince : (d.onPower f).runSince = d.runSince := rfl
@[simp] theorem Dev.onPower_deciding : (d.onPower f).deciding = d.deciding := rfl
@[simp] theorem Dev.onPower_rowGen : (d.onPower f).rowGen = d.rowGen := rfl
@[simp] theorem Dev.onPower_bufs : (d.onPower f).bufs = d.bufs := rfl
@[simp] theorem Dev.onPower_xfer : (d.onPower f).xfer = d.xfer := rfl
@[simp] theorem Dev.onPower_hbm : (d.onPower f).hbm = d.hbm := rfl
@[simp] theorem Dev.onPower_fm : (d.onPower f).fm = d.fm := rfl
@[simp] theorem Dev.onPower_fmBad : (d.onPower f).fmBad = d.fmBad := rfl
@[simp] theorem Dev.onPower_mc : (d.onPower f).mc = d.mc := rfl
@[simp] theorem Dev.onPower_mem : (d.onPower f).mem = d.mem := rfl
@[simp] theorem Dev.onPower_poison : (d.onPower f).poison = d.poison := rfl
@[simp] theorem Dev.onPower_stalled : (d.onPower f).stalled = d.stalled := rfl
@[simp] theorem Dev.onPower_dropped : (d.onPower f).dropped = d.dropped := rfl
@[simp] theorem Dev.onPower_blt : (d.onPower f).blt = d.blt := rfl
@[simp] theorem Dev.onPower_rope : (d.onPower f).rope = d.rope := rfl
@[simp] theorem Dev.onPower_power : (d.onPower f).power = f d.power := rfl
@[simp] theorem Dev.onPower_fw : (d.onPower f).fw = d.fw := rfl
@[simp] theorem Dev.onPower_board : (d.onPower f).board = d.board := rfl
@[simp] theorem Dev.onPower_deferred : (d.onPower f).deferred = d.deferred := rfl
end

section
variable (d : Dev) (f : Fw → Fw)
@[simp] theorem Dev.onFw_core : (d.onFw f).core = d.core := rfl
@[simp] theorem Dev.onFw_arms : (d.onFw f).arms = d.arms := rfl
@[simp] theorem Dev.onFw_groups : (d.onFw f).groups = d.groups := rfl
@[simp] theorem Dev.onFw_applied : (d.onFw f).applied = d.applied := rfl
@[simp] theorem Dev.onFw_counts : (d.onFw f).counts = d.counts := rfl
@[simp] theorem Dev.onFw_cads : (d.onFw f).cads = d.cads := rfl
@[simp] theorem Dev.onFw_ports : (d.onFw f).ports = d.ports := rfl
@[simp] theorem Dev.onFw_anchors : (d.onFw f).anchors = d.anchors := rfl
@[simp] theorem Dev.onFw_plls : (d.onFw f).plls = d.plls := rfl
@[simp] theorem Dev.onFw_ckoHeld : (d.onFw f).ckoHeld = d.ckoHeld := rfl
@[simp] theorem Dev.onFw_xports : (d.onFw f).xports = d.xports := rfl
@[simp] theorem Dev.onFw_encs : (d.onFw f).encs = d.encs := rfl
@[simp] theorem Dev.onFw_scenes : (d.onFw f).scenes = d.scenes := rfl
@[simp] theorem Dev.onFw_engs : (d.onFw f).engs = d.engs := rfl
@[simp] theorem Dev.onFw_tones : (d.onFw f).tones = d.tones := rfl
@[simp] theorem Dev.onFw_builds : (d.onFw f).builds = d.builds := rfl
@[simp] theorem Dev.onFw_adps : (d.onFw f).adps = d.adps := rfl
@[simp] theorem Dev.onFw_safe : (d.onFw f).safe = d.safe := rfl
@[simp] theorem Dev.onFw_chks : (d.onFw f).chks = d.chks := rfl
@[simp] theorem Dev.onFw_portChks : (d.onFw f).portChks = d.portChks := rfl
@[simp] theorem Dev.onFw_refs : (d.onFw f).refs = d.refs := rfl
@[simp] theorem Dev.onFw_useId : (d.onFw f).useId = d.useId := rfl
@[simp] theorem Dev.onFw_runSince : (d.onFw f).runSince = d.runSince := rfl
@[simp] theorem Dev.onFw_deciding : (d.onFw f).deciding = d.deciding := rfl
@[simp] theorem Dev.onFw_rowGen : (d.onFw f).rowGen = d.rowGen := rfl
@[simp] theorem Dev.onFw_bufs : (d.onFw f).bufs = d.bufs := rfl
@[simp] theorem Dev.onFw_xfer : (d.onFw f).xfer = d.xfer := rfl
@[simp] theorem Dev.onFw_hbm : (d.onFw f).hbm = d.hbm := rfl
@[simp] theorem Dev.onFw_fm : (d.onFw f).fm = d.fm := rfl
@[simp] theorem Dev.onFw_fmBad : (d.onFw f).fmBad = d.fmBad := rfl
@[simp] theorem Dev.onFw_mc : (d.onFw f).mc = d.mc := rfl
@[simp] theorem Dev.onFw_mem : (d.onFw f).mem = d.mem := rfl
@[simp] theorem Dev.onFw_poison : (d.onFw f).poison = d.poison := rfl
@[simp] theorem Dev.onFw_stalled : (d.onFw f).stalled = d.stalled := rfl
@[simp] theorem Dev.onFw_dropped : (d.onFw f).dropped = d.dropped := rfl
@[simp] theorem Dev.onFw_blt : (d.onFw f).blt = d.blt := rfl
@[simp] theorem Dev.onFw_rope : (d.onFw f).rope = d.rope := rfl
@[simp] theorem Dev.onFw_power : (d.onFw f).power = d.power := rfl
@[simp] theorem Dev.onFw_fw : (d.onFw f).fw = f d.fw := rfl
@[simp] theorem Dev.onFw_board : (d.onFw f).board = d.board := rfl
@[simp] theorem Dev.onFw_deferred : (d.onFw f).deferred = d.deferred := rfl
end

section
variable (d : Dev) (f : Board → Board)
@[simp] theorem Dev.onBoard_core : (d.onBoard f).core = d.core := rfl
@[simp] theorem Dev.onBoard_arms : (d.onBoard f).arms = d.arms := rfl
@[simp] theorem Dev.onBoard_groups : (d.onBoard f).groups = d.groups := rfl
@[simp] theorem Dev.onBoard_applied : (d.onBoard f).applied = d.applied := rfl
@[simp] theorem Dev.onBoard_counts : (d.onBoard f).counts = d.counts := rfl
@[simp] theorem Dev.onBoard_cads : (d.onBoard f).cads = d.cads := rfl
@[simp] theorem Dev.onBoard_ports : (d.onBoard f).ports = d.ports := rfl
@[simp] theorem Dev.onBoard_anchors : (d.onBoard f).anchors = d.anchors := rfl
@[simp] theorem Dev.onBoard_plls : (d.onBoard f).plls = d.plls := rfl
@[simp] theorem Dev.onBoard_ckoHeld : (d.onBoard f).ckoHeld = d.ckoHeld := rfl
@[simp] theorem Dev.onBoard_xports : (d.onBoard f).xports = d.xports := rfl
@[simp] theorem Dev.onBoard_encs : (d.onBoard f).encs = d.encs := rfl
@[simp] theorem Dev.onBoard_scenes : (d.onBoard f).scenes = d.scenes := rfl
@[simp] theorem Dev.onBoard_engs : (d.onBoard f).engs = d.engs := rfl
@[simp] theorem Dev.onBoard_tones : (d.onBoard f).tones = d.tones := rfl
@[simp] theorem Dev.onBoard_builds : (d.onBoard f).builds = d.builds := rfl
@[simp] theorem Dev.onBoard_adps : (d.onBoard f).adps = d.adps := rfl
@[simp] theorem Dev.onBoard_safe : (d.onBoard f).safe = d.safe := rfl
@[simp] theorem Dev.onBoard_chks : (d.onBoard f).chks = d.chks := rfl
@[simp] theorem Dev.onBoard_portChks : (d.onBoard f).portChks = d.portChks := rfl
@[simp] theorem Dev.onBoard_refs : (d.onBoard f).refs = d.refs := rfl
@[simp] theorem Dev.onBoard_useId : (d.onBoard f).useId = d.useId := rfl
@[simp] theorem Dev.onBoard_runSince : (d.onBoard f).runSince = d.runSince := rfl
@[simp] theorem Dev.onBoard_deciding : (d.onBoard f).deciding = d.deciding := rfl
@[simp] theorem Dev.onBoard_rowGen : (d.onBoard f).rowGen = d.rowGen := rfl
@[simp] theorem Dev.onBoard_bufs : (d.onBoard f).bufs = d.bufs := rfl
@[simp] theorem Dev.onBoard_xfer : (d.onBoard f).xfer = d.xfer := rfl
@[simp] theorem Dev.onBoard_hbm : (d.onBoard f).hbm = d.hbm := rfl
@[simp] theorem Dev.onBoard_fm : (d.onBoard f).fm = d.fm := rfl
@[simp] theorem Dev.onBoard_fmBad : (d.onBoard f).fmBad = d.fmBad := rfl
@[simp] theorem Dev.onBoard_mc : (d.onBoard f).mc = d.mc := rfl
@[simp] theorem Dev.onBoard_mem : (d.onBoard f).mem = d.mem := rfl
@[simp] theorem Dev.onBoard_poison : (d.onBoard f).poison = d.poison := rfl
@[simp] theorem Dev.onBoard_stalled : (d.onBoard f).stalled = d.stalled := rfl
@[simp] theorem Dev.onBoard_dropped : (d.onBoard f).dropped = d.dropped := rfl
@[simp] theorem Dev.onBoard_blt : (d.onBoard f).blt = d.blt := rfl
@[simp] theorem Dev.onBoard_rope : (d.onBoard f).rope = d.rope := rfl
@[simp] theorem Dev.onBoard_power : (d.onBoard f).power = d.power := rfl
@[simp] theorem Dev.onBoard_fw : (d.onBoard f).fw = d.fw := rfl
@[simp] theorem Dev.onBoard_board : (d.onBoard f).board = f d.board := rfl
@[simp] theorem Dev.onBoard_deferred : (d.onBoard f).deferred = d.deferred := rfl
end

section
variable (d : Dev) (k j : Nat) (x : Cad)
@[simp] theorem Dev.setCad_core : (d.setCad k x).core = d.core := rfl
@[simp] theorem Dev.setCad_arms : (d.setCad k x).arms = d.arms := rfl
@[simp] theorem Dev.setCad_groups : (d.setCad k x).groups = d.groups := rfl
@[simp] theorem Dev.setCad_applied : (d.setCad k x).applied = d.applied := rfl
@[simp] theorem Dev.setCad_counts : (d.setCad k x).counts = d.counts := rfl
@[simp] theorem Dev.setCad_ports : (d.setCad k x).ports = d.ports := rfl
@[simp] theorem Dev.setCad_anchors : (d.setCad k x).anchors = d.anchors := rfl
@[simp] theorem Dev.setCad_plls : (d.setCad k x).plls = d.plls := rfl
@[simp] theorem Dev.setCad_ckoHeld : (d.setCad k x).ckoHeld = d.ckoHeld := rfl
@[simp] theorem Dev.setCad_xports : (d.setCad k x).xports = d.xports := rfl
@[simp] theorem Dev.setCad_encs : (d.setCad k x).encs = d.encs := rfl
@[simp] theorem Dev.setCad_scenes : (d.setCad k x).scenes = d.scenes := rfl
@[simp] theorem Dev.setCad_engs : (d.setCad k x).engs = d.engs := rfl
@[simp] theorem Dev.setCad_tones : (d.setCad k x).tones = d.tones := rfl
@[simp] theorem Dev.setCad_builds : (d.setCad k x).builds = d.builds := rfl
@[simp] theorem Dev.setCad_adps : (d.setCad k x).adps = d.adps := rfl
@[simp] theorem Dev.setCad_safe : (d.setCad k x).safe = d.safe := rfl
@[simp] theorem Dev.setCad_chks : (d.setCad k x).chks = d.chks := rfl
@[simp] theorem Dev.setCad_portChks : (d.setCad k x).portChks = d.portChks := rfl
@[simp] theorem Dev.setCad_refs : (d.setCad k x).refs = d.refs := rfl
@[simp] theorem Dev.setCad_useId : (d.setCad k x).useId = d.useId := rfl
@[simp] theorem Dev.setCad_runSince : (d.setCad k x).runSince = d.runSince := rfl
@[simp] theorem Dev.setCad_deciding : (d.setCad k x).deciding = d.deciding := rfl
@[simp] theorem Dev.setCad_rowGen : (d.setCad k x).rowGen = d.rowGen := rfl
@[simp] theorem Dev.setCad_bufs : (d.setCad k x).bufs = d.bufs := rfl
@[simp] theorem Dev.setCad_xfer : (d.setCad k x).xfer = d.xfer := rfl
@[simp] theorem Dev.setCad_hbm : (d.setCad k x).hbm = d.hbm := rfl
@[simp] theorem Dev.setCad_fm : (d.setCad k x).fm = d.fm := rfl
@[simp] theorem Dev.setCad_fmBad : (d.setCad k x).fmBad = d.fmBad := rfl
@[simp] theorem Dev.setCad_mc : (d.setCad k x).mc = d.mc := rfl
@[simp] theorem Dev.setCad_mem : (d.setCad k x).mem = d.mem := rfl
@[simp] theorem Dev.setCad_poison : (d.setCad k x).poison = d.poison := rfl
@[simp] theorem Dev.setCad_stalled : (d.setCad k x).stalled = d.stalled := rfl
@[simp] theorem Dev.setCad_dropped : (d.setCad k x).dropped = d.dropped := rfl
@[simp] theorem Dev.setCad_blt : (d.setCad k x).blt = d.blt := rfl
@[simp] theorem Dev.setCad_rope : (d.setCad k x).rope = d.rope := rfl
@[simp] theorem Dev.setCad_power : (d.setCad k x).power = d.power := rfl
@[simp] theorem Dev.setCad_fw : (d.setCad k x).fw = d.fw := rfl
@[simp] theorem Dev.setCad_board : (d.setCad k x).board = d.board := rfl
@[simp] theorem Dev.setCad_deferred : (d.setCad k x).deferred = d.deferred := rfl
theorem Dev.cad_setCad : (d.setCad k x).cad j = if j = k then x else d.cad j := Tbl.get_set _ _ _ _ _
@[simp] theorem Dev.cad_setCad_same : (d.setCad k x).cad k = x := Tbl.get_set_same _ _ _ _
end

section
variable (d : Dev) (k j : Nat) (x : Port)
@[simp] theorem Dev.setPort_core : (d.setPort k x).core = d.core := rfl
@[simp] theorem Dev.setPort_arms : (d.setPort k x).arms = d.arms := rfl
@[simp] theorem Dev.setPort_groups : (d.setPort k x).groups = d.groups := rfl
@[simp] theorem Dev.setPort_applied : (d.setPort k x).applied = d.applied := rfl
@[simp] theorem Dev.setPort_counts : (d.setPort k x).counts = d.counts := rfl
@[simp] theorem Dev.setPort_cads : (d.setPort k x).cads = d.cads := rfl
@[simp] theorem Dev.setPort_anchors : (d.setPort k x).anchors = d.anchors := rfl
@[simp] theorem Dev.setPort_plls : (d.setPort k x).plls = d.plls := rfl
@[simp] theorem Dev.setPort_ckoHeld : (d.setPort k x).ckoHeld = d.ckoHeld := rfl
@[simp] theorem Dev.setPort_xports : (d.setPort k x).xports = d.xports := rfl
@[simp] theorem Dev.setPort_encs : (d.setPort k x).encs = d.encs := rfl
@[simp] theorem Dev.setPort_scenes : (d.setPort k x).scenes = d.scenes := rfl
@[simp] theorem Dev.setPort_engs : (d.setPort k x).engs = d.engs := rfl
@[simp] theorem Dev.setPort_tones : (d.setPort k x).tones = d.tones := rfl
@[simp] theorem Dev.setPort_builds : (d.setPort k x).builds = d.builds := rfl
@[simp] theorem Dev.setPort_adps : (d.setPort k x).adps = d.adps := rfl
@[simp] theorem Dev.setPort_safe : (d.setPort k x).safe = d.safe := rfl
@[simp] theorem Dev.setPort_chks : (d.setPort k x).chks = d.chks := rfl
@[simp] theorem Dev.setPort_portChks : (d.setPort k x).portChks = d.portChks := rfl
@[simp] theorem Dev.setPort_refs : (d.setPort k x).refs = d.refs := rfl
@[simp] theorem Dev.setPort_useId : (d.setPort k x).useId = d.useId := rfl
@[simp] theorem Dev.setPort_runSince : (d.setPort k x).runSince = d.runSince := rfl
@[simp] theorem Dev.setPort_deciding : (d.setPort k x).deciding = d.deciding := rfl
@[simp] theorem Dev.setPort_rowGen : (d.setPort k x).rowGen = d.rowGen := rfl
@[simp] theorem Dev.setPort_bufs : (d.setPort k x).bufs = d.bufs := rfl
@[simp] theorem Dev.setPort_xfer : (d.setPort k x).xfer = d.xfer := rfl
@[simp] theorem Dev.setPort_hbm : (d.setPort k x).hbm = d.hbm := rfl
@[simp] theorem Dev.setPort_fm : (d.setPort k x).fm = d.fm := rfl
@[simp] theorem Dev.setPort_fmBad : (d.setPort k x).fmBad = d.fmBad := rfl
@[simp] theorem Dev.setPort_mc : (d.setPort k x).mc = d.mc := rfl
@[simp] theorem Dev.setPort_mem : (d.setPort k x).mem = d.mem := rfl
@[simp] theorem Dev.setPort_poison : (d.setPort k x).poison = d.poison := rfl
@[simp] theorem Dev.setPort_stalled : (d.setPort k x).stalled = d.stalled := rfl
@[simp] theorem Dev.setPort_dropped : (d.setPort k x).dropped = d.dropped := rfl
@[simp] theorem Dev.setPort_blt : (d.setPort k x).blt = d.blt := rfl
@[simp] theorem Dev.setPort_rope : (d.setPort k x).rope = d.rope := rfl
@[simp] theorem Dev.setPort_power : (d.setPort k x).power = d.power := rfl
@[simp] theorem Dev.setPort_fw : (d.setPort k x).fw = d.fw := rfl
@[simp] theorem Dev.setPort_board : (d.setPort k x).board = d.board := rfl
@[simp] theorem Dev.setPort_deferred : (d.setPort k x).deferred = d.deferred := rfl
theorem Dev.port_setPort : (d.setPort k x).port j = if j = k then x else d.port j := Tbl.get_set _ _ _ _ _
@[simp] theorem Dev.port_setPort_same : (d.setPort k x).port k = x := Tbl.get_set_same _ _ _ _
end

section
variable (d : Dev) (k j : Nat) (x : Pll)
@[simp] theorem Dev.setPll_core : (d.setPll k x).core = d.core := rfl
@[simp] theorem Dev.setPll_arms : (d.setPll k x).arms = d.arms := rfl
@[simp] theorem Dev.setPll_groups : (d.setPll k x).groups = d.groups := rfl
@[simp] theorem Dev.setPll_applied : (d.setPll k x).applied = d.applied := rfl
@[simp] theorem Dev.setPll_counts : (d.setPll k x).counts = d.counts := rfl
@[simp] theorem Dev.setPll_cads : (d.setPll k x).cads = d.cads := rfl
@[simp] theorem Dev.setPll_ports : (d.setPll k x).ports = d.ports := rfl
@[simp] theorem Dev.setPll_anchors : (d.setPll k x).anchors = d.anchors := rfl
@[simp] theorem Dev.setPll_ckoHeld : (d.setPll k x).ckoHeld = d.ckoHeld := rfl
@[simp] theorem Dev.setPll_xports : (d.setPll k x).xports = d.xports := rfl
@[simp] theorem Dev.setPll_encs : (d.setPll k x).encs = d.encs := rfl
@[simp] theorem Dev.setPll_scenes : (d.setPll k x).scenes = d.scenes := rfl
@[simp] theorem Dev.setPll_engs : (d.setPll k x).engs = d.engs := rfl
@[simp] theorem Dev.setPll_tones : (d.setPll k x).tones = d.tones := rfl
@[simp] theorem Dev.setPll_builds : (d.setPll k x).builds = d.builds := rfl
@[simp] theorem Dev.setPll_adps : (d.setPll k x).adps = d.adps := rfl
@[simp] theorem Dev.setPll_safe : (d.setPll k x).safe = d.safe := rfl
@[simp] theorem Dev.setPll_chks : (d.setPll k x).chks = d.chks := rfl
@[simp] theorem Dev.setPll_portChks : (d.setPll k x).portChks = d.portChks := rfl
@[simp] theorem Dev.setPll_refs : (d.setPll k x).refs = d.refs := rfl
@[simp] theorem Dev.setPll_useId : (d.setPll k x).useId = d.useId := rfl
@[simp] theorem Dev.setPll_runSince : (d.setPll k x).runSince = d.runSince := rfl
@[simp] theorem Dev.setPll_deciding : (d.setPll k x).deciding = d.deciding := rfl
@[simp] theorem Dev.setPll_rowGen : (d.setPll k x).rowGen = d.rowGen := rfl
@[simp] theorem Dev.setPll_bufs : (d.setPll k x).bufs = d.bufs := rfl
@[simp] theorem Dev.setPll_xfer : (d.setPll k x).xfer = d.xfer := rfl
@[simp] theorem Dev.setPll_hbm : (d.setPll k x).hbm = d.hbm := rfl
@[simp] theorem Dev.setPll_fm : (d.setPll k x).fm = d.fm := rfl
@[simp] theorem Dev.setPll_fmBad : (d.setPll k x).fmBad = d.fmBad := rfl
@[simp] theorem Dev.setPll_mc : (d.setPll k x).mc = d.mc := rfl
@[simp] theorem Dev.setPll_mem : (d.setPll k x).mem = d.mem := rfl
@[simp] theorem Dev.setPll_poison : (d.setPll k x).poison = d.poison := rfl
@[simp] theorem Dev.setPll_stalled : (d.setPll k x).stalled = d.stalled := rfl
@[simp] theorem Dev.setPll_dropped : (d.setPll k x).dropped = d.dropped := rfl
@[simp] theorem Dev.setPll_blt : (d.setPll k x).blt = d.blt := rfl
@[simp] theorem Dev.setPll_rope : (d.setPll k x).rope = d.rope := rfl
@[simp] theorem Dev.setPll_power : (d.setPll k x).power = d.power := rfl
@[simp] theorem Dev.setPll_fw : (d.setPll k x).fw = d.fw := rfl
@[simp] theorem Dev.setPll_board : (d.setPll k x).board = d.board := rfl
@[simp] theorem Dev.setPll_deferred : (d.setPll k x).deferred = d.deferred := rfl
theorem Dev.pll_setPll : (d.setPll k x).pll j = if j = k then x else d.pll j := Tbl.get_set _ _ _ _ _
@[simp] theorem Dev.pll_setPll_same : (d.setPll k x).pll k = x := Tbl.get_set_same _ _ _ _
end

section
variable (d : Dev) (k j : Nat) (x : Xp)
@[simp] theorem Dev.setXp_core : (d.setXp k x).core = d.core := rfl
@[simp] theorem Dev.setXp_arms : (d.setXp k x).arms = d.arms := rfl
@[simp] theorem Dev.setXp_groups : (d.setXp k x).groups = d.groups := rfl
@[simp] theorem Dev.setXp_applied : (d.setXp k x).applied = d.applied := rfl
@[simp] theorem Dev.setXp_counts : (d.setXp k x).counts = d.counts := rfl
@[simp] theorem Dev.setXp_cads : (d.setXp k x).cads = d.cads := rfl
@[simp] theorem Dev.setXp_ports : (d.setXp k x).ports = d.ports := rfl
@[simp] theorem Dev.setXp_anchors : (d.setXp k x).anchors = d.anchors := rfl
@[simp] theorem Dev.setXp_plls : (d.setXp k x).plls = d.plls := rfl
@[simp] theorem Dev.setXp_ckoHeld : (d.setXp k x).ckoHeld = d.ckoHeld := rfl
@[simp] theorem Dev.setXp_encs : (d.setXp k x).encs = d.encs := rfl
@[simp] theorem Dev.setXp_scenes : (d.setXp k x).scenes = d.scenes := rfl
@[simp] theorem Dev.setXp_engs : (d.setXp k x).engs = d.engs := rfl
@[simp] theorem Dev.setXp_tones : (d.setXp k x).tones = d.tones := rfl
@[simp] theorem Dev.setXp_builds : (d.setXp k x).builds = d.builds := rfl
@[simp] theorem Dev.setXp_adps : (d.setXp k x).adps = d.adps := rfl
@[simp] theorem Dev.setXp_safe : (d.setXp k x).safe = d.safe := rfl
@[simp] theorem Dev.setXp_chks : (d.setXp k x).chks = d.chks := rfl
@[simp] theorem Dev.setXp_portChks : (d.setXp k x).portChks = d.portChks := rfl
@[simp] theorem Dev.setXp_refs : (d.setXp k x).refs = d.refs := rfl
@[simp] theorem Dev.setXp_useId : (d.setXp k x).useId = d.useId := rfl
@[simp] theorem Dev.setXp_runSince : (d.setXp k x).runSince = d.runSince := rfl
@[simp] theorem Dev.setXp_deciding : (d.setXp k x).deciding = d.deciding := rfl
@[simp] theorem Dev.setXp_rowGen : (d.setXp k x).rowGen = d.rowGen := rfl
@[simp] theorem Dev.setXp_bufs : (d.setXp k x).bufs = d.bufs := rfl
@[simp] theorem Dev.setXp_xfer : (d.setXp k x).xfer = d.xfer := rfl
@[simp] theorem Dev.setXp_hbm : (d.setXp k x).hbm = d.hbm := rfl
@[simp] theorem Dev.setXp_fm : (d.setXp k x).fm = d.fm := rfl
@[simp] theorem Dev.setXp_fmBad : (d.setXp k x).fmBad = d.fmBad := rfl
@[simp] theorem Dev.setXp_mc : (d.setXp k x).mc = d.mc := rfl
@[simp] theorem Dev.setXp_mem : (d.setXp k x).mem = d.mem := rfl
@[simp] theorem Dev.setXp_poison : (d.setXp k x).poison = d.poison := rfl
@[simp] theorem Dev.setXp_stalled : (d.setXp k x).stalled = d.stalled := rfl
@[simp] theorem Dev.setXp_dropped : (d.setXp k x).dropped = d.dropped := rfl
@[simp] theorem Dev.setXp_blt : (d.setXp k x).blt = d.blt := rfl
@[simp] theorem Dev.setXp_rope : (d.setXp k x).rope = d.rope := rfl
@[simp] theorem Dev.setXp_power : (d.setXp k x).power = d.power := rfl
@[simp] theorem Dev.setXp_fw : (d.setXp k x).fw = d.fw := rfl
@[simp] theorem Dev.setXp_board : (d.setXp k x).board = d.board := rfl
@[simp] theorem Dev.setXp_deferred : (d.setXp k x).deferred = d.deferred := rfl
theorem Dev.xp_setXp : (d.setXp k x).xp j = if j = k then x else d.xp j := Tbl.get_set _ _ _ _ _
@[simp] theorem Dev.xp_setXp_same : (d.setXp k x).xp k = x := Tbl.get_set_same _ _ _ _
end

section
variable (d : Dev) (k j : Nat) (x : Enc)
@[simp] theorem Dev.setEnc_core : (d.setEnc k x).core = d.core := rfl
@[simp] theorem Dev.setEnc_arms : (d.setEnc k x).arms = d.arms := rfl
@[simp] theorem Dev.setEnc_groups : (d.setEnc k x).groups = d.groups := rfl
@[simp] theorem Dev.setEnc_applied : (d.setEnc k x).applied = d.applied := rfl
@[simp] theorem Dev.setEnc_counts : (d.setEnc k x).counts = d.counts := rfl
@[simp] theorem Dev.setEnc_cads : (d.setEnc k x).cads = d.cads := rfl
@[simp] theorem Dev.setEnc_ports : (d.setEnc k x).ports = d.ports := rfl
@[simp] theorem Dev.setEnc_anchors : (d.setEnc k x).anchors = d.anchors := rfl
@[simp] theorem Dev.setEnc_plls : (d.setEnc k x).plls = d.plls := rfl
@[simp] theorem Dev.setEnc_ckoHeld : (d.setEnc k x).ckoHeld = d.ckoHeld := rfl
@[simp] theorem Dev.setEnc_xports : (d.setEnc k x).xports = d.xports := rfl
@[simp] theorem Dev.setEnc_scenes : (d.setEnc k x).scenes = d.scenes := rfl
@[simp] theorem Dev.setEnc_engs : (d.setEnc k x).engs = d.engs := rfl
@[simp] theorem Dev.setEnc_tones : (d.setEnc k x).tones = d.tones := rfl
@[simp] theorem Dev.setEnc_builds : (d.setEnc k x).builds = d.builds := rfl
@[simp] theorem Dev.setEnc_adps : (d.setEnc k x).adps = d.adps := rfl
@[simp] theorem Dev.setEnc_safe : (d.setEnc k x).safe = d.safe := rfl
@[simp] theorem Dev.setEnc_chks : (d.setEnc k x).chks = d.chks := rfl
@[simp] theorem Dev.setEnc_portChks : (d.setEnc k x).portChks = d.portChks := rfl
@[simp] theorem Dev.setEnc_refs : (d.setEnc k x).refs = d.refs := rfl
@[simp] theorem Dev.setEnc_useId : (d.setEnc k x).useId = d.useId := rfl
@[simp] theorem Dev.setEnc_runSince : (d.setEnc k x).runSince = d.runSince := rfl
@[simp] theorem Dev.setEnc_deciding : (d.setEnc k x).deciding = d.deciding := rfl
@[simp] theorem Dev.setEnc_rowGen : (d.setEnc k x).rowGen = d.rowGen := rfl
@[simp] theorem Dev.setEnc_bufs : (d.setEnc k x).bufs = d.bufs := rfl
@[simp] theorem Dev.setEnc_xfer : (d.setEnc k x).xfer = d.xfer := rfl
@[simp] theorem Dev.setEnc_hbm : (d.setEnc k x).hbm = d.hbm := rfl
@[simp] theorem Dev.setEnc_fm : (d.setEnc k x).fm = d.fm := rfl
@[simp] theorem Dev.setEnc_fmBad : (d.setEnc k x).fmBad = d.fmBad := rfl
@[simp] theorem Dev.setEnc_mc : (d.setEnc k x).mc = d.mc := rfl
@[simp] theorem Dev.setEnc_mem : (d.setEnc k x).mem = d.mem := rfl
@[simp] theorem Dev.setEnc_poison : (d.setEnc k x).poison = d.poison := rfl
@[simp] theorem Dev.setEnc_stalled : (d.setEnc k x).stalled = d.stalled := rfl
@[simp] theorem Dev.setEnc_dropped : (d.setEnc k x).dropped = d.dropped := rfl
@[simp] theorem Dev.setEnc_blt : (d.setEnc k x).blt = d.blt := rfl
@[simp] theorem Dev.setEnc_rope : (d.setEnc k x).rope = d.rope := rfl
@[simp] theorem Dev.setEnc_power : (d.setEnc k x).power = d.power := rfl
@[simp] theorem Dev.setEnc_fw : (d.setEnc k x).fw = d.fw := rfl
@[simp] theorem Dev.setEnc_board : (d.setEnc k x).board = d.board := rfl
@[simp] theorem Dev.setEnc_deferred : (d.setEnc k x).deferred = d.deferred := rfl
theorem Dev.enc_setEnc : (d.setEnc k x).enc j = if j = k then x else d.enc j := Tbl.get_set _ _ _ _ _
@[simp] theorem Dev.enc_setEnc_same : (d.setEnc k x).enc k = x := Tbl.get_set_same _ _ _ _
end

section
variable (d : Dev) (k j : Nat) (x : Scene)
@[simp] theorem Dev.setScene_core : (d.setScene k x).core = d.core := rfl
@[simp] theorem Dev.setScene_arms : (d.setScene k x).arms = d.arms := rfl
@[simp] theorem Dev.setScene_groups : (d.setScene k x).groups = d.groups := rfl
@[simp] theorem Dev.setScene_applied : (d.setScene k x).applied = d.applied := rfl
@[simp] theorem Dev.setScene_counts : (d.setScene k x).counts = d.counts := rfl
@[simp] theorem Dev.setScene_cads : (d.setScene k x).cads = d.cads := rfl
@[simp] theorem Dev.setScene_ports : (d.setScene k x).ports = d.ports := rfl
@[simp] theorem Dev.setScene_anchors : (d.setScene k x).anchors = d.anchors := rfl
@[simp] theorem Dev.setScene_plls : (d.setScene k x).plls = d.plls := rfl
@[simp] theorem Dev.setScene_ckoHeld : (d.setScene k x).ckoHeld = d.ckoHeld := rfl
@[simp] theorem Dev.setScene_xports : (d.setScene k x).xports = d.xports := rfl
@[simp] theorem Dev.setScene_encs : (d.setScene k x).encs = d.encs := rfl
@[simp] theorem Dev.setScene_engs : (d.setScene k x).engs = d.engs := rfl
@[simp] theorem Dev.setScene_tones : (d.setScene k x).tones = d.tones := rfl
@[simp] theorem Dev.setScene_builds : (d.setScene k x).builds = d.builds := rfl
@[simp] theorem Dev.setScene_adps : (d.setScene k x).adps = d.adps := rfl
@[simp] theorem Dev.setScene_safe : (d.setScene k x).safe = d.safe := rfl
@[simp] theorem Dev.setScene_chks : (d.setScene k x).chks = d.chks := rfl
@[simp] theorem Dev.setScene_portChks : (d.setScene k x).portChks = d.portChks := rfl
@[simp] theorem Dev.setScene_refs : (d.setScene k x).refs = d.refs := rfl
@[simp] theorem Dev.setScene_useId : (d.setScene k x).useId = d.useId := rfl
@[simp] theorem Dev.setScene_runSince : (d.setScene k x).runSince = d.runSince := rfl
@[simp] theorem Dev.setScene_deciding : (d.setScene k x).deciding = d.deciding := rfl
@[simp] theorem Dev.setScene_rowGen : (d.setScene k x).rowGen = d.rowGen := rfl
@[simp] theorem Dev.setScene_bufs : (d.setScene k x).bufs = d.bufs := rfl
@[simp] theorem Dev.setScene_xfer : (d.setScene k x).xfer = d.xfer := rfl
@[simp] theorem Dev.setScene_hbm : (d.setScene k x).hbm = d.hbm := rfl
@[simp] theorem Dev.setScene_fm : (d.setScene k x).fm = d.fm := rfl
@[simp] theorem Dev.setScene_fmBad : (d.setScene k x).fmBad = d.fmBad := rfl
@[simp] theorem Dev.setScene_mc : (d.setScene k x).mc = d.mc := rfl
@[simp] theorem Dev.setScene_mem : (d.setScene k x).mem = d.mem := rfl
@[simp] theorem Dev.setScene_poison : (d.setScene k x).poison = d.poison := rfl
@[simp] theorem Dev.setScene_stalled : (d.setScene k x).stalled = d.stalled := rfl
@[simp] theorem Dev.setScene_dropped : (d.setScene k x).dropped = d.dropped := rfl
@[simp] theorem Dev.setScene_blt : (d.setScene k x).blt = d.blt := rfl
@[simp] theorem Dev.setScene_rope : (d.setScene k x).rope = d.rope := rfl
@[simp] theorem Dev.setScene_power : (d.setScene k x).power = d.power := rfl
@[simp] theorem Dev.setScene_fw : (d.setScene k x).fw = d.fw := rfl
@[simp] theorem Dev.setScene_board : (d.setScene k x).board = d.board := rfl
@[simp] theorem Dev.setScene_deferred : (d.setScene k x).deferred = d.deferred := rfl
theorem Dev.scene_setScene : (d.setScene k x).scene j = if j = k then x else d.scene j := Tbl.get_set _ _ _ _ _
@[simp] theorem Dev.scene_setScene_same : (d.setScene k x).scene k = x := Tbl.get_set_same _ _ _ _
end

section
variable (d : Dev) (k j : Nat) (x : Eng)
@[simp] theorem Dev.setEng_core : (d.setEng k x).core = d.core := rfl
@[simp] theorem Dev.setEng_arms : (d.setEng k x).arms = d.arms := rfl
@[simp] theorem Dev.setEng_groups : (d.setEng k x).groups = d.groups := rfl
@[simp] theorem Dev.setEng_applied : (d.setEng k x).applied = d.applied := rfl
@[simp] theorem Dev.setEng_counts : (d.setEng k x).counts = d.counts := rfl
@[simp] theorem Dev.setEng_cads : (d.setEng k x).cads = d.cads := rfl
@[simp] theorem Dev.setEng_ports : (d.setEng k x).ports = d.ports := rfl
@[simp] theorem Dev.setEng_anchors : (d.setEng k x).anchors = d.anchors := rfl
@[simp] theorem Dev.setEng_plls : (d.setEng k x).plls = d.plls := rfl
@[simp] theorem Dev.setEng_ckoHeld : (d.setEng k x).ckoHeld = d.ckoHeld := rfl
@[simp] theorem Dev.setEng_xports : (d.setEng k x).xports = d.xports := rfl
@[simp] theorem Dev.setEng_encs : (d.setEng k x).encs = d.encs := rfl
@[simp] theorem Dev.setEng_scenes : (d.setEng k x).scenes = d.scenes := rfl
@[simp] theorem Dev.setEng_tones : (d.setEng k x).tones = d.tones := rfl
@[simp] theorem Dev.setEng_builds : (d.setEng k x).builds = d.builds := rfl
@[simp] theorem Dev.setEng_adps : (d.setEng k x).adps = d.adps := rfl
@[simp] theorem Dev.setEng_safe : (d.setEng k x).safe = d.safe := rfl
@[simp] theorem Dev.setEng_chks : (d.setEng k x).chks = d.chks := rfl
@[simp] theorem Dev.setEng_portChks : (d.setEng k x).portChks = d.portChks := rfl
@[simp] theorem Dev.setEng_refs : (d.setEng k x).refs = d.refs := rfl
@[simp] theorem Dev.setEng_useId : (d.setEng k x).useId = d.useId := rfl
@[simp] theorem Dev.setEng_runSince : (d.setEng k x).runSince = d.runSince := rfl
@[simp] theorem Dev.setEng_deciding : (d.setEng k x).deciding = d.deciding := rfl
@[simp] theorem Dev.setEng_rowGen : (d.setEng k x).rowGen = d.rowGen := rfl
@[simp] theorem Dev.setEng_bufs : (d.setEng k x).bufs = d.bufs := rfl
@[simp] theorem Dev.setEng_xfer : (d.setEng k x).xfer = d.xfer := rfl
@[simp] theorem Dev.setEng_hbm : (d.setEng k x).hbm = d.hbm := rfl
@[simp] theorem Dev.setEng_fm : (d.setEng k x).fm = d.fm := rfl
@[simp] theorem Dev.setEng_fmBad : (d.setEng k x).fmBad = d.fmBad := rfl
@[simp] theorem Dev.setEng_mc : (d.setEng k x).mc = d.mc := rfl
@[simp] theorem Dev.setEng_mem : (d.setEng k x).mem = d.mem := rfl
@[simp] theorem Dev.setEng_poison : (d.setEng k x).poison = d.poison := rfl
@[simp] theorem Dev.setEng_stalled : (d.setEng k x).stalled = d.stalled := rfl
@[simp] theorem Dev.setEng_dropped : (d.setEng k x).dropped = d.dropped := rfl
@[simp] theorem Dev.setEng_blt : (d.setEng k x).blt = d.blt := rfl
@[simp] theorem Dev.setEng_rope : (d.setEng k x).rope = d.rope := rfl
@[simp] theorem Dev.setEng_power : (d.setEng k x).power = d.power := rfl
@[simp] theorem Dev.setEng_fw : (d.setEng k x).fw = d.fw := rfl
@[simp] theorem Dev.setEng_board : (d.setEng k x).board = d.board := rfl
@[simp] theorem Dev.setEng_deferred : (d.setEng k x).deferred = d.deferred := rfl
theorem Dev.eng_setEng : (d.setEng k x).eng j = if j = k then x else d.eng j := Tbl.get_set _ _ _ _ _
@[simp] theorem Dev.eng_setEng_same : (d.setEng k x).eng k = x := Tbl.get_set_same _ _ _ _
end

section
variable (d : Dev) (k j : Nat) (x : Tone)
@[simp] theorem Dev.setTone_core : (d.setTone k x).core = d.core := rfl
@[simp] theorem Dev.setTone_arms : (d.setTone k x).arms = d.arms := rfl
@[simp] theorem Dev.setTone_groups : (d.setTone k x).groups = d.groups := rfl
@[simp] theorem Dev.setTone_applied : (d.setTone k x).applied = d.applied := rfl
@[simp] theorem Dev.setTone_counts : (d.setTone k x).counts = d.counts := rfl
@[simp] theorem Dev.setTone_cads : (d.setTone k x).cads = d.cads := rfl
@[simp] theorem Dev.setTone_ports : (d.setTone k x).ports = d.ports := rfl
@[simp] theorem Dev.setTone_anchors : (d.setTone k x).anchors = d.anchors := rfl
@[simp] theorem Dev.setTone_plls : (d.setTone k x).plls = d.plls := rfl
@[simp] theorem Dev.setTone_ckoHeld : (d.setTone k x).ckoHeld = d.ckoHeld := rfl
@[simp] theorem Dev.setTone_xports : (d.setTone k x).xports = d.xports := rfl
@[simp] theorem Dev.setTone_encs : (d.setTone k x).encs = d.encs := rfl
@[simp] theorem Dev.setTone_scenes : (d.setTone k x).scenes = d.scenes := rfl
@[simp] theorem Dev.setTone_engs : (d.setTone k x).engs = d.engs := rfl
@[simp] theorem Dev.setTone_builds : (d.setTone k x).builds = d.builds := rfl
@[simp] theorem Dev.setTone_adps : (d.setTone k x).adps = d.adps := rfl
@[simp] theorem Dev.setTone_safe : (d.setTone k x).safe = d.safe := rfl
@[simp] theorem Dev.setTone_chks : (d.setTone k x).chks = d.chks := rfl
@[simp] theorem Dev.setTone_portChks : (d.setTone k x).portChks = d.portChks := rfl
@[simp] theorem Dev.setTone_refs : (d.setTone k x).refs = d.refs := rfl
@[simp] theorem Dev.setTone_useId : (d.setTone k x).useId = d.useId := rfl
@[simp] theorem Dev.setTone_runSince : (d.setTone k x).runSince = d.runSince := rfl
@[simp] theorem Dev.setTone_deciding : (d.setTone k x).deciding = d.deciding := rfl
@[simp] theorem Dev.setTone_rowGen : (d.setTone k x).rowGen = d.rowGen := rfl
@[simp] theorem Dev.setTone_bufs : (d.setTone k x).bufs = d.bufs := rfl
@[simp] theorem Dev.setTone_xfer : (d.setTone k x).xfer = d.xfer := rfl
@[simp] theorem Dev.setTone_hbm : (d.setTone k x).hbm = d.hbm := rfl
@[simp] theorem Dev.setTone_fm : (d.setTone k x).fm = d.fm := rfl
@[simp] theorem Dev.setTone_fmBad : (d.setTone k x).fmBad = d.fmBad := rfl
@[simp] theorem Dev.setTone_mc : (d.setTone k x).mc = d.mc := rfl
@[simp] theorem Dev.setTone_mem : (d.setTone k x).mem = d.mem := rfl
@[simp] theorem Dev.setTone_poison : (d.setTone k x).poison = d.poison := rfl
@[simp] theorem Dev.setTone_stalled : (d.setTone k x).stalled = d.stalled := rfl
@[simp] theorem Dev.setTone_dropped : (d.setTone k x).dropped = d.dropped := rfl
@[simp] theorem Dev.setTone_blt : (d.setTone k x).blt = d.blt := rfl
@[simp] theorem Dev.setTone_rope : (d.setTone k x).rope = d.rope := rfl
@[simp] theorem Dev.setTone_power : (d.setTone k x).power = d.power := rfl
@[simp] theorem Dev.setTone_fw : (d.setTone k x).fw = d.fw := rfl
@[simp] theorem Dev.setTone_board : (d.setTone k x).board = d.board := rfl
@[simp] theorem Dev.setTone_deferred : (d.setTone k x).deferred = d.deferred := rfl
theorem Dev.tone_setTone : (d.setTone k x).tone j = if j = k then x else d.tone j := Tbl.get_set _ _ _ _ _
@[simp] theorem Dev.tone_setTone_same : (d.setTone k x).tone k = x := Tbl.get_set_same _ _ _ _
end

section
variable (d : Dev) (k j : Nat) (x : List Build)
@[simp] theorem Dev.setBuilds_core : (d.setBuilds k x).core = d.core := rfl
@[simp] theorem Dev.setBuilds_arms : (d.setBuilds k x).arms = d.arms := rfl
@[simp] theorem Dev.setBuilds_groups : (d.setBuilds k x).groups = d.groups := rfl
@[simp] theorem Dev.setBuilds_applied : (d.setBuilds k x).applied = d.applied := rfl
@[simp] theorem Dev.setBuilds_counts : (d.setBuilds k x).counts = d.counts := rfl
@[simp] theorem Dev.setBuilds_cads : (d.setBuilds k x).cads = d.cads := rfl
@[simp] theorem Dev.setBuilds_ports : (d.setBuilds k x).ports = d.ports := rfl
@[simp] theorem Dev.setBuilds_anchors : (d.setBuilds k x).anchors = d.anchors := rfl
@[simp] theorem Dev.setBuilds_plls : (d.setBuilds k x).plls = d.plls := rfl
@[simp] theorem Dev.setBuilds_ckoHeld : (d.setBuilds k x).ckoHeld = d.ckoHeld := rfl
@[simp] theorem Dev.setBuilds_xports : (d.setBuilds k x).xports = d.xports := rfl
@[simp] theorem Dev.setBuilds_encs : (d.setBuilds k x).encs = d.encs := rfl
@[simp] theorem Dev.setBuilds_scenes : (d.setBuilds k x).scenes = d.scenes := rfl
@[simp] theorem Dev.setBuilds_engs : (d.setBuilds k x).engs = d.engs := rfl
@[simp] theorem Dev.setBuilds_tones : (d.setBuilds k x).tones = d.tones := rfl
@[simp] theorem Dev.setBuilds_adps : (d.setBuilds k x).adps = d.adps := rfl
@[simp] theorem Dev.setBuilds_safe : (d.setBuilds k x).safe = d.safe := rfl
@[simp] theorem Dev.setBuilds_chks : (d.setBuilds k x).chks = d.chks := rfl
@[simp] theorem Dev.setBuilds_portChks : (d.setBuilds k x).portChks = d.portChks := rfl
@[simp] theorem Dev.setBuilds_refs : (d.setBuilds k x).refs = d.refs := rfl
@[simp] theorem Dev.setBuilds_useId : (d.setBuilds k x).useId = d.useId := rfl
@[simp] theorem Dev.setBuilds_runSince : (d.setBuilds k x).runSince = d.runSince := rfl
@[simp] theorem Dev.setBuilds_deciding : (d.setBuilds k x).deciding = d.deciding := rfl
@[simp] theorem Dev.setBuilds_rowGen : (d.setBuilds k x).rowGen = d.rowGen := rfl
@[simp] theorem Dev.setBuilds_bufs : (d.setBuilds k x).bufs = d.bufs := rfl
@[simp] theorem Dev.setBuilds_xfer : (d.setBuilds k x).xfer = d.xfer := rfl
@[simp] theorem Dev.setBuilds_hbm : (d.setBuilds k x).hbm = d.hbm := rfl
@[simp] theorem Dev.setBuilds_fm : (d.setBuilds k x).fm = d.fm := rfl
@[simp] theorem Dev.setBuilds_fmBad : (d.setBuilds k x).fmBad = d.fmBad := rfl
@[simp] theorem Dev.setBuilds_mc : (d.setBuilds k x).mc = d.mc := rfl
@[simp] theorem Dev.setBuilds_mem : (d.setBuilds k x).mem = d.mem := rfl
@[simp] theorem Dev.setBuilds_poison : (d.setBuilds k x).poison = d.poison := rfl
@[simp] theorem Dev.setBuilds_stalled : (d.setBuilds k x).stalled = d.stalled := rfl
@[simp] theorem Dev.setBuilds_dropped : (d.setBuilds k x).dropped = d.dropped := rfl
@[simp] theorem Dev.setBuilds_blt : (d.setBuilds k x).blt = d.blt := rfl
@[simp] theorem Dev.setBuilds_rope : (d.setBuilds k x).rope = d.rope := rfl
@[simp] theorem Dev.setBuilds_power : (d.setBuilds k x).power = d.power := rfl
@[simp] theorem Dev.setBuilds_fw : (d.setBuilds k x).fw = d.fw := rfl
@[simp] theorem Dev.setBuilds_board : (d.setBuilds k x).board = d.board := rfl
@[simp] theorem Dev.setBuilds_deferred : (d.setBuilds k x).deferred = d.deferred := rfl
theorem Dev.buildsOf_setBuilds : (d.setBuilds k x).buildsOf j = if j = k then x else d.buildsOf j := Tbl.get_set _ _ _ _ _
@[simp] theorem Dev.buildsOf_setBuilds_same : (d.setBuilds k x).buildsOf k = x := Tbl.get_set_same _ _ _ _
end

section
variable (d : Dev) (k j : Nat) (x : Adp)
@[simp] theorem Dev.setAdp_core : (d.setAdp k x).core = d.core := rfl
@[simp] theorem Dev.setAdp_arms : (d.setAdp k x).arms = d.arms := rfl
@[simp] theorem Dev.setAdp_groups : (d.setAdp k x).groups = d.groups := rfl
@[simp] theorem Dev.setAdp_applied : (d.setAdp k x).applied = d.applied := rfl
@[simp] theorem Dev.setAdp_counts : (d.setAdp k x).counts = d.counts := rfl
@[simp] theorem Dev.setAdp_cads : (d.setAdp k x).cads = d.cads := rfl
@[simp] theorem Dev.setAdp_ports : (d.setAdp k x).ports = d.ports := rfl
@[simp] theorem Dev.setAdp_anchors : (d.setAdp k x).anchors = d.anchors := rfl
@[simp] theorem Dev.setAdp_plls : (d.setAdp k x).plls = d.plls := rfl
@[simp] theorem Dev.setAdp_ckoHeld : (d.setAdp k x).ckoHeld = d.ckoHeld := rfl
@[simp] theorem Dev.setAdp_xports : (d.setAdp k x).xports = d.xports := rfl
@[simp] theorem Dev.setAdp_encs : (d.setAdp k x).encs = d.encs := rfl
@[simp] theorem Dev.setAdp_scenes : (d.setAdp k x).scenes = d.scenes := rfl
@[simp] theorem Dev.setAdp_engs : (d.setAdp k x).engs = d.engs := rfl
@[simp] theorem Dev.setAdp_tones : (d.setAdp k x).tones = d.tones := rfl
@[simp] theorem Dev.setAdp_builds : (d.setAdp k x).builds = d.builds := rfl
@[simp] theorem Dev.setAdp_safe : (d.setAdp k x).safe = d.safe := rfl
@[simp] theorem Dev.setAdp_chks : (d.setAdp k x).chks = d.chks := rfl
@[simp] theorem Dev.setAdp_portChks : (d.setAdp k x).portChks = d.portChks := rfl
@[simp] theorem Dev.setAdp_refs : (d.setAdp k x).refs = d.refs := rfl
@[simp] theorem Dev.setAdp_useId : (d.setAdp k x).useId = d.useId := rfl
@[simp] theorem Dev.setAdp_runSince : (d.setAdp k x).runSince = d.runSince := rfl
@[simp] theorem Dev.setAdp_deciding : (d.setAdp k x).deciding = d.deciding := rfl
@[simp] theorem Dev.setAdp_rowGen : (d.setAdp k x).rowGen = d.rowGen := rfl
@[simp] theorem Dev.setAdp_bufs : (d.setAdp k x).bufs = d.bufs := rfl
@[simp] theorem Dev.setAdp_xfer : (d.setAdp k x).xfer = d.xfer := rfl
@[simp] theorem Dev.setAdp_hbm : (d.setAdp k x).hbm = d.hbm := rfl
@[simp] theorem Dev.setAdp_fm : (d.setAdp k x).fm = d.fm := rfl
@[simp] theorem Dev.setAdp_fmBad : (d.setAdp k x).fmBad = d.fmBad := rfl
@[simp] theorem Dev.setAdp_mc : (d.setAdp k x).mc = d.mc := rfl
@[simp] theorem Dev.setAdp_mem : (d.setAdp k x).mem = d.mem := rfl
@[simp] theorem Dev.setAdp_poison : (d.setAdp k x).poison = d.poison := rfl
@[simp] theorem Dev.setAdp_stalled : (d.setAdp k x).stalled = d.stalled := rfl
@[simp] theorem Dev.setAdp_dropped : (d.setAdp k x).dropped = d.dropped := rfl
@[simp] theorem Dev.setAdp_blt : (d.setAdp k x).blt = d.blt := rfl
@[simp] theorem Dev.setAdp_rope : (d.setAdp k x).rope = d.rope := rfl
@[simp] theorem Dev.setAdp_power : (d.setAdp k x).power = d.power := rfl
@[simp] theorem Dev.setAdp_fw : (d.setAdp k x).fw = d.fw := rfl
@[simp] theorem Dev.setAdp_board : (d.setAdp k x).board = d.board := rfl
@[simp] theorem Dev.setAdp_deferred : (d.setAdp k x).deferred = d.deferred := rfl
theorem Dev.adp_setAdp : (d.setAdp k x).adp j = if j = k then x else d.adp j := Tbl.get_set _ _ _ _ _
@[simp] theorem Dev.adp_setAdp_same : (d.setAdp k x).adp k = x := Tbl.get_set_same _ _ _ _
end

section
variable (d : Dev) (k j : Nat) (x : Chk)
@[simp] theorem Dev.setChk_core : (d.setChk k x).core = d.core := rfl
@[simp] theorem Dev.setChk_arms : (d.setChk k x).arms = d.arms := rfl
@[simp] theorem Dev.setChk_groups : (d.setChk k x).groups = d.groups := rfl
@[simp] theorem Dev.setChk_applied : (d.setChk k x).applied = d.applied := rfl
@[simp] theorem Dev.setChk_counts : (d.setChk k x).counts = d.counts := rfl
@[simp] theorem Dev.setChk_cads : (d.setChk k x).cads = d.cads := rfl
@[simp] theorem Dev.setChk_ports : (d.setChk k x).ports = d.ports := rfl
@[simp] theorem Dev.setChk_anchors : (d.setChk k x).anchors = d.anchors := rfl
@[simp] theorem Dev.setChk_plls : (d.setChk k x).plls = d.plls := rfl
@[simp] theorem Dev.setChk_ckoHeld : (d.setChk k x).ckoHeld = d.ckoHeld := rfl
@[simp] theorem Dev.setChk_xports : (d.setChk k x).xports = d.xports := rfl
@[simp] theorem Dev.setChk_encs : (d.setChk k x).encs = d.encs := rfl
@[simp] theorem Dev.setChk_scenes : (d.setChk k x).scenes = d.scenes := rfl
@[simp] theorem Dev.setChk_engs : (d.setChk k x).engs = d.engs := rfl
@[simp] theorem Dev.setChk_tones : (d.setChk k x).tones = d.tones := rfl
@[simp] theorem Dev.setChk_builds : (d.setChk k x).builds = d.builds := rfl
@[simp] theorem Dev.setChk_adps : (d.setChk k x).adps = d.adps := rfl
@[simp] theorem Dev.setChk_safe : (d.setChk k x).safe = d.safe := rfl
@[simp] theorem Dev.setChk_portChks : (d.setChk k x).portChks = d.portChks := rfl
@[simp] theorem Dev.setChk_refs : (d.setChk k x).refs = d.refs := rfl
@[simp] theorem Dev.setChk_useId : (d.setChk k x).useId = d.useId := rfl
@[simp] theorem Dev.setChk_runSince : (d.setChk k x).runSince = d.runSince := rfl
@[simp] theorem Dev.setChk_deciding : (d.setChk k x).deciding = d.deciding := rfl
@[simp] theorem Dev.setChk_rowGen : (d.setChk k x).rowGen = d.rowGen := rfl
@[simp] theorem Dev.setChk_bufs : (d.setChk k x).bufs = d.bufs := rfl
@[simp] theorem Dev.setChk_xfer : (d.setChk k x).xfer = d.xfer := rfl
@[simp] theorem Dev.setChk_hbm : (d.setChk k x).hbm = d.hbm := rfl
@[simp] theorem Dev.setChk_fm : (d.setChk k x).fm = d.fm := rfl
@[simp] theorem Dev.setChk_fmBad : (d.setChk k x).fmBad = d.fmBad := rfl
@[simp] theorem Dev.setChk_mc : (d.setChk k x).mc = d.mc := rfl
@[simp] theorem Dev.setChk_mem : (d.setChk k x).mem = d.mem := rfl
@[simp] theorem Dev.setChk_poison : (d.setChk k x).poison = d.poison := rfl
@[simp] theorem Dev.setChk_stalled : (d.setChk k x).stalled = d.stalled := rfl
@[simp] theorem Dev.setChk_dropped : (d.setChk k x).dropped = d.dropped := rfl
@[simp] theorem Dev.setChk_blt : (d.setChk k x).blt = d.blt := rfl
@[simp] theorem Dev.setChk_rope : (d.setChk k x).rope = d.rope := rfl
@[simp] theorem Dev.setChk_power : (d.setChk k x).power = d.power := rfl
@[simp] theorem Dev.setChk_fw : (d.setChk k x).fw = d.fw := rfl
@[simp] theorem Dev.setChk_board : (d.setChk k x).board = d.board := rfl
@[simp] theorem Dev.setChk_deferred : (d.setChk k x).deferred = d.deferred := rfl
theorem Dev.chk_setChk : (d.setChk k x).chk j = if j = k then x else d.chk j := Tbl.get_set _ _ _ _ _
@[simp] theorem Dev.chk_setChk_same : (d.setChk k x).chk k = x := Tbl.get_set_same _ _ _ _
end

section
variable (d : Dev) (k j : Nat) (x : PortChk)
@[simp] theorem Dev.setPortChk_core : (d.setPortChk k x).core = d.core := rfl
@[simp] theorem Dev.setPortChk_arms : (d.setPortChk k x).arms = d.arms := rfl
@[simp] theorem Dev.setPortChk_groups : (d.setPortChk k x).groups = d.groups := rfl
@[simp] theorem Dev.setPortChk_applied : (d.setPortChk k x).applied = d.applied := rfl
@[simp] theorem Dev.setPortChk_counts : (d.setPortChk k x).counts = d.counts := rfl
@[simp] theorem Dev.setPortChk_cads : (d.setPortChk k x).cads = d.cads := rfl
@[simp] theorem Dev.setPortChk_ports : (d.setPortChk k x).ports = d.ports := rfl
@[simp] theorem Dev.setPortChk_anchors : (d.setPortChk k x).anchors = d.anchors := rfl
@[simp] theorem Dev.setPortChk_plls : (d.setPortChk k x).plls = d.plls := rfl
@[simp] theorem Dev.setPortChk_ckoHeld : (d.setPortChk k x).ckoHeld = d.ckoHeld := rfl
@[simp] theorem Dev.setPortChk_xports : (d.setPortChk k x).xports = d.xports := rfl
@[simp] theorem Dev.setPortChk_encs : (d.setPortChk k x).encs = d.encs := rfl
@[simp] theorem Dev.setPortChk_scenes : (d.setPortChk k x).scenes = d.scenes := rfl
@[simp] theorem Dev.setPortChk_engs : (d.setPortChk k x).engs = d.engs := rfl
@[simp] theorem Dev.setPortChk_tones : (d.setPortChk k x).tones = d.tones := rfl
@[simp] theorem Dev.setPortChk_builds : (d.setPortChk k x).builds = d.builds := rfl
@[simp] theorem Dev.setPortChk_adps : (d.setPortChk k x).adps = d.adps := rfl
@[simp] theorem Dev.setPortChk_safe : (d.setPortChk k x).safe = d.safe := rfl
@[simp] theorem Dev.setPortChk_chks : (d.setPortChk k x).chks = d.chks := rfl
@[simp] theorem Dev.setPortChk_refs : (d.setPortChk k x).refs = d.refs := rfl
@[simp] theorem Dev.setPortChk_useId : (d.setPortChk k x).useId = d.useId := rfl
@[simp] theorem Dev.setPortChk_runSince : (d.setPortChk k x).runSince = d.runSince := rfl
@[simp] theorem Dev.setPortChk_deciding : (d.setPortChk k x).deciding = d.deciding := rfl
@[simp] theorem Dev.setPortChk_rowGen : (d.setPortChk k x).rowGen = d.rowGen := rfl
@[simp] theorem Dev.setPortChk_bufs : (d.setPortChk k x).bufs = d.bufs := rfl
@[simp] theorem Dev.setPortChk_xfer : (d.setPortChk k x).xfer = d.xfer := rfl
@[simp] theorem Dev.setPortChk_hbm : (d.setPortChk k x).hbm = d.hbm := rfl
@[simp] theorem Dev.setPortChk_fm : (d.setPortChk k x).fm = d.fm := rfl
@[simp] theorem Dev.setPortChk_fmBad : (d.setPortChk k x).fmBad = d.fmBad := rfl
@[simp] theorem Dev.setPortChk_mc : (d.setPortChk k x).mc = d.mc := rfl
@[simp] theorem Dev.setPortChk_mem : (d.setPortChk k x).mem = d.mem := rfl
@[simp] theorem Dev.setPortChk_poison : (d.setPortChk k x).poison = d.poison := rfl
@[simp] theorem Dev.setPortChk_stalled : (d.setPortChk k x).stalled = d.stalled := rfl
@[simp] theorem Dev.setPortChk_dropped : (d.setPortChk k x).dropped = d.dropped := rfl
@[simp] theorem Dev.setPortChk_blt : (d.setPortChk k x).blt = d.blt := rfl
@[simp] theorem Dev.setPortChk_rope : (d.setPortChk k x).rope = d.rope := rfl
@[simp] theorem Dev.setPortChk_power : (d.setPortChk k x).power = d.power := rfl
@[simp] theorem Dev.setPortChk_fw : (d.setPortChk k x).fw = d.fw := rfl
@[simp] theorem Dev.setPortChk_board : (d.setPortChk k x).board = d.board := rfl
@[simp] theorem Dev.setPortChk_deferred : (d.setPortChk k x).deferred = d.deferred := rfl
theorem Dev.portChk_setPortChk : (d.setPortChk k x).portChk j = if j = k then x else d.portChk j := Tbl.get_set _ _ _ _ _
@[simp] theorem Dev.portChk_setPortChk_same : (d.setPortChk k x).portChk k = x := Tbl.get_set_same _ _ _ _
end

section
variable (d : Dev) (k j : Nat) (x : Ref)
@[simp] theorem Dev.setRef_core : (d.setRef k x).core = d.core := rfl
@[simp] theorem Dev.setRef_arms : (d.setRef k x).arms = d.arms := rfl
@[simp] theorem Dev.setRef_groups : (d.setRef k x).groups = d.groups := rfl
@[simp] theorem Dev.setRef_applied : (d.setRef k x).applied = d.applied := rfl
@[simp] theorem Dev.setRef_counts : (d.setRef k x).counts = d.counts := rfl
@[simp] theorem Dev.setRef_cads : (d.setRef k x).cads = d.cads := rfl
@[simp] theorem Dev.setRef_ports : (d.setRef k x).ports = d.ports := rfl
@[simp] theorem Dev.setRef_anchors : (d.setRef k x).anchors = d.anchors := rfl
@[simp] theorem Dev.setRef_plls : (d.setRef k x).plls = d.plls := rfl
@[simp] theorem Dev.setRef_ckoHeld : (d.setRef k x).ckoHeld = d.ckoHeld := rfl
@[simp] theorem Dev.setRef_xports : (d.setRef k x).xports = d.xports := rfl
@[simp] theorem Dev.setRef_encs : (d.setRef k x).encs = d.encs := rfl
@[simp] theorem Dev.setRef_scenes : (d.setRef k x).scenes = d.scenes := rfl
@[simp] theorem Dev.setRef_engs : (d.setRef k x).engs = d.engs := rfl
@[simp] theorem Dev.setRef_tones : (d.setRef k x).tones = d.tones := rfl
@[simp] theorem Dev.setRef_builds : (d.setRef k x).builds = d.builds := rfl
@[simp] theorem Dev.setRef_adps : (d.setRef k x).adps = d.adps := rfl
@[simp] theorem Dev.setRef_safe : (d.setRef k x).safe = d.safe := rfl
@[simp] theorem Dev.setRef_chks : (d.setRef k x).chks = d.chks := rfl
@[simp] theorem Dev.setRef_portChks : (d.setRef k x).portChks = d.portChks := rfl
@[simp] theorem Dev.setRef_useId : (d.setRef k x).useId = d.useId := rfl
@[simp] theorem Dev.setRef_runSince : (d.setRef k x).runSince = d.runSince := rfl
@[simp] theorem Dev.setRef_deciding : (d.setRef k x).deciding = d.deciding := rfl
@[simp] theorem Dev.setRef_rowGen : (d.setRef k x).rowGen = d.rowGen := rfl
@[simp] theorem Dev.setRef_bufs : (d.setRef k x).bufs = d.bufs := rfl
@[simp] theorem Dev.setRef_xfer : (d.setRef k x).xfer = d.xfer := rfl
@[simp] theorem Dev.setRef_hbm : (d.setRef k x).hbm = d.hbm := rfl
@[simp] theorem Dev.setRef_fm : (d.setRef k x).fm = d.fm := rfl
@[simp] theorem Dev.setRef_fmBad : (d.setRef k x).fmBad = d.fmBad := rfl
@[simp] theorem Dev.setRef_mc : (d.setRef k x).mc = d.mc := rfl
@[simp] theorem Dev.setRef_mem : (d.setRef k x).mem = d.mem := rfl
@[simp] theorem Dev.setRef_poison : (d.setRef k x).poison = d.poison := rfl
@[simp] theorem Dev.setRef_stalled : (d.setRef k x).stalled = d.stalled := rfl
@[simp] theorem Dev.setRef_dropped : (d.setRef k x).dropped = d.dropped := rfl
@[simp] theorem Dev.setRef_blt : (d.setRef k x).blt = d.blt := rfl
@[simp] theorem Dev.setRef_rope : (d.setRef k x).rope = d.rope := rfl
@[simp] theorem Dev.setRef_power : (d.setRef k x).power = d.power := rfl
@[simp] theorem Dev.setRef_fw : (d.setRef k x).fw = d.fw := rfl
@[simp] theorem Dev.setRef_board : (d.setRef k x).board = d.board := rfl
@[simp] theorem Dev.setRef_deferred : (d.setRef k x).deferred = d.deferred := rfl
theorem Dev.ref_setRef : (d.setRef k x).ref j = if j = k then x else d.ref j := Tbl.get_set _ _ _ _ _
@[simp] theorem Dev.ref_setRef_same : (d.setRef k x).ref k = x := Tbl.get_set_same _ _ _ _
end

section
variable (d : Dev) (k j : Nat) (x : Buf)
@[simp] theorem Dev.setBuf_core : (d.setBuf k x).core = d.core := rfl
@[simp] theorem Dev.setBuf_arms : (d.setBuf k x).arms = d.arms := rfl
@[simp] theorem Dev.setBuf_groups : (d.setBuf k x).groups = d.groups := rfl
@[simp] theorem Dev.setBuf_applied : (d.setBuf k x).applied = d.applied := rfl
@[simp] theorem Dev.setBuf_counts : (d.setBuf k x).counts = d.counts := rfl
@[simp] theorem Dev.setBuf_cads : (d.setBuf k x).cads = d.cads := rfl
@[simp] theorem Dev.setBuf_ports : (d.setBuf k x).ports = d.ports := rfl
@[simp] theorem Dev.setBuf_anchors : (d.setBuf k x).anchors = d.anchors := rfl
@[simp] theorem Dev.setBuf_plls : (d.setBuf k x).plls = d.plls := rfl
@[simp] theorem Dev.setBuf_ckoHeld : (d.setBuf k x).ckoHeld = d.ckoHeld := rfl
@[simp] theorem Dev.setBuf_xports : (d.setBuf k x).xports = d.xports := rfl
@[simp] theorem Dev.setBuf_encs : (d.setBuf k x).encs = d.encs := rfl
@[simp] theorem Dev.setBuf_scenes : (d.setBuf k x).scenes = d.scenes := rfl
@[simp] theorem Dev.setBuf_engs : (d.setBuf k x).engs = d.engs := rfl
@[simp] theorem Dev.setBuf_tones : (d.setBuf k x).tones = d.tones := rfl
@[simp] theorem Dev.setBuf_builds : (d.setBuf k x).builds = d.builds := rfl
@[simp] theorem Dev.setBuf_adps : (d.setBuf k x).adps = d.adps := rfl
@[simp] theorem Dev.setBuf_safe : (d.setBuf k x).safe = d.safe := rfl
@[simp] theorem Dev.setBuf_chks : (d.setBuf k x).chks = d.chks := rfl
@[simp] theorem Dev.setBuf_portChks : (d.setBuf k x).portChks = d.portChks := rfl
@[simp] theorem Dev.setBuf_refs : (d.setBuf k x).refs = d.refs := rfl
@[simp] theorem Dev.setBuf_useId : (d.setBuf k x).useId = d.useId := rfl
@[simp] theorem Dev.setBuf_runSince : (d.setBuf k x).runSince = d.runSince := rfl
@[simp] theorem Dev.setBuf_deciding : (d.setBuf k x).deciding = d.deciding := rfl
@[simp] theorem Dev.setBuf_rowGen : (d.setBuf k x).rowGen = d.rowGen := rfl
@[simp] theorem Dev.setBuf_xfer : (d.setBuf k x).xfer = d.xfer := rfl
@[simp] theorem Dev.setBuf_hbm : (d.setBuf k x).hbm = d.hbm := rfl
@[simp] theorem Dev.setBuf_fm : (d.setBuf k x).fm = d.fm := rfl
@[simp] theorem Dev.setBuf_fmBad : (d.setBuf k x).fmBad = d.fmBad := rfl
@[simp] theorem Dev.setBuf_mc : (d.setBuf k x).mc = d.mc := rfl
@[simp] theorem Dev.setBuf_mem : (d.setBuf k x).mem = d.mem := rfl
@[simp] theorem Dev.setBuf_poison : (d.setBuf k x).poison = d.poison := rfl
@[simp] theorem Dev.setBuf_stalled : (d.setBuf k x).stalled = d.stalled := rfl
@[simp] theorem Dev.setBuf_dropped : (d.setBuf k x).dropped = d.dropped := rfl
@[simp] theorem Dev.setBuf_blt : (d.setBuf k x).blt = d.blt := rfl
@[simp] theorem Dev.setBuf_rope : (d.setBuf k x).rope = d.rope := rfl
@[simp] theorem Dev.setBuf_power : (d.setBuf k x).power = d.power := rfl
@[simp] theorem Dev.setBuf_fw : (d.setBuf k x).fw = d.fw := rfl
@[simp] theorem Dev.setBuf_board : (d.setBuf k x).board = d.board := rfl
@[simp] theorem Dev.setBuf_deferred : (d.setBuf k x).deferred = d.deferred := rfl
theorem Dev.buf_setBuf : (d.setBuf k x).buf j = if j = k then x else d.buf j := Tbl.get_set _ _ _ _ _
@[simp] theorem Dev.buf_setBuf_same : (d.setBuf k x).buf k = x := Tbl.get_set_same _ _ _ _
end

section
variable (d : Dev) (k j : Nat) (x : Group)
@[simp] theorem Dev.setGroup_core : (d.setGroup k x).core = d.core := rfl
@[simp] theorem Dev.setGroup_arms : (d.setGroup k x).arms = d.arms := rfl
@[simp] theorem Dev.setGroup_applied : (d.setGroup k x).applied = d.applied := rfl
@[simp] theorem Dev.setGroup_counts : (d.setGroup k x).counts = d.counts := rfl
@[simp] theorem Dev.setGroup_cads : (d.setGroup k x).cads = d.cads := rfl
@[simp] theorem Dev.setGroup_ports : (d.setGroup k x).ports = d.ports := rfl
@[simp] theorem Dev.setGroup_anchors : (d.setGroup k x).anchors = d.anchors := rfl
@[simp] theorem Dev.setGroup_plls : (d.setGroup k x).plls = d.plls := rfl
@[simp] theorem Dev.setGroup_ckoHeld : (d.setGroup k x).ckoHeld = d.ckoHeld := rfl
@[simp] theorem Dev.setGroup_xports : (d.setGroup k x).xports = d.xports := rfl
@[simp] theorem Dev.setGroup_encs : (d.setGroup k x).encs = d.encs := rfl
@[simp] theorem Dev.setGroup_scenes : (d.setGroup k x).scenes = d.scenes := rfl
@[simp] theorem Dev.setGroup_engs : (d.setGroup k x).engs = d.engs := rfl
@[simp] theorem Dev.setGroup_tones : (d.setGroup k x).tones = d.tones := rfl
@[simp] theorem Dev.setGroup_builds : (d.setGroup k x).builds = d.builds := rfl
@[simp] theorem Dev.setGroup_adps : (d.setGroup k x).adps = d.adps := rfl
@[simp] theorem Dev.setGroup_safe : (d.setGroup k x).safe = d.safe := rfl
@[simp] theorem Dev.setGroup_chks : (d.setGroup k x).chks = d.chks := rfl
@[simp] theorem Dev.setGroup_portChks : (d.setGroup k x).portChks = d.portChks := rfl
@[simp] theorem Dev.setGroup_refs : (d.setGroup k x).refs = d.refs := rfl
@[simp] theorem Dev.setGroup_useId : (d.setGroup k x).useId = d.useId := rfl
@[simp] theorem Dev.setGroup_runSince : (d.setGroup k x).runSince = d.runSince := rfl
@[simp] theorem Dev.setGroup_deciding : (d.setGroup k x).deciding = d.deciding := rfl
@[simp] theorem Dev.setGroup_rowGen : (d.setGroup k x).rowGen = d.rowGen := rfl
@[simp] theorem Dev.setGroup_bufs : (d.setGroup k x).bufs = d.bufs := rfl
@[simp] theorem Dev.setGroup_xfer : (d.setGroup k x).xfer = d.xfer := rfl
@[simp] theorem Dev.setGroup_hbm : (d.setGroup k x).hbm = d.hbm := rfl
@[simp] theorem Dev.setGroup_fm : (d.setGroup k x).fm = d.fm := rfl
@[simp] theorem Dev.setGroup_fmBad : (d.setGroup k x).fmBad = d.fmBad := rfl
@[simp] theorem Dev.setGroup_mc : (d.setGroup k x).mc = d.mc := rfl
@[simp] theorem Dev.setGroup_mem : (d.setGroup k x).mem = d.mem := rfl
@[simp] theorem Dev.setGroup_poison : (d.setGroup k x).poison = d.poison := rfl
@[simp] theorem Dev.setGroup_stalled : (d.setGroup k x).stalled = d.stalled := rfl
@[simp] theorem Dev.setGroup_dropped : (d.setGroup k x).dropped = d.dropped := rfl
@[simp] theorem Dev.setGroup_blt : (d.setGroup k x).blt = d.blt := rfl
@[simp] theorem Dev.setGroup_rope : (d.setGroup k x).rope = d.rope := rfl
@[simp] theorem Dev.setGroup_power : (d.setGroup k x).power = d.power := rfl
@[simp] theorem Dev.setGroup_fw : (d.setGroup k x).fw = d.fw := rfl
@[simp] theorem Dev.setGroup_board : (d.setGroup k x).board = d.board := rfl
@[simp] theorem Dev.setGroup_deferred : (d.setGroup k x).deferred = d.deferred := rfl
theorem Dev.group_setGroup : (d.setGroup k x).group j = if j = k then x else d.group j := Tbl.get_set _ _ _ _ _
@[simp] theorem Dev.group_setGroup_same : (d.setGroup k x).group k = x := Tbl.get_set_same _ _ _ _
end

section
variable (d : Dev) (p : Page) (n : Nat) (a : Option Arm)
@[simp] theorem Dev.setArm_core : (d.setArm p n a).core = d.core := rfl
@[simp] theorem Dev.setArm_groups : (d.setArm p n a).groups = d.groups := rfl
@[simp] theorem Dev.setArm_applied : (d.setArm p n a).applied = d.applied := rfl
@[simp] theorem Dev.setArm_counts : (d.setArm p n a).counts = d.counts := rfl
@[simp] theorem Dev.setArm_cads : (d.setArm p n a).cads = d.cads := rfl
@[simp] theorem Dev.setArm_ports : (d.setArm p n a).ports = d.ports := rfl
@[simp] theorem Dev.setArm_anchors : (d.setArm p n a).anchors = d.anchors := rfl
@[simp] theorem Dev.setArm_plls : (d.setArm p n a).plls = d.plls := rfl
@[simp] theorem Dev.setArm_ckoHeld : (d.setArm p n a).ckoHeld = d.ckoHeld := rfl
@[simp] theorem Dev.setArm_xports : (d.setArm p n a).xports = d.xports := rfl
@[simp] theorem Dev.setArm_encs : (d.setArm p n a).encs = d.encs := rfl
@[simp] theorem Dev.setArm_scenes : (d.setArm p n a).scenes = d.scenes := rfl
@[simp] theorem Dev.setArm_engs : (d.setArm p n a).engs = d.engs := rfl
@[simp] theorem Dev.setArm_tones : (d.setArm p n a).tones = d.tones := rfl
@[simp] theorem Dev.setArm_builds : (d.setArm p n a).builds = d.builds := rfl
@[simp] theorem Dev.setArm_adps : (d.setArm p n a).adps = d.adps := rfl
@[simp] theorem Dev.setArm_safe : (d.setArm p n a).safe = d.safe := rfl
@[simp] theorem Dev.setArm_chks : (d.setArm p n a).chks = d.chks := rfl
@[simp] theorem Dev.setArm_portChks : (d.setArm p n a).portChks = d.portChks := rfl
@[simp] theorem Dev.setArm_refs : (d.setArm p n a).refs = d.refs := rfl
@[simp] theorem Dev.setArm_useId : (d.setArm p n a).useId = d.useId := rfl
@[simp] theorem Dev.setArm_runSince : (d.setArm p n a).runSince = d.runSince := rfl
@[simp] theorem Dev.setArm_deciding : (d.setArm p n a).deciding = d.deciding := rfl
@[simp] theorem Dev.setArm_rowGen : (d.setArm p n a).rowGen = d.rowGen := rfl
@[simp] theorem Dev.setArm_bufs : (d.setArm p n a).bufs = d.bufs := rfl
@[simp] theorem Dev.setArm_xfer : (d.setArm p n a).xfer = d.xfer := rfl
@[simp] theorem Dev.setArm_hbm : (d.setArm p n a).hbm = d.hbm := rfl
@[simp] theorem Dev.setArm_fm : (d.setArm p n a).fm = d.fm := rfl
@[simp] theorem Dev.setArm_fmBad : (d.setArm p n a).fmBad = d.fmBad := rfl
@[simp] theorem Dev.setArm_mc : (d.setArm p n a).mc = d.mc := rfl
@[simp] theorem Dev.setArm_mem : (d.setArm p n a).mem = d.mem := rfl
@[simp] theorem Dev.setArm_poison : (d.setArm p n a).poison = d.poison := rfl
@[simp] theorem Dev.setArm_stalled : (d.setArm p n a).stalled = d.stalled := rfl
@[simp] theorem Dev.setArm_dropped : (d.setArm p n a).dropped = d.dropped := rfl
@[simp] theorem Dev.setArm_blt : (d.setArm p n a).blt = d.blt := rfl
@[simp] theorem Dev.setArm_rope : (d.setArm p n a).rope = d.rope := rfl
@[simp] theorem Dev.setArm_power : (d.setArm p n a).power = d.power := rfl
@[simp] theorem Dev.setArm_fw : (d.setArm p n a).fw = d.fw := rfl
@[simp] theorem Dev.setArm_board : (d.setArm p n a).board = d.board := rfl
@[simp] theorem Dev.setArm_deferred : (d.setArm p n a).deferred = d.deferred := rfl
@[simp] theorem Dev.armOf_setArm_same : (d.setArm p n a).armOf p n = a := Tbl.get_set_same _ _ _ _
end

section
variable (d : Dev) (p : Page) (n : Nat)
@[simp] theorem Dev.countUp_core : (d.countUp p n).core = d.core := rfl
@[simp] theorem Dev.countUp_arms : (d.countUp p n).arms = d.arms := rfl
@[simp] theorem Dev.countUp_groups : (d.countUp p n).groups = d.groups := rfl
@[simp] theorem Dev.countUp_applied : (d.countUp p n).applied = d.applied := rfl
@[simp] theorem Dev.countUp_cads : (d.countUp p n).cads = d.cads := rfl
@[simp] theorem Dev.countUp_ports : (d.countUp p n).ports = d.ports := rfl
@[simp] theorem Dev.countUp_anchors : (d.countUp p n).anchors = d.anchors := rfl
@[simp] theorem Dev.countUp_plls : (d.countUp p n).plls = d.plls := rfl
@[simp] theorem Dev.countUp_ckoHeld : (d.countUp p n).ckoHeld = d.ckoHeld := rfl
@[simp] theorem Dev.countUp_xports : (d.countUp p n).xports = d.xports := rfl
@[simp] theorem Dev.countUp_encs : (d.countUp p n).encs = d.encs := rfl
@[simp] theorem Dev.countUp_scenes : (d.countUp p n).scenes = d.scenes := rfl
@[simp] theorem Dev.countUp_engs : (d.countUp p n).engs = d.engs := rfl
@[simp] theorem Dev.countUp_tones : (d.countUp p n).tones = d.tones := rfl
@[simp] theorem Dev.countUp_builds : (d.countUp p n).builds = d.builds := rfl
@[simp] theorem Dev.countUp_adps : (d.countUp p n).adps = d.adps := rfl
@[simp] theorem Dev.countUp_safe : (d.countUp p n).safe = d.safe := rfl
@[simp] theorem Dev.countUp_chks : (d.countUp p n).chks = d.chks := rfl
@[simp] theorem Dev.countUp_portChks : (d.countUp p n).portChks = d.portChks := rfl
@[simp] theorem Dev.countUp_refs : (d.countUp p n).refs = d.refs := rfl
@[simp] theorem Dev.countUp_useId : (d.countUp p n).useId = d.useId := rfl
@[simp] theorem Dev.countUp_runSince : (d.countUp p n).runSince = d.runSince := rfl
@[simp] theorem Dev.countUp_deciding : (d.countUp p n).deciding = d.deciding := rfl
@[simp] theorem Dev.countUp_rowGen : (d.countUp p n).rowGen = d.rowGen := rfl
@[simp] theorem Dev.countUp_bufs : (d.countUp p n).bufs = d.bufs := rfl
@[simp] theorem Dev.countUp_xfer : (d.countUp p n).xfer = d.xfer := rfl
@[simp] theorem Dev.countUp_hbm : (d.countUp p n).hbm = d.hbm := rfl
@[simp] theorem Dev.countUp_fm : (d.countUp p n).fm = d.fm := rfl
@[simp] theorem Dev.countUp_fmBad : (d.countUp p n).fmBad = d.fmBad := rfl
@[simp] theorem Dev.countUp_mc : (d.countUp p n).mc = d.mc := rfl
@[simp] theorem Dev.countUp_mem : (d.countUp p n).mem = d.mem := rfl
@[simp] theorem Dev.countUp_poison : (d.countUp p n).poison = d.poison := rfl
@[simp] theorem Dev.countUp_stalled : (d.countUp p n).stalled = d.stalled := rfl
@[simp] theorem Dev.countUp_dropped : (d.countUp p n).dropped = d.dropped := rfl
@[simp] theorem Dev.countUp_blt : (d.countUp p n).blt = d.blt := rfl
@[simp] theorem Dev.countUp_rope : (d.countUp p n).rope = d.rope := rfl
@[simp] theorem Dev.countUp_power : (d.countUp p n).power = d.power := rfl
@[simp] theorem Dev.countUp_fw : (d.countUp p n).fw = d.fw := rfl
@[simp] theorem Dev.countUp_board : (d.countUp p n).board = d.board := rfl
@[simp] theorem Dev.countUp_deferred : (d.countUp p n).deferred = d.deferred := rfl
end

section
variable (d : Dev) (p : Page) (n off : Nat) (v : Word)
@[simp] theorem Dev.wr_core : (d.wr p n off v).core = d.core.wr p n off v := by
  unfold Dev.wr
  rw [Dev.onCore_core]
@[simp] theorem Dev.wr_arms : (d.wr p n off v).arms = d.arms := Dev.onCore_arms d _
@[simp] theorem Dev.wr_groups : (d.wr p n off v).groups = d.groups := Dev.onCore_groups d _
@[simp] theorem Dev.wr_applied : (d.wr p n off v).applied = d.applied := Dev.onCore_applied d _
@[simp] theorem Dev.wr_counts : (d.wr p n off v).counts = d.counts := Dev.onCore_counts d _
@[simp] theorem Dev.wr_cads : (d.wr p n off v).cads = d.cads := Dev.onCore_cads d _
@[simp] theorem Dev.wr_ports : (d.wr p n off v).ports = d.ports := Dev.onCore_ports d _
@[simp] theorem Dev.wr_anchors : (d.wr p n off v).anchors = d.anchors := Dev.onCore_anchors d _
@[simp] theorem Dev.wr_plls : (d.wr p n off v).plls = d.plls := Dev.onCore_plls d _
@[simp] theorem Dev.wr_ckoHeld : (d.wr p n off v).ckoHeld = d.ckoHeld := Dev.onCore_ckoHeld d _
@[simp] theorem Dev.wr_xports : (d.wr p n off v).xports = d.xports := Dev.onCore_xports d _
@[simp] theorem Dev.wr_encs : (d.wr p n off v).encs = d.encs := Dev.onCore_encs d _
@[simp] theorem Dev.wr_scenes : (d.wr p n off v).scenes = d.scenes := Dev.onCore_scenes d _
@[simp] theorem Dev.wr_engs : (d.wr p n off v).engs = d.engs := Dev.onCore_engs d _
@[simp] theorem Dev.wr_tones : (d.wr p n off v).tones = d.tones := Dev.onCore_tones d _
@[simp] theorem Dev.wr_builds : (d.wr p n off v).builds = d.builds := Dev.onCore_builds d _
@[simp] theorem Dev.wr_adps : (d.wr p n off v).adps = d.adps := Dev.onCore_adps d _
@[simp] theorem Dev.wr_safe : (d.wr p n off v).safe = d.safe := Dev.onCore_safe d _
@[simp] theorem Dev.wr_chks : (d.wr p n off v).chks = d.chks := Dev.onCore_chks d _
@[simp] theorem Dev.wr_portChks : (d.wr p n off v).portChks = d.portChks := Dev.onCore_portChks d _
@[simp] theorem Dev.wr_refs : (d.wr p n off v).refs = d.refs := Dev.onCore_refs d _
@[simp] theorem Dev.wr_useId : (d.wr p n off v).useId = d.useId := Dev.onCore_useId d _
@[simp] theorem Dev.wr_runSince : (d.wr p n off v).runSince = d.runSince := Dev.onCore_runSince d _
@[simp] theorem Dev.wr_deciding : (d.wr p n off v).deciding = d.deciding := Dev.onCore_deciding d _
@[simp] theorem Dev.wr_rowGen : (d.wr p n off v).rowGen = d.rowGen := Dev.onCore_rowGen d _
@[simp] theorem Dev.wr_bufs : (d.wr p n off v).bufs = d.bufs := Dev.onCore_bufs d _
@[simp] theorem Dev.wr_xfer : (d.wr p n off v).xfer = d.xfer := Dev.onCore_xfer d _
@[simp] theorem Dev.wr_hbm : (d.wr p n off v).hbm = d.hbm := Dev.onCore_hbm d _
@[simp] theorem Dev.wr_fm : (d.wr p n off v).fm = d.fm := Dev.onCore_fm d _
@[simp] theorem Dev.wr_fmBad : (d.wr p n off v).fmBad = d.fmBad := Dev.onCore_fmBad d _
@[simp] theorem Dev.wr_mc : (d.wr p n off v).mc = d.mc := Dev.onCore_mc d _
@[simp] theorem Dev.wr_mem : (d.wr p n off v).mem = d.mem := Dev.onCore_mem d _
@[simp] theorem Dev.wr_poison : (d.wr p n off v).poison = d.poison := Dev.onCore_poison d _
@[simp] theorem Dev.wr_stalled : (d.wr p n off v).stalled = d.stalled := Dev.onCore_stalled d _
@[simp] theorem Dev.wr_dropped : (d.wr p n off v).dropped = d.dropped := Dev.onCore_dropped d _
@[simp] theorem Dev.wr_blt : (d.wr p n off v).blt = d.blt := Dev.onCore_blt d _
@[simp] theorem Dev.wr_rope : (d.wr p n off v).rope = d.rope := Dev.onCore_rope d _
@[simp] theorem Dev.wr_power : (d.wr p n off v).power = d.power := Dev.onCore_power d _
@[simp] theorem Dev.wr_fw : (d.wr p n off v).fw = d.fw := Dev.onCore_fw d _
@[simp] theorem Dev.wr_board : (d.wr p n off v).board = d.board := Dev.onCore_board d _
@[simp] theorem Dev.wr_deferred : (d.wr p n off v).deferred = d.deferred := Dev.onCore_deferred d _
end

section
variable (d : Dev) (p : Page) (n off v : Nat)
@[simp] theorem Dev.wrN_core : (d.wrN p n off v).core = d.core.wrN p n off v := by
  unfold Dev.wrN
  rw [Dev.onCore_core]
@[simp] theorem Dev.wrN_arms : (d.wrN p n off v).arms = d.arms := Dev.onCore_arms d _
@[simp] theorem Dev.wrN_groups : (d.wrN p n off v).groups = d.groups := Dev.onCore_groups d _
@[simp] theorem Dev.wrN_applied : (d.wrN p n off v).applied = d.applied := Dev.onCore_applied d _
@[simp] theorem Dev.wrN_counts : (d.wrN p n off v).counts = d.counts := Dev.onCore_counts d _
@[simp] theorem Dev.wrN_cads : (d.wrN p n off v).cads = d.cads := Dev.onCore_cads d _
@[simp] theorem Dev.wrN_ports : (d.wrN p n off v).ports = d.ports := Dev.onCore_ports d _
@[simp] theorem Dev.wrN_anchors : (d.wrN p n off v).anchors = d.anchors := Dev.onCore_anchors d _
@[simp] theorem Dev.wrN_plls : (d.wrN p n off v).plls = d.plls := Dev.onCore_plls d _
@[simp] theorem Dev.wrN_ckoHeld : (d.wrN p n off v).ckoHeld = d.ckoHeld := Dev.onCore_ckoHeld d _
@[simp] theorem Dev.wrN_xports : (d.wrN p n off v).xports = d.xports := Dev.onCore_xports d _
@[simp] theorem Dev.wrN_encs : (d.wrN p n off v).encs = d.encs := Dev.onCore_encs d _
@[simp] theorem Dev.wrN_scenes : (d.wrN p n off v).scenes = d.scenes := Dev.onCore_scenes d _
@[simp] theorem Dev.wrN_engs : (d.wrN p n off v).engs = d.engs := Dev.onCore_engs d _
@[simp] theorem Dev.wrN_tones : (d.wrN p n off v).tones = d.tones := Dev.onCore_tones d _
@[simp] theorem Dev.wrN_builds : (d.wrN p n off v).builds = d.builds := Dev.onCore_builds d _
@[simp] theorem Dev.wrN_adps : (d.wrN p n off v).adps = d.adps := Dev.onCore_adps d _
@[simp] theorem Dev.wrN_safe : (d.wrN p n off v).safe = d.safe := Dev.onCore_safe d _
@[simp] theorem Dev.wrN_chks : (d.wrN p n off v).chks = d.chks := Dev.onCore_chks d _
@[simp] theorem Dev.wrN_portChks : (d.wrN p n off v).portChks = d.portChks := Dev.onCore_portChks d _
@[simp] theorem Dev.wrN_refs : (d.wrN p n off v).refs = d.refs := Dev.onCore_refs d _
@[simp] theorem Dev.wrN_useId : (d.wrN p n off v).useId = d.useId := Dev.onCore_useId d _
@[simp] theorem Dev.wrN_runSince : (d.wrN p n off v).runSince = d.runSince := Dev.onCore_runSince d _
@[simp] theorem Dev.wrN_deciding : (d.wrN p n off v).deciding = d.deciding := Dev.onCore_deciding d _
@[simp] theorem Dev.wrN_rowGen : (d.wrN p n off v).rowGen = d.rowGen := Dev.onCore_rowGen d _
@[simp] theorem Dev.wrN_bufs : (d.wrN p n off v).bufs = d.bufs := Dev.onCore_bufs d _
@[simp] theorem Dev.wrN_xfer : (d.wrN p n off v).xfer = d.xfer := Dev.onCore_xfer d _
@[simp] theorem Dev.wrN_hbm : (d.wrN p n off v).hbm = d.hbm := Dev.onCore_hbm d _
@[simp] theorem Dev.wrN_fm : (d.wrN p n off v).fm = d.fm := Dev.onCore_fm d _
@[simp] theorem Dev.wrN_fmBad : (d.wrN p n off v).fmBad = d.fmBad := Dev.onCore_fmBad d _
@[simp] theorem Dev.wrN_mc : (d.wrN p n off v).mc = d.mc := Dev.onCore_mc d _
@[simp] theorem Dev.wrN_mem : (d.wrN p n off v).mem = d.mem := Dev.onCore_mem d _
@[simp] theorem Dev.wrN_poison : (d.wrN p n off v).poison = d.poison := Dev.onCore_poison d _
@[simp] theorem Dev.wrN_stalled : (d.wrN p n off v).stalled = d.stalled := Dev.onCore_stalled d _
@[simp] theorem Dev.wrN_dropped : (d.wrN p n off v).dropped = d.dropped := Dev.onCore_dropped d _
@[simp] theorem Dev.wrN_blt : (d.wrN p n off v).blt = d.blt := Dev.onCore_blt d _
@[simp] theorem Dev.wrN_rope : (d.wrN p n off v).rope = d.rope := Dev.onCore_rope d _
@[simp] theorem Dev.wrN_power : (d.wrN p n off v).power = d.power := Dev.onCore_power d _
@[simp] theorem Dev.wrN_fw : (d.wrN p n off v).fw = d.fw := Dev.onCore_fw d _
@[simp] theorem Dev.wrN_board : (d.wrN p n off v).board = d.board := Dev.onCore_board d _
@[simp] theorem Dev.wrN_deferred : (d.wrN p n off v).deferred = d.deferred := Dev.onCore_deferred d _
end

section
variable (d : Dev) (p : Page) (n off lo len v : Nat)
@[simp] theorem Dev.setF_core : (d.setF p n off lo len v).core = d.core.setF p n off lo len v := by
  unfold Dev.setF
  rw [Dev.onCore_core]
@[simp] theorem Dev.setF_arms : (d.setF p n off lo len v).arms = d.arms := Dev.onCore_arms d _
@[simp] theorem Dev.setF_groups : (d.setF p n off lo len v).groups = d.groups := Dev.onCore_groups d _
@[simp] theorem Dev.setF_applied : (d.setF p n off lo len v).applied = d.applied := Dev.onCore_applied d _
@[simp] theorem Dev.setF_counts : (d.setF p n off lo len v).counts = d.counts := Dev.onCore_counts d _
@[simp] theorem Dev.setF_cads : (d.setF p n off lo len v).cads = d.cads := Dev.onCore_cads d _
@[simp] theorem Dev.setF_ports : (d.setF p n off lo len v).ports = d.ports := Dev.onCore_ports d _
@[simp] theorem Dev.setF_anchors : (d.setF p n off lo len v).anchors = d.anchors := Dev.onCore_anchors d _
@[simp] theorem Dev.setF_plls : (d.setF p n off lo len v).plls = d.plls := Dev.onCore_plls d _
@[simp] theorem Dev.setF_ckoHeld : (d.setF p n off lo len v).ckoHeld = d.ckoHeld := Dev.onCore_ckoHeld d _
@[simp] theorem Dev.setF_xports : (d.setF p n off lo len v).xports = d.xports := Dev.onCore_xports d _
@[simp] theorem Dev.setF_encs : (d.setF p n off lo len v).encs = d.encs := Dev.onCore_encs d _
@[simp] theorem Dev.setF_scenes : (d.setF p n off lo len v).scenes = d.scenes := Dev.onCore_scenes d _
@[simp] theorem Dev.setF_engs : (d.setF p n off lo len v).engs = d.engs := Dev.onCore_engs d _
@[simp] theorem Dev.setF_tones : (d.setF p n off lo len v).tones = d.tones := Dev.onCore_tones d _
@[simp] theorem Dev.setF_builds : (d.setF p n off lo len v).builds = d.builds := Dev.onCore_builds d _
@[simp] theorem Dev.setF_adps : (d.setF p n off lo len v).adps = d.adps := Dev.onCore_adps d _
@[simp] theorem Dev.setF_safe : (d.setF p n off lo len v).safe = d.safe := Dev.onCore_safe d _
@[simp] theorem Dev.setF_chks : (d.setF p n off lo len v).chks = d.chks := Dev.onCore_chks d _
@[simp] theorem Dev.setF_portChks : (d.setF p n off lo len v).portChks = d.portChks := Dev.onCore_portChks d _
@[simp] theorem Dev.setF_refs : (d.setF p n off lo len v).refs = d.refs := Dev.onCore_refs d _
@[simp] theorem Dev.setF_useId : (d.setF p n off lo len v).useId = d.useId := Dev.onCore_useId d _
@[simp] theorem Dev.setF_runSince : (d.setF p n off lo len v).runSince = d.runSince := Dev.onCore_runSince d _
@[simp] theorem Dev.setF_deciding : (d.setF p n off lo len v).deciding = d.deciding := Dev.onCore_deciding d _
@[simp] theorem Dev.setF_rowGen : (d.setF p n off lo len v).rowGen = d.rowGen := Dev.onCore_rowGen d _
@[simp] theorem Dev.setF_bufs : (d.setF p n off lo len v).bufs = d.bufs := Dev.onCore_bufs d _
@[simp] theorem Dev.setF_xfer : (d.setF p n off lo len v).xfer = d.xfer := Dev.onCore_xfer d _
@[simp] theorem Dev.setF_hbm : (d.setF p n off lo len v).hbm = d.hbm := Dev.onCore_hbm d _
@[simp] theorem Dev.setF_fm : (d.setF p n off lo len v).fm = d.fm := Dev.onCore_fm d _
@[simp] theorem Dev.setF_fmBad : (d.setF p n off lo len v).fmBad = d.fmBad := Dev.onCore_fmBad d _
@[simp] theorem Dev.setF_mc : (d.setF p n off lo len v).mc = d.mc := Dev.onCore_mc d _
@[simp] theorem Dev.setF_mem : (d.setF p n off lo len v).mem = d.mem := Dev.onCore_mem d _
@[simp] theorem Dev.setF_poison : (d.setF p n off lo len v).poison = d.poison := Dev.onCore_poison d _
@[simp] theorem Dev.setF_stalled : (d.setF p n off lo len v).stalled = d.stalled := Dev.onCore_stalled d _
@[simp] theorem Dev.setF_dropped : (d.setF p n off lo len v).dropped = d.dropped := Dev.onCore_dropped d _
@[simp] theorem Dev.setF_blt : (d.setF p n off lo len v).blt = d.blt := Dev.onCore_blt d _
@[simp] theorem Dev.setF_rope : (d.setF p n off lo len v).rope = d.rope := Dev.onCore_rope d _
@[simp] theorem Dev.setF_power : (d.setF p n off lo len v).power = d.power := Dev.onCore_power d _
@[simp] theorem Dev.setF_fw : (d.setF p n off lo len v).fw = d.fw := Dev.onCore_fw d _
@[simp] theorem Dev.setF_board : (d.setF p n off lo len v).board = d.board := Dev.onCore_board d _
@[simp] theorem Dev.setF_deferred : (d.setF p n off lo len v).deferred = d.deferred := Dev.onCore_deferred d _
end

section
variable (d : Dev) (p : Page) (n off i : Nat) (b : Bool)
@[simp] theorem Dev.setB_core : (d.setB p n off i b).core = d.core.setB p n off i b := by
  unfold Dev.setB
  rw [Dev.onCore_core]
@[simp] theorem Dev.setB_arms : (d.setB p n off i b).arms = d.arms := Dev.onCore_arms d _
@[simp] theorem Dev.setB_groups : (d.setB p n off i b).groups = d.groups := Dev.onCore_groups d _
@[simp] theorem Dev.setB_applied : (d.setB p n off i b).applied = d.applied := Dev.onCore_applied d _
@[simp] theorem Dev.setB_counts : (d.setB p n off i b).counts = d.counts := Dev.onCore_counts d _
@[simp] theorem Dev.setB_cads : (d.setB p n off i b).cads = d.cads := Dev.onCore_cads d _
@[simp] theorem Dev.setB_ports : (d.setB p n off i b).ports = d.ports := Dev.onCore_ports d _
@[simp] theorem Dev.setB_anchors : (d.setB p n off i b).anchors = d.anchors := Dev.onCore_anchors d _
@[simp] theorem Dev.setB_plls : (d.setB p n off i b).plls = d.plls := Dev.onCore_plls d _
@[simp] theorem Dev.setB_ckoHeld : (d.setB p n off i b).ckoHeld = d.ckoHeld := Dev.onCore_ckoHeld d _
@[simp] theorem Dev.setB_xports : (d.setB p n off i b).xports = d.xports := Dev.onCore_xports d _
@[simp] theorem Dev.setB_encs : (d.setB p n off i b).encs = d.encs := Dev.onCore_encs d _
@[simp] theorem Dev.setB_scenes : (d.setB p n off i b).scenes = d.scenes := Dev.onCore_scenes d _
@[simp] theorem Dev.setB_engs : (d.setB p n off i b).engs = d.engs := Dev.onCore_engs d _
@[simp] theorem Dev.setB_tones : (d.setB p n off i b).tones = d.tones := Dev.onCore_tones d _
@[simp] theorem Dev.setB_builds : (d.setB p n off i b).builds = d.builds := Dev.onCore_builds d _
@[simp] theorem Dev.setB_adps : (d.setB p n off i b).adps = d.adps := Dev.onCore_adps d _
@[simp] theorem Dev.setB_safe : (d.setB p n off i b).safe = d.safe := Dev.onCore_safe d _
@[simp] theorem Dev.setB_chks : (d.setB p n off i b).chks = d.chks := Dev.onCore_chks d _
@[simp] theorem Dev.setB_portChks : (d.setB p n off i b).portChks = d.portChks := Dev.onCore_portChks d _
@[simp] theorem Dev.setB_refs : (d.setB p n off i b).refs = d.refs := Dev.onCore_refs d _
@[simp] theorem Dev.setB_useId : (d.setB p n off i b).useId = d.useId := Dev.onCore_useId d _
@[simp] theorem Dev.setB_runSince : (d.setB p n off i b).runSince = d.runSince := Dev.onCore_runSince d _
@[simp] theorem Dev.setB_deciding : (d.setB p n off i b).deciding = d.deciding := Dev.onCore_deciding d _
@[simp] theorem Dev.setB_rowGen : (d.setB p n off i b).rowGen = d.rowGen := Dev.onCore_rowGen d _
@[simp] theorem Dev.setB_bufs : (d.setB p n off i b).bufs = d.bufs := Dev.onCore_bufs d _
@[simp] theorem Dev.setB_xfer : (d.setB p n off i b).xfer = d.xfer := Dev.onCore_xfer d _
@[simp] theorem Dev.setB_hbm : (d.setB p n off i b).hbm = d.hbm := Dev.onCore_hbm d _
@[simp] theorem Dev.setB_fm : (d.setB p n off i b).fm = d.fm := Dev.onCore_fm d _
@[simp] theorem Dev.setB_fmBad : (d.setB p n off i b).fmBad = d.fmBad := Dev.onCore_fmBad d _
@[simp] theorem Dev.setB_mc : (d.setB p n off i b).mc = d.mc := Dev.onCore_mc d _
@[simp] theorem Dev.setB_mem : (d.setB p n off i b).mem = d.mem := Dev.onCore_mem d _
@[simp] theorem Dev.setB_poison : (d.setB p n off i b).poison = d.poison := Dev.onCore_poison d _
@[simp] theorem Dev.setB_stalled : (d.setB p n off i b).stalled = d.stalled := Dev.onCore_stalled d _
@[simp] theorem Dev.setB_dropped : (d.setB p n off i b).dropped = d.dropped := Dev.onCore_dropped d _
@[simp] theorem Dev.setB_blt : (d.setB p n off i b).blt = d.blt := Dev.onCore_blt d _
@[simp] theorem Dev.setB_rope : (d.setB p n off i b).rope = d.rope := Dev.onCore_rope d _
@[simp] theorem Dev.setB_power : (d.setB p n off i b).power = d.power := Dev.onCore_power d _
@[simp] theorem Dev.setB_fw : (d.setB p n off i b).fw = d.fw := Dev.onCore_fw d _
@[simp] theorem Dev.setB_board : (d.setB p n off i b).board = d.board := Dev.onCore_board d _
@[simp] theorem Dev.setB_deferred : (d.setB p n off i b).deferred = d.deferred := Dev.onCore_deferred d _
end

section
variable (d : Dev) (p : Page) (n off : Nat)
@[simp] theorem Dev.inc_core : (d.inc p n off).core = d.core.inc p n off := by
  unfold Dev.inc
  rw [Dev.onCore_core]
@[simp] theorem Dev.inc_arms : (d.inc p n off).arms = d.arms := Dev.onCore_arms d _
@[simp] theorem Dev.inc_groups : (d.inc p n off).groups = d.groups := Dev.onCore_groups d _
@[simp] theorem Dev.inc_applied : (d.inc p n off).applied = d.applied := Dev.onCore_applied d _
@[simp] theorem Dev.inc_counts : (d.inc p n off).counts = d.counts := Dev.onCore_counts d _
@[simp] theorem Dev.inc_cads : (d.inc p n off).cads = d.cads := Dev.onCore_cads d _
@[simp] theorem Dev.inc_ports : (d.inc p n off).ports = d.ports := Dev.onCore_ports d _
@[simp] theorem Dev.inc_anchors : (d.inc p n off).anchors = d.anchors := Dev.onCore_anchors d _
@[simp] theorem Dev.inc_plls : (d.inc p n off).plls = d.plls := Dev.onCore_plls d _
@[simp] theorem Dev.inc_ckoHeld : (d.inc p n off).ckoHeld = d.ckoHeld := Dev.onCore_ckoHeld d _
@[simp] theorem Dev.inc_xports : (d.inc p n off).xports = d.xports := Dev.onCore_xports d _
@[simp] theorem Dev.inc_encs : (d.inc p n off).encs = d.encs := Dev.onCore_encs d _
@[simp] theorem Dev.inc_scenes : (d.inc p n off).scenes = d.scenes := Dev.onCore_scenes d _
@[simp] theorem Dev.inc_engs : (d.inc p n off).engs = d.engs := Dev.onCore_engs d _
@[simp] theorem Dev.inc_tones : (d.inc p n off).tones = d.tones := Dev.onCore_tones d _
@[simp] theorem Dev.inc_builds : (d.inc p n off).builds = d.builds := Dev.onCore_builds d _
@[simp] theorem Dev.inc_adps : (d.inc p n off).adps = d.adps := Dev.onCore_adps d _
@[simp] theorem Dev.inc_safe : (d.inc p n off).safe = d.safe := Dev.onCore_safe d _
@[simp] theorem Dev.inc_chks : (d.inc p n off).chks = d.chks := Dev.onCore_chks d _
@[simp] theorem Dev.inc_portChks : (d.inc p n off).portChks = d.portChks := Dev.onCore_portChks d _
@[simp] theorem Dev.inc_refs : (d.inc p n off).refs = d.refs := Dev.onCore_refs d _
@[simp] theorem Dev.inc_useId : (d.inc p n off).useId = d.useId := Dev.onCore_useId d _
@[simp] theorem Dev.inc_runSince : (d.inc p n off).runSince = d.runSince := Dev.onCore_runSince d _
@[simp] theorem Dev.inc_deciding : (d.inc p n off).deciding = d.deciding := Dev.onCore_deciding d _
@[simp] theorem Dev.inc_rowGen : (d.inc p n off).rowGen = d.rowGen := Dev.onCore_rowGen d _
@[simp] theorem Dev.inc_bufs : (d.inc p n off).bufs = d.bufs := Dev.onCore_bufs d _
@[simp] theorem Dev.inc_xfer : (d.inc p n off).xfer = d.xfer := Dev.onCore_xfer d _
@[simp] theorem Dev.inc_hbm : (d.inc p n off).hbm = d.hbm := Dev.onCore_hbm d _
@[simp] theorem Dev.inc_fm : (d.inc p n off).fm = d.fm := Dev.onCore_fm d _
@[simp] theorem Dev.inc_fmBad : (d.inc p n off).fmBad = d.fmBad := Dev.onCore_fmBad d _
@[simp] theorem Dev.inc_mc : (d.inc p n off).mc = d.mc := Dev.onCore_mc d _
@[simp] theorem Dev.inc_mem : (d.inc p n off).mem = d.mem := Dev.onCore_mem d _
@[simp] theorem Dev.inc_poison : (d.inc p n off).poison = d.poison := Dev.onCore_poison d _
@[simp] theorem Dev.inc_stalled : (d.inc p n off).stalled = d.stalled := Dev.onCore_stalled d _
@[simp] theorem Dev.inc_dropped : (d.inc p n off).dropped = d.dropped := Dev.onCore_dropped d _
@[simp] theorem Dev.inc_blt : (d.inc p n off).blt = d.blt := Dev.onCore_blt d _
@[simp] theorem Dev.inc_rope : (d.inc p n off).rope = d.rope := Dev.onCore_rope d _
@[simp] theorem Dev.inc_power : (d.inc p n off).power = d.power := Dev.onCore_power d _
@[simp] theorem Dev.inc_fw : (d.inc p n off).fw = d.fw := Dev.onCore_fw d _
@[simp] theorem Dev.inc_board : (d.inc p n off).board = d.board := Dev.onCore_board d _
@[simp] theorem Dev.inc_deferred : (d.inc p n off).deferred = d.deferred := Dev.onCore_deferred d _
end

section
variable (d : Dev) (p : Page) (n bit reason : Nat) (w0 w1 w2 w3 : Word)
@[simp] theorem Dev.flag_core : (d.flag p n bit reason w0 w1 w2 w3).core = d.core.flag p n bit reason w0 w1 w2 w3 := by
  unfold Dev.flag
  rw [Dev.onCore_core]
@[simp] theorem Dev.flag_arms : (d.flag p n bit reason w0 w1 w2 w3).arms = d.arms := Dev.onCore_arms d _
@[simp] theorem Dev.flag_groups : (d.flag p n bit reason w0 w1 w2 w3).groups = d.groups := Dev.onCore_groups d _
@[simp] theorem Dev.flag_applied : (d.flag p n bit reason w0 w1 w2 w3).applied = d.applied := Dev.onCore_applied d _
@[simp] theorem Dev.flag_counts : (d.flag p n bit reason w0 w1 w2 w3).counts = d.counts := Dev.onCore_counts d _
@[simp] theorem Dev.flag_cads : (d.flag p n bit reason w0 w1 w2 w3).cads = d.cads := Dev.onCore_cads d _
@[simp] theorem Dev.flag_ports : (d.flag p n bit reason w0 w1 w2 w3).ports = d.ports := Dev.onCore_ports d _
@[simp] theorem Dev.flag_anchors : (d.flag p n bit reason w0 w1 w2 w3).anchors = d.anchors := Dev.onCore_anchors d _
@[simp] theorem Dev.flag_plls : (d.flag p n bit reason w0 w1 w2 w3).plls = d.plls := Dev.onCore_plls d _
@[simp] theorem Dev.flag_ckoHeld : (d.flag p n bit reason w0 w1 w2 w3).ckoHeld = d.ckoHeld := Dev.onCore_ckoHeld d _
@[simp] theorem Dev.flag_xports : (d.flag p n bit reason w0 w1 w2 w3).xports = d.xports := Dev.onCore_xports d _
@[simp] theorem Dev.flag_encs : (d.flag p n bit reason w0 w1 w2 w3).encs = d.encs := Dev.onCore_encs d _
@[simp] theorem Dev.flag_scenes : (d.flag p n bit reason w0 w1 w2 w3).scenes = d.scenes := Dev.onCore_scenes d _
@[simp] theorem Dev.flag_engs : (d.flag p n bit reason w0 w1 w2 w3).engs = d.engs := Dev.onCore_engs d _
@[simp] theorem Dev.flag_tones : (d.flag p n bit reason w0 w1 w2 w3).tones = d.tones := Dev.onCore_tones d _
@[simp] theorem Dev.flag_builds : (d.flag p n bit reason w0 w1 w2 w3).builds = d.builds := Dev.onCore_builds d _
@[simp] theorem Dev.flag_adps : (d.flag p n bit reason w0 w1 w2 w3).adps = d.adps := Dev.onCore_adps d _
@[simp] theorem Dev.flag_safe : (d.flag p n bit reason w0 w1 w2 w3).safe = d.safe := Dev.onCore_safe d _
@[simp] theorem Dev.flag_chks : (d.flag p n bit reason w0 w1 w2 w3).chks = d.chks := Dev.onCore_chks d _
@[simp] theorem Dev.flag_portChks : (d.flag p n bit reason w0 w1 w2 w3).portChks = d.portChks := Dev.onCore_portChks d _
@[simp] theorem Dev.flag_refs : (d.flag p n bit reason w0 w1 w2 w3).refs = d.refs := Dev.onCore_refs d _
@[simp] theorem Dev.flag_useId : (d.flag p n bit reason w0 w1 w2 w3).useId = d.useId := Dev.onCore_useId d _
@[simp] theorem Dev.flag_runSince : (d.flag p n bit reason w0 w1 w2 w3).runSince = d.runSince := Dev.onCore_runSince d _
@[simp] theorem Dev.flag_deciding : (d.flag p n bit reason w0 w1 w2 w3).deciding = d.deciding := Dev.onCore_deciding d _
@[simp] theorem Dev.flag_rowGen : (d.flag p n bit reason w0 w1 w2 w3).rowGen = d.rowGen := Dev.onCore_rowGen d _
@[simp] theorem Dev.flag_bufs : (d.flag p n bit reason w0 w1 w2 w3).bufs = d.bufs := Dev.onCore_bufs d _
@[simp] theorem Dev.flag_xfer : (d.flag p n bit reason w0 w1 w2 w3).xfer = d.xfer := Dev.onCore_xfer d _
@[simp] theorem Dev.flag_hbm : (d.flag p n bit reason w0 w1 w2 w3).hbm = d.hbm := Dev.onCore_hbm d _
@[simp] theorem Dev.flag_fm : (d.flag p n bit reason w0 w1 w2 w3).fm = d.fm := Dev.onCore_fm d _
@[simp] theorem Dev.flag_fmBad : (d.flag p n bit reason w0 w1 w2 w3).fmBad = d.fmBad := Dev.onCore_fmBad d _
@[simp] theorem Dev.flag_mc : (d.flag p n bit reason w0 w1 w2 w3).mc = d.mc := Dev.onCore_mc d _
@[simp] theorem Dev.flag_mem : (d.flag p n bit reason w0 w1 w2 w3).mem = d.mem := Dev.onCore_mem d _
@[simp] theorem Dev.flag_poison : (d.flag p n bit reason w0 w1 w2 w3).poison = d.poison := Dev.onCore_poison d _
@[simp] theorem Dev.flag_stalled : (d.flag p n bit reason w0 w1 w2 w3).stalled = d.stalled := Dev.onCore_stalled d _
@[simp] theorem Dev.flag_dropped : (d.flag p n bit reason w0 w1 w2 w3).dropped = d.dropped := Dev.onCore_dropped d _
@[simp] theorem Dev.flag_blt : (d.flag p n bit reason w0 w1 w2 w3).blt = d.blt := Dev.onCore_blt d _
@[simp] theorem Dev.flag_rope : (d.flag p n bit reason w0 w1 w2 w3).rope = d.rope := Dev.onCore_rope d _
@[simp] theorem Dev.flag_power : (d.flag p n bit reason w0 w1 w2 w3).power = d.power := Dev.onCore_power d _
@[simp] theorem Dev.flag_fw : (d.flag p n bit reason w0 w1 w2 w3).fw = d.fw := Dev.onCore_fw d _
@[simp] theorem Dev.flag_board : (d.flag p n bit reason w0 w1 w2 w3).board = d.board := Dev.onCore_board d _
@[simp] theorem Dev.flag_deferred : (d.flag p n bit reason w0 w1 w2 w3).deferred = d.deferred := Dev.onCore_deferred d _
end

section
variable (d : Dev) (s code : Nat) (w0 w1 w2 w3 : Word)
@[simp] theorem Dev.event_core : (d.event s code w0 w1 w2 w3).core = d.core.event s code w0 w1 w2 w3 := by
  unfold Dev.event
  rw [Dev.onCore_core]
@[simp] theorem Dev.event_arms : (d.event s code w0 w1 w2 w3).arms = d.arms := Dev.onCore_arms d _
@[simp] theorem Dev.event_groups : (d.event s code w0 w1 w2 w3).groups = d.groups := Dev.onCore_groups d _
@[simp] theorem Dev.event_applied : (d.event s code w0 w1 w2 w3).applied = d.applied := Dev.onCore_applied d _
@[simp] theorem Dev.event_counts : (d.event s code w0 w1 w2 w3).counts = d.counts := Dev.onCore_counts d _
@[simp] theorem Dev.event_cads : (d.event s code w0 w1 w2 w3).cads = d.cads := Dev.onCore_cads d _
@[simp] theorem Dev.event_ports : (d.event s code w0 w1 w2 w3).ports = d.ports := Dev.onCore_ports d _
@[simp] theorem Dev.event_anchors : (d.event s code w0 w1 w2 w3).anchors = d.anchors := Dev.onCore_anchors d _
@[simp] theorem Dev.event_plls : (d.event s code w0 w1 w2 w3).plls = d.plls := Dev.onCore_plls d _
@[simp] theorem Dev.event_ckoHeld : (d.event s code w0 w1 w2 w3).ckoHeld = d.ckoHeld := Dev.onCore_ckoHeld d _
@[simp] theorem Dev.event_xports : (d.event s code w0 w1 w2 w3).xports = d.xports := Dev.onCore_xports d _
@[simp] theorem Dev.event_encs : (d.event s code w0 w1 w2 w3).encs = d.encs := Dev.onCore_encs d _
@[simp] theorem Dev.event_scenes : (d.event s code w0 w1 w2 w3).scenes = d.scenes := Dev.onCore_scenes d _
@[simp] theorem Dev.event_engs : (d.event s code w0 w1 w2 w3).engs = d.engs := Dev.onCore_engs d _
@[simp] theorem Dev.event_tones : (d.event s code w0 w1 w2 w3).tones = d.tones := Dev.onCore_tones d _
@[simp] theorem Dev.event_builds : (d.event s code w0 w1 w2 w3).builds = d.builds := Dev.onCore_builds d _
@[simp] theorem Dev.event_adps : (d.event s code w0 w1 w2 w3).adps = d.adps := Dev.onCore_adps d _
@[simp] theorem Dev.event_safe : (d.event s code w0 w1 w2 w3).safe = d.safe := Dev.onCore_safe d _
@[simp] theorem Dev.event_chks : (d.event s code w0 w1 w2 w3).chks = d.chks := Dev.onCore_chks d _
@[simp] theorem Dev.event_portChks : (d.event s code w0 w1 w2 w3).portChks = d.portChks := Dev.onCore_portChks d _
@[simp] theorem Dev.event_refs : (d.event s code w0 w1 w2 w3).refs = d.refs := Dev.onCore_refs d _
@[simp] theorem Dev.event_useId : (d.event s code w0 w1 w2 w3).useId = d.useId := Dev.onCore_useId d _
@[simp] theorem Dev.event_runSince : (d.event s code w0 w1 w2 w3).runSince = d.runSince := Dev.onCore_runSince d _
@[simp] theorem Dev.event_deciding : (d.event s code w0 w1 w2 w3).deciding = d.deciding := Dev.onCore_deciding d _
@[simp] theorem Dev.event_rowGen : (d.event s code w0 w1 w2 w3).rowGen = d.rowGen := Dev.onCore_rowGen d _
@[simp] theorem Dev.event_bufs : (d.event s code w0 w1 w2 w3).bufs = d.bufs := Dev.onCore_bufs d _
@[simp] theorem Dev.event_xfer : (d.event s code w0 w1 w2 w3).xfer = d.xfer := Dev.onCore_xfer d _
@[simp] theorem Dev.event_hbm : (d.event s code w0 w1 w2 w3).hbm = d.hbm := Dev.onCore_hbm d _
@[simp] theorem Dev.event_fm : (d.event s code w0 w1 w2 w3).fm = d.fm := Dev.onCore_fm d _
@[simp] theorem Dev.event_fmBad : (d.event s code w0 w1 w2 w3).fmBad = d.fmBad := Dev.onCore_fmBad d _
@[simp] theorem Dev.event_mc : (d.event s code w0 w1 w2 w3).mc = d.mc := Dev.onCore_mc d _
@[simp] theorem Dev.event_mem : (d.event s code w0 w1 w2 w3).mem = d.mem := Dev.onCore_mem d _
@[simp] theorem Dev.event_poison : (d.event s code w0 w1 w2 w3).poison = d.poison := Dev.onCore_poison d _
@[simp] theorem Dev.event_stalled : (d.event s code w0 w1 w2 w3).stalled = d.stalled := Dev.onCore_stalled d _
@[simp] theorem Dev.event_dropped : (d.event s code w0 w1 w2 w3).dropped = d.dropped := Dev.onCore_dropped d _
@[simp] theorem Dev.event_blt : (d.event s code w0 w1 w2 w3).blt = d.blt := Dev.onCore_blt d _
@[simp] theorem Dev.event_rope : (d.event s code w0 w1 w2 w3).rope = d.rope := Dev.onCore_rope d _
@[simp] theorem Dev.event_power : (d.event s code w0 w1 w2 w3).power = d.power := Dev.onCore_power d _
@[simp] theorem Dev.event_fw : (d.event s code w0 w1 w2 w3).fw = d.fw := Dev.onCore_fw d _
@[simp] theorem Dev.event_board : (d.event s code w0 w1 w2 w3).board = d.board := Dev.onCore_board d _
@[simp] theorem Dev.event_deferred : (d.event s code w0 w1 w2 w3).deferred = d.deferred := Dev.onCore_deferred d _
end

section
variable (d : Dev) (r : Requester) (p : Page) (n off reason : Nat)
@[simp] theorem Dev.reject_core : (d.reject r p n off reason).core = d.core.reject r p n off reason := by
  unfold Dev.reject
  rw [Dev.onCore_core]
@[simp] theorem Dev.reject_arms : (d.reject r p n off reason).arms = d.arms := Dev.onCore_arms d _
@[simp] theorem Dev.reject_groups : (d.reject r p n off reason).groups = d.groups := Dev.onCore_groups d _
@[simp] theorem Dev.reject_applied : (d.reject r p n off reason).applied = d.applied := Dev.onCore_applied d _
@[simp] theorem Dev.reject_counts : (d.reject r p n off reason).counts = d.counts := Dev.onCore_counts d _
@[simp] theorem Dev.reject_cads : (d.reject r p n off reason).cads = d.cads := Dev.onCore_cads d _
@[simp] theorem Dev.reject_ports : (d.reject r p n off reason).ports = d.ports := Dev.onCore_ports d _
@[simp] theorem Dev.reject_anchors : (d.reject r p n off reason).anchors = d.anchors := Dev.onCore_anchors d _
@[simp] theorem Dev.reject_plls : (d.reject r p n off reason).plls = d.plls := Dev.onCore_plls d _
@[simp] theorem Dev.reject_ckoHeld : (d.reject r p n off reason).ckoHeld = d.ckoHeld := Dev.onCore_ckoHeld d _
@[simp] theorem Dev.reject_xports : (d.reject r p n off reason).xports = d.xports := Dev.onCore_xports d _
@[simp] theorem Dev.reject_encs : (d.reject r p n off reason).encs = d.encs := Dev.onCore_encs d _
@[simp] theorem Dev.reject_scenes : (d.reject r p n off reason).scenes = d.scenes := Dev.onCore_scenes d _
@[simp] theorem Dev.reject_engs : (d.reject r p n off reason).engs = d.engs := Dev.onCore_engs d _
@[simp] theorem Dev.reject_tones : (d.reject r p n off reason).tones = d.tones := Dev.onCore_tones d _
@[simp] theorem Dev.reject_builds : (d.reject r p n off reason).builds = d.builds := Dev.onCore_builds d _
@[simp] theorem Dev.reject_adps : (d.reject r p n off reason).adps = d.adps := Dev.onCore_adps d _
@[simp] theorem Dev.reject_safe : (d.reject r p n off reason).safe = d.safe := Dev.onCore_safe d _
@[simp] theorem Dev.reject_chks : (d.reject r p n off reason).chks = d.chks := Dev.onCore_chks d _
@[simp] theorem Dev.reject_portChks : (d.reject r p n off reason).portChks = d.portChks := Dev.onCore_portChks d _
@[simp] theorem Dev.reject_refs : (d.reject r p n off reason).refs = d.refs := Dev.onCore_refs d _
@[simp] theorem Dev.reject_useId : (d.reject r p n off reason).useId = d.useId := Dev.onCore_useId d _
@[simp] theorem Dev.reject_runSince : (d.reject r p n off reason).runSince = d.runSince := Dev.onCore_runSince d _
@[simp] theorem Dev.reject_deciding : (d.reject r p n off reason).deciding = d.deciding := Dev.onCore_deciding d _
@[simp] theorem Dev.reject_rowGen : (d.reject r p n off reason).rowGen = d.rowGen := Dev.onCore_rowGen d _
@[simp] theorem Dev.reject_bufs : (d.reject r p n off reason).bufs = d.bufs := Dev.onCore_bufs d _
@[simp] theorem Dev.reject_xfer : (d.reject r p n off reason).xfer = d.xfer := Dev.onCore_xfer d _
@[simp] theorem Dev.reject_hbm : (d.reject r p n off reason).hbm = d.hbm := Dev.onCore_hbm d _
@[simp] theorem Dev.reject_fm : (d.reject r p n off reason).fm = d.fm := Dev.onCore_fm d _
@[simp] theorem Dev.reject_fmBad : (d.reject r p n off reason).fmBad = d.fmBad := Dev.onCore_fmBad d _
@[simp] theorem Dev.reject_mc : (d.reject r p n off reason).mc = d.mc := Dev.onCore_mc d _
@[simp] theorem Dev.reject_mem : (d.reject r p n off reason).mem = d.mem := Dev.onCore_mem d _
@[simp] theorem Dev.reject_poison : (d.reject r p n off reason).poison = d.poison := Dev.onCore_poison d _
@[simp] theorem Dev.reject_stalled : (d.reject r p n off reason).stalled = d.stalled := Dev.onCore_stalled d _
@[simp] theorem Dev.reject_dropped : (d.reject r p n off reason).dropped = d.dropped := Dev.onCore_dropped d _
@[simp] theorem Dev.reject_blt : (d.reject r p n off reason).blt = d.blt := Dev.onCore_blt d _
@[simp] theorem Dev.reject_rope : (d.reject r p n off reason).rope = d.rope := Dev.onCore_rope d _
@[simp] theorem Dev.reject_power : (d.reject r p n off reason).power = d.power := Dev.onCore_power d _
@[simp] theorem Dev.reject_fw : (d.reject r p n off reason).fw = d.fw := Dev.onCore_fw d _
@[simp] theorem Dev.reject_board : (d.reject r p n off reason).board = d.board := Dev.onCore_board d _
@[simp] theorem Dev.reject_deferred : (d.reject r p n off reason).deferred = d.deferred := Dev.onCore_deferred d _
end

section
variable (d : Dev) (ws : List Word)
@[simp] theorem Dev.answer_core : (d.answer ws).core = d.core.answer ws := by
  unfold Dev.answer
  rw [Dev.onCore_core]
@[simp] theorem Dev.answer_arms : (d.answer ws).arms = d.arms := Dev.onCore_arms d _
@[simp] theorem Dev.answer_groups : (d.answer ws).groups = d.groups := Dev.onCore_groups d _
@[simp] theorem Dev.answer_applied : (d.answer ws).applied = d.applied := Dev.onCore_applied d _
@[simp] theorem Dev.answer_counts : (d.answer ws).counts = d.counts := Dev.onCore_counts d _
@[simp] theorem Dev.answer_cads : (d.answer ws).cads = d.cads := Dev.onCore_cads d _
@[simp] theorem Dev.answer_ports : (d.answer ws).ports = d.ports := Dev.onCore_ports d _
@[simp] theorem Dev.answer_anchors : (d.answer ws).anchors = d.anchors := Dev.onCore_anchors d _
@[simp] theorem Dev.answer_plls : (d.answer ws).plls = d.plls := Dev.onCore_plls d _
@[simp] theorem Dev.answer_ckoHeld : (d.answer ws).ckoHeld = d.ckoHeld := Dev.onCore_ckoHeld d _
@[simp] theorem Dev.answer_xports : (d.answer ws).xports = d.xports := Dev.onCore_xports d _
@[simp] theorem Dev.answer_encs : (d.answer ws).encs = d.encs := Dev.onCore_encs d _
@[simp] theorem Dev.answer_scenes : (d.answer ws).scenes = d.scenes := Dev.onCore_scenes d _
@[simp] theorem Dev.answer_engs : (d.answer ws).engs = d.engs := Dev.onCore_engs d _
@[simp] theorem Dev.answer_tones : (d.answer ws).tones = d.tones := Dev.onCore_tones d _
@[simp] theorem Dev.answer_builds : (d.answer ws).builds = d.builds := Dev.onCore_builds d _
@[simp] theorem Dev.answer_adps : (d.answer ws).adps = d.adps := Dev.onCore_adps d _
@[simp] theorem Dev.answer_safe : (d.answer ws).safe = d.safe := Dev.onCore_safe d _
@[simp] theorem Dev.answer_chks : (d.answer ws).chks = d.chks := Dev.onCore_chks d _
@[simp] theorem Dev.answer_portChks : (d.answer ws).portChks = d.portChks := Dev.onCore_portChks d _
@[simp] theorem Dev.answer_refs : (d.answer ws).refs = d.refs := Dev.onCore_refs d _
@[simp] theorem Dev.answer_useId : (d.answer ws).useId = d.useId := Dev.onCore_useId d _
@[simp] theorem Dev.answer_runSince : (d.answer ws).runSince = d.runSince := Dev.onCore_runSince d _
@[simp] theorem Dev.answer_deciding : (d.answer ws).deciding = d.deciding := Dev.onCore_deciding d _
@[simp] theorem Dev.answer_rowGen : (d.answer ws).rowGen = d.rowGen := Dev.onCore_rowGen d _
@[simp] theorem Dev.answer_bufs : (d.answer ws).bufs = d.bufs := Dev.onCore_bufs d _
@[simp] theorem Dev.answer_xfer : (d.answer ws).xfer = d.xfer := Dev.onCore_xfer d _
@[simp] theorem Dev.answer_hbm : (d.answer ws).hbm = d.hbm := Dev.onCore_hbm d _
@[simp] theorem Dev.answer_fm : (d.answer ws).fm = d.fm := Dev.onCore_fm d _
@[simp] theorem Dev.answer_fmBad : (d.answer ws).fmBad = d.fmBad := Dev.onCore_fmBad d _
@[simp] theorem Dev.answer_mc : (d.answer ws).mc = d.mc := Dev.onCore_mc d _
@[simp] theorem Dev.answer_mem : (d.answer ws).mem = d.mem := Dev.onCore_mem d _
@[simp] theorem Dev.answer_poison : (d.answer ws).poison = d.poison := Dev.onCore_poison d _
@[simp] theorem Dev.answer_stalled : (d.answer ws).stalled = d.stalled := Dev.onCore_stalled d _
@[simp] theorem Dev.answer_dropped : (d.answer ws).dropped = d.dropped := Dev.onCore_dropped d _
@[simp] theorem Dev.answer_blt : (d.answer ws).blt = d.blt := Dev.onCore_blt d _
@[simp] theorem Dev.answer_rope : (d.answer ws).rope = d.rope := Dev.onCore_rope d _
@[simp] theorem Dev.answer_power : (d.answer ws).power = d.power := Dev.onCore_power d _
@[simp] theorem Dev.answer_fw : (d.answer ws).fw = d.fw := Dev.onCore_fw d _
@[simp] theorem Dev.answer_board : (d.answer ws).board = d.board := Dev.onCore_board d _
@[simp] theorem Dev.answer_deferred : (d.answer ws).deferred = d.deferred := Dev.onCore_deferred d _
end

section
variable (d : Dev) (t : Nat)
@[simp] theorem Dev.advance_core : (d.advance t).core = d.core.advance t := by
  unfold Dev.advance
  rw [Dev.onCore_core]
@[simp] theorem Dev.advance_arms : (d.advance t).arms = d.arms := Dev.onCore_arms d _
@[simp] theorem Dev.advance_groups : (d.advance t).groups = d.groups := Dev.onCore_groups d _
@[simp] theorem Dev.advance_applied : (d.advance t).applied = d.applied := Dev.onCore_applied d _
@[simp] theorem Dev.advance_counts : (d.advance t).counts = d.counts := Dev.onCore_counts d _
@[simp] theorem Dev.advance_cads : (d.advance t).cads = d.cads := Dev.onCore_cads d _
@[simp] theorem Dev.advance_ports : (d.advance t).ports = d.ports := Dev.onCore_ports d _
@[simp] theorem Dev.advance_anchors : (d.advance t).anchors = d.anchors := Dev.onCore_anchors d _
@[simp] theorem Dev.advance_plls : (d.advance t).plls = d.plls := Dev.onCore_plls d _
@[simp] theorem Dev.advance_ckoHeld : (d.advance t).ckoHeld = d.ckoHeld := Dev.onCore_ckoHeld d _
@[simp] theorem Dev.advance_xports : (d.advance t).xports = d.xports := Dev.onCore_xports d _
@[simp] theorem Dev.advance_encs : (d.advance t).encs = d.encs := Dev.onCore_encs d _
@[simp] theorem Dev.advance_scenes : (d.advance t).scenes = d.scenes := Dev.onCore_scenes d _
@[simp] theorem Dev.advance_engs : (d.advance t).engs = d.engs := Dev.onCore_engs d _
@[simp] theorem Dev.advance_tones : (d.advance t).tones = d.tones := Dev.onCore_tones d _
@[simp] theorem Dev.advance_builds : (d.advance t).builds = d.builds := Dev.onCore_builds d _
@[simp] theorem Dev.advance_adps : (d.advance t).adps = d.adps := Dev.onCore_adps d _
@[simp] theorem Dev.advance_safe : (d.advance t).safe = d.safe := Dev.onCore_safe d _
@[simp] theorem Dev.advance_chks : (d.advance t).chks = d.chks := Dev.onCore_chks d _
@[simp] theorem Dev.advance_portChks : (d.advance t).portChks = d.portChks := Dev.onCore_portChks d _
@[simp] theorem Dev.advance_refs : (d.advance t).refs = d.refs := Dev.onCore_refs d _
@[simp] theorem Dev.advance_useId : (d.advance t).useId = d.useId := Dev.onCore_useId d _
@[simp] theorem Dev.advance_runSince : (d.advance t).runSince = d.runSince := Dev.onCore_runSince d _
@[simp] theorem Dev.advance_deciding : (d.advance t).deciding = d.deciding := Dev.onCore_deciding d _
@[simp] theorem Dev.advance_rowGen : (d.advance t).rowGen = d.rowGen := Dev.onCore_rowGen d _
@[simp] theorem Dev.advance_bufs : (d.advance t).bufs = d.bufs := Dev.onCore_bufs d _
@[simp] theorem Dev.advance_xfer : (d.advance t).xfer = d.xfer := Dev.onCore_xfer d _
@[simp] theorem Dev.advance_hbm : (d.advance t).hbm = d.hbm := Dev.onCore_hbm d _
@[simp] theorem Dev.advance_fm : (d.advance t).fm = d.fm := Dev.onCore_fm d _
@[simp] theorem Dev.advance_fmBad : (d.advance t).fmBad = d.fmBad := Dev.onCore_fmBad d _
@[simp] theorem Dev.advance_mc : (d.advance t).mc = d.mc := Dev.onCore_mc d _
@[simp] theorem Dev.advance_mem : (d.advance t).mem = d.mem := Dev.onCore_mem d _
@[simp] theorem Dev.advance_poison : (d.advance t).poison = d.poison := Dev.onCore_poison d _
@[simp] theorem Dev.advance_stalled : (d.advance t).stalled = d.stalled := Dev.onCore_stalled d _
@[simp] theorem Dev.advance_dropped : (d.advance t).dropped = d.dropped := Dev.onCore_dropped d _
@[simp] theorem Dev.advance_blt : (d.advance t).blt = d.blt := Dev.onCore_blt d _
@[simp] theorem Dev.advance_rope : (d.advance t).rope = d.rope := Dev.onCore_rope d _
@[simp] theorem Dev.advance_power : (d.advance t).power = d.power := Dev.onCore_power d _
@[simp] theorem Dev.advance_fw : (d.advance t).fw = d.fw := Dev.onCore_fw d _
@[simp] theorem Dev.advance_board : (d.advance t).board = d.board := Dev.onCore_board d _
@[simp] theorem Dev.advance_deferred : (d.advance t).deferred = d.deferred := Dev.onCore_deferred d _
end

/-! Readings of the shared part -/

section
variable (d : Dev) (p : Page) (n off i lo len : Nat)
theorem Dev.rd_core : d.rd p n off = d.core.rd p n off := rfl
theorem Dev.bit_core : d.bit p n off i = bitOf (d.core.rd p n off) i := rfl
theorem Dev.fld_core : d.fld p n off lo len = bitsOf (d.core.rd p n off) lo len := rfl
theorem Dev.use_core : d.use p n off = d.core.use p n off := rfl
theorem Dev.useB_core : d.useB p n off i = bitOf (d.core.use p n off) i := rfl
theorem Dev.useF_core : d.useF p n off lo len = bitsOf (d.core.use p n off) lo len := rfl
theorem Dev.now_core : d.now = d.core.time := rfl
theorem Dev.mode_core : d.mode = d.core.mode := rfl
end

@[simp] theorem State.on_dev (s : State) (f : Dev → Dev) : (s.on f).dev = f s.dev := rfl
@[simp] theorem State.on_pending (s : State) (f : Dev → Dev) : (s.on f).pending = s.pending := rfl

end Sys2Proof.Machine
end

