-- ==== Sys2Proof/Laws/Regs.lean ====
section
/-! SUPPORT. The laws of the register file: what a register reads after a write, and which registers share no address. -/

namespace Sys2Proof.Machine

/-! Addresses -/

theorem Page.base_dvd (p : Page) : 4096 ∣ p.base := by cases p <;> decide

theorem Page.stride_dvd (p : Page) : 4096 ∣ p.stride := by cases p <;> decide

theorem Page.ofSlot_slot (p : Page) {n : Nat} (h : n < p.count) : Page.ofSlot (p.slot n) = some (p, n) := by
  have : ∀ p : Page, ∀ n : Fin p.count, Page.ofSlot (p.slot n.val) = some (p, n.val) := by
    intro p
    cases p <;> decide
  exact this p ⟨n, h⟩

/-- The slot of a register is that of its page instance. -/
theorem Page.reg_slot (p : Page) (n : Nat) {off : Nat} (h : off < 4096) : p.reg n off / 4096 = p.slot n := by
  obtain ⟨a, ha⟩ := p.base_dvd
  obtain ⟨b, hb⟩ := p.stride_dvd
  have hab : p.base + n * p.stride = 4096 * (a + n * b) := by rw [ha, hb, Nat.mul_add, Nat.mul_left_comm]
  unfold Page.reg Page.slot
  rw [hab]
  omega

/-- Two registers of one instance share an address only if they are one register. -/
theorem Page.reg_off (p : Page) (n a b : Nat) : p.reg n a = p.reg n b ↔ a = b := by unfold Page.reg; omega

/-- Two registers share an address only if they are one register. -/
theorem Page.reg_inj {p q : Page} {n m a b : Nat} (hn : n < p.count) (hm : m < q.count) (ha : a < 4096) (hb : b < 4096)
    (h : p.reg n a = q.reg m b) : p = q ∧ n = m ∧ a = b := by
  have hs : p.slot n = q.slot m := by rw [← p.reg_slot n ha, ← q.reg_slot m hb, h]
  have h1 := p.ofSlot_slot hn
  rw [hs, q.ofSlot_slot hm] at h1
  cases h1
  exact ⟨rfl, rfl, (p.reg_off n a b).1 h⟩

/-! Reads after writes -/

section
variable (c : Core) (p : Page) (n off : Nat) (v : Word)

@[simp] theorem Core.rd_wr_same : (c.wr p n off v).rd p n off = v := Tbl.get_set_same _ _ _ _

theorem Core.rd_wr (q : Page) (m o : Nat) :
    (c.wr p n off v).rd q m o = if q.reg m o = p.reg n off then v else c.rd q m o := Tbl.get_set _ _ _ _ _

@[simp] theorem Core.rd_wr_off (o : Nat) : (c.wr p n off v).rd p n o = if o = off then v else c.rd p n o := by
  rw [Core.rd_wr]
  simp only [Page.reg_off]

/-- A write of one register leaves the registers of every other page instance alone. -/
theorem Core.rd_wr_page {q : Page} {m o : Nat} (hn : n < p.count) (hm : m < q.count) (ha : off < 4096) (hb : o < 4096)
    (h : q ≠ p ∨ m ≠ n ∨ o ≠ off) : (c.wr p n off v).rd q m o = c.rd q m o := by
  rw [Core.rd_wr, if_neg]
  intro he
  obtain ⟨h1, h2, h3⟩ := Page.reg_inj hm hn hb ha he
  rcases h with h | h | h
  · exact h h1
  · exact h h2
  · exact h h3

@[simp] theorem Core.wr_time : (c.wr p n off v).time = c.time := rfl
@[simp] theorem Core.wr_timeRuns : (c.wr p n off v).timeRuns = c.timeRuns := rfl
@[simp] theorem Core.wr_powerHold : (c.wr p n off v).powerHold = c.powerHold := rfl
@[simp] theorem Core.wr_inUse : (c.wr p n off v).inUse = c.inUse := rfl
@[simp] theorem Core.wr_srcs : (c.wr p n off v).srcs = c.srcs := rfl
@[simp] theorem Core.wr_gates : (c.wr p n off v).gates = c.gates := rfl
@[simp] theorem Core.wr_sent : (c.wr p n off v).sent = c.sent := rfl
@[simp] theorem Core.wr_lastSent : (c.wr p n off v).lastSent = c.lastSent := rfl
@[simp] theorem Core.wr_irqLow : (c.wr p n off v).irqLow = c.irqLow := rfl
@[simp] theorem Core.wr_vectors : (c.wr p n off v).vectors = c.vectors := rfl
@[simp] theorem Core.wr_ring : (c.wr p n off v).ring = c.ring := rfl
@[simp] theorem Core.wr_sat : (c.wr p n off v).sat = c.sat := rfl
@[simp] theorem Core.wr_spillQ : (c.wr p n off v).spillQ = c.spillQ := rfl
@[simp] theorem Core.wr_forwardQ : (c.wr p n off v).forwardQ = c.forwardQ := rfl
@[simp] theorem Core.wr_resp : (c.wr p n off v).resp = c.resp := rfl
@[simp] theorem Core.wr_free : (c.wr p n off v).free = c.free := rfl
@[simp] theorem Core.wr_use (q : Page) (m o : Nat) : (c.wr p n off v).use q m o = c.use q m o := rfl
@[simp] theorem Core.wr_src (s : Nat) : (c.wr p n off v).src s = c.src s := rfl
end

section
variable (d : Dev) (p : Page) (n off : Nat) (v : Word)

@[simp] theorem Dev.rd_wr_same : (d.wr p n off v).rd p n off = v := Core.rd_wr_same _ _ _ _ _

@[simp] theorem Dev.rd_wr_off (o : Nat) : (d.wr p n off v).rd p n o = if o = off then v else d.rd p n o := Core.rd_wr_off _ _ _ _ _ _

theorem Dev.rd_wr_page {q : Page} {m o : Nat} (hn : n < p.count) (hm : m < q.count) (ha : off < 4096) (hb : o < 4096)
    (h : q ≠ p ∨ m ≠ n ∨ o ≠ off) : (d.wr p n off v).rd q m o = d.rd q m o := Core.rd_wr_page _ _ _ _ _ hn hm ha hb h

end

/-! Copies of a page -/

theorem copyEntries_in (dst src : Tbl Word) {lo hi k a : Nat} (h : lo ≤ a ∧ a < hi) (hr : resetOf (a + k) = resetOf a) :
    Tbl.get resetOf (copyEntries dst src lo hi k) (a + k) = Tbl.get resetOf src a := by
  unfold copyEntries
  rw [Tbl.get_setAll, Tbl.find_slice, if_pos h]
  have h' : lo + k ≤ a + k ∧ a + k < hi + k := by omega
  unfold Tbl.get
  cases Tbl.find src a with
  | some v => rfl
  | none =>
    simp only
    rw [Tbl.find_without, if_pos h', hr]

theorem copyEntries_out (dst src : Tbl Word) {lo hi k a : Nat} (h : ¬ (lo + k ≤ a ∧ a < hi + k)) :
    Tbl.get resetOf (copyEntries dst src lo hi k) a = Tbl.get resetOf dst a := by
  unfold copyEntries
  rw [Tbl.get_setAll_below]
  · unfold Tbl.get
    rw [Tbl.find_without, if_neg h]
  · intro e he
    have := (List.mem_filter.1 he).2
    simp only [Bool.and_eq_true, decide_eq_true_eq] at this
    omega

/-- A register of the active mirror resets to the value of its shadow (R29). -/
theorem resetOf_mirror {p : Page} {n off : Nat} (hp : p.shadowed = true) (hn : n < p.count) (h1 : 0x100 ≤ off) (h2 : off < 0x800) :
    resetOf (p.reg n (off + 0x800)) = resetOf (p.reg n off) := by
  have hm : ∀ o, o < 4096 → p.reg n o % 4096 = o := by
    intro o ho
    obtain ⟨a, ha⟩ := p.base_dvd
    obtain ⟨b, hb⟩ := p.stride_dvd
    unfold Page.reg
    rw [ha, hb, Nat.mul_left_comm, ← Nat.mul_add, Nat.mul_add_mod, Nat.mod_eq_of_lt ho]
  have d1 : p.desc (off + 0x800) = findDesc p.regs off := by
    have : ¬ off + 0x800 < 0x20 := by omega
    have : 0x800 ≤ off + 0x800 := by omega
    have : 0x900 ≤ off + 0x800 := by omega
    simp [Page.desc, *]
  have d2 : p.desc off = findDesc p.regs off := by
    have : ¬ off < 0x20 := by omega
    have : ¬ 0x800 ≤ off := by omega
    simp [Page.desc, *]
  unfold resetOf
  rw [Page.reg_slot p n (show off + 0x800 < 4096 by omega), Page.reg_slot p n (show off < 4096 by omega), p.ofSlot_slot hn]
  simp only [hm _ (show off + 0x800 < 4096 by omega), hm _ (show off < 4096 by omega), d1, d2]
  have h3 : 0x900 ≤ off + 0x800 := by omega
  have h4 : ¬ 0x900 ≤ off := by omega
  simp [hp, h3, h4]

/-- A copied shadow register is what the active copy then reads (R40). -/
theorem Core.act_copyShadow (c : Core) {p : Page} {n off : Nat} (hp : p.shadowed = true) (hn : n < p.count) (h1 : 0x100 ≤ off)
    (h2 : off < 0x800) : (c.copyShadow p n).act p n off = c.rd p n off := by
  have e : p.reg n (off + 0x800) = p.reg n off + 0x800 := by unfold Page.reg; omega
  have hr := resetOf_mirror hp hn h1 h2
  rw [e] at hr
  unfold Core.act Core.rd
  rw [e]
  exact copyEntries_in c.regs c.regs (by unfold Page.reg; omega) hr

/-- A copy leaves every register outside the active copy alone. -/
theorem Core.rd_copyShadow (c : Core) (p q : Page) (n m o : Nat) (hn : n < p.count) (hm : m < q.count) (ho : o < 4096)
    (h : q ≠ p ∨ m ≠ n ∨ o < 0x900) : (c.copyShadow p n).rd q m o = c.rd q m o := by
  refine copyEntries_out _ _ ?_
  intro hr
  have hs : q.slot m = p.slot n := by
    rw [← q.reg_slot m ho, ← p.reg_slot n (show (0x900 : Nat) < 4096 by decide)]
    obtain ⟨a, ha⟩ := p.base_dvd
    obtain ⟨b, hb⟩ := p.stride_dvd
    have hab : p.base + n * p.stride = 4096 * (a + n * b) := by rw [ha, hb, Nat.mul_add, Nat.mul_left_comm]
    unfold Page.reg at hr ⊢
    rw [hab] at hr ⊢
    omega
  have h1 := q.ofSlot_slot hm
  rw [hs, p.ofSlot_slot hn] at h1
  cases h1
  rcases h with h | h | h
  · exact h rfl
  · exact h rfl
  · unfold Page.reg at hr
    omega

/-! Sources -/

theorem Core.src_setSrc (c : Core) (s t : Nat) (x : Src) : (c.setSrc s x).src t = if t = s then x else c.src t := Tbl.get_set _ _ _ _ _

@[simp] theorem Core.src_setSrc_same (c : Core) (s : Nat) (x : Src) : (c.setSrc s x).src s = x := Tbl.get_set_same _ _ _ _

@[simp] theorem Core.rd_setSrc (c : Core) (s : Nat) (x : Src) (p : Page) (n off : Nat) : (c.setSrc s x).rd p n off = c.rd p n off := rfl

/-- A raise leaves its source pending. -/
@[simp] theorem Core.raise_pending (c : Core) (s : Nat) : ((c.raise s).src s).pending = true := by simp [Core.raise]

@[simp] theorem Core.rd_raise (c : Core) (s : Nat) (p : Page) (n off : Nat) : (c.raise s).rd p n off = c.rd p n off := rfl

end Sys2Proof.Machine
end

