-- ==== Sys2Proof/Laws/Events.lean ====
section
/-! SUPPORT. What an event leaves alone: a record, a raise and a page flag change the ELOG page, the log and one source, and no other
register but the page's own PAGE_STAT. -/

namespace Sys2Proof.Machine

/-- What the shared part holds beside registers, sources, the log and its queues. -/
def Core.rest (c : Core) :=
  (c.time, c.timeRuns, c.powerHold, c.inUse, c.gates, c.sent, c.lastSent, c.irqLow, c.vectors, c.resp, c.free)

/-- The first core has the registers of the second outside ELOG, and differs from it in its sources and its log at most. -/
def Core.SameRegs (c e : Core) : Prop :=
  (∀ (q : Page) (m o : Nat), m < q.count → o < 4096 → q ≠ .elog → c.rd q m o = e.rd q m o) ∧ c.rest = e.rest

theorem Core.SameRegs.refl (c : Core) : c.SameRegs c := ⟨fun _ _ _ _ _ _ => rfl, rfl⟩

theorem Core.SameRegs.trans {a b c : Core} (h : a.SameRegs b) (h' : b.SameRegs c) : a.SameRegs c :=
  ⟨fun q m o hm ho hq => (h.1 q m o hm ho hq).trans (h'.1 q m o hm ho hq), h.2.trans h'.2⟩

/-- A write to a register of ELOG leaves the other pages alone. -/
theorem Core.sameRegs_wr {c e : Core} {off : Nat} (v : Word) (ho : off < 4096) (h : c.SameRegs e) : (c.wr .elog 0 off v).SameRegs e :=
  ⟨fun q m o hm hb hq => (Core.rd_wr_page c .elog 0 off v (by decide) hm ho hb (.inl hq)).trans (h.1 q m o hm hb hq), h.2⟩

/-- Only the register file and the rest matter. -/
theorem Core.sameRegs_of {c c' e : Core} (hr : c'.regs = c.regs) (hs : c'.rest = c.rest) (h : c.SameRegs e) : c'.SameRegs e := by
  refine ⟨fun q m o hm ho hq => ?_, hs.trans h.2⟩
  rw [← h.1 q m o hm ho hq]
  unfold Core.rd
  rw [hr]

theorem Core.sameRegs_raise {c e : Core} (s : Nat) (h : c.SameRegs e) : (c.raise s).SameRegs e := Core.sameRegs_of rfl rfl h

theorem partitionOf_le (s : Nat) : partitionOf s ≤ 2 := by
  unfold partitionOf
  repeat' split
  all_goals omega

theorem Core.sameRegs_putRec {c e : Core} {q : Nat} (r : Rec) (hq : q ≤ 2) (h : c.SameRegs e) : (c.putRec q r).SameRegs e :=
  Core.sameRegs_wr _ (by simp only [Off.ELOG_WPTR]; omega) (Core.sameRegs_of (c := c) rfl rfl h)

theorem Core.sameRegs_forward {c e : Core} (r : Rec) (h : c.SameRegs e) : (c.forward r).SameRegs e := by
  unfold Core.forward
  split
  · exact Core.sameRegs_of rfl rfl h
  · exact h

theorem Core.sameRegs_pushSpill {c e : Core} (a : Nat) (r : Rec) (h : c.SameRegs e) : (c.pushSpill a r).SameRegs e :=
  Core.sameRegs_of rfl rfl h

theorem Core.sameRegs_spill {c e : Core} (r : Rec) (h : c.SameRegs e) : (c.spill r).SameRegs e := by
  have h1 : ((c.incWrap .elog 0 Off.ELOG_SPILL_RPTR).inc .elog 0 Off.ELOG_SPILL_LOST).SameRegs e :=
    Core.sameRegs_wr _ (by decide) (Core.sameRegs_wr _ (by decide) h)
  unfold Core.spill
  refine Core.sameRegs_pushSpill _ _ (Core.sameRegs_wr _ (by decide) ?_)
  split
  · exact h1
  · exact h

theorem Core.sameRegs_makeRoom {c e : Core} {q : Nat} (hq : q ≤ 2) (h : c.SameRegs e) : (c.makeRoom q).1.SameRegs e := by
  have h1 : (c.incWrap .elog 0 (Off.ELOG_RPTR + 8 * q)).SameRegs e :=
    Core.sameRegs_wr _ (by simp only [Off.ELOG_RPTR]; omega) h
  unfold Core.makeRoom
  split
  · dsimp only
    split
    · exact Core.sameRegs_spill _ h1
    · exact Core.sameRegs_wr _ (by simp only [Off.ELOG_LOST]; omega) h1
  · exact h

theorem Core.sameRegs_storeSafety {c e : Core} (s : Nat) (r : Rec) (h : c.SameRegs e) : (c.storeSafety s r).1.SameRegs e := by
  have h1 : (c.setB .elog 0 Off.ELOG_ELOG_STAT 0 true).SameRegs e := Core.sameRegs_wr _ (by decide) h
  unfold Core.storeSafety
  dsimp only
  split
  · split
    · exact Core.sameRegs_of rfl rfl h1
    · exact Core.sameRegs_of rfl rfl h1
  · exact Core.sameRegs_putRec _ (by decide) h

theorem Core.sameRegs_storeRec {c e : Core} (s : Nat) (r : Rec) (h : c.SameRegs e) : (c.storeRec s r).1.SameRegs e := by
  unfold Core.storeRec
  split
  · exact Core.sameRegs_forward _ (Core.sameRegs_storeSafety _ _ h)
  · exact Core.sameRegs_forward _ (Core.sameRegs_putRec _ (partitionOf_le s) (Core.sameRegs_makeRoom (partitionOf_le s) h))

theorem Core.sameRegs_recordFlat {c e : Core} (s code : Nat) (w0 w1 w2 w3 : Word) (h : c.SameRegs e) :
    (c.recordFlat s code w0 w1 w2 w3).1.SameRegs e := by
  have h1 : (c.bumpSeq s).SameRegs e := Core.sameRegs_of rfl rfl h
  unfold Core.recordFlat
  dsimp only
  split
  · exact Core.sameRegs_storeRec _ _ h1
  · split
    · exact Core.sameRegs_storeRec _ _ (Core.sameRegs_of rfl rfl h1)
    · unfold Core.suppress Core.inc
      exact Core.sameRegs_wr _ (by decide) (Core.sameRegs_of rfl rfl h1)

theorem Core.sameRegs_reportLost {c e : Core} (h : c.SameRegs e) : c.reportLost.SameRegs e := by
  have h1 : (c.flagOnly .elog 0 10).SameRegs e := Core.sameRegs_wr _ (by decide) h
  unfold Core.reportLost
  dsimp only
  split
  · exact Core.sameRegs_raise _ (Core.sameRegs_recordFlat _ _ _ _ _ _ h1)
  · exact Core.sameRegs_recordFlat _ _ _ _ _ _ h1

theorem Core.sameRegs_reportSaturated {c e : Core} (h : c.SameRegs e) : c.reportSaturated.SameRegs e :=
  Core.sameRegs_raise _ (Core.sameRegs_recordFlat _ _ _ _ _ _ (Core.sameRegs_wr _ (by decide) h))

/-- A record changes no register outside ELOG. -/
theorem Core.sameRegs_record {c e : Core} (s code : Nat) (w0 w1 w2 w3 : Word) (h : c.SameRegs e) :
    (c.record s code w0 w1 w2 w3).SameRegs e := by
  have h1 := Core.sameRegs_recordFlat s code w0 w1 w2 w3 h
  unfold Core.record Core.reportLog
  dsimp only
  repeat' first | exact h1 | apply Core.sameRegs_reportSaturated | apply Core.sameRegs_reportLost | split

/-- An event changes no register outside ELOG. -/
theorem Core.sameRegs_event {c e : Core} (s code : Nat) (w0 w1 w2 w3 : Word) (h : c.SameRegs e) :
    (c.event s code w0 w1 w2 w3).SameRegs e := Core.sameRegs_raise _ (Core.sameRegs_record _ _ _ _ _ _ h)

theorem Core.rd_flagOnly (c : Core) (p : Page) (n bit o : Nat) :
    (c.flagOnly p n bit).rd p n o = if o = Off.PAGE_STAT then sqSet (c.rd p n Off.PAGE_STAT) (2 ^ bit) else c.rd p n o :=
  Core.rd_wr_off _ _ _ _ _ _

theorem Core.rd_inc (c : Core) (p : Page) (n off o : Nat) :
    (c.inc p n off).rd p n o = if o = off then satWord ((c.rd p n off).toNat + 1) else c.rd p n o := Core.rd_wr_off _ _ _ _ _ _

/-- What a page flag does to the registers outside ELOG is setting the flag in its PAGE_STAT. -/
theorem Core.sameRegs_flag (c : Core) (p : Page) (n bit reason : Nat) (w0 w1 w2 w3 : Word) :
    (c.flag p n bit reason w0 w1 w2 w3).SameRegs (c.flagOnly p n bit) := by
  have h := Core.SameRegs.refl (c.flagOnly p n bit)
  unfold Core.flag
  dsimp only
  split
  · exact h
  · split
    · exact Core.sameRegs_raise _ (Core.sameRegs_record _ _ _ _ _ _ h)
    · exact Core.sameRegs_record _ _ _ _ _ _ h

/-- A page flag leaves every other register outside ELOG alone. -/
theorem Core.rd_flag {c : Core} {p : Page} {n bit reason : Nat} {w0 w1 w2 w3 : Word} {q : Page} {m o : Nat} (hn : n < p.count)
    (hm : m < q.count) (ho : o < 4096) (hq : q ≠ .elog) (h : q ≠ p ∨ m ≠ n ∨ o ≠ Off.PAGE_STAT) :
    (c.flag p n bit reason w0 w1 w2 w3).rd q m o = c.rd q m o :=
  ((Core.sameRegs_flag c p n bit reason w0 w1 w2 w3).1 q m o hm ho hq).trans (Core.rd_wr_page _ _ _ _ _ hn hm (by decide) ho h)

/-- A page flag stands in PAGE_STAT. -/
theorem Core.rd_flag_stat {c : Core} {p : Page} {n bit reason : Nat} {w0 w1 w2 w3 : Word} (hn : n < p.count) (hp : p ≠ .elog) :
    (c.flag p n bit reason w0 w1 w2 w3).rd p n Off.PAGE_STAT = sqSet (c.rd p n Off.PAGE_STAT) (2 ^ bit) :=
  ((Core.sameRegs_flag c p n bit reason w0 w1 w2 w3).1 p n Off.PAGE_STAT hn (by decide) hp).trans (Core.rd_wr_same _ _ _ _ _)

/-- An event leaves every register outside ELOG alone. -/
theorem Core.rd_event {c : Core} {s code : Nat} {w0 w1 w2 w3 : Word} {q : Page} {m o : Nat} (hm : m < q.count) (ho : o < 4096)
    (hq : q ≠ .elog) : (c.event s code w0 w1 w2 w3).rd q m o = c.rd q m o :=
  (Core.sameRegs_event s code w0 w1 w2 w3 (Core.SameRegs.refl c)).1 q m o hm ho hq

@[simp] theorem Core.rest_wr (c : Core) (p : Page) (n off : Nat) (v : Word) : (c.wr p n off v).rest = c.rest := rfl

/-- An event changes nothing but registers of ELOG, sources and the log. -/
@[simp] theorem Core.rest_event (c : Core) (s code : Nat) (w0 w1 w2 w3 : Word) : (c.event s code w0 w1 w2 w3).rest = c.rest :=
  (Core.sameRegs_event s code w0 w1 w2 w3 (Core.SameRegs.refl c)).2

/-- A page flag changes nothing but its PAGE_STAT, registers of ELOG, sources and the log. -/
@[simp] theorem Core.rest_flag (c : Core) (p : Page) (n bit reason : Nat) (w0 w1 w2 w3 : Word) :
    (c.flag p n bit reason w0 w1 w2 w3).rest = c.rest := by
  rw [(Core.sameRegs_flag c p n bit reason w0 w1 w2 w3).2]
  unfold Core.flagOnly
  rw [Core.rest_wr]

/-- A rejected command changes nothing but its reports. -/
@[simp] theorem Core.rest_reject (c : Core) (r : Requester) (p : Page) (n off reason : Nat) : (c.reject r p n off reason).rest = c.rest := by
  rw [Core.reject, Core.rejected, Core.rest_event, Core.inc, Core.rest_wr, Core.rest_wr, Core.flagOnly, Core.rest_wr]

/-- Device time comes from the rest. -/
theorem Core.time_of_rest {c e : Core} (h : c.rest = e.rest) : c.time = e.time := congrArg (fun x => x.1) h

/-- The configuration in use comes from the rest. -/
theorem Core.inUse_of_rest {c e : Core} (h : c.rest = e.rest) : c.inUse = e.inUse := congrArg (fun x => x.2.2.2.1) h

/-- The answer to the latest read comes from the rest. -/
theorem Core.resp_of_rest {c e : Core} (h : c.rest = e.rest) : c.resp = e.resp := congrArg (fun x => x.2.2.2.2.2.2.2.2.2.1) h

/-- A rejected command is reported in SYS.REJECT_LAST. -/
theorem Core.rd_reject_last (c : Core) (r : Requester) (p : Page) (n off reason : Nat) :
    (c.reject r p n off reason).rd .sys 0 Off.SYS_REJECT_LAST = rejectWord reason (p.slot n) off r.id := by
  unfold Core.reject Core.rejected
  rw [Core.rd_event (by decide) (by decide) (by decide)]
  unfold Core.inc
  simp [Off.SYS_REJECT_LAST, Off.SYS_REJECT_COUNT]

/-- What a rejected command does to the registers outside ELOG (R57): flag 0 of its page, REJECT_LAST and REJECT_COUNT. -/
theorem Core.sameRegs_reject (c : Core) (r : Requester) (p : Page) (n off reason : Nat) :
    (c.reject r p n off reason).SameRegs
      (((c.flagOnly p n 0).wr .sys 0 Off.SYS_REJECT_LAST (rejectWord reason (p.slot n) off r.id)).inc .sys 0 Off.SYS_REJECT_COUNT) := by
  rw [Core.reject, Core.rejected]
  exact Core.sameRegs_event _ _ _ _ _ _ (Core.SameRegs.refl _)

/-- A rejected command leaves every register alone but the reports: PAGE_STAT of its page, REJECT_LAST and REJECT_COUNT, and ELOG. -/
theorem Core.rd_reject (c : Core) (r : Requester) (p : Page) (n off reason : Nat) {q : Page} {m o : Nat} (hn : n < p.count)
    (hm : m < q.count) (ho : o < 4096) (hq : q ≠ .elog) (h : q ≠ p ∨ m ≠ n ∨ o ≠ Off.PAGE_STAT)
    (hs : q ≠ .sys ∨ (o ≠ Off.SYS_REJECT_LAST ∧ o ≠ Off.SYS_REJECT_COUNT)) : (c.reject r p n off reason).rd q m o = c.rd q m o := by
  rw [(Core.sameRegs_reject c r p n off reason).1 q m o hm ho hq]
  generalize rejectWord reason (p.slot n) off r.id = w
  have h1 : q ≠ .sys ∨ m ≠ 0 ∨ o ≠ Off.SYS_REJECT_COUNT := hs.imp_right fun x => .inr x.2
  have h2 : q ≠ .sys ∨ m ≠ 0 ∨ o ≠ Off.SYS_REJECT_LAST := hs.imp_right fun x => .inr x.1
  unfold Core.inc Core.flagOnly
  rw [Core.rd_wr_page _ _ _ _ _ (by decide) hm (by decide) ho h1, Core.rd_wr_page _ _ _ _ _ (by decide) hm (by decide) ho h2,
    Core.rd_wr_page _ _ _ _ _ hn hm (by decide) ho h]

/-! The sources -/

theorem Core.src_of {c e : Core} (h : c.srcs = e.srcs) (t : Nat) : c.src t = e.src t := by
  unfold Core.src
  rw [h]

theorem Core.srcs_forward (c : Core) (r : Rec) : (c.forward r).srcs = c.srcs := by
  unfold Core.forward
  split <;> rfl

theorem Core.srcs_incWrap (c : Core) (p : Page) (n off : Nat) : (c.incWrap p n off).srcs = c.srcs := rfl
theorem Core.srcs_inc (c : Core) (p : Page) (n off : Nat) : (c.inc p n off).srcs = c.srcs := rfl
theorem Core.srcs_pushSpill (c : Core) (a : Nat) (r : Rec) : (c.pushSpill a r).srcs = c.srcs := rfl

theorem Core.srcs_spill (c : Core) (r : Rec) : (c.spill r).srcs = c.srcs := by
  unfold Core.spill
  rw [Core.srcs_pushSpill, Core.srcs_incWrap]
  split
  · rw [Core.srcs_inc, Core.srcs_incWrap]
  · rfl

theorem Core.srcs_makeRoom (c : Core) (q : Nat) : (c.makeRoom q).1.srcs = c.srcs := by
  unfold Core.makeRoom
  split
  · dsimp only
    split
    · exact (Core.srcs_spill _ _).trans (Core.srcs_incWrap _ _ _ _)
    · exact (Core.srcs_inc _ _ _ _).trans (Core.srcs_incWrap _ _ _ _)
  · rfl

theorem Core.srcs_storeSafety (c : Core) (s : Nat) (r : Rec) : (c.storeSafety s r).1.srcs = c.srcs := by
  unfold Core.storeSafety
  dsimp only
  split
  · split <;> rfl
  · rfl

/-- Storing a record changes no source. -/
theorem Core.srcs_storeRec (c : Core) (s : Nat) (r : Rec) : (c.storeRec s r).1.srcs = c.srcs := by
  unfold Core.storeRec
  split
  · exact (Core.srcs_forward _ _).trans (Core.srcs_storeSafety _ _ _)
  · exact (Core.srcs_forward _ _).trans (Core.srcs_makeRoom c (partitionOf s))

/-- An event of one source leaves the other sources' state alone in the flat record. -/
theorem Core.src_recordFlat_ne (c : Core) {s t : Nat} (code : Nat) (w0 w1 w2 w3 : Word) (h : t ≠ s) :
    (c.recordFlat s code w0 w1 w2 w3).1.src t = c.src t := by
  have h1 : (c.bumpSeq s).src t = c.src t := by unfold Core.bumpSeq; rw [Core.src_setSrc, if_neg h]
  unfold Core.recordFlat
  dsimp only
  split
  · exact (Core.src_of (Core.srcs_storeRec _ _ _) t).trans h1
  · split
    · exact (Core.src_of (Core.srcs_storeRec _ _ _) t).trans (by rw [Core.src_setSrc, if_neg h]; exact h1)
    · unfold Core.suppress Core.inc
      rw [Core.wr_src, Core.src_setSrc, if_neg h]
      exact h1

/-- A record advances the sequence of its source by one, and leaves whether it is pending or active (R444). -/
theorem Core.src_recordFlat (c : Core) (s code : Nat) (w0 w1 w2 w3 : Word) :
    ((c.recordFlat s code w0 w1 w2 w3).1.src s).seq = (c.src s).seq + 1 ∧
      ((c.recordFlat s code w0 w1 w2 w3).1.src s).pending = (c.src s).pending ∧
      ((c.recordFlat s code w0 w1 w2 w3).1.src s).active = (c.src s).active := by
  have h1 : (c.bumpSeq s).src s = { c.src s with seq := (c.src s).seq + 1 } := by
    unfold Core.bumpSeq Core.nextSeq
    rw [Core.src_setSrc_same]
  unfold Core.recordFlat
  dsimp only
  split
  · rw [Core.src_of (Core.srcs_storeRec _ _ _) s, h1]
    exact ⟨rfl, rfl, rfl⟩
  · split
    · rw [Core.src_of (Core.srcs_storeRec _ _ _) s, Core.src_setSrc_same, h1]
      exact ⟨rfl, rfl, rfl⟩
    · unfold Core.suppress Core.inc
      rw [Core.wr_src, Core.src_setSrc_same, h1]
      exact ⟨rfl, rfl, rfl⟩

theorem Core.src_reportLost (c : Core) {t : Nat} (h : t ≠ 8) : c.reportLost.src t = c.src t := by
  have h1 : ((c.flagOnly .elog 0 10).recordFlat 8 10 0 0 0 0).1.src t = c.src t :=
    (Core.src_recordFlat_ne _ _ _ _ _ _ h).trans (Core.wr_src _ _ _ _ _ _)
  unfold Core.reportLost
  dsimp only
  split
  · unfold Core.raise
    rw [Core.src_setSrc, if_neg h]
    exact h1
  · exact h1

theorem Core.src_reportSaturated (c : Core) {t : Nat} (h : t ≠ 9) : c.reportSaturated.src t = c.src t := by
  unfold Core.reportSaturated Core.raise
  rw [Core.src_setSrc, if_neg h]
  exact (Core.src_recordFlat_ne _ _ _ _ _ _ h).trans (Core.wr_src _ _ _ _ _ _)

theorem Core.src_reportLog (s : Nat) (x : Core × Bool × Bool) {t : Nat} (h8 : t ≠ 8) (h9 : t ≠ 9) :
    (Core.reportLog s x).src t = x.1.src t := by
  unfold Core.reportLog
  dsimp only
  repeat' split
  · rw [Core.src_reportSaturated _ h9, Core.src_reportLost _ h8]
  · rw [Core.src_reportSaturated _ h9]
  · rw [Core.src_reportLost _ h8]
  · rfl

/-- An event of a source leaves the other sources alone, but for those of the log itself (R447, R451). -/
theorem Core.src_event_ne (c : Core) {s t : Nat} (code : Nat) (w0 w1 w2 w3 : Word) (h : t ≠ s) (h8 : t ≠ 8) (h9 : t ≠ 9) :
    (c.event s code w0 w1 w2 w3).src t = c.src t := by
  unfold Core.event Core.record Core.raise
  rw [Core.src_setSrc, if_neg h, Core.src_reportLog _ _ h8 h9, Core.src_recordFlat_ne _ _ _ _ _ _ h]

/-- An event leaves its source pending, and its sequence one further (R428, R444). -/
theorem Core.src_event (c : Core) {s : Nat} (code : Nat) (w0 w1 w2 w3 : Word) (h8 : s ≠ 8) (h9 : s ≠ 9) :
    ((c.event s code w0 w1 w2 w3).src s).pending = true ∧ ((c.event s code w0 w1 w2 w3).src s).seq = (c.src s).seq + 1 := by
  refine ⟨Core.raise_pending _ _, ?_⟩
  unfold Core.event Core.record Core.raise
  rw [Core.src_setSrc_same, Core.src_reportLog _ _ h8 h9]
  exact (Core.src_recordFlat c s code w0 w1 w2 w3).1

/-- A rejected command leaves STATE_REJECT pending (R57). -/
theorem Core.src_reject (c : Core) (r : Requester) (p : Page) (n off reason : Nat) :
    ((c.reject r p n off reason).src 0).pending = true ∧ ((c.reject r p n off reason).src 0).seq = (c.src 0).seq + 1 := by
  have h := Core.src_event (s := 0) (((c.flagOnly p n 0).wr .sys 0 Off.SYS_REJECT_LAST (rejectWord reason (p.slot n) off r.id)).inc
    .sys 0 Off.SYS_REJECT_COUNT) (256 * reason) (rejectWord reason (p.slot n) off r.id) 0 0 0 (by decide) (by decide)
  rw [Core.inc, Core.wr_src, Core.wr_src, Core.flagOnly, Core.wr_src] at h
  exact h

/-! Denied accesses (R63) -/

theorem Core.sameRegs_denied (c : Core) (w : Word) :
    (c.denied w).SameRegs (((c.flagOnly .prot 0 8).wr .prot 0 Off.PROT_DENY_LAST w).inc .prot 0 Off.PROT_DENY_COUNT) :=
  Core.sameRegs_event _ _ _ _ _ _ (Core.SameRegs.refl _)

@[simp] theorem Core.rest_denied (c : Core) (w : Word) : (c.denied w).rest = c.rest := by
  rw [(Core.sameRegs_denied c w).2, Core.inc, Core.rest_wr, Core.rest_wr, Core.flagOnly, Core.rest_wr]

theorem Core.rd_denied (c : Core) (w : Word) {q : Page} {m o : Nat} (hm : m < q.count) (ho : o < 4096) (hq : q ≠ .elog)
    (h : q ≠ .prot ∨ (o ≠ Off.PAGE_STAT ∧ o ≠ Off.PROT_DENY_LAST ∧ o ≠ Off.PROT_DENY_COUNT)) : (c.denied w).rd q m o = c.rd q m o := by
  rw [(Core.sameRegs_denied c w).1 q m o hm ho hq]
  unfold Core.inc Core.flagOnly
  rw [Core.rd_wr_page _ _ _ _ _ (by decide) hm (by decide) ho (h.imp_right fun x => .inr x.2.2),
    Core.rd_wr_page _ _ _ _ _ (by decide) hm (by decide) ho (h.imp_right fun x => .inr x.2.1),
    Core.rd_wr_page _ _ _ _ _ (by decide) hm (by decide) ho (h.imp_right fun x => .inr x.1)]

theorem Core.rd_inc_wr_flagOnly (c : Core) (p : Page) (n bit a b : Nat) (w : Word) (o : Nat) (hab : b ≠ a) (hb : b ≠ Off.PAGE_STAT) :
    (((c.flagOnly p n bit).wr p n a w).inc p n b).rd p n o =
      if o = b then satWord ((c.rd p n b).toNat + 1)
      else if o = a then w
      else if o = Off.PAGE_STAT then sqSet (c.rd p n Off.PAGE_STAT) (2 ^ bit) else c.rd p n o := by
  rw [Core.rd_inc, Core.rd_wr_off, Core.rd_wr_off, Core.rd_flagOnly, Core.rd_flagOnly, if_neg hab, if_neg hb]

/-- The registers of PROT after a denial. -/
theorem Core.rd_denied_prot (c : Core) (w : Word) {o : Nat} (ho : o < 4096) :
    (c.denied w).rd .prot 0 o =
      if o = Off.PROT_DENY_COUNT then satWord ((c.rd .prot 0 Off.PROT_DENY_COUNT).toNat + 1)
      else if o = Off.PROT_DENY_LAST then w
      else if o = Off.PAGE_STAT then sqSet (c.rd .prot 0 Off.PAGE_STAT) (2 ^ 8) else c.rd .prot 0 o :=
  ((Core.sameRegs_denied c w).1 .prot 0 o (by decide) ho (by decide)).trans
    (Core.rd_inc_wr_flagOnly c .prot 0 8 _ _ w o (by decide) (by decide))


/-- A denied access leaves PROT_DENIED pending, its sequence one further (R63). -/
theorem Core.src_denied (c : Core) (w : Word) : ((c.denied w).src 1).pending = true ∧ ((c.denied w).src 1).seq = (c.src 1).seq + 1 := by
  have h := Core.src_event (s := 1) (((c.flagOnly .prot 0 8).wr .prot 0 Off.PROT_DENY_LAST w).inc .prot 0 Off.PROT_DENY_COUNT)
    (8 + 256 * 0xFF) w 0 0 0 (by decide) (by decide)
  rw [Core.inc, Core.wr_src, Core.wr_src, Core.flagOnly, Core.wr_src] at h
  exact h

theorem bitOf_eq (w : Word) (i : Nat) : bitOf w i = w.toNat.testBit i := by
  rw [Nat.testBit_eq_decide_div_mod_eq]
  unfold bitOf
  by_cases h : w.toNat / 2 ^ i % 2 = 1 <;> simp [h]

/-- The flag that a status register with sequence takes stands in it (R54). -/
theorem bitOf_sqSet (w : Word) {b : Nat} (h : b < 24) : bitOf (sqSet w (2 ^ b)) b = true := by
  have h1 : bitsOf w 0 24 < 2 ^ 24 := by unfold bitsOf; exact Nat.mod_lt _ (by decide)
  have h2 : 2 ^ b % 2 ^ 24 = 2 ^ b := Nat.mod_eq_of_lt (Nat.pow_lt_pow_right (by decide) h)
  have h3 : bitsOf w 0 24 ||| 2 ^ b < 2 ^ 24 := Nat.or_lt_two_pow h1 (Nat.pow_lt_pow_right (by decide) h)
  rw [bitOf_eq, sqSet, BitVec.toNat_ofNat, Nat.testBit_mod_two_pow, h2, Nat.mul_comm, Nat.testBit_two_pow_mul_add _ h3, if_pos h,
    Nat.testBit_or, Nat.testBit_two_pow_self]
  simp
  omega

end Sys2Proof.Machine
end

