-- ==== Sys2Proof/Laws/Memory.lean ====
section
/-! SUPPORT. The laws of byte memory: a read after a write, what a write leaves alone, and the canonical form, which every operation on
memory keeps. -/

namespace Sys2Proof.Machine

theorem readByte_writeByte (m : List Host.Cell) (a b : Nat) (v : BitVec 8) :
    readByte (writeByte m a v) b = if b = a then v else readByte m b := Tbl.get_set memDefault m a b v

/-- A write of bytes leaves every byte outside alone. -/
theorem readByte_writeBytes_outside (bs : List (BitVec 8)) (m : List Host.Cell) (a b : Nat) (h : b < a ∨ a + bs.length ≤ b) :
    readByte (writeBytes m a bs) b = readByte m b := by
  induction bs generalizing m a with
  | nil => rfl
  | cons x r ih =>
    simp only [List.length_cons] at h
    rw [writeBytes, ih _ _ (by omega), readByte_writeByte, if_neg (by omega)]

/-- A write of bytes is read back. -/
theorem readByte_writeBytes_inside (bs : List (BitVec 8)) (m : List Host.Cell) (a i : Nat) (h : i < bs.length) :
    readByte (writeBytes m a bs) (a + i) = bs[i] := by
  induction bs generalizing m a i with
  | nil => simp at h
  | cons x r ih =>
    cases i with
    | zero => rw [writeBytes, readByte_writeBytes_outside _ _ _ _ (by omega), readByte_writeByte, if_pos (by omega)]; rfl
    | succ i =>
      have := ih (writeByte m a x) (a + 1) i (by simpa using h)
      rw [writeBytes, show a + (i + 1) = a + 1 + i by omega, this]; rfl

@[simp] theorem Memory.wf_nil : Memory.wf [] = true := rfl

@[simp] theorem Memory.wf_writeByte {m : List Host.Cell} (a : Nat) (v : BitVec 8) (h : Memory.wf m = true) :
    Memory.wf (writeByte m a v) = true := Tbl.set_wf memDefault a v h

@[simp] theorem Memory.wf_writeBytes {m : List Host.Cell} (a : Nat) (bs : List (BitVec 8)) (h : Memory.wf m = true) :
    Memory.wf (writeBytes m a bs) = true := by
  induction bs generalizing m a with
  | nil => exact h
  | cons x r ih => exact ih (a + 1) (Memory.wf_writeByte a x h)

@[simp] theorem Memory.wf_moveBytes (o n : AddrMap) (m : List Host.Cell) : Memory.wf (moveBytes o n m) = true := by
  suffices h : ∀ t, Memory.wf t = true →
      Memory.wf (m.foldl (fun t e => writeByte t (n.addrOf (o.locOf e.1) + e.1 % 64) e.2) t) = true from h [] rfl
  induction m with
  | nil => exact fun _ h => h
  | cons e r ih => exact fun t h => ih _ (Memory.wf_writeByte _ _ h)

end Sys2Proof.Machine
end

