-- ==== Sys2Proof/Laws/SoundCore.lean ====
section
/-! SUPPORT. Every operation keeps DDR5 and frame memory in their canonical form: the shared operations, commits, flags, faults and clocks. -/

namespace Sys2Proof.Machine

theorem Dev.sound_mem {d : Dev} (h : d.Sound) : Memory.wf d.mem = true := h.1
theorem Dev.sound_fm {d : Dev} (h : d.Sound) : Memory.wf d.fm = true := h.2

theorem Dev.sound_mk {core_ : Core} {arms_ : Tbl (Option Arm)} {groups_ : Tbl Group} {applied_ : Tbl Nat} {counts_ : Tbl Nat} {cads_ : Tbl Cad}
    {ports_ : Tbl Port} {anchors_ : Tbl Nat} {plls_ : Tbl Pll} {ckoHeld_ : Tbl Bool} {xports_ : Tbl Xp} {encs_ : Tbl Enc} {scenes_ : Tbl Scene}
    {engs_ : Tbl Eng} {tones_ : Tbl Tone} {builds_ : Tbl (List Build)} {adps_ : Tbl Adp} {safe_ : Safe} {chks_ : Tbl Chk} {portChks_ : Tbl PortChk}
    {refs_ : Tbl Ref} {useId_ : Nat} {runSince_ : Nat} {deciding_ : Tbl (Option (List Nat))} {rowGen_ : Tbl Nat} {bufs_ : Tbl Buf} {xfer_ : Option
    Xfer} {hbm_ : Hbm} {fm_ : List Host.Cell} {fmBad_ : Tbl Bool} {mc_ : MemCtl} {mem_ : List Host.Cell} {poison_ : Tbl Bool} {stalled_ : List
    Stalled} {dropped_ : List (Requester × Nat)} {blt_ : Blt} {rope_ : Rope} {power_ : Power} {fw_ : Fw} {board_ : Board} {deferred_ : List (Nat ×
    Instr)}
    (hm : Memory.wf mem_ = true) (hf : Memory.wf fm_ = true) :
    (Dev.mk core_ arms_ groups_ applied_ counts_ cads_ ports_ anchors_ plls_ ckoHeld_ xports_ encs_ scenes_ engs_ tones_ builds_ adps_ safe_ chks_
        portChks_ refs_ useId_ runSince_ deciding_ rowGen_ bufs_ xfer_ hbm_ fm_ fmBad_ mc_ mem_ poison_ stalled_ dropped_ blt_ rope_ power_ fw_
        board_ deferred_).Sound := ⟨hm, hf⟩

theorem Dev.foldl_sound {α : Type} {f : Dev → α → Dev} {l : List α} {d : Dev} (hf : ∀ x a, x.Sound → (f x a).Sound) (h : d.Sound) :
    (l.foldl f d).Sound := by
  induction l generalizing d with
  | nil => exact h
  | cons a r ih => exact ih (hf _ _ h)

theorem Dev.foldl_fst_sound {α β : Type} {f : Dev × β → α → Dev × β} {l : List α} {y : Dev × β}
    (hf : ∀ x a, x.1.Sound → (f x a).1.Sound) (h : y.1.Sound) : (l.foldl f y).1.Sound := by
  induction l generalizing y with
  | nil => exact h
  | cons a r ih => exact ih (hf _ _ h)

theorem Dev.onCore_sound {d : Dev} (f : Core → Core) (h : d.Sound) : (d.onCore f).Sound := h
theorem Dev.onSafe_sound {d : Dev} (f : Safe → Safe) (h : d.Sound) : (d.onSafe f).Sound := h
theorem Dev.onMc_sound {d : Dev} (f : MemCtl → MemCtl) (h : d.Sound) : (d.onMc f).Sound := h
theorem Dev.onRope_sound {d : Dev} (f : Rope → Rope) (h : d.Sound) : (d.onRope f).Sound := h
theorem Dev.onPower_sound {d : Dev} (f : Power → Power) (h : d.Sound) : (d.onPower f).Sound := h
theorem Dev.onFw_sound {d : Dev} (f : Fw → Fw) (h : d.Sound) : (d.onFw f).Sound := h
theorem Dev.onBoard_sound {d : Dev} (f : Board → Board) (h : d.Sound) : (d.onBoard f).Sound := h

theorem Dev.setCad_sound {d : Dev} (s : Nat) (x : Cad) (hs : d.Sound) : (d.setCad s x).Sound :=
  Dev.sound_mk (Dev.sound_mem hs) (Dev.sound_fm hs)

theorem Dev.setPort_sound {d : Dev} (p : Nat) (x : Port) (hs : d.Sound) : (d.setPort p x).Sound :=
  Dev.sound_mk (Dev.sound_mem hs) (Dev.sound_fm hs)

theorem Dev.setPll_sound {d : Dev} (k : Nat) (x : Pll) (hs : d.Sound) : (d.setPll k x).Sound :=
  Dev.sound_mk (Dev.sound_mem hs) (Dev.sound_fm hs)

theorem Dev.setXp_sound {d : Dev} (p : Nat) (x : Xp) (hs : d.Sound) : (d.setXp p x).Sound :=
  Dev.sound_mk (Dev.sound_mem hs) (Dev.sound_fm hs)

theorem Dev.setEnc_sound {d : Dev} (e : Nat) (x : Enc) (hs : d.Sound) : (d.setEnc e x).Sound :=
  Dev.sound_mk (Dev.sound_mem hs) (Dev.sound_fm hs)

theorem Dev.setScene_sound {d : Dev} (s : Nat) (x : Scene) (hs : d.Sound) : (d.setScene s x).Sound :=
  Dev.sound_mk (Dev.sound_mem hs) (Dev.sound_fm hs)

theorem Dev.setEng_sound {d : Dev} (e : Nat) (x : Eng) (hs : d.Sound) : (d.setEng e x).Sound :=
  Dev.sound_mk (Dev.sound_mem hs) (Dev.sound_fm hs)

theorem Dev.setTone_sound {d : Dev} (t : Nat) (x : Tone) (hs : d.Sound) : (d.setTone t x).Sound :=
  Dev.sound_mk (Dev.sound_mem hs) (Dev.sound_fm hs)

theorem Dev.setBuilds_sound {d : Dev} (s : Nat) (l : List Build) (hs : d.Sound) : (d.setBuilds s l).Sound :=
  Dev.sound_mk (Dev.sound_mem hs) (Dev.sound_fm hs)

theorem Dev.setAdp_sound {d : Dev} (p : Nat) (x : Adp) (hs : d.Sound) : (d.setAdp p x).Sound :=
  Dev.sound_mk (Dev.sound_mem hs) (Dev.sound_fm hs)

theorem Dev.setChk_sound {d : Dev} (s : Nat) (x : Chk) (hs : d.Sound) : (d.setChk s x).Sound :=
  Dev.sound_mk (Dev.sound_mem hs) (Dev.sound_fm hs)

theorem Dev.setPortChk_sound {d : Dev} (p : Nat) (x : PortChk) (hs : d.Sound) : (d.setPortChk p x).Sound :=
  Dev.sound_mk (Dev.sound_mem hs) (Dev.sound_fm hs)

theorem Dev.setRef_sound {d : Dev} (e : Nat) (x : Ref) (hs : d.Sound) : (d.setRef e x).Sound :=
  Dev.sound_mk (Dev.sound_mem hs) (Dev.sound_fm hs)

theorem Dev.setBuf_sound {d : Dev} (e : Nat) (x : Buf) (hs : d.Sound) : (d.setBuf e x).Sound :=
  Dev.sound_mk (Dev.sound_mem hs) (Dev.sound_fm hs)

theorem Dev.setArm_sound {d : Dev} (p : Page) (n : Nat) (a : Option Arm) (hs : d.Sound) : (d.setArm p n a).Sound :=
  Dev.sound_mk (Dev.sound_mem hs) (Dev.sound_fm hs)

theorem Dev.setGroup_sound {d : Dev} (s : Nat) (g : Group) (hs : d.Sound) : (d.setGroup s g).Sound :=
  Dev.sound_mk (Dev.sound_mem hs) (Dev.sound_fm hs)

theorem Dev.countUp_sound {d : Dev} (p : Page) (n : Nat) (hs : d.Sound) : (d.countUp p n).Sound := by
  unfold Dev.countUp
  repeat' first | (with_reducible first | assumption) | split | dsimp only | with_reducible refine Dev.sound_mk (Dev.sound_mem ?_) (Dev.sound_fm ?_)

theorem Dev.wr_sound {d : Dev} (p : Page) (n off : Nat) (v : Word) (hs : d.Sound) : (d.wr p n off v).Sound :=
  Dev.onCore_sound _ hs

theorem Dev.setF_sound {d : Dev} (p : Page) (n off lo len v : Nat) (hs : d.Sound) : (d.setF p n off lo len v).Sound :=
  Dev.onCore_sound _ hs

theorem Dev.setB_sound {d : Dev} (p : Page) (n off i : Nat) (b : Bool) (hs : d.Sound) : (d.setB p n off i b).Sound :=
  Dev.onCore_sound _ hs

theorem Dev.wrN_sound {d : Dev} (p : Page) (n off v : Nat) (hs : d.Sound) : (d.wrN p n off v).Sound :=
  Dev.onCore_sound _ hs

theorem Dev.inc_sound {d : Dev} (p : Page) (n off : Nat) (hs : d.Sound) : (d.inc p n off).Sound :=
  Dev.onCore_sound _ hs

theorem Dev.flag_sound {d : Dev} (p : Page) (n bit : Nat) (reason : Nat) (w0 : Word) (w1 : Word) (w2 : Word) (w3 : Word) (hs : d.Sound) : (d.flag p
    n bit reason w0 w1 w2 w3).Sound :=
  Dev.onCore_sound _ hs

theorem Dev.event_sound {d : Dev} (s code : Nat) (w0 : Word) (w1 : Word) (w2 : Word) (w3 : Word) (hs : d.Sound) : (d.event s code w0 w1 w2 w3).Sound
    :=
  Dev.onCore_sound _ hs

theorem Dev.reject_sound {d : Dev} (r : Requester) (p : Page) (n off reason : Nat) (hs : d.Sound) : (d.reject r p n off reason).Sound :=
  Dev.onCore_sound _ hs

theorem Dev.answer_sound {d : Dev} (ws : List Word) (hs : d.Sound) : (d.answer ws).Sound :=
  Dev.onCore_sound _ hs

theorem Dev.advance_sound {d : Dev} (t : Nat) (hs : d.Sound) : (d.advance t).Sound :=
  Dev.onCore_sound _ hs

theorem Dev.freeStep_sound {d : Dev} (hs : d.Sound) : d.freeStep.Sound :=
  Dev.onCore_sound _ hs

theorem Dev.moveStep_sound {d : Dev} (hs : d.Sound) : d.moveStep.Sound := by
  unfold Dev.moveStep
  repeat' first | (with_reducible first | assumption | apply Dev.onPower_sound) | split | dsimp only

theorem Dev.commitStat_sound {d : Dev} (p : Page) (n : Nat) (armed late applied cancelled targeted team : Bool) (hs : d.Sound) : (d.commitStat p n
    armed late applied cancelled targeted team).Sound := by
  unfold Dev.commitStat
  repeat' first | (with_reducible first | assumption | apply Dev.setF_sound) | split | dsimp only

theorem Dev.dscLate_sound {d : Dev} (n : Nat) (hs : d.Sound) : (d.dscLate n).Sound := by
  unfold Dev.dscLate
  repeat' first | (with_reducible first | assumption | apply Dev.onCore_sound) | split | dsimp only

theorem Dev.markLate_sound {d : Dev} (p : Page) (n : Nat) (hs : d.Sound) : (d.markLate p n).Sound := by
  unfold Dev.markLate
  repeat' first | (with_reducible first | assumption | apply Dev.setB_sound | apply Dev.flag_sound | apply Dev.dscLate_sound) | split | dsimp only

theorem Dev.armPage_sound {d : Dev} (p : Page) (n : Nat) (a : Arm) (late team : Bool) (hs : d.Sound) : (d.armPage p n a late team).Sound := by
  unfold Dev.armPage
  repeat' first
    | (with_reducible first | assumption | apply Dev.setArm_sound | apply Dev.commitStat_sound | apply Dev.markLate_sound)
    | split | dsimp only

theorem Dev.disarm_sound {d : Dev} (p : Page) (n : Nat) (hs : d.Sound) : (d.disarm p n).Sound := by
  unfold Dev.disarm
  repeat' first | (with_reducible first | assumption | apply Dev.setArm_sound | apply Dev.setB_sound) | split | dsimp only

theorem Dev.armMember_sound {d : Dev} (s : Nat) (target : Option Nat) (skip : Nat) (late team : Bool) (x : Page × Nat) (hs : d.Sound) : (d.armMember
    s target skip late team x).Sound := by
  unfold Dev.armMember
  repeat' first | (with_reducible first | assumption | apply Dev.armPage_sound) | split | dsimp only

theorem Dev.groupArmOne_sound {d d1 : Dev} {s : Nat} {target : Option Nat} {team : Bool} {l : List (Page × Nat)} (h : d.Sound)
    (e : d.groupArmOne s target team = .ok (d1, l)) : d1.Sound := by
  unfold Dev.groupArmOne at e
  generalize d.groupPages s (if team then 1 else 0) = pages at e
  dsimp only at e
  split at e
  · cases e
  · split at e
    · cases e
    · cases e
      exact Dev.foldl_sound (f := fun x y => x.armMember s target _ _ team y) (fun x a hx => Dev.armMember_sound _ _ _ _ _ _ hx) h

theorem Dev.groupDisarm_sound {d : Dev} (s : Nat) (hs : d.Sound) : (d.groupDisarm s).Sound := by
  unfold Dev.groupDisarm
  repeat' first
    | (with_reducible first
          | assumption | apply Dev.setGroup_sound | apply Dev.setB_sound | apply Dev.disarm_sound | refine Dev.foldl_sound (fun _ _ _ => ?_) ?_)
    | split | dsimp only

theorem Dev.groupCancelOne_sound {d : Dev} (r : Requester) (s : Nat) (hs : d.Sound) : (d.groupCancelOne r s).Sound := by
  unfold Dev.groupCancelOne
  repeat' first | (with_reducible first | assumption | apply Dev.reject_sound | apply Dev.groupDisarm_sound) | split | dsimp only

theorem Dev.commitCancel_sound {d : Dev} (r : Requester) (p : Page) (n : Nat) (hs : d.Sound) : (d.commitCancel r p n).Sound := by
  unfold Dev.commitCancel
  repeat' first
    | (with_reducible first | assumption | apply Dev.reject_sound | apply Dev.disarm_sound | apply Dev.groupDisarm_sound)
    | split | dsimp only

theorem Dev.applyReport_sound {d : Dev} (p : Page) (n number : Nat) (hs : d.Sound) : (d.applyReport p n number).Sound := by
  unfold Dev.applyReport
  repeat' first
    | (with_reducible first | assumption | apply Dev.setArm_sound | apply Dev.setF_sound | apply Dev.setB_sound | apply Dev.flag_sound)
    | split | dsimp only | with_reducible refine Dev.sound_mk (Dev.sound_mem ?_) (Dev.sound_fm ?_)

theorem Dev.applyPage_sound {d : Dev} (p : Page) (n number : Nat) (hs : d.Sound) : (d.applyPage p n number).Sound := by
  unfold Dev.applyPage
  repeat' first | (with_reducible first | assumption | apply Dev.onCore_sound | apply Dev.applyReport_sound) | split | dsimp only

theorem Dev.writeShadow_sound {d : Dev} (r : Requester) (p : Page) (n off : Nat) (v : Word) (hs : d.Sound) : (d.writeShadow r p n off v).Sound := by
  unfold Dev.writeShadow
  repeat' first | (with_reducible first | assumption | apply Dev.wr_sound | apply Dev.reject_sound) | split | dsimp only

theorem Dev.alertSettle_sound {d : Dev} (hs : d.Sound) : d.alertSettle.Sound :=
  Dev.onBoard_sound _ hs

theorem Dev.putMode_sound {d : Dev} (m : Nat) (hs : d.Sound) : (d.putMode m).Sound := by
  unfold Dev.putMode
  repeat' first
    | (with_reducible first | assumption | apply Dev.wrN_sound | apply Dev.flag_sound | apply Dev.alertSettle_sound)
    | split | dsimp only | with_reducible refine Dev.sound_mk (Dev.sound_mem ?_) (Dev.sound_fm ?_)

theorem Dev.setMode_sound {d : Dev} (m : Nat) (hs : d.Sound) : (d.setMode m).Sound := by
  unfold Dev.setMode
  repeat' first | (with_reducible first | assumption | apply Dev.onSafe_sound | apply Dev.putMode_sound) | split | dsimp only

theorem Dev.degrade_sound {d : Dev} (bit : Nat) (hs : d.Sound) : (d.degrade bit).Sound := by
  unfold Dev.degrade
  repeat' first | (with_reducible first | assumption | apply Dev.setB_sound | apply Dev.flag_sound | apply Dev.setMode_sound) | split | dsimp only

theorem Dev.undegrade_sound {d : Dev} (bit : Nat) (hs : d.Sound) : (d.undegrade bit).Sound := by
  unfold Dev.undegrade
  repeat' first | (with_reducible first | assumption | apply Dev.setB_sound | apply Dev.setMode_sound) | split | dsimp only

theorem Dev.belayEnter_sound {d : Dev} (p : Nat) (hs : d.Sound) : (d.belayEnter p).Sound := by
  unfold Dev.belayEnter
  repeat' first | (with_reducible first | assumption | apply Dev.onSafe_sound | apply Dev.setB_sound | apply Dev.event_sound) | split | dsimp only

theorem Dev.belayPort_sound {d : Dev} (p : Nat) (hs : d.Sound) : (d.belayPort p).Sound := by
  unfold Dev.belayPort
  repeat' first | (with_reducible first | assumption | apply Dev.onSafe_sound | apply Dev.belayEnter_sound) | split | dsimp only

theorem Dev.usePattern_sound {d : Dev} (ps : List Nat) (hs : d.Sound) : (d.usePattern ps).Sound :=
  Dev.onSafe_sound _ hs

theorem Dev.abandonEntry_sound {d : Dev} (hs : d.Sound) : d.abandonEntry.Sound := by
  unfold Dev.abandonEntry
  repeat' first | (with_reducible first | assumption | apply Dev.onPower_sound | apply Dev.wrN_sound) | split | dsimp only

theorem Dev.react_sound {d : Dev} (sm scope unit : Nat) (hs : d.Sound) : (d.react sm scope unit).Sound := by
  unfold Dev.react
  repeat' first
    | (with_reducible first
          | assumption | apply Dev.onSafe_sound | apply Dev.setB_sound | apply Dev.flag_sound | apply Dev.putMode_sound | apply Dev.belayPort_sound
          | apply Dev.usePattern_sound | apply Dev.abandonEntry_sound | refine Dev.foldl_sound (fun _ _ _ => ?_) ?_)
    | split | dsimp only

theorem Dev.fault_sound {d : Dev} (sm scope unit region : Nat) (react : Bool) (test : Bool) (hs : d.Sound) : (d.fault sm scope unit region react
    test).Sound := by
  unfold Dev.fault
  repeat' first
    | (with_reducible first
          | assumption | apply Dev.onSafe_sound | apply Dev.wr_sound | apply Dev.wrN_sound | apply Dev.flag_sound | apply Dev.event_sound
          | apply Dev.react_sound)
    | split | dsimp only

theorem Dev.faultsCleared_sound {d : Dev} (hs : d.Sound) : d.faultsCleared.Sound :=
  Dev.onSafe_sound _ hs

theorem Dev.belayArrives_sound {d : Dev} (p : Nat) (hs : d.Sound) : (d.belayArrives p).Sound := by
  unfold Dev.belayArrives
  repeat' first | (with_reducible first | assumption | apply Dev.belayEnter_sound) | split | dsimp only

theorem Dev.safeReject_sound {d : Dev} (r : Requester) (off reason : Nat) (hs : d.Sound) : (d.safeReject r off reason).Sound := by
  unfold Dev.safeReject
  repeat' first | (with_reducible first | assumption | apply Dev.wrN_sound | apply Dev.reject_sound) | split | dsimp only

theorem Dev.belayClear_sound {d : Dev} (r : Requester) (ports : Nat) (hs : d.Sound) : (d.belayClear r ports).Sound := by
  unfold Dev.belayClear
  repeat' first | (with_reducible first | assumption | apply Dev.onSafe_sound | apply Dev.safeReject_sound) | split | dsimp only

theorem Dev.belayLeave_sound {d : Dev} (p : Nat) (hs : d.Sound) : (d.belayLeave p).Sound := by
  unfold Dev.belayLeave
  repeat' first | (with_reducible first | assumption | apply Dev.onSafe_sound | apply Dev.setB_sound) | split | dsimp only

theorem Dev.belayModeLeft_sound {d : Dev} (hs : d.Sound) : d.belayModeLeft.Sound := by
  unfold Dev.belayModeLeft
  repeat' first | (with_reducible first | assumption | apply Dev.onSafe_sound | apply Dev.setB_sound) | split | dsimp only

theorem Dev.pllFault_sound {d : Dev} (k : Nat) (hs : d.Sound) : (d.pllFault k).Sound := by
  unfold Dev.pllFault
  repeat' first | (with_reducible first | assumption | apply Dev.fault_sound) | split | dsimp only

theorem Dev.linkFault_sound {d : Dev} (p bit : Nat) (reason : Nat) (hs : d.Sound) : (d.linkFault p bit reason).Sound := by
  unfold Dev.linkFault
  repeat' first | (with_reducible first | assumption | apply Dev.flag_sound | apply Dev.fault_sound) | split | dsimp only

theorem Dev.setPllBit_sound {d : Dev} (k i : Nat) (b : Bool) (hs : d.Sound) : (d.setPllBit k i b).Sound := by
  unfold Dev.setPllBit
  repeat' first | (with_reducible first | assumption | apply Dev.setB_sound) | split | dsimp only

theorem Dev.setPllState_sound {d : Dev} (k v : Nat) (hs : d.Sound) : (d.setPllState k v).Sound := by
  unfold Dev.setPllState
  repeat' first | (with_reducible first | assumption | apply Dev.setF_sound) | split | dsimp only

theorem Dev.pllFlag_sound {d : Dev} (k bit : Nat) (reason : Nat) (hs : d.Sound) : (d.pllFlag k bit reason).Sound := by
  unfold Dev.pllFlag
  repeat' first | (with_reducible first | assumption | apply Dev.flag_sound) | split | dsimp only

theorem Dev.showFreq_sound {d : Dev} (p ratio div : Nat) (hs : d.Sound) : (d.showFreq p ratio div).Sound := by
  unfold Dev.showFreq
  repeat' first | (with_reducible first | assumption | apply Dev.setPll_sound | apply Dev.wrN_sound) | split | dsimp only

theorem Dev.showPair_sound {d : Dev} (p ratio : Nat) (hs : d.Sound) : (d.showPair p ratio).Sound := by
  unfold Dev.showPair
  repeat' first | (with_reducible first | assumption | apply Dev.wrN_sound | apply Dev.showFreq_sound) | split | dsimp only

theorem Dev.ckoWatch_sound {d : Dev} (c : Nat) (hs : d.Sound) : (d.ckoWatch c).Sound := by
  unfold Dev.ckoWatch
  repeat' first
    | (with_reducible first | assumption | apply Dev.flag_sound)
    | split | dsimp only | with_reducible refine Dev.sound_mk (Dev.sound_mem ?_) (Dev.sound_fm ?_)

theorem Dev.ckoAll_sound {d : Dev} (hs : d.Sound) : d.ckoAll.Sound := by
  unfold Dev.ckoAll
  repeat' first | (with_reducible first | assumption | apply Dev.ckoWatch_sound | refine Dev.foldl_sound (fun _ _ _ => ?_) ?_) | split | dsimp only

theorem Dev.pllCommandReject_sound {d : Dev} (r : Requester) (p : Page) (n off rejOff reason : Nat) (hs : d.Sound) : (d.pllCommandReject r p n off
    rejOff reason).Sound := by
  unfold Dev.pllCommandReject
  repeat' first | (with_reducible first | assumption | apply Dev.wrN_sound | apply Dev.event_sound | apply Dev.reject_sound) | split | dsimp only

theorem Dev.ckoWrite_sound {d : Dev} (r : Requester) (c : Nat) (div : Bool) (v : Word) (hs : d.Sound) : (d.ckoWrite r c div v).Sound := by
  unfold Dev.ckoWrite
  repeat' first
    | (with_reducible first | assumption | apply Dev.wr_sound | apply Dev.ckoWatch_sound | apply Dev.pllCommandReject_sound)
    | split | dsimp only

theorem Dev.pinOff_sound {d : Dev} (k : Nat) (hs : d.Sound) : (d.pinOff k).Sound := by
  unfold Dev.pinOff
  repeat' first | (with_reducible first | assumption | apply Dev.setPll_sound) | split | dsimp only

theorem Dev.takeFreq_sound {d : Dev} (k : Nat) (hs : d.Sound) : (d.takeFreq k).Sound := by
  unfold Dev.takeFreq
  repeat' first | (with_reducible first | assumption | apply Dev.setPll_sound | apply Dev.wrN_sound | apply Dev.showFreq_sound) | split | dsimp only

theorem Dev.coldLock_sound {d : Dev} (k : Nat) (hs : d.Sound) : (d.coldLock k).Sound := by
  unfold Dev.coldLock
  repeat' first
    | (with_reducible first
          | assumption | apply Dev.setPll_sound | apply Dev.setF_sound | apply Dev.setPllBit_sound | apply Dev.setPllState_sound
          | apply Dev.ckoAll_sound | apply Dev.takeFreq_sound)
    | split | dsimp only

theorem Dev.bandSearchDone_sound {d : Dev} (k : Nat) (band : Option (Fin 64)) (hs : d.Sound) : (d.bandSearchDone k band).Sound := by
  unfold Dev.bandSearchDone
  repeat' first
    | (with_reducible first | assumption | apply Dev.setF_sound | apply Dev.setPllState_sound | apply Dev.pllFlag_sound)
    | split | dsimp only

theorem Dev.internalLock_sound {d : Dev} (k : Nat) (tune : BitVec 16) (hs : d.Sound) : (d.internalLock k tune).Sound := by
  unfold Dev.internalLock
  repeat' first | (with_reducible first | assumption | apply Dev.setF_sound | apply Dev.setPllBit_sound) | split | dsimp only

theorem Dev.park_sound {d : Dev} (k : Nat) (hs : d.Sound) : (d.park k).Sound := by
  unfold Dev.park
  repeat' first
    | (with_reducible first
          | assumption | apply Dev.setPllBit_sound | apply Dev.setPllState_sound | apply Dev.ckoAll_sound | apply Dev.pinOff_sound)
    | split | dsimp only

theorem Dev.unpark_sound {d : Dev} (k : Nat) (hs : d.Sound) : (d.unpark k).Sound := by
  unfold Dev.unpark
  repeat' first | (with_reducible first | assumption | apply Dev.setPll_sound | apply Dev.setPllState_sound) | split | dsimp only

theorem Dev.warmTimeout_sound {d : Dev} (k : Nat) (hs : d.Sound) : (d.warmTimeout k).Sound := by
  unfold Dev.warmTimeout
  repeat' first | (with_reducible first | assumption | apply Dev.advance_sound | apply Dev.coldLock_sound) | split | dsimp only

theorem Dev.aligned_sound {d : Dev} (k : Nat) (hs : d.Sound) : (d.aligned k).Sound := by
  unfold Dev.aligned
  repeat' first
    | (with_reducible first | assumption | apply Dev.setPll_sound | apply Dev.setPllState_sound | apply Dev.ckoAll_sound)
    | split | dsimp only

theorem Dev.declare_sound {d : Dev} (k : Nat) (hs : d.Sound) : (d.declare k).Sound := by
  unfold Dev.declare
  repeat' first
    | (with_reducible first | assumption | apply Dev.onCore_sound | apply Dev.wrN_sound | apply Dev.setPllBit_sound)
    | split | dsimp only

theorem Dev.pinFault_sound {d : Dev} (k : Nat) (hs : d.Sound) : (d.pinFault k).Sound := by
  unfold Dev.pinFault
  repeat' first | (with_reducible first | assumption | apply Dev.pllFault_sound | apply Dev.pllFlag_sound) | split | dsimp only

theorem Dev.pinCrossing_sound {d : Dev} (k us : Nat) (hs : d.Sound) : (d.pinCrossing k us).Sound := by
  unfold Dev.pinCrossing
  repeat' first
    | (with_reducible first
          | assumption | apply Dev.wrN_sound | apply Dev.advance_sound | apply Dev.setPllBit_sound | apply Dev.declare_sound
          | apply Dev.pinFault_sound)
    | split | dsimp only

theorem Dev.pinTimeout_sound {d : Dev} (k : Nat) (hs : d.Sound) : (d.pinTimeout k).Sound := by
  unfold Dev.pinTimeout
  repeat' first
    | (with_reducible first
          | assumption | apply Dev.wrN_sound | apply Dev.advance_sound | apply Dev.setPllBit_sound | apply Dev.declare_sound
          | apply Dev.pinFault_sound)
    | split | dsimp only

theorem Dev.lockLost_sound {d : Dev} (k : Nat) (hs : d.Sound) : (d.lockLost k).Sound := by
  unfold Dev.lockLost
  repeat' first
    | (with_reducible first
          | assumption | apply Dev.pllFault_sound | apply Dev.setPllBit_sound | apply Dev.setPllState_sound | apply Dev.pllFlag_sound
          | apply Dev.ckoAll_sound | apply Dev.pinOff_sound)
    | split | dsimp only

theorem Dev.startSwitch_sound {d : Dev} (k : Nat) (hs : d.Sound) : (d.startSwitch k).Sound := by
  unfold Dev.startSwitch
  repeat' first
    | (with_reducible first
          | assumption | apply Dev.setPllBit_sound | apply Dev.setPllState_sound | apply Dev.showPair_sound | apply Dev.ckoAll_sound
          | apply Dev.pinOff_sound)
    | split | dsimp only

theorem Dev.internalLoss_sound {d : Dev} (k : Nat) (hs : d.Sound) : (d.internalLoss k).Sound := by
  unfold Dev.internalLoss
  repeat' first
    | (with_reducible first
          | assumption | apply Dev.setPll_sound | apply Dev.pllFault_sound | apply Dev.setPllBit_sound | apply Dev.pllFlag_sound
          | apply Dev.pinOff_sound | apply Dev.lockLost_sound | apply Dev.startSwitch_sound)
    | split | dsimp only

theorem Dev.fallbackLock_sound {d : Dev} (k : Nat) (hs : d.Sound) : (d.fallbackLock k).Sound := by
  unfold Dev.fallbackLock
  repeat' first
    | (with_reducible first
          | assumption | apply Dev.wrN_sound | apply Dev.inc_sound | apply Dev.setPllBit_sound | apply Dev.pllFlag_sound | apply Dev.aligned_sound)
    | split | dsimp only

theorem Dev.pllRetry_sound {d : Dev} (k : Nat) (hs : d.Sound) : (d.pllRetry k).Sound := by
  unfold Dev.pllRetry
  repeat' first | (with_reducible first | assumption | apply Dev.coldLock_sound) | split | dsimp only

theorem Dev.declarationLoss_sound {d : Dev} (k : Nat) (hs : d.Sound) : (d.declarationLoss k).Sound := by
  unfold Dev.declarationLoss
  repeat' first | (with_reducible first | assumption | apply Dev.pllFault_sound | apply Dev.setPllBit_sound) | split | dsimp only

theorem Dev.holdover_sound {d : Dev} (k : Nat) (hs : d.Sound) : (d.holdover k).Sound := by
  unfold Dev.holdover
  repeat' first
    | (with_reducible first | assumption | apply Dev.onCore_sound | apply Dev.setPll_sound | apply Dev.setPllState_sound)
    | split | dsimp only

theorem Dev.referenceLoss_sound {d : Dev} (hs : d.Sound) : d.referenceLoss.Sound := by
  unfold Dev.referenceLoss
  repeat' first
    | (with_reducible first
          | assumption | apply Dev.onCore_sound | apply Dev.setF_sound | apply Dev.setB_sound | apply Dev.fault_sound | apply Dev.holdover_sound
          | refine Dev.foldl_sound (fun _ _ _ => ?_) ?_)
    | split | dsimp only

theorem Dev.leaveHoldover_sound {d : Dev} (k : Nat) (hs : d.Sound) : (d.leaveHoldover k).Sound := by
  unfold Dev.leaveHoldover
  repeat' first | (with_reducible first | assumption | apply Dev.setPllState_sound | apply Dev.coldLock_sound) | split | dsimp only

theorem Dev.referenceReturn_sound {d : Dev} (hs : d.Sound) : d.referenceReturn.Sound := by
  unfold Dev.referenceReturn
  repeat' first
    | (with_reducible first | assumption | apply Dev.setB_sound | apply Dev.leaveHoldover_sound | refine Dev.foldl_sound (fun _ _ _ => ?_) ?_)
    | split | dsimp only

theorem Dev.steer_sound {d : Dev} (p : Nat) (hs : d.Sound) : (d.steer p).Sound := by
  unfold Dev.steer
  repeat' first
    | (with_reducible first
          | assumption | apply Dev.onCore_sound | apply Dev.wr_sound | apply Dev.freeStep_sound | apply Dev.showFreq_sound
          | apply Dev.showPair_sound | apply Dev.ckoAll_sound)
    | split | dsimp only

theorem Dev.pllCheck_sound {d : Dev} (p : Nat) (hs : d.Sound) : (d.pllCheck p).Sound := by
  unfold Dev.pllCheck
  repeat' first | (with_reducible first | assumption | apply Dev.onCore_sound | apply Dev.wrN_sound | apply Dev.flag_sound) | split | dsimp only

end Sys2Proof.Machine
end

