-- ==== Sys2Proof/Laws/SoundTiming.lean ====
section
/-! SUPPORT. Every operation keeps DDR5 and frame memory in their canonical form: DDR5 accesses, transports, timing, frame memory, tone and the adapter. -/

namespace Sys2Proof.Machine

theorem Dev.srLeave_sound {d : Dev} (hs : d.Sound) : d.srLeave.Sound := by
  unfold Dev.srLeave
  repeat' first | (with_reducible first | assumption | apply Dev.setF_sound | apply Dev.unpark_sound) | split | dsimp only

theorem Dev.memWake_sound {d : Dev} (hs : d.Sound) : d.memWake.Sound := by
  unfold Dev.memWake
  repeat' first | (with_reducible first | assumption | apply Dev.onMc_sound | apply Dev.setF_sound | apply Dev.srLeave_sound) | split | dsimp only

theorem Dev.setPoison_sound {d : Dev} (l : Nat) (b : Bool) (hs : d.Sound) : (d.setPoison l b).Sound :=
  Dev.sound_mk (Dev.sound_mem hs) (Dev.sound_fm hs)

theorem Dev.rangeError_sound {d : Dev} (r : Requester) (a : Nat) (hs : d.Sound) : (d.rangeError r a).Sound := by
  unfold Dev.rangeError
  repeat' first | (with_reducible first | assumption | apply Dev.inc_sound | apply Dev.flag_sound) | split | dsimp only

theorem Dev.landBytes_sound {d : Dev} (a : Nat) (bs : List (BitVec 8)) (bad : Bool) (hs : d.Sound) : (d.landBytes a bs bad).Sound := by
  unfold Dev.landBytes
  repeat' first
    | (with_reducible first | assumption | apply Dev.setPoison_sound | refine Dev.foldl_sound (fun _ _ _ => ?_) ?_)
    | split | dsimp only | with_reducible refine Dev.sound_mk (Dev.sound_mem ?_) (Dev.sound_fm ?_)
    | with_reducible refine Dev.sound_mk (Memory.wf_writeBytes _ _ (Dev.sound_mem ?_)) (Dev.sound_fm ?_)

theorem Dev.noteDrop_sound {d : Dev} (r : Requester) (a : Nat) (hs : d.Sound) : (d.noteDrop r a).Sound := by
  unfold Dev.noteDrop
  repeat' first | (with_reducible first | assumption) | split | dsimp only | with_reducible refine Dev.sound_mk (Dev.sound_mem ?_) (Dev.sound_fm ?_)

theorem Dev.dramRead_sound {d : Dev} (r : Requester) (a n : Nat) (hs : d.Sound) : (d.dramRead r a n).1.Sound := by
  unfold Dev.dramRead
  repeat' first
    | (with_reducible first | assumption | apply Dev.onCore_sound | apply Dev.memWake_sound | apply Dev.rangeError_sound)
    | split | dsimp only
theorem Dev.dramRead_fst {d : Dev} {r : Requester} {a n : Nat} {dx : Dev} {rx : Option (List (BitVec 8))} (hs : d.Sound) (he : d.dramRead r a n =
    (dx, rx)) : dx.Sound := by
  have := Dev.dramRead_sound r a n hs
  rwa [he] at this

theorem Dev.violation_sound {d : Dev} (r : Requester) (a e : Nat) (timeout : Bool) (hs : d.Sound) : (d.violation r a e timeout).Sound := by
  unfold Dev.violation
  repeat' first
    | (with_reducible first | assumption | apply Dev.wr_sound | apply Dev.wrN_sound | apply Dev.inc_sound | apply Dev.event_sound)
    | split | dsimp only

theorem Dev.stallReport_sound {d : Dev} (e : Nat) (hs : d.Sound) : (d.stallReport e).Sound := by
  unfold Dev.stallReport
  repeat' first
    | (with_reducible first | assumption | apply Dev.onCore_sound | apply Dev.setEng_sound | apply Dev.wr_sound | apply Dev.inc_sound)
    | split | dsimp only

theorem Dev.stallWrite_sound {d : Dev} (r : Requester) (a : Nat) (bs : List (BitVec 8)) (uses : List (Nat × Nat)) (bad : Bool) (hs : d.Sound) :
    (d.stallWrite r a bs uses bad).Sound := by
  unfold Dev.stallWrite
  repeat' first | (with_reducible first | assumption) | split | dsimp only | with_reducible refine Dev.sound_mk (Dev.sound_mem ?_) (Dev.sound_fm ?_)

theorem Dev.holdCheck_sound {d : Dev} (r : Requester) (a : Nat) (bs : List (BitVec 8)) (bad : Bool) (hs : d.Sound) : (d.holdCheck r a bs
    bad).1.Sound := by
  unfold Dev.holdCheck
  repeat' first
    | (with_reducible first
          | assumption | apply Dev.memWake_sound | apply Dev.landBytes_sound | apply Dev.noteDrop_sound | apply Dev.violation_sound
          | apply Dev.stallReport_sound | apply Dev.stallWrite_sound | refine Dev.foldl_sound (fun _ _ _ => ?_) ?_)
    | split | dsimp only
theorem Dev.holdCheck_fst {d : Dev} {r : Requester} {a : Nat} {bs : List (BitVec 8)} {bad : Bool} {dx : Dev} {rx : WriteFate} (hs : d.Sound) (he :
    d.holdCheck r a bs bad = (dx, rx)) : dx.Sound := by
  have := Dev.holdCheck_sound r a bs bad hs
  rwa [he] at this

theorem Dev.dramWrite_sound {d : Dev} (r : Requester) (a : Nat) (bs : List (BitVec 8)) (bad : Bool) (hs : d.Sound) : (d.dramWrite r a bs
    bad).1.Sound := by
  unfold Dev.dramWrite
  repeat' first
    | (with_reducible first
          | assumption | apply Dev.onCore_sound | apply Dev.rangeError_sound | apply Dev.noteDrop_sound | apply Dev.stallWrite_sound
          | apply Dev.holdCheck_sound)
    | (refine Dev.holdCheck_fst ?_ (by assumption)) | split | dsimp only
theorem Dev.dramWrite_fst {d : Dev} {r : Requester} {a : Nat} {bs : List (BitVec 8)} {bad : Bool} {dx : Dev} {rx : WriteFate} (hs : d.Sound) (he :
    d.dramWrite r a bs bad = (dx, rx)) : dx.Sound := by
  have := Dev.dramWrite_sound r a bs bad hs
  rwa [he] at this

theorem Dev.closeEpisodes_sound {d : Dev} (hs : d.Sound) : d.closeEpisodes.Sound := by
  unfold Dev.closeEpisodes
  repeat' first | (with_reducible first | assumption | apply Dev.setEng_sound | refine Dev.foldl_sound (fun _ _ _ => ?_) ?_) | split | dsimp only

theorem Dev.resumeWrite_sound {d : Dev} (hs : d.Sound) : d.resumeWrite.Sound := by
  unfold Dev.resumeWrite
  repeat' first
    | (with_reducible first | assumption | apply Dev.landBytes_sound | apply Dev.holdCheck_sound | apply Dev.closeEpisodes_sound)
    | (refine Dev.holdCheck_fst ?_ (by assumption)) | split | dsimp only | with_reducible refine Dev.sound_mk (Dev.sound_mem ?_) (Dev.sound_fm ?_)

theorem Dev.stallTimeout_sound {d : Dev} (i : Nat) (e id : Nat) (hs : d.Sound) : (d.stallTimeout i e id).Sound := by
  unfold Dev.stallTimeout
  repeat' first
    | (with_reducible first
          | assumption | apply Dev.setEng_sound | apply Dev.noteDrop_sound | apply Dev.violation_sound | apply Dev.closeEpisodes_sound)
    | split | dsimp only | with_reducible refine Dev.sound_mk (Dev.sound_mem ?_) (Dev.sound_fm ?_)

theorem Dev.discardStalled_sound {d : Dev} (k : Fin 8) (hs : d.Sound) : (d.discardStalled k).Sound := by
  unfold Dev.discardStalled
  repeat' first
    | (with_reducible first | assumption | apply Dev.closeEpisodes_sound)
    | split | dsimp only | with_reducible refine Dev.sound_mk (Dev.sound_mem ?_) (Dev.sound_fm ?_)

theorem Dev.fmWrite_sound {d : Dev} (a : Nat) (bs : List (BitVec 8)) (hs : d.Sound) : (d.fmWrite a bs).Sound := by
  unfold Dev.fmWrite
  repeat' first
    | (with_reducible first | assumption | refine Dev.foldl_sound (fun _ _ _ => ?_) ?_)
    | split | dsimp only | with_reducible refine Dev.sound_mk (Dev.sound_mem ?_) (Dev.sound_fm ?_)
    | with_reducible refine Dev.sound_mk (Dev.sound_mem ?_) (Memory.wf_writeBytes _ _ (Dev.sound_fm ?_))

theorem Dev.bufFlag_sound {d : Dev} (e bit : Nat) (hs : d.Sound) : (d.bufFlag e bit).Sound := by
  unfold Dev.bufFlag
  repeat' first | (with_reducible first | assumption | apply Dev.wr_sound) | split | dsimp only

theorem Dev.lengReject_sound {d : Dev} (e reason : Nat) (hs : d.Sound) : (d.lengReject e reason).Sound := by
  unfold Dev.lengReject
  repeat' first | (with_reducible first | assumption | apply Dev.wrN_sound | apply Dev.event_sound | apply Dev.bufFlag_sound) | split | dsimp only

theorem Dev.trackUse_sound {d : Dev} (e : Nat) (named : Bool) (reason : Option Nat) (hs : d.Sound) : (d.trackUse e named reason).Sound := by
  unfold Dev.trackUse
  repeat' first
    | (with_reducible first | assumption | apply Dev.setEng_sound)
    | split | dsimp only | with_reducible refine Dev.sound_mk (Dev.sound_mem ?_) (Dev.sound_fm ?_)

theorem Dev.readFence_sound {d : Dev} (e : Nat) (hs : d.Sound) : (d.readFence e).Sound := by
  unfold Dev.readFence
  repeat' first
    | (with_reducible first | assumption | apply Dev.setEng_sound | apply Dev.event_sound | apply Dev.dramRead_sound | apply Dev.bufFlag_sound)
    | (refine Dev.dramRead_fst ?_ (by assumption)) | split | dsimp only

theorem Dev.releaseOldest_sound {d : Dev} (e : Nat) (hs : d.Sound) : (d.releaseOldest e).Sound := by
  unfold Dev.releaseOldest
  repeat' first
    | (with_reducible first | assumption | apply Dev.setEng_sound | apply Dev.dramWrite_sound | apply Dev.bufFlag_sound)
    | (refine Dev.dramWrite_fst ?_ (by assumption)) | split | dsimp only

theorem Dev.readMeta_sound {d : Dev} (e : Nat) (hs : d.Sound) : (d.readMeta e).Sound := by
  unfold Dev.readMeta
  repeat' first
    | (with_reducible first | assumption | apply Dev.onCore_sound | apply Dev.setEng_sound | apply Dev.dramRead_sound | apply Dev.bufFlag_sound)
    | (refine Dev.dramRead_fst ?_ (by assumption)) | split | dsimp only

theorem Dev.pixelReturn_sound {d : Dev} (e a : Nat) (hs : d.Sound) : (d.pixelReturn e a).Sound := by
  unfold Dev.pixelReturn
  repeat' first
    | (with_reducible first
          | assumption | apply Dev.onCore_sound | apply Dev.setEng_sound | apply Dev.inc_sound | apply Dev.flag_sound | apply Dev.dramRead_sound)
    | (refine Dev.dramRead_fst ?_ (by assumption)) | split | dsimp only

theorem Dev.scanReject_sound {d : Dev} (p reason : Nat) (hs : d.Sound) : (d.scanReject p reason).Sound := by
  unfold Dev.scanReject
  repeat' first | (with_reducible first | assumption | apply Dev.wrN_sound | apply Dev.flag_sound) | split | dsimp only

theorem Dev.rasterRecheck_sound {d : Dev} (p : Nat) (hs : d.Sound) : (d.rasterRecheck p).Sound := by
  unfold Dev.rasterRecheck
  repeat' first | (with_reducible first | assumption | apply Dev.setPort_sound | apply Dev.scanReject_sound) | split | dsimp only

theorem Dev.dscReject_sound {d : Dev} (e reason : Nat) (hs : d.Sound) : (d.dscReject e reason).Sound := by
  unfold Dev.dscReject
  repeat' first | (with_reducible first | assumption | apply Dev.wrN_sound | apply Dev.flag_sound) | split | dsimp only

theorem Dev.buildPps_sound {d : Dev} (e : Nat) (hs : d.Sound) : (d.buildPps e).Sound := by
  unfold Dev.buildPps
  repeat' first
    | (with_reducible first | assumption | apply Dev.wr_sound | apply Dev.freeStep_sound | refine Dev.foldl_sound (fun _ _ _ => ?_) ?_)
    | split | dsimp only

theorem Dev.dscCheck_sound {d : Dev} (e : Nat) (hs : d.Sound) : (d.dscCheck e).Sound := by
  unfold Dev.dscCheck
  repeat' first
    | (with_reducible first | assumption | apply Dev.onCore_sound | apply Dev.setEnc_sound | apply Dev.dscReject_sound | apply Dev.buildPps_sound)
    | split | dsimp only

theorem Dev.dscRecheck_sound {d : Dev} (p : Nat) (hs : d.Sound) : (d.dscRecheck p).Sound := by
  unfold Dev.dscRecheck
  repeat' first | (with_reducible first | assumption | apply Dev.setEnc_sound | apply Dev.dscReject_sound) | split | dsimp only

theorem Dev.xptReject_sound {d : Dev} (p reason : Nat) (hs : d.Sound) : (d.xptReject p reason).Sound := by
  unfold Dev.xptReject
  repeat' first | (with_reducible first | assumption | apply Dev.wrN_sound | apply Dev.flag_sound) | split | dsimp only

theorem Dev.setLinkState_sound {d : Dev} (p v : Nat) (hs : d.Sound) : (d.setLinkState p v).Sound := by
  unfold Dev.setLinkState
  repeat' first | (with_reducible first | assumption | apply Dev.setF_sound) | split | dsimp only

theorem Dev.stopVideo_sound {d : Dev} (p : Nat) (hs : d.Sound) : (d.stopVideo p).Sound := by
  unfold Dev.stopVideo
  repeat' first | (with_reducible first | assumption | apply Dev.setF_sound) | split | dsimp only

theorem Dev.xptRecheck_sound {d : Dev} (p : Nat) (hs : d.Sound) : (d.xptRecheck p).Sound := by
  unfold Dev.xptRecheck
  repeat' first
    | (with_reducible first | assumption | apply Dev.setXp_sound | apply Dev.xptReject_sound | apply Dev.stopVideo_sound)
    | split | dsimp only

theorem Dev.xptCheck_sound {d : Dev} (p : Nat) (hs : d.Sound) : (d.xptCheck p).Sound := by
  unfold Dev.xptCheck
  repeat' first
    | (with_reducible first | assumption | apply Dev.onCore_sound | apply Dev.setXp_sound | apply Dev.xptReject_sound)
    | split | dsimp only

theorem Dev.portRecheck_sound {d : Dev} (p : Nat) (hs : d.Sound) : (d.portRecheck p).Sound := by
  unfold Dev.portRecheck
  repeat' first
    | (with_reducible first
          | assumption | apply Dev.rasterRecheck_sound | apply Dev.dscRecheck_sound | apply Dev.stopVideo_sound | apply Dev.xptRecheck_sound)
    | split | dsimp only

theorem Dev.relock_sound {d : Dev} (p : Nat) (hs : d.Sound) : (d.relock p).Sound := by
  unfold Dev.relock
  repeat' first
    | (with_reducible first
          | assumption | apply Dev.setF_sound | apply Dev.coldLock_sound | apply Dev.setLinkState_sound | apply Dev.stopVideo_sound
          | apply Dev.xptRecheck_sound)
    | split | dsimp only

theorem Dev.enterTraining_sound {d : Dev} (p : Nat) (hs : d.Sound) : (d.enterTraining p).Sound := by
  unfold Dev.enterTraining
  repeat' first | (with_reducible first | assumption | apply Dev.setXp_sound | apply Dev.setLinkState_sound) | split | dsimp only

theorem Dev.startLink_sound {d : Dev} (p : Nat) (wasEnabled : Bool) (hs : d.Sound) : (d.startLink p wasEnabled).Sound := by
  unfold Dev.startLink
  repeat' first
    | (with_reducible first
          | assumption | apply Dev.setPort_sound | apply Dev.setXp_sound | apply Dev.setF_sound | apply Dev.coldLock_sound | apply Dev.park_sound
          | apply Dev.enterTraining_sound)
    | split | dsimp only

theorem Dev.retrain_sound {d : Dev} (p : Nat) (hs : d.Sound) : (d.retrain p).Sound := by
  unfold Dev.retrain
  repeat' first
    | (with_reducible first
          | assumption | apply Dev.countUp_sound | apply Dev.applyPage_sound | apply Dev.linkFault_sound | apply Dev.pllCheck_sound
          | apply Dev.rasterRecheck_sound | apply Dev.stopVideo_sound | apply Dev.xptRecheck_sound | apply Dev.xptCheck_sound
          | apply Dev.startLink_sound)
    | split | dsimp only

theorem Dev.linkLost_sound {d : Dev} (p : Nat) (hs : d.Sound) : (d.linkLost p).Sound := by
  unfold Dev.linkLost
  repeat' first
    | (with_reducible first
          | assumption | apply Dev.inc_sound | apply Dev.linkFault_sound | apply Dev.setLinkState_sound | apply Dev.stopVideo_sound
          | apply Dev.retrain_sound)
    | split | dsimp only

theorem Dev.linkLossEvent_sound {d : Dev} (p : Nat) (hs : d.Sound) : (d.linkLossEvent p).Sound := by
  unfold Dev.linkLossEvent
  repeat' first | (with_reducible first | assumption | apply Dev.linkLost_sound) | split | dsimp only

theorem Dev.retrainCmd_sound {d : Dev} (r : Requester) (p : Nat) (hs : d.Sound) : (d.retrainCmd r p).Sound := by
  unfold Dev.retrainCmd
  repeat' first | (with_reducible first | assumption | apply Dev.wrN_sound | apply Dev.reject_sound | apply Dev.retrain_sound) | split | dsimp only

theorem Dev.trainFail_sound {d : Dev} (p fail : Nat) (hs : d.Sound) : (d.trainFail p fail).Sound := by
  unfold Dev.trainFail
  repeat' first
    | (with_reducible first | assumption | apply Dev.setF_sound | apply Dev.linkFault_sound | apply Dev.setLinkState_sound)
    | split | dsimp only

theorem Dev.attemptFail_sound {d : Dev} (p why sinkRate sinkLanes : Nat) (hs : d.Sound) : (d.attemptFail p why sinkRate sinkLanes).Sound := by
  unfold Dev.attemptFail
  repeat' first | (with_reducible first | assumption | apply Dev.setXp_sound | apply Dev.trainFail_sound) | split | dsimp only

theorem Dev.linkUp_sound {d : Dev} (p us sinkRate sinkLanes : Nat) (hs : d.Sound) : (d.linkUp p us sinkRate sinkLanes).Sound := by
  unfold Dev.linkUp
  repeat' first
    | (with_reducible first
          | assumption | apply Dev.wr_sound | apply Dev.setF_sound | apply Dev.setB_sound | apply Dev.wrN_sound | apply Dev.flag_sound
          | apply Dev.advance_sound | apply Dev.freeStep_sound | apply Dev.setLinkState_sound | apply Dev.trainFail_sound)
    | split | dsimp only

theorem Dev.setHpd_sound {d : Dev} (p : Nat) (b : Bool) (hs : d.Sound) : (d.setHpd p b).Sound := by
  unfold Dev.setHpd
  repeat' first | (with_reducible first | assumption | apply Dev.setF_sound) | split | dsimp only

theorem Dev.hpdQualified_sound {d : Dev} (p : Nat) (hs : d.Sound) : (d.hpdQualified p).Sound := by
  unfold Dev.hpdQualified
  repeat' first
    | (with_reducible first | assumption | apply Dev.flag_sound | apply Dev.enterTraining_sound | apply Dev.retrain_sound | apply Dev.setHpd_sound)
    | split | dsimp only

theorem Dev.hpdUnplug_sound {d : Dev} (p : Nat) (hs : d.Sound) : (d.hpdUnplug p).Sound := by
  unfold Dev.hpdUnplug
  repeat' first
    | (with_reducible first | assumption | apply Dev.flag_sound | apply Dev.setLinkState_sound | apply Dev.linkLost_sound | apply Dev.setHpd_sound)
    | split | dsimp only

theorem Dev.irqHpd_sound {d : Dev} (p : Nat) (lost : Bool) (hs : d.Sound) : (d.irqHpd p lost).Sound := by
  unfold Dev.irqHpd
  repeat' first | (with_reducible first | assumption | apply Dev.setF_sound | apply Dev.flag_sound | apply Dev.linkLost_sound) | split | dsimp only

theorem Dev.scdcPoll_sound {d : Dev} (p : Nat) (ask : Bool) (hs : d.Sound) : (d.scdcPoll p ask).Sound := by
  unfold Dev.scdcPoll
  repeat' first | (with_reducible first | assumption | apply Dev.linkLost_sound) | split | dsimp only

theorem Dev.sbGo_sound {d : Dev} (r : Requester) (p : Nat) (hs : d.Sound) : (d.sbGo r p).Sound := by
  unfold Dev.sbGo
  repeat' first | (with_reducible first | assumption | apply Dev.setF_sound | apply Dev.wrN_sound | apply Dev.reject_sound) | split | dsimp only

theorem Dev.setSbByte_sound {d : Dev} (p i : Nat) (b : BitVec 8) (hs : d.Sound) : (d.setSbByte p i b).Sound := by
  unfold Dev.setSbByte
  repeat' first | (with_reducible first | assumption | apply Dev.setF_sound) | split | dsimp only

theorem Dev.sbDone_sound {d : Dev} (p result : Nat) (bytes : List (BitVec 8)) (hs : d.Sound) : (d.sbDone p result bytes).Sound := by
  unfold Dev.sbDone
  repeat' first
    | (with_reducible first
          | assumption | apply Dev.setF_sound | apply Dev.flag_sound | apply Dev.setSbByte_sound | refine Dev.foldl_sound (fun _ _ _ => ?_) ?_)
    | split | dsimp only

theorem Dev.tcLoad_sound {d : Dev} (r : Requester) (p : Nat) (hs : d.Sound) : (d.tcLoad r p).Sound := by
  unfold Dev.tcLoad
  repeat' first | (with_reducible first | assumption | apply Dev.setXp_sound | apply Dev.wrN_sound | apply Dev.reject_sound) | split | dsimp only

theorem Dev.tcStep_sound {d : Dev} (p : Nat) (hs : d.Sound) : (d.tcStep p).Sound := by
  unfold Dev.tcStep
  repeat' first | (with_reducible first | assumption | apply Dev.setXp_sound | apply Dev.tcLoad_sound) | split | dsimp only

theorem Dev.portDeclared_sound {d : Dev} (p : Nat) (hs : d.Sound) : (d.portDeclared p).Sound := by
  unfold Dev.portDeclared
  repeat' first | (with_reducible first | assumption | apply Dev.setLinkState_sound | apply Dev.enterTraining_sound) | split | dsimp only

theorem Dev.afterDeclare_sound {d : Dev} (k : Nat) (hs : d.Sound) : (d.afterDeclare k).Sound := by
  unfold Dev.afterDeclare
  repeat' first | (with_reducible first | assumption | apply Dev.portDeclared_sound) | split | dsimp only

theorem Dev.lockCrossing_sound {d : Dev} (k us : Nat) (hs : d.Sound) : (d.lockCrossing k us).Sound := by
  unfold Dev.lockCrossing
  repeat' first | (with_reducible first | assumption | apply Dev.pinCrossing_sound | apply Dev.afterDeclare_sound) | split | dsimp only

theorem Dev.lockTimeout_sound {d : Dev} (k : Nat) (hs : d.Sound) : (d.lockTimeout k).Sound := by
  unfold Dev.lockTimeout
  repeat' first | (with_reducible first | assumption | apply Dev.pinTimeout_sound | apply Dev.afterDeclare_sound) | split | dsimp only

theorem Dev.pllLoss_sound {d : Dev} (k : Nat) (hs : d.Sound) : (d.pllLoss k).Sound := by
  unfold Dev.pllLoss
  repeat' first
    | (with_reducible first | assumption | apply Dev.setXp_sound | apply Dev.internalLoss_sound | apply Dev.stopVideo_sound)
    | split | dsimp only

theorem Dev.fallbackResume_sound {d : Dev} (k : Nat) (hs : d.Sound) : (d.fallbackResume k).Sound := by
  unfold Dev.fallbackResume
  repeat' first
    | (with_reducible first | assumption | apply Dev.setXp_sound | apply Dev.setF_sound | apply Dev.fallbackLock_sound)
    | split | dsimp only

theorem Dev.alignmentEdge_sound {d : Dev} (k : Nat) (hs : d.Sound) : (d.alignmentEdge k).Sound := by
  unfold Dev.alignmentEdge
  repeat' first | (with_reducible first | assumption | apply Dev.aligned_sound | apply Dev.afterDeclare_sound) | split | dsimp only

theorem Dev.retryMain_sound {d : Dev} (r : Requester) (p : Nat) (hs : d.Sound) : (d.retryMain r p).Sound := by
  unfold Dev.retryMain
  repeat' first | (with_reducible first | assumption | apply Dev.pllCommandReject_sound | apply Dev.relock_sound) | split | dsimp only

theorem Dev.setCadState_sound {d : Dev} (s v : Nat) (hs : d.Sound) : (d.setCadState s v).Sound := by
  unfold Dev.setCadState
  repeat' first | (with_reducible first | assumption | apply Dev.setF_sound) | split | dsimp only

theorem Dev.setCadBit_sound {d : Dev} (s i : Nat) (b : Bool) (hs : d.Sound) : (d.setCadBit s i b).Sound := by
  unfold Dev.setCadBit
  repeat' first | (with_reducible first | assumption | apply Dev.setB_sound) | split | dsimp only

theorem Dev.cadFlag_sound {d : Dev} (s k : Nat) (w0 : Word) (hs : d.Sound) : (d.cadFlag s k w0).Sound := by
  unfold Dev.cadFlag
  repeat' first | (with_reducible first | assumption | apply Dev.flag_sound) | split | dsimp only

theorem Dev.anchReject_sound {d : Dev} (r : Requester) (s off reason : Nat) (hs : d.Sound) : (d.anchReject r s off reason).Sound := by
  unfold Dev.anchReject
  repeat' first | (with_reducible first | assumption | apply Dev.wrN_sound | apply Dev.reject_sound) | split | dsimp only

theorem Dev.showPeriod_sound {d : Dev} (s : Nat) (hs : d.Sound) : (d.showPeriod s).Sound := by
  unfold Dev.showPeriod
  repeat' first | (with_reducible first | assumption | apply Dev.wrN_sound) | split | dsimp only

theorem Dev.startCadence_sound {d : Dev} (s : Nat) (hs : d.Sound) : (d.startCadence s).Sound := by
  unfold Dev.startCadence
  repeat' first | (with_reducible first | assumption | apply Dev.setCad_sound | apply Dev.showPeriod_sound) | split | dsimp only

theorem Dev.stopCadences_sound {d : Dev} (hs : d.Sound) : d.stopCadences.Sound := by
  unfold Dev.stopCadences
  repeat' first | (with_reducible first | assumption | apply Dev.setCad_sound | refine Dev.foldl_sound (fun _ _ _ => ?_) ?_) | split | dsimp only

theorem Dev.startCadences_sound {d : Dev} (hs : d.Sound) : d.startCadences.Sound := by
  unfold Dev.startCadences
  repeat' first
    | (with_reducible first | assumption | apply Dev.startCadence_sound | refine Dev.foldl_sound (fun _ _ _ => ?_) ?_)
    | split | dsimp only

theorem Dev.lengthenPorts_sound {d : Dev} (s : Nat) (x : Int) (hs : d.Sound) : (d.lengthenPorts s x).Sound := by
  unfold Dev.lengthenPorts
  repeat' first | (with_reducible first | assumption | apply Dev.setPort_sound | refine Dev.foldl_sound (fun _ _ _ => ?_) ?_) | split | dsimp only

theorem Dev.plainPeriod_sound {d : Dev} (s : Nat) (hs : d.Sound) : (d.plainPeriod s).1.Sound := by
  unfold Dev.plainPeriod
  repeat' first | (with_reducible first | assumption | apply Dev.setCad_sound | apply Dev.freeStep_sound) | split | dsimp only
theorem Dev.plainPeriod_fst {d : Dev} {s : Nat} {dx : Dev} {rx : Nat} (hs : d.Sound) (he : d.plainPeriod s = (dx, rx)) : dx.Sound := by
  have := Dev.plainPeriod_sound s hs
  rwa [he] at this

theorem Dev.withRate_sound {d : Dev} (s num den : Nat) (hs : d.Sound) : (d.withRate s num den).Sound := by
  unfold Dev.withRate
  repeat' first | (with_reducible first | assumption | apply Dev.wrN_sound) | split | dsimp only

theorem Dev.reacquire_sound {d : Dev} (s : Nat) (hs : d.Sound) : (d.reacquire s).Sound := by
  unfold Dev.reacquire
  repeat' first | (with_reducible first | assumption | apply Dev.setCad_sound | apply Dev.setCadState_sound) | split | dsimp only

theorem Dev.rateTarget_sound {d : Dev} (s : Nat) (x : RateChange) (hs : d.Sound) : (d.rateTarget s x).Sound := by
  unfold Dev.rateTarget
  repeat' first
    | (with_reducible first
          | assumption | apply Dev.setXp_sound | apply Dev.xptReject_sound | apply Dev.stopVideo_sound | apply Dev.relock_sound
          | apply Dev.withRate_sound | apply Dev.reacquire_sound | refine Dev.foldl_sound (fun _ _ _ => ?_) ?_)
    | split | dsimp only

theorem Dev.ratePorts_sound {d : Dev} (s : Nat) (step : Bool) (hs : d.Sound) : (d.ratePorts s step).Sound := by
  unfold Dev.ratePorts
  repeat' first
    | (with_reducible first | assumption | apply Dev.portRecheck_sound | apply Dev.relock_sound | refine Dev.foldl_sound (fun _ _ _ => ?_) ?_)
    | split | dsimp only

theorem Dev.rateDone_sound {d : Dev} (s : Nat) (x : RateChange) (hs : d.Sound) : (d.rateDone s x).Sound := by
  unfold Dev.rateDone
  repeat' first
    | (with_reducible first
          | assumption | apply Dev.setCad_sound | apply Dev.setCadBit_sound | apply Dev.cadFlag_sound | apply Dev.withRate_sound
          | apply Dev.ratePorts_sound)
    | split | dsimp only

theorem Dev.changeStep_sound {d : Dev} (s : Nat) (hs : d.Sound) : (d.changeStep s).1.Sound := by
  unfold Dev.changeStep
  repeat' first
    | (with_reducible first
          | assumption | apply Dev.setCad_sound | apply Dev.setF_sound | apply Dev.setCadBit_sound | apply Dev.rateTarget_sound
          | apply Dev.rateDone_sound)
    | split | dsimp only
theorem Dev.changeStep_fst {d : Dev} {s : Nat} {dx : Dev} {rx : Option Nat} (hs : d.Sound) (he : d.changeStep s = (dx, rx)) : dx.Sound := by
  have := Dev.changeStep_sound s hs
  rwa [he] at this

theorem Dev.showError_sound {d : Dev} (s : Nat) (e : Int) (hs : d.Sound) : (d.showError s e).Sound := by
  unfold Dev.showError
  repeat' first | (with_reducible first | assumption | apply Dev.wrN_sound) | split | dsimp only

theorem Dev.slewBy_sound {d : Dev} (s : Nat) (e : Int) (hs : d.Sound) : (d.slewBy s e).Sound := by
  unfold Dev.slewBy
  repeat' first | (with_reducible first | assumption | apply Dev.setCad_sound | apply Dev.setCadState_sound) | split | dsimp only

theorem Dev.snapNext_sound {d : Dev} (s : Nat) (e : Int) (hs : d.Sound) : (d.snapNext s e).Sound := by
  unfold Dev.snapNext
  repeat' first | (with_reducible first | assumption | apply Dev.setCad_sound | apply Dev.setCadState_sound) | split | dsimp only

theorem Dev.correct_sound {d : Dev} (s : Nat) (e : Int) (hs : d.Sound) : (d.correct s e).Sound := by
  unfold Dev.correct
  repeat' first
    | (with_reducible first
          | assumption | apply Dev.setCadState_sound | apply Dev.cadFlag_sound | apply Dev.slewBy_sound | apply Dev.snapNext_sound)
    | split | dsimp only

theorem Dev.refReturn_sound {d : Dev} (s t : Nat) (hs : d.Sound) : (d.refReturn s t).Sound := by
  unfold Dev.refReturn
  repeat' first
    | (with_reducible first | assumption | apply Dev.setCad_sound | apply Dev.cadFlag_sound | apply Dev.showError_sound | apply Dev.correct_sound)
    | split | dsimp only

theorem Dev.alignTicks_sound {d : Dev} (s t : Nat) (hs : d.Sound) : (d.alignTicks s t).Sound := by
  unfold Dev.alignTicks
  repeat' first | (with_reducible first | assumption | apply Dev.setCad_sound | apply Dev.showError_sound) | split | dsimp only

theorem Dev.loseRef_sound {d : Dev} (s : Nat) (hs : d.Sound) : (d.loseRef s).Sound := by
  unfold Dev.loseRef
  repeat' first
    | (with_reducible first
          | assumption | apply Dev.setCad_sound | apply Dev.freeStep_sound | apply Dev.setCadState_sound | apply Dev.setCadBit_sound
          | apply Dev.cadFlag_sound)
    | split | dsimp only

theorem Dev.strayEdge_sound {d : Dev} (s t : Nat) (hs : d.Sound) : (d.strayEdge s t).Sound := by
  unfold Dev.strayEdge
  repeat' first
    | (with_reducible first | assumption | apply Dev.setCad_sound | apply Dev.refReturn_sound | apply Dev.loseRef_sound)
    | split | dsimp only

theorem Dev.qualifiedEdge_sound {d : Dev} (s t : Nat) (hs : d.Sound) : (d.qualifiedEdge s t).Sound := by
  unfold Dev.qualifiedEdge
  repeat' first
    | (with_reducible first
          | assumption | apply Dev.setCad_sound | apply Dev.setCadState_sound | apply Dev.setCadBit_sound | apply Dev.showError_sound)
    | split | dsimp only

theorem Dev.frameEdge_sound {d : Dev} (s t : Nat) (hs : d.Sound) : (d.frameEdge s t).Sound := by
  unfold Dev.frameEdge
  repeat' first
    | (with_reducible first
          | assumption | apply Dev.setCad_sound | apply Dev.setCadBit_sound | apply Dev.refReturn_sound | apply Dev.alignTicks_sound
          | apply Dev.strayEdge_sound | apply Dev.qualifiedEdge_sound)
    | split | dsimp only

theorem Dev.countEdge_sound {d : Dev} (k : Nat) (hs : d.Sound) : (d.countEdge k).Sound := by
  unfold Dev.countEdge
  repeat' first
    | (with_reducible first | assumption | apply Dev.onCore_sound | apply Dev.wrN_sound)
    | split | dsimp only | with_reducible refine Dev.sound_mk (Dev.sound_mem ?_) (Dev.sound_fm ?_)

theorem Dev.anchorEdge_sound {d : Dev} (k : Nat) (hs : d.Sound) : (d.anchorEdge k).Sound := by
  unfold Dev.anchorEdge
  repeat' first
    | (with_reducible first | assumption | apply Dev.frameEdge_sound | apply Dev.countEdge_sound | refine Dev.foldl_sound (fun _ _ _ => ?_) ?_)
    | split | dsimp only

theorem Dev.lineEdge_sound {d : Dev} (s t : Nat) (hs : d.Sound) : (d.lineEdge s t).Sound := by
  unfold Dev.lineEdge
  repeat' first | (with_reducible first | assumption | apply Dev.setCad_sound | apply Dev.setCadBit_sound) | split | dsimp only

theorem Dev.anchorLineEdge_sound {d : Dev} (k : Nat) (hs : d.Sound) : (d.anchorLineEdge k).Sound := by
  unfold Dev.anchorLineEdge
  repeat' first
    | (with_reducible first | assumption | apply Dev.countEdge_sound | apply Dev.lineEdge_sound | refine Dev.foldl_sound (fun _ _ _ => ?_) ?_)
    | split | dsimp only

theorem Dev.refLost_sound {d : Dev} (s : Nat) (hs : d.Sound) : (d.refLost s).Sound := by
  unfold Dev.refLost
  repeat' first
    | (with_reducible first | assumption | apply Dev.setCad_sound | apply Dev.advance_sound | apply Dev.loseRef_sound)
    | split | dsimp only

theorem Dev.ackReturn_sound {d : Dev} (r : Requester) (s : Nat) (snap : Bool) (hs : d.Sound) : (d.ackReturn r s snap).Sound := by
  unfold Dev.ackReturn
  repeat' first
    | (with_reducible first
          | assumption | apply Dev.anchReject_sound | apply Dev.showError_sound | apply Dev.slewBy_sound | apply Dev.snapNext_sound)
    | split | dsimp only

theorem Dev.presetFrame_sound {d : Dev} (r : Requester) (s : Nat) (hs : d.Sound) : (d.presetFrame r s).Sound := by
  unfold Dev.presetFrame
  repeat' first | (with_reducible first | assumption | apply Dev.setCad_sound | apply Dev.anchReject_sound) | split | dsimp only

theorem Dev.applyRate_sound {d : Dev} (r : Requester) (s : Nat) (atFrame : Bool) (hs : d.Sound) : (d.applyRate r s atFrame).Sound := by
  unfold Dev.applyRate
  repeat' first
    | (with_reducible first | assumption | apply Dev.setCad_sound | apply Dev.setF_sound | apply Dev.setCadBit_sound | apply Dev.anchReject_sound)
    | split | dsimp only

theorem Dev.sourceChange_sound {d : Dev} (s : Nat) (wasRunning : Bool) (hs : d.Sound) : (d.sourceChange s wasRunning).Sound := by
  unfold Dev.sourceChange
  repeat' first
    | (with_reducible first | assumption | apply Dev.setCad_sound | apply Dev.setCadState_sound | apply Dev.setCadBit_sound)
    | split | dsimp only

theorem Dev.cadCtrlWrite_sound {d : Dev} (r : Requester) (s : Nat) (v : Word) (hs : d.Sound) : (d.cadCtrlWrite r s v).Sound := by
  unfold Dev.cadCtrlWrite
  repeat' first
    | (with_reducible first
          | assumption | apply Dev.setCad_sound | apply Dev.wr_sound | apply Dev.anchReject_sound | apply Dev.reacquire_sound
          | apply Dev.sourceChange_sound)
    | split | dsimp only

theorem Dev.tickTiming_sound {d : Dev} (s : Nat) (hs : d.Sound) : (d.tickTiming s).Sound := by
  unfold Dev.tickTiming
  repeat' first
    | (with_reducible first
          | assumption | apply Dev.setCad_sound | apply Dev.setXp_sound | apply Dev.steer_sound | apply Dev.setCadState_sound
          | apply Dev.showPeriod_sound | apply Dev.lengthenPorts_sound | apply Dev.plainPeriod_sound | apply Dev.changeStep_sound
          | apply Dev.correct_sound | refine Dev.foldl_sound (fun _ _ _ => ?_) ?_ | refine Dev.foldl_fst_sound (fun _ _ _ => ?_) ?_)
    | (refine Dev.plainPeriod_fst ?_ (by assumption)) | (refine Dev.changeStep_fst ?_ (by assumption)) | split | dsimp only

theorem Dev.showFree_sound {d : Dev} (hs : d.Sound) : d.showFree.Sound := by
  unfold Dev.showFree
  repeat' first | (with_reducible first | assumption | apply Dev.wrN_sound | refine Dev.foldl_sound (fun _ _ _ => ?_) ?_) | split | dsimp only

theorem Dev.allocStat_sound {d : Dev} (reason i : Nat) (hs : d.Sound) : (d.allocStat reason i).Sound := by
  unfold Dev.allocStat
  repeat' first | (with_reducible first | assumption | apply Dev.wrN_sound) | split | dsimp only

theorem Dev.allocInstall_sound {d : Dev} (r : Requester) (i : Nat) (hs : d.Sound) : (d.allocInstall r i).Sound := by
  unfold Dev.allocInstall
  repeat' first
    | (with_reducible first
          | assumption | apply Dev.setBuf_sound | apply Dev.wr_sound | apply Dev.reject_sound | apply Dev.showFree_sound | apply Dev.allocStat_sound)
    | split | dsimp only

theorem Dev.dropEntry_sound {d : Dev} (i : Nat) (hs : d.Sound) : (d.dropEntry i).Sound := by
  unfold Dev.dropEntry
  repeat' first
    | (with_reducible first
          | assumption | apply Dev.setBuf_sound | apply Dev.wr_sound | apply Dev.showFree_sound | refine Dev.foldl_sound (fun _ _ _ => ?_) ?_)
    | split | dsimp only

theorem Dev.allocFree_sound {d : Dev} (r : Requester) (i : Nat) (hs : d.Sound) : (d.allocFree r i).Sound := by
  unfold Dev.allocFree
  repeat' first
    | (with_reducible first | assumption | apply Dev.reject_sound | apply Dev.allocStat_sound | apply Dev.dropEntry_sound)
    | split | dsimp only

theorem Dev.hbmRound_sound {d : Dev} (ports classes : List Nat) (hs : d.Sound) : (d.hbmRound ports classes).Sound := by
  unfold Dev.hbmRound
  repeat' first
    | (with_reducible first | assumption | apply Dev.wrN_sound | refine Dev.foldl_sound (fun _ _ _ => ?_) ?_)
    | split | dsimp only | with_reducible refine Dev.sound_mk (Dev.sound_mem ?_) (Dev.sound_fm ?_)

theorem Dev.fmError_sound {d : Dev} (a reader : Nat) (hs : d.Sound) : (d.fmError a reader).Sound := by
  unfold Dev.fmError
  repeat' first | (with_reducible first | assumption | apply Dev.wrN_sound | apply Dev.inc_sound | apply Dev.flag_sound) | split | dsimp only

theorem Dev.setBad_sound {d : Dev} (e : Nat) (b : Bool) (hs : d.Sound) : (d.setBad e b).Sound := by
  unfold Dev.setBad
  repeat' first | (with_reducible first | assumption | apply Dev.setB_sound) | split | dsimp only

theorem Dev.recompose_sound {d : Dev} (s : Nat) (hs : d.Sound) : (d.recompose s).Sound := by
  unfold Dev.recompose
  repeat' first | (with_reducible first | assumption | apply Dev.setScene_sound) | split | dsimp only

theorem Dev.fmScrub_sound {d : Dev} (a : Nat) (ecc : Ecc) (hs : d.Sound) : (d.fmScrub a ecc).Sound := by
  unfold Dev.fmScrub
  repeat' first
    | (with_reducible first
          | assumption | apply Dev.setF_sound | apply Dev.inc_sound | apply Dev.flag_sound | apply Dev.fmError_sound | apply Dev.setBad_sound
          | apply Dev.recompose_sound)
    | split | dsimp only | with_reducible refine Dev.sound_mk (Dev.sound_mem ?_) (Dev.sound_fm ?_)

theorem Dev.xferBegin_sound {d : Dev} (capture : Bool) (e : Nat) (pinned : Bool) (chase : Option Nat) (hs : d.Sound) : (d.xferBegin capture e pinned
    chase).Sound := by
  unfold Dev.xferBegin
  repeat' first
    | (with_reducible first | assumption | apply Dev.wrN_sound)
    | split | dsimp only | with_reducible refine Dev.sound_mk (Dev.sound_mem ?_) (Dev.sound_fm ?_)

theorem Dev.xferReject_sound {d : Dev} (r : Requester) (e : Nat) (hs : d.Sound) : (d.xferReject r e).Sound := by
  unfold Dev.xferReject
  repeat' first | (with_reducible first | assumption | apply Dev.reject_sound) | split | dsimp only

theorem Dev.xferUpload_sound {d : Dev} (r : Requester) (e : Nat) (hs : d.Sound) : (d.xferUpload r e).Sound := by
  unfold Dev.xferUpload
  repeat' first | (with_reducible first | assumption | apply Dev.xferBegin_sound | apply Dev.xferReject_sound) | split | dsimp only

theorem Dev.xferCapture_sound {d : Dev} (r : Requester) (e : Nat) (hs : d.Sound) : (d.xferCapture r e).Sound := by
  unfold Dev.xferCapture
  repeat' first | (with_reducible first | assumption | apply Dev.xferBegin_sound | apply Dev.xferReject_sound) | split | dsimp only

theorem Dev.xferFromPort_sound {d : Dev} (r : Requester) (p : Nat) (hs : d.Sound) : (d.xferFromPort r p).Sound := by
  unfold Dev.xferFromPort
  repeat' first | (with_reducible first | assumption | apply Dev.xferBegin_sound | apply Dev.xferReject_sound) | split | dsimp only

theorem Dev.uploadRow_sound (x : Xfer) (y : Dev × List (BitVec 8) × Bool) (i : Nat) (h : y.1.Sound) : (Dev.uploadRow x y i).1.Sound := by
  unfold Dev.uploadRow
  split
  · exact h
  · split
    · exact Dev.dramRead_fst h (by assumption)
    · exact Dev.fmWrite_sound _ _ (Dev.dramRead_fst h (by assumption))

theorem Dev.captureRows_sound {d : Dev} (x : Xfer) (l : List Nat) (acc : List (BitVec 8)) (bad : Bool) (h : d.Sound) :
    (d.captureRows x l acc bad).1.Sound := by
  induction l generalizing d acc bad with
  | nil => exact h
  | cons i r ih =>
    refine ih _ _ ?_
    have h1 := Dev.dramWrite_sound (.cpu 0) (x.dram + i * x.stride) (readBytes d.fm (d.xferRow x i) x.rowBytes) false h
    have h2 : ∀ (l : List Nat) (y : Dev), y.Sound → (l.foldl (fun y k =>
        if y.fmUncorrectable (d.xferRow x i + k) 1 then y.setPoison ((x.dram + i * x.stride + k) / 64) true else y) y).Sound := by
      intro l y hy
      refine Dev.foldl_sound (fun z a hz => ?_) hy
      split
      · exact Dev.setPoison_sound _ _ hz
      · exact hz
    split
    · exact Dev.fmError_sound _ _ (h2 _ _ h1)
    · exact h2 _ _ h1

theorem Dev.xferDone_sound {d : Dev} (h : d.Sound) : d.xferDone.Sound := by
  have hr : ∀ x : Xfer, (if x.capture then d.captureRows x (List.range x.count) [] false
      else (List.range x.count).foldl (Dev.uploadRow x) (d, [], false)).1.Sound := by
    intro x
    split
    · exact Dev.captureRows_sound _ _ _ _ h
    · exact Dev.foldl_fst_sound (Dev.uploadRow_sound x) h
  unfold Dev.xferDone
  split
  · exact h
  · rename_i x _
    have h1 := hr x
    generalize (if x.capture then d.captureRows x (List.range x.count) [] false
      else (List.range x.count).foldl (Dev.uploadRow x) (d, [], false)) = y at h1 ⊢
    repeat' first
      | (with_reducible first | assumption | apply Dev.wr_sound | apply Dev.wrN_sound | apply Dev.flag_sound | apply Dev.setBad_sound)
      | split | dsimp only | with_reducible refine Dev.sound_mk (Dev.sound_mem ?_) (Dev.sound_fm ?_)

theorem Dev.schkReject_sound {d : Dev} (s r reason : Nat) (hs : d.Sound) : (d.schkReject s r reason).Sound := by
  unfold Dev.schkReject
  repeat' first | (with_reducible first | assumption | apply Dev.wrN_sound | apply Dev.flag_sound) | split | dsimp only

theorem Dev.beatRestart_sound {d : Dev} (s r : Nat) (hs : d.Sound) : (d.beatRestart s r).Sound := by
  unfold Dev.beatRestart
  repeat' first | (with_reducible first | assumption | apply Dev.setChk_sound) | split | dsimp only

theorem Dev.regionDead_sound {d : Dev} (s r : Nat) (b : Bool) (hs : d.Sound) : (d.regionDead s r b).Sound := by
  unfold Dev.regionDead
  repeat' first | (with_reducible first | assumption | apply Dev.setChk_sound) | split | dsimp only

theorem Dev.schkRegion_sound {d : Dev} (s r : Nat) (hs : d.Sound) : (d.schkRegion s r).Sound := by
  unfold Dev.schkRegion
  repeat' first
    | (with_reducible first
          | assumption | apply Dev.onCore_sound | apply Dev.schkReject_sound | apply Dev.beatRestart_sound | apply Dev.regionDead_sound)
    | split | dsimp only

theorem Dev.schkApplied_sound {d : Dev} (s : Nat) (hs : d.Sound) : (d.schkApplied s).Sound := by
  unfold Dev.schkApplied
  repeat' first
    | (with_reducible first | assumption | apply Dev.schkRegion_sound | refine Dev.foldl_sound (fun _ _ _ => ?_) ?_)
    | split | dsimp only

theorem Dev.schkRecheck_sound {d : Dev} (s : Nat) (hs : d.Sound) : (d.schkRecheck s).Sound := by
  unfold Dev.schkRecheck
  repeat' first
    | (with_reducible first | assumption | apply Dev.schkReject_sound | apply Dev.regionDead_sound | refine Dev.foldl_sound (fun _ _ _ => ?_) ?_)
    | split | dsimp only

theorem Dev.blyApplied_sound {d : Dev} (p : Nat) (hs : d.Sound) : (d.blyApplied p).Sound := by
  unfold Dev.blyApplied
  repeat' first | (with_reducible first | assumption | apply Dev.onCore_sound | apply Dev.wrN_sound | apply Dev.flag_sound) | split | dsimp only

theorem Dev.safeApplied_sound {d : Dev} (s : Nat) (hs : d.Sound) : (d.safeApplied s).Sound := by
  unfold Dev.safeApplied
  repeat' first
    | (with_reducible first
          | assumption | apply Dev.onCore_sound | apply Dev.setChk_sound | apply Dev.setPortChk_sound | apply Dev.wr_sound
          | apply Dev.beatRestart_sound | apply Dev.schkRecheck_sound | refine Dev.foldl_sound (fun _ _ _ => ?_) ?_)
    | split | dsimp only

theorem Dev.portionApply_sound {d : Dev} (p : Page) (x : Portion) (hs : d.Sound) : (d.portionApply p x).Sound := by
  unfold Dev.portionApply
  repeat' first
    | (with_reducible first | assumption | apply Dev.onCore_sound | apply Dev.blyApplied_sound | apply Dev.safeApplied_sound)
    | split | dsimp only

theorem Dev.applyScene_sound {d : Dev} (p : Page) (s : Nat) (hs : d.Sound) : (d.applyScene p s).Sound := by
  unfold Dev.applyScene
  repeat' first | (with_reducible first | assumption | apply Dev.setF_sound) | split | dsimp only

theorem Dev.portionsOfAt_sound {d : Dev} (p : Page) (s : Nat) (hs : d.Sound) : (d.portionsOfAt p s).Sound := by
  unfold Dev.portionsOfAt
  repeat' first
    | (with_reducible first
          | assumption | apply Dev.setArm_sound | apply Dev.applyReport_sound | apply Dev.portionApply_sound | apply Dev.applyScene_sound
          | refine Dev.foldl_sound (fun _ _ _ => ?_) ?_)
    | split | dsimp only

theorem Dev.portionsAt_sound {d : Dev} (s : Nat) (hs : d.Sound) : (d.portionsAt s).Sound := by
  unfold Dev.portionsAt
  repeat' first | (with_reducible first | assumption | apply Dev.portionsOfAt_sound) | split | dsimp only

theorem Dev.portionsMissed_sound {d : Dev} (s : Nat) (hs : d.Sound) : (d.portionsMissed s).Sound := by
  unfold Dev.portionsMissed
  repeat' first | (with_reducible first | assumption | apply Dev.setArm_sound | refine Dev.foldl_sound (fun _ _ _ => ?_) ?_) | split | dsimp only

theorem Dev.portionsNow_sound {d : Dev} (p : Page) (hs : d.Sound) : (d.portionsNow p).Sound := by
  unfold Dev.portionsNow
  repeat' first
    | (with_reducible first
          | assumption | apply Dev.applyReport_sound | apply Dev.portionApply_sound | apply Dev.applyScene_sound
          | refine Dev.foldl_sound (fun _ _ _ => ?_) ?_)
    | split | dsimp only

theorem Dev.showBuilding_sound {d : Dev} (s : Nat) (hs : d.Sound) : (d.showBuilding s).Sound := by
  unfold Dev.showBuilding
  repeat' first | (with_reducible first | assumption | apply Dev.setB_sound) | split | dsimp only

theorem Dev.abandonBuilds_sound {d : Dev} (t : Nat) (dynOnly : Bool) (hs : d.Sound) : (d.abandonBuilds t dynOnly).Sound := by
  unfold Dev.abandonBuilds
  repeat' first
    | (with_reducible first
          | assumption | apply Dev.setTone_sound | apply Dev.setBuilds_sound | apply Dev.showBuilding_sound
          | refine Dev.foldl_sound (fun _ _ _ => ?_) ?_)
    | split | dsimp only

theorem Dev.queueBuild_sound {d : Dev} (s : Nat) (b : Build) (hs : d.Sound) : (d.queueBuild s b).Sound := by
  unfold Dev.queueBuild
  repeat' first | (with_reducible first | assumption | apply Dev.setBuilds_sound | apply Dev.showBuilding_sound) | split | dsimp only

theorem Dev.toneArm_sound {d : Dev} (s t : Nat) (key : ToneKey) (hs : d.Sound) : (d.toneArm s t key).Sound := by
  unfold Dev.toneArm
  repeat' first
    | (with_reducible first | assumption | apply Dev.setTone_sound | apply Dev.abandonBuilds_sound | apply Dev.queueBuild_sound)
    | split | dsimp only

theorem Dev.toneForget_sound {d : Dev} (t : Nat) (hs : d.Sound) : (d.toneForget t).Sound := by
  unfold Dev.toneForget
  repeat' first | (with_reducible first | assumption | apply Dev.setTone_sound | apply Dev.abandonBuilds_sound) | split | dsimp only

theorem Dev.toneSwap_sound {d : Dev} (t : Nat) (l : Lut) (hs : d.Sound) : (d.toneSwap t l).Sound := by
  unfold Dev.toneSwap
  repeat' first
    | (with_reducible first | assumption | apply Dev.setTone_sound | apply Dev.setF_sound | apply Dev.showBuilding_sound)
    | split | dsimp only

theorem Dev.buildReady_sound {d : Dev} (s : Nat) (b : Build) (l : Lut) (hs : d.Sound) : (d.buildReady s b l).Sound := by
  unfold Dev.buildReady
  repeat' first
    | (with_reducible first | assumption | apply Dev.setTone_sound | apply Dev.showBuilding_sound | apply Dev.toneSwap_sound)
    | split | dsimp only

theorem Dev.tableFailed_sound {d : Dev} (s : Nat) (b : Build) (hs : d.Sound) : (d.tableFailed s b).Sound := by
  unfold Dev.tableFailed
  repeat' first | (with_reducible first | assumption | apply Dev.wrN_sound | apply Dev.flag_sound | apply Dev.toneForget_sound) | split | dsimp only

theorem Dev.toneBuildDone_sound {d : Dev} (s ns : Nat) (hs : d.Sound) : (d.toneBuildDone s ns).Sound := by
  unfold Dev.toneBuildDone
  repeat' first
    | (with_reducible first
          | assumption | apply Dev.setBuilds_sound | apply Dev.wrN_sound | apply Dev.dramRead_sound | apply Dev.buildReady_sound
          | apply Dev.tableFailed_sound)
    | (refine Dev.dramRead_fst ?_ (by assumption)) | split | dsimp only

theorem Dev.toneStep_sound {d : Dev} (t : Nat) (hs : d.Sound) : (d.toneStep t).1.Sound := by
  unfold Dev.toneStep
  repeat' first
    | (with_reducible first
          | assumption | apply Dev.setTone_sound | apply Dev.setF_sound | apply Dev.showBuilding_sound | apply Dev.abandonBuilds_sound
          | apply Dev.toneSwap_sound)
    | split | dsimp only
theorem Dev.toneStep_fst {d : Dev} {t : Nat} {dx : Dev} {rx : Bool × Bool} (hs : d.Sound) (he : d.toneStep t = (dx, rx)) : dx.Sound := by
  have := Dev.toneStep_sound t hs
  rwa [he] at this

theorem Dev.dynSource_sound {d : Dev} (s : Nat) (hs : d.Sound) : (d.dynSource s).Sound := by
  unfold Dev.dynSource
  repeat' first | (with_reducible first | assumption | apply Dev.onCore_sound | apply Dev.setTone_sound) | split | dsimp only

theorem Dev.toneBoundary_sound {d : Dev} (s : Nat) (hs : d.Sound) : (d.toneBoundary s).1.Sound := by
  unfold Dev.toneBoundary
  repeat' first
    | (with_reducible first
          | assumption | apply Dev.wrN_sound | apply Dev.flag_sound | apply Dev.toneStep_sound | apply Dev.dynSource_sound
          | refine Dev.foldl_sound (fun _ _ _ => ?_) ?_ | refine Dev.foldl_fst_sound (fun _ _ _ => ?_) ?_)
    | (refine Dev.toneStep_fst ?_ (by assumption)) | split | dsimp only
theorem Dev.toneBoundary_fst {d : Dev} {s : Nat} {dx : Dev} {rx : Bool} (hs : d.Sound) (he : d.toneBoundary s = (dx, rx)) : dx.Sound := by
  have := Dev.toneBoundary_sound s hs
  rwa [he] at this

theorem Dev.dynTarget_sound {d : Dev} (s cd : Nat) (hs : d.Sound) : (d.dynTarget s cd).Sound := by
  unfold Dev.dynTarget
  repeat' first
    | (with_reducible first | assumption | apply Dev.setTone_sound | apply Dev.abandonBuilds_sound | apply Dev.queueBuild_sound)
    | split | dsimp only

theorem Dev.metaTone_sound {d : Dev} (e : Nat) (valid : Bool) (hs : d.Sound) : (d.metaTone e valid).Sound := by
  unfold Dev.metaTone
  repeat' first
    | (with_reducible first | assumption | apply Dev.abandonBuilds_sound | apply Dev.queueBuild_sound | apply Dev.dynTarget_sound)
    | split | dsimp only

theorem Dev.metaDone_sound {d : Dev} (e : Nat) (hs : d.Sound) : (d.metaDone e).Sound := by
  unfold Dev.metaDone
  repeat' first | (with_reducible first | assumption | apply Dev.metaTone_sound | apply Dev.readMeta_sound) | split | dsimp only

theorem Dev.toneCheck_sound {d : Dev} (s : Nat) (hs : d.Sound) : (d.toneCheck s).Sound := by
  unfold Dev.toneCheck
  repeat' first
    | (with_reducible first | assumption | apply Dev.onCore_sound | apply Dev.wrN_sound | apply Dev.flag_sound | apply Dev.toneForget_sound)
    | split | dsimp only

theorem Dev.toneApplied_sound {d : Dev} (s t : Nat) (hs : d.Sound) : (d.toneApplied s t).Sound := by
  unfold Dev.toneApplied
  repeat' first | (with_reducible first | assumption | apply Dev.setTone_sound | apply Dev.toneSwap_sound) | split | dsimp only

theorem Dev.showStaging_sound {d : Dev} (p : Nat) (hs : d.Sound) : (d.showStaging p).Sound := by
  unfold Dev.showStaging
  repeat' first | (with_reducible first | assumption | apply Dev.setB_sound) | split | dsimp only

theorem Dev.adaptReject_sound {d : Dev} (p reason : Nat) (hs : d.Sound) : (d.adaptReject p reason).Sound := by
  unfold Dev.adaptReject
  repeat' first | (with_reducible first | assumption | apply Dev.wrN_sound | apply Dev.flag_sound) | split | dsimp only

theorem Dev.startStaging_sound {d : Dev} (p : Nat) (hs : d.Sound) : (d.startStaging p).Sound := by
  unfold Dev.startStaging
  repeat' first | (with_reducible first | assumption | apply Dev.setAdp_sound | apply Dev.showStaging_sound) | split | dsimp only

theorem Dev.prestage_sound {d : Dev} (p : Nat) (hs : d.Sound) : (d.prestage p).Sound := by
  unfold Dev.prestage
  repeat' first | (with_reducible first | assumption | apply Dev.startStaging_sound) | split | dsimp only

theorem Dev.lutSwap_sound {d : Dev} (p : Nat) (hs : d.Sound) : (d.lutSwap p).Sound := by
  unfold Dev.lutSwap
  repeat' first
    | (with_reducible first
          | assumption | apply Dev.setAdp_sound | apply Dev.setF_sound | apply Dev.flag_sound | apply Dev.showStaging_sound
          | apply Dev.adaptReject_sound)
    | split | dsimp only

theorem Dev.padpApplied_sound {d : Dev} (p : Nat) (hs : d.Sound) : (d.padpApplied p).Sound := by
  unfold Dev.padpApplied
  repeat' first
    | (with_reducible first | assumption | apply Dev.onCore_sound | apply Dev.setAdp_sound | apply Dev.adaptReject_sound | apply Dev.lutSwap_sound)
    | split | dsimp only

theorem Dev.stagingError_sound {d : Dev} (p reason : Nat) (hs : d.Sound) : (d.stagingError p reason).Sound := by
  unfold Dev.stagingError
  repeat' first
    | (with_reducible first | assumption | apply Dev.setAdp_sound | apply Dev.showStaging_sound | apply Dev.adaptReject_sound)
    | split | dsimp only

theorem Dev.stagingDone_sound {d : Dev} (p : Nat) (hs : d.Sound) : (d.stagingDone p).Sound := by
  unfold Dev.stagingDone
  repeat' first
    | (with_reducible first
          | assumption | apply Dev.setAdp_sound | apply Dev.wr_sound | apply Dev.dramRead_sound | apply Dev.showStaging_sound
          | apply Dev.lutSwap_sound | apply Dev.stagingError_sound)
    | (refine Dev.dramRead_fst ?_ (by assumption)) | split | dsimp only

theorem Dev.reloadDone_sound {d : Dev} (p : Nat) (ecc : Ecc) (addr : Nat) (hs : d.Sound) : (d.reloadDone p ecc addr).Sound := by
  unfold Dev.reloadDone
  repeat' first
    | (with_reducible first
          | assumption | apply Dev.setAdp_sound | apply Dev.wr_sound | apply Dev.setF_sound | apply Dev.setB_sound | apply Dev.inc_sound
          | apply Dev.flag_sound | apply Dev.fault_sound | apply Dev.fmError_sound | apply Dev.adaptReject_sound)
    | split | dsimp only

end Sys2Proof.Machine
end

