-- ==== Sys2Proof/Laws/SoundScene.lean ====
section
/-! SUPPORT. Every operation keeps DDR5 and frame memory in their canonical form: composition and scanout. -/

namespace Sys2Proof.Machine

theorem Dev.scnReject_sound {d : Dev} (s : Nat) (stim : Bool) (reason index : Nat) (hs : d.Sound) : (d.scnReject s stim reason index).Sound := by
  unfold Dev.scnReject
  repeat' first | (with_reducible first | assumption | apply Dev.wrN_sound | apply Dev.flag_sound) | split | dsimp only

theorem Dev.scnCheck_sound {d : Dev} (s : Nat) (hs : d.Sound) : (d.scnCheck s).Sound := by
  unfold Dev.scnCheck
  repeat' first
    | (with_reducible first | assumption | apply Dev.onCore_sound | apply Dev.setScene_sound | apply Dev.scnReject_sound)
    | split | dsimp only

theorem Dev.stimCheck_sound {d : Dev} (s : Nat) (hs : d.Sound) : (d.stimCheck s).Sound := by
  unfold Dev.stimCheck
  repeat' first | (with_reducible first | assumption | apply Dev.onCore_sound | apply Dev.scnReject_sound) | split | dsimp only

theorem Dev.countDown_sound {d : Dev} (s : Nat) (hs : d.Sound) : (d.countDown s).Sound := by
  unfold Dev.countDown
  repeat' first | (with_reducible first | assumption | apply Dev.setArm_sound | refine Dev.foldl_sound (fun _ _ _ => ?_) ?_) | split | dsimp only

theorem Dev.applyLeng_sound {d : Dev} (e n : Nat) (hs : d.Sound) : (d.applyLeng e n).Sound := by
  unfold Dev.applyLeng
  repeat' first | (with_reducible first | assumption | apply Dev.onCore_sound | apply Dev.applyPage_sound) | split | dsimp only

theorem Dev.applyFramePage_sound {d : Dev} (n : Nat) (x : Page × Nat) (hs : d.Sound) : (d.applyFramePage n x).Sound := by
  unfold Dev.applyFramePage
  repeat' first
    | (with_reducible first
          | assumption | apply Dev.applyPage_sound | apply Dev.schkApplied_sound | apply Dev.toneCheck_sound | apply Dev.toneApplied_sound
          | apply Dev.scnCheck_sound | apply Dev.stimCheck_sound | apply Dev.applyLeng_sound)
    | split | dsimp only

theorem Dev.showMembers_sound {d : Dev} (s : Nat) (hs : d.Sound) : (d.showMembers s).Sound := by
  unfold Dev.showMembers
  repeat' first
    | (with_reducible first
          | assumption | apply Dev.setScene_sound | apply Dev.wrN_sound | apply Dev.flag_sound | refine Dev.foldl_sound (fun _ _ _ => ?_) ?_)
    | split | dsimp only

theorem Dev.leaveScene_sound {d : Dev} (e : Nat) (hs : d.Sound) : (d.leaveScene e).Sound := by
  unfold Dev.leaveScene
  repeat' first | (with_reducible first | assumption | apply Dev.setEng_sound) | split | dsimp only

theorem Dev.joinAll_sound {d : Dev} (s : Nat) (l : List Nat) (hs : d.Sound) : (d.joinAll s l).Sound := by
  unfold Dev.joinAll
  repeat' first | (with_reducible first | assumption | apply Dev.setEng_sound | refine Dev.foldl_sound (fun _ _ _ => ?_) ?_) | split | dsimp only

theorem Dev.lateJoins_sound {d : Dev} (s : Nat) (hs : d.Sound) : (d.lateJoins s).Sound := by
  unfold Dev.lateJoins
  repeat' first
    | (with_reducible first
          | assumption | apply Dev.setScene_sound | apply Dev.showMembers_sound | apply Dev.joinAll_sound
          | refine Dev.foldl_sound (fun _ _ _ => ?_) ?_)
    | split | dsimp only

theorem Dev.showEng_sound {d : Dev} (e : Nat) (hs : d.Sound) : (d.showEng e).Sound := by
  unfold Dev.showEng
  repeat' first | (with_reducible first | assumption | apply Dev.setF_sound) | split | dsimp only

theorem Dev.formGangs_sound {d : Dev} (s : Nat) (hs : d.Sound) : (d.formGangs s).Sound := by
  unfold Dev.formGangs
  repeat' first
    | (with_reducible first
          | assumption | apply Dev.onCore_sound | apply Dev.setEng_sound | apply Dev.showEng_sound | refine Dev.foldl_sound (fun _ _ _ => ?_) ?_)
    | split | dsimp only

theorem Dev.checkEngine_sound {d : Dev} (s e : Nat) (committed : Bool) (hs : d.Sound) : (d.checkEngine s e committed).Sound := by
  unfold Dev.checkEngine
  repeat' first
    | (with_reducible first | assumption | apply Dev.setEng_sound | apply Dev.lengReject_sound | apply Dev.trackUse_sound)
    | split | dsimp only

theorem Dev.sceneApply_sound {d : Dev} (s n : Nat) (pages : List (Page × Nat)) (hs : d.Sound) : (d.sceneApply s n pages).Sound := by
  unfold Dev.sceneApply
  repeat' first
    | (with_reducible first
          | assumption | apply Dev.setScene_sound | apply Dev.schkRecheck_sound | apply Dev.applyFramePage_sound | apply Dev.showMembers_sound
          | apply Dev.leaveScene_sound | apply Dev.joinAll_sound | apply Dev.lateJoins_sound | apply Dev.formGangs_sound
          | apply Dev.checkEngine_sound | refine Dev.foldl_sound (fun _ _ _ => ?_) ?_)
    | split | dsimp only

theorem Dev.scanApplied_sound {d : Dev} (p : Nat) (hs : d.Sound) : (d.scanApplied p).Sound := by
  unfold Dev.scanApplied
  repeat' first
    | (with_reducible first
          | assumption | apply Dev.onCore_sound | apply Dev.setPort_sound | apply Dev.scanReject_sound | apply Dev.rasterRecheck_sound
          | apply Dev.dscRecheck_sound | apply Dev.relock_sound)
    | split | dsimp only

theorem Dev.applyIdle_sound {d : Dev} (p : Page) (n : Nat) (hs : d.Sound) : (d.applyIdle p n).Sound := by
  unfold Dev.applyIdle
  repeat' first
    | (with_reducible first
          | assumption | apply Dev.applyPage_sound | apply Dev.dscCheck_sound | apply Dev.toneApplied_sound | apply Dev.padpApplied_sound
          | apply Dev.applyLeng_sound | apply Dev.applyFramePage_sound | apply Dev.sceneApply_sound | apply Dev.scanApplied_sound)
    | split | dsimp only

theorem Dev.blendRow_sound {d : Dev} (s : Nat) (c : Comp) (y : Nat) (hs : d.Sound) : (d.blendRow s c y).Sound := by
  unfold Dev.blendRow
  repeat' first
    | (with_reducible first
          | assumption | apply Dev.setScene_sound | apply Dev.inc_sound | apply Dev.fault_sound | apply Dev.fmWrite_sound | apply Dev.fmError_sound
          | refine Dev.foldl_sound (fun _ _ _ => ?_) ?_)
    | split | dsimp only

theorem Dev.blendRows_sound {d : Dev} (s y n : Nat) (h : d.Sound) : (d.blendRows s y n).Sound := by
  induction n generalizing d y with
  | zero => exact h
  | succ n ih =>
    unfold Dev.blendRows
    split
    · exact h
    · exact ih _ (Dev.blendRow_sound _ _ _ h)

theorem Dev.fallbackStep_sound {d : Dev} (s : Nat) (hs : d.Sound) : (d.fallbackStep s).Sound := by
  unfold Dev.fallbackStep
  repeat' first | (with_reducible first | assumption | apply Dev.setChk_sound | apply Dev.flag_sound) | split | dsimp only

theorem Dev.fenceBeat_sound {d : Dev} (s frame r : Nat) (hs : d.Sound) : (d.fenceBeat s frame r).Sound := by
  unfold Dev.fenceBeat
  repeat' first | (with_reducible first | assumption | apply Dev.setChk_sound) | split | dsimp only

theorem Dev.counterBeat_sound {d : Dev} (s frame r : Nat) (blocks : List BlockRef) (hs : d.Sound) : (d.counterBeat s frame r blocks).Sound := by
  unfold Dev.counterBeat
  repeat' first | (with_reducible first | assumption | apply Dev.setChk_sound) | split | dsimp only

theorem Dev.markComposed_sound {d : Dev} (s : Nat) (hs : d.Sound) : (d.markComposed s).Sound := by
  unfold Dev.markComposed
  repeat' first | (with_reducible first | assumption | apply Dev.setEng_sound | refine Dev.foldl_sound (fun _ _ _ => ?_) ?_) | split | dsimp only

theorem Dev.refBegin_sound {d : Dev} (s frame entry : Nat) (hs : d.Sound) : (d.refBegin s frame entry).Sound := by
  unfold Dev.refBegin
  repeat' first
    | (with_reducible first
          | assumption | apply Dev.setChk_sound | apply Dev.setRef_sound | apply Dev.fenceBeat_sound | apply Dev.markComposed_sound
          | refine Dev.foldl_sound (fun _ _ _ => ?_) ?_)
    | split | dsimp only

theorem Dev.checkDone_sound {d : Dev} (s pace : Nat) (hs : d.Sound) : (d.checkDone s pace).Sound := by
  unfold Dev.checkDone
  repeat' first
    | (with_reducible first
          | assumption | apply Dev.setChk_sound | apply Dev.setRef_sound | apply Dev.wr_sound | apply Dev.wrN_sound | apply Dev.counterBeat_sound
          | refine Dev.foldl_sound (fun _ _ _ => ?_) ?_)
    | split | dsimp only

theorem Dev.countUncovered_sound {d : Dev} (s : Nat) (hs : d.Sound) : (d.countUncovered s).Sound := by
  unfold Dev.countUncovered
  repeat' first | (with_reducible first | assumption | apply Dev.wrN_sound) | split | dsimp only

theorem Dev.goldenCheck_sound {d : Dev} (s : Nat) (golden : Bool) (hs : d.Sound) : (d.goldenCheck s golden).Sound := by
  unfold Dev.goldenCheck
  repeat' first
    | (with_reducible first | assumption | apply Dev.onSafe_sound | apply Dev.setB_sound | apply Dev.flag_sound | apply Dev.fault_sound)
    | split | dsimp only

theorem Dev.publishEngine_sound {d : Dev} (e tag : Nat) (hs : d.Sound) : (d.publishEngine e tag).Sound := by
  unfold Dev.publishEngine
  repeat' first | (with_reducible first | assumption | apply Dev.setEng_sound | apply Dev.wr_sound | apply Dev.setF_sound) | split | dsimp only

theorem Dev.publish_sound {d : Dev} (s : Nat) (hs : d.Sound) : (d.publish s).Sound := by
  unfold Dev.publish
  repeat' first
    | (with_reducible first
          | assumption | apply Dev.setScene_sound | apply Dev.wr_sound | apply Dev.publishEngine_sound | refine Dev.foldl_sound (fun _ _ _ => ?_) ?_)
    | split | dsimp only

theorem Dev.showFlat_sound {d : Dev} (s : Nat) (tag : Option Nat) (hs : d.Sound) : (d.showFlat s tag).Sound := by
  unfold Dev.showFlat
  repeat' first | (with_reducible first | assumption | apply Dev.setF_sound) | split | dsimp only

theorem Dev.markChanged_sound {d : Dev} (s : Nat) (hs : d.Sound) : (d.markChanged s).Sound := by
  unfold Dev.markChanged
  repeat' first | (with_reducible first | assumption | apply Dev.setScene_sound) | split | dsimp only

theorem Dev.flatStep_sound {d : Dev} (s n : Nat) (hs : d.Sound) : (d.flatStep s n).Sound := by
  unfold Dev.flatStep
  repeat' first
    | (with_reducible first | assumption | apply Dev.setScene_sound | apply Dev.flag_sound | apply Dev.showFlat_sound)
    | split | dsimp only

theorem Dev.flatBuild_sound {d : Dev} (s : Nat) (hs : d.Sound) : (d.flatBuild s).Sound := by
  unfold Dev.flatBuild
  repeat' first
    | (with_reducible first | assumption | apply Dev.setScene_sound | apply Dev.setBuf_sound | apply Dev.showFlat_sound)
    | split | dsimp only

theorem Dev.reportFall_sound {d : Dev} (s e : Nat) (hs : d.Sound) : (d.reportFall s e).Sound := by
  unfold Dev.reportFall
  repeat' first
    | (with_reducible first | assumption | apply Dev.inc_sound | apply Dev.flag_sound | apply Dev.event_sound | apply Dev.bufFlag_sound)
    | split | dsimp only

theorem Dev.fallHold_sound {d : Dev} (s e : Nat) (hs : d.Sound) : (d.fallHold s e).Sound := by
  unfold Dev.fallHold
  repeat' first | (with_reducible first | assumption | apply Dev.setEng_sound | apply Dev.reportFall_sound) | split | dsimp only

theorem Dev.fallHide_sound {d : Dev} (s e : Nat) (hs : d.Sound) : (d.fallHide s e).Sound := by
  unfold Dev.fallHide
  repeat' first | (with_reducible first | assumption | apply Dev.setEng_sound | apply Dev.reportFall_sound) | split | dsimp only

theorem Dev.fallBy_sound {d : Dev} (s e : Nat) (hs : d.Sound) : (d.fallBy s e).Sound := by
  unfold Dev.fallBy
  repeat' first | (with_reducible first | assumption | apply Dev.fallHold_sound | apply Dev.fallHide_sound) | split | dsimp only

theorem Dev.decideEngine_sound {d : Dev} (s : Nat) (chase : Bool) (e : Nat) (hs : d.Sound) : (d.decideEngine s chase e).Sound := by
  unfold Dev.decideEngine
  repeat' first
    | (with_reducible first | assumption | apply Dev.setEng_sound | apply Dev.fallHold_sound | apply Dev.fallHide_sound | apply Dev.fallBy_sound)
    | split | dsimp only

theorem Dev.holdFrame_sound {d : Dev} (s : Nat) (hs : d.Sound) : (d.holdFrame s).Sound := by
  unfold Dev.holdFrame
  repeat' first | (with_reducible first | assumption | apply Dev.setScene_sound | apply Dev.inc_sound | apply Dev.flag_sound) | split | dsimp only

theorem Dev.missBoundary_sound {d : Dev} (s : Nat) (hs : d.Sound) : (d.missBoundary s).Sound := by
  unfold Dev.missBoundary
  repeat' first
    | (with_reducible first
          | assumption | apply Dev.setScene_sound | apply Dev.setB_sound | apply Dev.inc_sound | apply Dev.flag_sound | apply Dev.markLate_sound
          | refine Dev.foldl_sound (fun _ _ _ => ?_) ?_)
    | split | dsimp only

theorem Dev.flagOffCanvas_sound {d : Dev} (s : Nat) (hs : d.Sound) : (d.flagOffCanvas s).Sound := by
  unfold Dev.flagOffCanvas
  repeat' first | (with_reducible first | assumption | apply Dev.onCore_sound | refine Dev.foldl_sound (fun _ _ _ => ?_) ?_) | split | dsimp only

theorem Dev.startIn_sound {d : Dev} (s : Nat) (chase : Bool) (slot entry : Nat) (hs : d.Sound) : (d.startIn s chase slot entry).Sound := by
  unfold Dev.startIn
  repeat' first
    | (with_reducible first
          | assumption | apply Dev.setScene_sound | apply Dev.setBuf_sound | apply Dev.setGroup_sound | apply Dev.event_sound
          | apply Dev.memWake_sound | apply Dev.refBegin_sound | apply Dev.flatBuild_sound | apply Dev.flagOffCanvas_sound)
    | split | dsimp only | with_reducible refine Dev.sound_mk (Dev.sound_mem ?_) (Dev.sound_fm ?_)

theorem Dev.composeStart_sound {d : Dev} (s : Nat) (chase : Bool) (hs : d.Sound) : (d.composeStart s chase).Sound := by
  unfold Dev.composeStart
  repeat' first | (with_reducible first | assumption | apply Dev.missBoundary_sound | apply Dev.startIn_sound) | split | dsimp only

theorem Dev.decideScene_sound {d : Dev} (s : Nat) (hs : d.Sound) : (d.decideScene s).Sound := by
  unfold Dev.decideScene
  repeat' first
    | (with_reducible first
          | assumption | apply Dev.setScene_sound | apply Dev.scnReject_sound | apply Dev.fallbackStep_sound | apply Dev.decideEngine_sound
          | apply Dev.holdFrame_sound | apply Dev.composeStart_sound | refine Dev.foldl_sound (fun _ _ _ => ?_) ?_)
    | split | dsimp only | with_reducible refine Dev.sound_mk (Dev.sound_mem ?_) (Dev.sound_fm ?_)

theorem Dev.abandonChase_sound {d : Dev} (s : Nat) (hs : d.Sound) : (d.abandonChase s).Sound := by
  unfold Dev.abandonChase
  repeat' first | (with_reducible first | assumption | apply Dev.setScene_sound | apply Dev.freeStep_sound) | split | dsimp only

theorem Dev.groupStep_sound {d : Dev} (s n : Nat) (hs : d.Sound) : (d.groupStep s n).Sound := by
  unfold Dev.groupStep
  repeat' first | (with_reducible first | assumption | apply Dev.setGroup_sound | apply Dev.setB_sound) | split | dsimp only

theorem Dev.sceneBoundary_sound {d : Dev} (s : Nat) (golden : Bool) (hs : d.Sound) : (d.sceneBoundary s golden).Sound := by
  unfold Dev.sceneBoundary
  repeat' first
    | (with_reducible first
          | assumption | apply Dev.setCad_sound | apply Dev.setScene_sound | apply Dev.portionsAt_sound | apply Dev.portionsMissed_sound
          | apply Dev.toneBoundary_sound | apply Dev.countDown_sound | apply Dev.sceneApply_sound | apply Dev.countUncovered_sound
          | apply Dev.goldenCheck_sound | apply Dev.publish_sound | apply Dev.markChanged_sound | apply Dev.flatStep_sound
          | apply Dev.missBoundary_sound | apply Dev.abandonChase_sound | apply Dev.groupStep_sound)
    | (refine Dev.toneBoundary_fst ?_ (by assumption)) | split | dsimp only
    | with_reducible refine Dev.sound_mk (Dev.sound_mem ?_) (Dev.sound_fm ?_)

theorem Dev.cadenceTick_sound {d : Dev} (s : Nat) (golden : Bool) (hs : d.Sound) : (d.cadenceTick s golden).Sound := by
  unfold Dev.cadenceTick
  repeat' first
    | (with_reducible first
          | assumption | apply Dev.setCad_sound | apply Dev.onPower_sound | apply Dev.advance_sound | apply Dev.tickTiming_sound
          | apply Dev.decideScene_sound | apply Dev.sceneBoundary_sound)
    | split | dsimp only

theorem Dev.fenceReadDone_sound {d : Dev} (e : Nat) (hs : d.Sound) : (d.fenceReadDone e).Sound := by
  unfold Dev.fenceReadDone
  repeat' first
    | (with_reducible first | assumption | apply Dev.readFence_sound | apply Dev.decideScene_sound)
    | split | dsimp only | with_reducible refine Dev.sound_mk (Dev.sound_mem ?_) (Dev.sound_fm ?_)

theorem Dev.endWait_sound {d : Dev} (s e : Nat) (hs : d.Sound) : (d.endWait s e).Sound := by
  unfold Dev.endWait
  repeat' first | (with_reducible first | assumption | apply Dev.setScene_sound) | split | dsimp only

theorem Dev.waitReread_sound {d : Dev} (e : Nat) (hs : d.Sound) : (d.waitReread e).Sound := by
  unfold Dev.waitReread
  repeat' first
    | (with_reducible first | assumption | apply Dev.setEng_sound | apply Dev.readFence_sound | apply Dev.endWait_sound)
    | split | dsimp only

theorem Dev.waitExpiry_sound {d : Dev} (s : Nat) (hs : d.Sound) : (d.waitExpiry s).Sound := by
  unfold Dev.waitExpiry
  repeat' first
    | (with_reducible first
          | assumption | apply Dev.advance_sound | apply Dev.fallBy_sound | apply Dev.endWait_sound | refine Dev.foldl_sound (fun _ _ _ => ?_) ?_)
    | split | dsimp only

theorem Dev.setPanic_sound {d : Dev} (s : Nat) (on : Bool) (hs : d.Sound) : (d.setPanic s on).Sound := by
  unfold Dev.setPanic
  repeat' first | (with_reducible first | assumption | apply Dev.setScene_sound) | split | dsimp only

theorem Dev.projectPanic_sound {d : Dev} (s : Nat) (c : Comp) (hs : d.Sound) : (d.projectPanic s c).Sound := by
  unfold Dev.projectPanic
  repeat' first | (with_reducible first | assumption | apply Dev.setPanic_sound) | split | dsimp only

theorem Dev.bandComplete_sound {d : Dev} (s : Nat) (hs : d.Sound) : (d.bandComplete s).Sound := by
  unfold Dev.bandComplete
  repeat' first
    | (with_reducible first | assumption | apply Dev.setScene_sound | apply Dev.blendRows_sound | apply Dev.projectPanic_sound)
    | (refine Dev.blendRows_fst ?_ (by assumption)) | split | dsimp only

theorem Dev.chasePanic_sound {d : Dev} (s : Nat) (hs : d.Sound) : (d.chasePanic s).Sound := by
  unfold Dev.chasePanic
  repeat' first
    | (with_reducible first | assumption | apply Dev.setScene_sound | apply Dev.flag_sound | apply Dev.setPanic_sound)
    | split | dsimp only

theorem Dev.rowWrite_sound {d : Dev} (s : Nat) (hs : d.Sound) : (d.rowWrite s).Sound := by
  unfold Dev.rowWrite
  repeat' first
    | (with_reducible first | assumption | apply Dev.setScene_sound | apply Dev.blendRow_sound | apply Dev.chasePanic_sound)
    | split | dsimp only | with_reducible refine Dev.sound_mk (Dev.sound_mem ?_) (Dev.sound_fm ?_)

theorem Dev.engineFigures_sound {d : Dev} (s : Nat) (c : Comp) (f : EngineFigures) (hs : d.Sound) : (d.engineFigures s c f).Sound := by
  unfold Dev.engineFigures
  repeat' first | (with_reducible first | assumption | apply Dev.onCore_sound | apply Dev.setEng_sound) | split | dsimp only

theorem Dev.showStats_sound {d : Dev} (s : Nat) (c : Comp) (hs : d.Sound) : (d.showStats s c).Sound := by
  unfold Dev.showStats
  repeat' first | (with_reducible first | assumption | apply Dev.wrN_sound) | split | dsimp only

theorem Dev.composeDone_sound {d : Dev} (s pace : Nat) (engines : List EngineFigures) (hs : d.Sound) : (d.composeDone s pace engines).Sound := by
  unfold Dev.composeDone
  repeat' first
    | (with_reducible first
          | assumption | apply Dev.setScene_sound | apply Dev.setBuf_sound | apply Dev.setGroup_sound | apply Dev.wr_sound | apply Dev.flag_sound
          | apply Dev.event_sound | apply Dev.dynTarget_sound | apply Dev.engineFigures_sound | apply Dev.showStats_sound
          | refine Dev.foldl_sound (fun _ _ _ => ?_) ?_)
    | split | dsimp only

theorem Dev.forceRecompose_sound {d : Dev} (s : Nat) (hs : d.Sound) : (d.forceRecompose s).Sound := by
  unfold Dev.forceRecompose
  repeat' first | (with_reducible first | assumption | apply Dev.recompose_sound) | split | dsimp only

theorem Dev.forceFlatDrop_sound {d : Dev} (s : Nat) (hs : d.Sound) : (d.forceFlatDrop s).Sound := by
  unfold Dev.forceFlatDrop
  repeat' first | (with_reducible first | assumption | apply Dev.setScene_sound) | split | dsimp only

theorem Dev.lineBegin_sound {d : Dev} (p y : Nat) (hs : d.Sound) : (d.lineBegin p y).Sound := by
  unfold Dev.lineBegin
  repeat' first
    | (with_reducible first
          | assumption | apply Dev.setPort_sound | apply Dev.wr_sound | apply Dev.flag_sound | apply Dev.usePattern_sound | apply Dev.fault_sound
          | apply Dev.fmError_sound)
    | split | dsimp only

theorem Dev.skipRegion_sound {d : Dev} (p s r : Nat) (hs : d.Sound) : (d.skipRegion p s r).Sound := by
  unfold Dev.skipRegion
  repeat' first
    | (with_reducible first | assumption | apply Dev.setChk_sound | apply Dev.setPortChk_sound | apply Dev.flag_sound)
    | split | dsimp only

theorem Dev.compareBlock_sound {d : Dev} (p s r : Nat) (b : BlockRef) (hs : d.Sound) : (d.compareBlock p s r b).Sound := by
  unfold Dev.compareBlock
  repeat' first
    | (with_reducible first | assumption | apply Dev.setPortChk_sound | apply Dev.setB_sound | apply Dev.flag_sound | apply Dev.fault_sound)
    | split | dsimp only

theorem Dev.blockRow_sound {d : Dev} (p s entry frame row : Nat) (refBad : Bool) (hs : d.Sound) : (d.blockRow p s entry frame row refBad).Sound :=
    by
  unfold Dev.blockRow
  repeat' first
    | (with_reducible first | assumption | apply Dev.skipRegion_sound | apply Dev.compareBlock_sound | refine Dev.foldl_sound (fun _ _ _ => ?_) ?_)
    | split | dsimp only

theorem Dev.rectsAt_sound {d : Dev} (p y : Nat) (hs : d.Sound) : (d.rectsAt p y).Sound := by
  unfold Dev.rectsAt
  repeat' first
    | (with_reducible first | assumption | apply Dev.wr_sound | apply Dev.fault_sound | refine Dev.foldl_sound (fun _ _ _ => ?_) ?_)
    | split | dsimp only

theorem Dev.identityCheck_sound {d : Dev} (p y : Nat) (hs : d.Sound) : (d.identityCheck p y).Sound := by
  unfold Dev.identityCheck
  repeat' first | (with_reducible first | assumption | apply Dev.fault_sound) | split | dsimp only

theorem Dev.lineEnd_sound {d : Dev} (p y : Nat) (refBad : Bool) (hs : d.Sound) : (d.lineEnd p y refBad).Sound := by
  unfold Dev.lineEnd
  repeat' first | (with_reducible first | assumption | apply Dev.blockRow_sound | apply Dev.rectsAt_sound) | split | dsimp only

theorem Dev.matchLine_sound {d : Dev} (p n : Nat) (hs : d.Sound) : (d.matchLine p n).Sound := by
  unfold Dev.matchLine
  repeat' first | (with_reducible first | assumption | apply Dev.event_sound) | split | dsimp only

theorem Dev.sdiClip_sound {d : Dev} (p clip : Nat) (hs : d.Sound) : (d.sdiClip p clip).Sound := by
  unfold Dev.sdiClip
  repeat' first | (with_reducible first | assumption | apply Dev.setXp_sound | apply Dev.wr_sound | apply Dev.flag_sound) | split | dsimp only

theorem Dev.lineStart_sound {d : Dev} (p clip : Nat) (refBad offPos : Bool) (hs : d.Sound) : (d.lineStart p clip refBad offPos).Sound := by
  unfold Dev.lineStart
  repeat' first
    | (with_reducible first
          | assumption | apply Dev.setPort_sound | apply Dev.wrN_sound | apply Dev.advance_sound | apply Dev.fault_sound | apply Dev.lineBegin_sound
          | apply Dev.identityCheck_sound | apply Dev.lineEnd_sound | apply Dev.matchLine_sound | apply Dev.sdiClip_sound)
    | split | dsimp only

theorem Dev.underrun_sound {d : Dev} (p row : Nat) (hs : d.Sound) : (d.underrun p row).Sound := by
  unfold Dev.underrun
  repeat' first
    | (with_reducible first
          | assumption | apply Dev.onCore_sound | apply Dev.setPort_sound | apply Dev.setPortChk_sound | apply Dev.wrN_sound | apply Dev.inc_sound)
    | split | dsimp only

theorem Dev.rowFetchDeadline_sound {d : Dev} (p : Nat) (delivered : Bool) (hs : d.Sound) : (d.rowFetchDeadline p delivered).Sound := by
  unfold Dev.rowFetchDeadline
  repeat' first
    | (with_reducible first
          | assumption | apply Dev.setPort_sound | apply Dev.setScene_sound | apply Dev.advance_sound | apply Dev.fault_sound
          | apply Dev.chasePanic_sound | apply Dev.underrun_sound)
    | split | dsimp only

theorem Dev.frameDone_sound {d : Dev} (p : Nat) (hs : d.Sound) : (d.frameDone p).Sound := by
  unfold Dev.frameDone
  repeat' first | (with_reducible first | assumption | apply Dev.setPort_sound | apply Dev.event_sound) | split | dsimp only

theorem Dev.showSkips_sound {d : Dev} (s : Nat) (hs : d.Sound) : (d.showSkips s).Sound := by
  unfold Dev.showSkips
  repeat' first | (with_reducible first | assumption | apply Dev.setB_sound | refine Dev.foldl_sound (fun _ _ _ => ?_) ?_) | split | dsimp only

theorem Dev.skipStep_sound {d : Dev} (p s r : Nat) (hs : d.Sound) : (d.skipStep p s r).Sound := by
  unfold Dev.skipStep
  repeat' first
    | (with_reducible first
          | assumption | apply Dev.setChk_sound | apply Dev.setPortChk_sound | apply Dev.setB_sound | apply Dev.fault_sound
          | apply Dev.skipRegion_sound)
    | split | dsimp only

theorem Dev.endFrame_sound {d : Dev} (p : Nat) (hs : d.Sound) : (d.endFrame p).Sound := by
  unfold Dev.endFrame
  repeat' first
    | (with_reducible first
          | assumption | apply Dev.onCore_sound | apply Dev.setPortChk_sound | apply Dev.showSkips_sound | apply Dev.skipStep_sound
          | refine Dev.foldl_sound (fun _ _ _ => ?_) ?_)
    | split | dsimp only

theorem Dev.setShown_sound {d : Dev} (p : Nat) (x : Shown) (w : Word × Word) (hs : d.Sound) : (d.setShown p x w).Sound := by
  unfold Dev.setShown
  repeat' first | (with_reducible first | assumption | apply Dev.setPort_sound) | split | dsimp only

theorem Dev.chooseBuffer_sound {d : Dev} (p : Nat) (hs : d.Sound) : (d.chooseBuffer p).Sound := by
  unfold Dev.chooseBuffer
  repeat' first | (with_reducible first | assumption | apply Dev.onCore_sound | apply Dev.setShown_sound) | split | dsimp only

theorem Dev.detachEnc_sound {d : Dev} (e : Nat) (hs : d.Sound) : (d.detachEnc e).Sound := by
  unfold Dev.detachEnc
  repeat' first | (with_reducible first | assumption | apply Dev.setF_sound) | split | dsimp only

theorem Dev.serveDsc_sound {d : Dev} (p : Nat) (hs : d.Sound) : (d.serveDsc p).Sound := by
  unfold Dev.serveDsc
  repeat' first
    | (with_reducible first
          | assumption | apply Dev.setEnc_sound | apply Dev.setF_sound | apply Dev.wrN_sound | apply Dev.flag_sound | apply Dev.detachEnc_sound
          | refine Dev.foldl_sound (fun _ _ _ => ?_) ?_)
    | split | dsimp only

theorem Dev.applyVbl_sound {d : Dev} (n : Nat) (x : Page × Nat) (hs : d.Sound) : (d.applyVbl n x).Sound := by
  unfold Dev.applyVbl
  repeat' first
    | (with_reducible first
          | assumption | apply Dev.applyPage_sound | apply Dev.dscCheck_sound | apply Dev.padpApplied_sound | apply Dev.scanApplied_sound)
    | split | dsimp only

theorem Dev.groupEnd_sound {d : Dev} (s : Nat) (hs : d.Sound) : (d.groupEnd s).Sound := by
  unfold Dev.groupEnd
  repeat' first | (with_reducible first | assumption | apply Dev.setGroup_sound | apply Dev.setB_sound) | split | dsimp only

theorem Dev.vblCommits_sound {d : Dev} (p : Nat) (hs : d.Sound) : (d.vblCommits p).Sound := by
  unfold Dev.vblCommits
  repeat' first
    | (with_reducible first
          | assumption | apply Dev.setArm_sound | apply Dev.applyVbl_sound | apply Dev.groupEnd_sound | refine Dev.foldl_sound (fun _ _ _ => ?_) ?_)
    | split | dsimp only

theorem Dev.showAge_sound {d : Dev} (s r value : Nat) (hs : d.Sound) : (d.showAge s r value).Sound := by
  unfold Dev.showAge
  repeat' first
    | (with_reducible first | assumption | apply Dev.setB_sound | apply Dev.wrN_sound | refine Dev.foldl_sound (fun _ _ _ => ?_) ?_)
    | split | dsimp only

theorem Dev.judgeAge_sound {d : Dev} (p s entry frame r : Nat) (hs : d.Sound) : (d.judgeAge p s entry frame r).Sound := by
  unfold Dev.judgeAge
  repeat' first
    | (with_reducible first | assumption | apply Dev.setPortChk_sound | apply Dev.flag_sound | apply Dev.fault_sound | apply Dev.showAge_sound)
    | split | dsimp only

theorem Dev.judgeAges_sound {d : Dev} (p : Nat) (hs : d.Sound) : (d.judgeAges p).Sound := by
  unfold Dev.judgeAges
  repeat' first | (with_reducible first | assumption | apply Dev.judgeAge_sound | refine Dev.foldl_sound (fun _ _ _ => ?_) ?_) | split | dsimp only

theorem Dev.timecode_sound {d : Dev} (p : Nat) (hs : d.Sound) : (d.timecode p).Sound := by
  unfold Dev.timecode
  repeat' first | (with_reducible first | assumption | apply Dev.wr_sound | apply Dev.tcStep_sound) | split | dsimp only

theorem Dev.videoStep_sound {d : Dev} (p : Nat) (hs : d.Sound) : (d.videoStep p).Sound := by
  unfold Dev.videoStep
  repeat' first | (with_reducible first | assumption | apply Dev.setXp_sound | apply Dev.setF_sound | apply Dev.flag_sound) | split | dsimp only

theorem Dev.reschedule_sound {d : Dev} (p : Nat) (first : Bool) (hs : d.Sound) : (d.reschedule p first).Sound := by
  unfold Dev.reschedule
  repeat' first | (with_reducible first | assumption | apply Dev.setPort_sound) | split | dsimp only

theorem Dev.endPort_sound {d : Dev} (p : Nat) (refBad : Bool) (hs : d.Sound) : (d.endPort p refBad).Sound := by
  unfold Dev.endPort
  repeat' first
    | (with_reducible first
          | assumption | apply Dev.setPort_sound | apply Dev.setXp_sound | apply Dev.onPower_sound | apply Dev.setF_sound | apply Dev.advance_sound
          | apply Dev.park_sound | apply Dev.lineEnd_sound | apply Dev.endFrame_sound)
    | split | dsimp only

theorem Dev.vblankStart_sound {d : Dev} (p : Nat) (refBad : Bool) (hs : d.Sound) : (d.vblankStart p refBad).Sound := by
  unfold Dev.vblankStart
  repeat' first
    | (with_reducible first
          | assumption | apply Dev.setPort_sound | apply Dev.wrN_sound | apply Dev.event_sound | apply Dev.advance_sound
          | apply Dev.belayLeave_sound | apply Dev.lutSwap_sound | apply Dev.lineEnd_sound | apply Dev.matchLine_sound | apply Dev.endFrame_sound
          | apply Dev.chooseBuffer_sound | apply Dev.serveDsc_sound | apply Dev.vblCommits_sound | apply Dev.judgeAges_sound
          | apply Dev.timecode_sound | apply Dev.videoStep_sound | apply Dev.reschedule_sound | apply Dev.endPort_sound)
    | split | dsimp only

end Sys2Proof.Machine
end

