-- ==== Sys2Proof/Laws/SoundMemory.lean ====
section
/-! SUPPORT. Every operation keeps DDR5 and frame memory in their canonical form: the memory controller and block transfer. -/

namespace Sys2Proof.Machine

theorem Dev.showMap_sound {d : Dev} (m : AddrMap) (hs : d.Sound) : (d.showMap m).Sound := by
  unfold Dev.showMap
  repeat' first | (with_reducible first | assumption | apply Dev.wrN_sound | refine Dev.foldl_sound (fun _ _ _ => ?_) ?_) | split | dsimp only

theorem Dev.mcgReject_sound {d : Dev} (r : Requester) (off reason : Nat) (hs : d.Sound) : (d.mcgReject r off reason).Sound := by
  unfold Dev.mcgReject
  repeat' first | (with_reducible first | assumption | apply Dev.wrN_sound | apply Dev.reject_sound) | split | dsimp only

theorem Dev.mapApply_sound {d : Dev} (r : Requester) (hs : d.Sound) : (d.mapApply r).Sound := by
  unfold Dev.mapApply
  repeat' first
    | (with_reducible first | assumption | apply Dev.onMc_sound | apply Dev.flag_sound | apply Dev.mcgReject_sound)
    | split | dsimp only | with_reducible refine Dev.sound_mk (Dev.sound_mem ?_) (Dev.sound_fm ?_)
    | with_reducible refine Dev.sound_mk (Memory.wf_moveBytes _ _ _) (Dev.sound_fm ?_)

theorem Dev.weightWrite_sound {d : Dev} (r : Requester) (which : Nat) (v : Word) (hs : d.Sound) : (d.weightWrite r which v).Sound := by
  unfold Dev.weightWrite
  repeat' first | (with_reducible first | assumption | apply Dev.wr_sound | apply Dev.mcgReject_sound) | split | dsimp only

theorem Dev.setRank_sound {d : Dev} (u k v : Nat) (hs : d.Sound) : (d.setRank u k v).Sound := by
  unfold Dev.setRank
  repeat' first | (with_reducible first | assumption | apply Dev.setF_sound) | split | dsimp only

theorem Dev.showSpares_sound {d : Dev} (hs : d.Sound) : d.showSpares.Sound := by
  unfold Dev.showSpares
  repeat' first | (with_reducible first | assumption | apply Dev.wrN_sound) | split | dsimp only

theorem Dev.showMig_sound {d : Dev} (m : Mig) (busy : Bool) (hs : d.Sound) : (d.showMig m busy).Sound := by
  unfold Dev.showMig
  repeat' first | (with_reducible first | assumption | apply Dev.wrN_sound) | split | dsimp only

theorem Dev.migBegin_sound {d : Dev} (u k spare : Nat) (hs : d.Sound) : (d.migBegin u k spare).Sound := by
  unfold Dev.migBegin
  repeat' first
    | (with_reducible first
          | assumption | apply Dev.onMc_sound | apply Dev.setB_sound | apply Dev.flag_sound | apply Dev.degrade_sound | apply Dev.setRank_sound
          | apply Dev.showMig_sound)
    | split | dsimp only

theorem Dev.rankFailed_sound {d : Dev} (u k : Nat) (hs : d.Sound) : (d.rankFailed u k).Sound := by
  unfold Dev.rankFailed
  repeat' first
    | (with_reducible first
          | assumption | apply Dev.setB_sound | apply Dev.flag_sound | apply Dev.degrade_sound | apply Dev.fault_sound | apply Dev.setRank_sound)
    | split | dsimp only

theorem Dev.migTrigger_sound {d : Dev} (u k : Nat) (hs : d.Sound) : (d.migTrigger u k).Sound := by
  unfold Dev.migTrigger
  repeat' first
    | (with_reducible first | assumption | apply Dev.onMc_sound | apply Dev.migBegin_sound | apply Dev.rankFailed_sound)
    | split | dsimp only

theorem Dev.migStart_sound {d : Dev} (r : Requester) (u k : Nat) (hs : d.Sound) : (d.migStart r u k).Sound := by
  unfold Dev.migStart
  repeat' first | (with_reducible first | assumption | apply Dev.mcgReject_sound | apply Dev.migBegin_sound) | split | dsimp only

theorem Dev.reportUe_sound {d : Dev} (who : Nat) (a u k : Nat) (migrating : Bool) (hs : d.Sound) : (d.reportUe who a u k migrating).Sound := by
  unfold Dev.reportUe
  repeat' first | (with_reducible first | assumption | apply Dev.setF_sound | apply Dev.wrN_sound | apply Dev.flag_sound) | split | dsimp only

theorem Dev.reportCe_sound {d : Dev} (u k : Nat) (hs : d.Sound) : (d.reportCe u k).Sound := by
  unfold Dev.reportCe
  repeat' first
    | (with_reducible first | assumption | apply Dev.onMc_sound | apply Dev.inc_sound | apply Dev.flag_sound | apply Dev.migTrigger_sound)
    | split | dsimp only

theorem Dev.lineEcc_sound {d : Dev} (who : Nat) (scene : Option Nat) (a : Nat) (l : Loc) (ecc : Ecc) (hs : d.Sound) : (d.lineEcc who scene a l
    ecc).Sound := by
  unfold Dev.lineEcc
  repeat' first
    | (with_reducible first
          | assumption | apply Dev.fault_sound | apply Dev.setPoison_sound | apply Dev.migTrigger_sound | apply Dev.reportUe_sound
          | apply Dev.reportCe_sound)
    | split | dsimp only

theorem Dev.showThrottled_sound {d : Dev} (c : Nat) (hs : d.Sound) : (d.showThrottled c).Sound := by
  unfold Dev.showThrottled
  repeat' first | (with_reducible first | assumption | apply Dev.wrN_sound) | split | dsimp only

theorem Dev.throttle_sound {d : Dev} (key p : Nat) (hs : d.Sound) : (d.throttle key p).Sound := by
  unfold Dev.throttle
  repeat' first
    | (with_reducible first | assumption | apply Dev.onMc_sound | apply Dev.setF_sound | apply Dev.flag_sound | apply Dev.showThrottled_sound)
    | split | dsimp only

theorem Dev.neighbourRefresh_sound {d : Dev} (key row : Nat) (hs : d.Sound) : (d.neighbourRefresh key row).Sound := by
  unfold Dev.neighbourRefresh
  repeat' first | (with_reducible first | assumption | apply Dev.onMc_sound | apply Dev.setF_sound | apply Dev.flag_sound) | split | dsimp only

theorem Dev.activateRow_sound {d : Dev} (key row port : Nat) (hs : d.Sound) : (d.activateRow key row port).Sound := by
  unfold Dev.activateRow
  repeat' first
    | (with_reducible first
          | assumption | apply Dev.onMc_sound | apply Dev.freeStep_sound | apply Dev.throttle_sound | apply Dev.neighbourRefresh_sound)
    | split | dsimp only

theorem Dev.touchRow_sound {d : Dev} (l : Loc) (port : Nat) (hs : d.Sound) : (d.touchRow l port).Sound := by
  unfold Dev.touchRow
  repeat' first | (with_reducible first | assumption | apply Dev.onMc_sound | apply Dev.activateRow_sound) | split | dsimp only

theorem Dev.throttleEnd_sound {d : Dev} (c : Nat) (hs : d.Sound) : (d.throttleEnd c).Sound := by
  unfold Dev.throttleEnd
  repeat' first
    | (with_reducible first | assumption | apply Dev.onMc_sound | apply Dev.advance_sound | apply Dev.showThrottled_sound)
    | split | dsimp only

theorem Dev.rhHalve_sound {d : Dev} (hs : d.Sound) : d.rhHalve.Sound := by
  unfold Dev.rhHalve
  repeat' first | (with_reducible first | assumption | apply Dev.onCore_sound | apply Dev.onMc_sound) | split | dsimp only

theorem Dev.enqueue_sound {d : Dev} (r : Requester) (port a : Nat) (write : Bool) (data : Option (List (BitVec 8))) (hs : d.Sound) : (d.enqueue r
    port a write data).Sound := by
  unfold Dev.enqueue
  repeat' first | (with_reducible first | assumption | apply Dev.onMc_sound | apply Dev.inc_sound | apply Dev.touchRow_sound) | split | dsimp only

theorem Dev.readEnqueue_sound {d : Dev} (r : Requester) (scene a : Nat) (hs : d.Sound) : (d.readEnqueue r scene a).Sound := by
  unfold Dev.readEnqueue
  repeat' first
    | (with_reducible first | assumption | apply Dev.onCore_sound | apply Dev.answer_sound | apply Dev.dramRead_sound | apply Dev.enqueue_sound)
    | (refine Dev.dramRead_fst ?_ (by assumption)) | split | dsimp only

theorem Dev.writeEnqueue_sound {d : Dev} (r : Requester) (scene a : Nat) (bs : List (BitVec 8)) (hs : d.Sound) : (d.writeEnqueue r scene a bs).Sound
    := by
  unfold Dev.writeEnqueue
  repeat' first
    | (with_reducible first | assumption | apply Dev.dramWrite_sound | apply Dev.enqueue_sound)
    | (refine Dev.dramWrite_fst ?_ (by assumption)) | split | dsimp only

theorem Dev.retire_sound {d : Dev} (q : MemReq) (hs : d.Sound) : (d.retire q).Sound := by
  unfold Dev.retire
  repeat' first
    | (with_reducible first | assumption | apply Dev.onMc_sound | apply Dev.wr_sound | refine Dev.foldl_sound (fun _ _ _ => ?_) ?_)
    | split | dsimp only

theorem Dev.readReturn_sound {d : Dev} (port : Nat) (ecc : Ecc) (hs : d.Sound) : (d.readReturn port ecc).Sound := by
  unfold Dev.readReturn
  repeat' first
    | (with_reducible first | assumption | apply Dev.answer_sound | apply Dev.lineEcc_sound | apply Dev.retire_sound)
    | split | dsimp only

theorem Dev.writeRetire_sound {d : Dev} (port : Nat) (hs : d.Sound) : (d.writeRetire port).Sound := by
  unfold Dev.writeRetire
  repeat' first | (with_reducible first | assumption | apply Dev.retire_sound) | split | dsimp only

theorem Dev.patrolScrub_sound {d : Dev} (a : Nat) (ecc : Ecc) (hs : d.Sound) : (d.patrolScrub a ecc).Sound := by
  unfold Dev.patrolScrub
  repeat' first
    | (with_reducible first | assumption | apply Dev.memWake_sound | apply Dev.lineEcc_sound | apply Dev.touchRow_sound)
    | split | dsimp only

theorem Dev.migCopy_sound {d : Dev} (ecc : Ecc) (hs : d.Sound) : (d.migCopy ecc).Sound := by
  unfold Dev.migCopy
  repeat' first
    | (with_reducible first
          | assumption | apply Dev.onMc_sound | apply Dev.flag_sound | apply Dev.fault_sound | apply Dev.memWake_sound | apply Dev.setPoison_sound
          | apply Dev.showMig_sound | apply Dev.reportUe_sound | apply Dev.reportCe_sound | apply Dev.touchRow_sound)
    | split | dsimp only

theorem Dev.migNext_sound {d : Dev} (l : List (Nat × Nat)) (h : d.Sound) : (d.migNext l).Sound := by
  induction l generalizing d with
  | nil => exact h
  | cons x r ih =>
    unfold Dev.migNext
    split
    · split
      · exact Dev.migBegin_sound _ _ _ h
      · exact ih h
    · exact ih (Dev.rankFailed_sound _ _ h)

theorem Dev.migDone_sound {d : Dev} (hs : d.Sound) : d.migDone.Sound := by
  unfold Dev.migDone
  repeat' first
    | (with_reducible first
          | assumption | apply Dev.onMc_sound | apply Dev.flag_sound | apply Dev.setRank_sound | apply Dev.showSpares_sound
          | apply Dev.showMig_sound | apply Dev.migNext_sound)
    | (refine Dev.migNext_fst ?_ (by assumption)) | split | dsimp only

theorem Dev.mccCheck_sound {d : Dev} (c : Nat) (hs : d.Sound) : (d.mccCheck c).Sound := by
  unfold Dev.mccCheck
  repeat' first | (with_reducible first | assumption | apply Dev.onCore_sound | apply Dev.wrN_sound | apply Dev.flag_sound) | split | dsimp only

theorem Dev.refreshBoundary_sound {d : Dev} (c : Nat) (hs : d.Sound) : (d.refreshBoundary c).Sound := by
  unfold Dev.refreshBoundary
  repeat' first
    | (with_reducible first | assumption | apply Dev.countUp_sound | apply Dev.applyPage_sound | apply Dev.mccCheck_sound)
    | split | dsimp only

theorem Dev.closeRows_sound {d : Dev} (c : Nat) (f : Nat → Bool) (hs : d.Sound) : (d.closeRows c f).Sound :=
  Dev.onMc_sound _ hs

theorem Dev.dramRefresh_sound {d : Dev} (c bank : Nat) (hs : d.Sound) : (d.dramRefresh c bank).Sound := by
  unfold Dev.dramRefresh
  repeat' first | (with_reducible first | assumption | apply Dev.refreshBoundary_sound | apply Dev.closeRows_sound) | split | dsimp only

theorem Dev.dramTemp_sound {d : Dev} (c temp : Nat) (hs : d.Sound) : (d.dramTemp c temp).Sound := by
  unfold Dev.dramTemp
  repeat' first | (with_reducible first | assumption | apply Dev.wrN_sound | apply Dev.flag_sound) | split | dsimp only

theorem Dev.srEntry_sound {d : Dev} (hs : d.Sound) : d.srEntry.Sound := by
  unfold Dev.srEntry
  repeat' first | (with_reducible first | assumption | apply Dev.setF_sound) | split | dsimp only

theorem Dev.srEntered_sound {d : Dev} (hs : d.Sound) : d.srEntered.Sound := by
  unfold Dev.srEntered
  repeat' first
    | (with_reducible first
          | assumption | apply Dev.onMc_sound | apply Dev.setF_sound | apply Dev.flag_sound | apply Dev.park_sound | apply Dev.closeRows_sound
          | refine Dev.foldl_sound (fun _ _ _ => ?_) ?_)
    | split | dsimp only

theorem Dev.srPrewake_sound {d : Dev} (s : Nat) (hs : d.Sound) : (d.srPrewake s).Sound := by
  unfold Dev.srPrewake
  repeat' first | (with_reducible first | assumption | apply Dev.advance_sound | apply Dev.srLeave_sound) | split | dsimp only

theorem Dev.srExit_sound {d : Dev} (hs : d.Sound) : d.srExit.Sound := by
  unfold Dev.srExit
  repeat' first | (with_reducible first | assumption | apply Dev.memWake_sound) | split | dsimp only

theorem Dev.srExited_sound {d : Dev} (hs : d.Sound) : d.srExited.Sound := by
  unfold Dev.srExited
  repeat' first
    | (with_reducible first | assumption | apply Dev.onMc_sound | apply Dev.wr_sound | apply Dev.setF_sound | apply Dev.flag_sound)
    | split | dsimp only

theorem Dev.clockLoss_sound {d : Dev} (hs : d.Sound) : d.clockLoss.Sound := by
  unfold Dev.clockLoss
  repeat' first | (with_reducible first | assumption | apply Dev.flag_sound | apply Dev.fault_sound) | split | dsimp only

theorem Dev.setRanks_sound {d : Dev} (ranks : Nat) (spare : Option Nat) (fails : List (Fin 16 × Fin 4)) (hs : d.Sound) : (d.setRanks ranks spare
    fails).Sound := by
  unfold Dev.setRanks
  repeat' first
    | (with_reducible first
          | assumption | apply Dev.onMc_sound | apply Dev.setRank_sound | apply Dev.showSpares_sound | refine Dev.foldl_sound (fun _ _ _ => ?_) ?_)
    | split | dsimp only

theorem Dev.trainMemory_sound {d : Dev} (t : TrainReport) (_h : d.Sound) : (d.trainMemory t).Sound := by
  unfold Dev.trainMemory
  extract_lets ranks spare result fails mapped c r m gib rate d1 first d2 d3 d4 d5 d6
  have h3 : d3.Sound := Dev.sound_mk Memory.wf_nil Memory.wf_nil
  clear_value d3 first d2 d1 rate gib m r c mapped fails result
  have h4 : d4.Sound := by
    dsimp only [d4]
    split
    · exact Dev.onMc_sound _ h3
    · exact Dev.onMc_sound _ (Dev.setRanks_sound _ _ _ (Dev.showMap_sound _ h3))
  clear_value d4
  have h5 : d5.Sound := Dev.foldl_sound (fun x i hx => by split <;> first | exact Dev.setB_sound _ _ _ _ _ hx | exact hx) h4
  clear_value d5
  have h6 : d6.Sound := by
    dsimp only [d6]
    split
    · exact Dev.degrade_sound _ h5
    · exact Dev.undegrade_sound _ (Dev.undegrade_sound _ h5)
  split
  · exact Dev.flag_sound _ _ _ _ _ _ _ _ h6
  · exact h6

theorem Dev.bltStat_sound {d : Dev} (busy : Bool) (result : Nat) (up right : Bool) (hs : d.Sound) : (d.bltStat busy result up right).Sound := by
  unfold Dev.bltStat
  repeat' first | (with_reducible first | assumption | apply Dev.wrN_sound) | split | dsimp only

theorem Dev.bltStart_sound {d : Dev} (r : Requester) (hs : d.Sound) : (d.bltStart r).Sound := by
  unfold Dev.bltStart
  repeat' first
    | (with_reducible first
          | assumption | apply Dev.onCore_sound | apply Dev.countUp_sound | apply Dev.wrN_sound | apply Dev.flag_sound | apply Dev.reject_sound
          | apply Dev.applyPage_sound | apply Dev.bltStat_sound)
    | split | dsimp only | with_reducible refine Dev.sound_mk (Dev.sound_mem ?_) (Dev.sound_fm ?_)

theorem Dev.bltAbort_sound {d : Dev} (hs : d.Sound) : d.bltAbort.Sound := by
  unfold Dev.bltAbort
  repeat' first | (with_reducible first | assumption) | split | dsimp only | with_reducible refine Dev.sound_mk (Dev.sound_mem ?_) (Dev.sound_fm ?_)

theorem Dev.bltReads_sound {d : Dev} (lines : List Nat) (hs : d.Sound) : (d.bltReads lines).1.Sound := by
  unfold Dev.bltReads
  repeat' first | (with_reducible first | assumption | apply Dev.onCore_sound | refine Dev.foldl_sound (fun _ _ _ => ?_) ?_) | split | dsimp only
theorem Dev.bltReads_fst {d : Dev} {lines : List Nat} {dx : Dev} {rx : Nat} (hs : d.Sound) (he : d.bltReads lines = (dx, rx)) : dx.Sound := by
  have := Dev.bltReads_sound lines hs
  rwa [he] at this

theorem Dev.bltWrites_sound {d : Dev} (sum : BltSum) (l : List Piece) (h : d.Sound) : (d.bltWrites sum l).1.Sound := by
  induction l generalizing d sum with
  | nil => exact h
  | cons p r ih => exact ih _ (Dev.dramWrite_sound _ _ _ _ h)

theorem Dev.bltMove_sound {d : Dev} (full part : Nat) (hs : d.Sound) : (d.bltMove full part).1.Sound := by
  unfold Dev.bltMove
  repeat' first
    | (with_reducible first | assumption | apply Dev.bltReads_sound | apply Dev.bltWrites_sound)
    | (refine Dev.bltReads_fst ?_ (by assumption)) | (refine Dev.bltWrites_fst ?_ (by assumption)) | split | dsimp only
theorem Dev.bltMove_fst {d : Dev} {full part : Nat} {dx : Dev} {rx : BltSum} (hs : d.Sound) (he : d.bltMove full part = (dx, rx)) : dx.Sound := by
  have := Dev.bltMove_sound full part hs
  rwa [he] at this

theorem Dev.bltPublish_sound {d : Dev} (o : BltOp) (sum : BltSum) (hs : d.Sound) : (d.bltPublish o sum).Sound := by
  unfold Dev.bltPublish
  repeat' first
    | (with_reducible first | assumption | apply Dev.wr_sound | apply Dev.wrN_sound | apply Dev.flag_sound | apply Dev.bltStat_sound)
    | split | dsimp only | with_reducible refine Dev.sound_mk (Dev.sound_mem ?_) (Dev.sound_fm ?_)

theorem Dev.bltRun_sound {d : Dev} (o : BltOp) (full part : Nat) (hs : d.Sound) : (d.bltRun o full part).1.Sound := by
  unfold Dev.bltRun
  repeat' first | (with_reducible first | assumption | apply Dev.bltMove_sound) | (refine Dev.bltMove_fst ?_ (by assumption)) | split | dsimp only
theorem Dev.bltRun_fst {d : Dev} {o : BltOp} {full part : Nat} {dx : Dev} {rx : BltSum} (hs : d.Sound) (he : d.bltRun o full part = (dx, rx)) :
    dx.Sound := by
  have := Dev.bltRun_sound o full part hs
  rwa [he] at this

theorem Dev.bltOpDone_sound {d : Dev} (full part : Nat) (hs : d.Sound) : (d.bltOpDone full part).Sound := by
  unfold Dev.bltOpDone
  repeat' first
    | (with_reducible first | assumption | apply Dev.bltPublish_sound | apply Dev.bltRun_sound)
    | (refine Dev.bltRun_fst ?_ (by assumption)) | split | dsimp only | with_reducible refine Dev.sound_mk (Dev.sound_mem ?_) (Dev.sound_fm ?_)

theorem Dev.bltFence_sound {d : Dev} (hs : d.Sound) : d.bltFence.Sound := by
  unfold Dev.bltFence
  repeat' first
    | (with_reducible first | assumption | apply Dev.flag_sound | apply Dev.dramWrite_sound)
    | (refine Dev.dramWrite_fst ?_ (by assumption)) | split | dsimp only | with_reducible refine Dev.sound_mk (Dev.sound_mem ?_) (Dev.sound_fm ?_)

end Sys2Proof.Machine
end

