-- ==== Sys2Proof/Laws/SoundRope.lean ====
section
/-! SUPPORT. Every operation keeps DDR5 and frame memory in their canonical form: Rope. -/

namespace Sys2Proof.Machine

theorem Dev.say_sound {d : Dev} (t : RopeTo) (m : RopeMsg) (hs : d.Sound) : (d.say t m).Sound :=
  Dev.onRope_sound _ hs

theorem Dev.hush_sound {d : Dev} (hs : d.Sound) : d.hush.Sound :=
  Dev.onRope_sound _ hs

theorem Dev.rpgReject_sound {d : Dev} (r : Requester) (off reason : Nat) (hs : d.Sound) : (d.rpgReject r off reason).Sound := by
  unfold Dev.rpgReject
  repeat' first | (with_reducible first | assumption | apply Dev.wrN_sound | apply Dev.reject_sound) | split | dsimp only

theorem Dev.setRopeState_sound {d : Dev} (p v : Nat) (hs : d.Sound) : (d.setRopeState p v).Sound := by
  unfold Dev.setRopeState
  repeat' first | (with_reducible first | assumption | apply Dev.setF_sound) | split | dsimp only

theorem Dev.setTeamState_sound {d : Dev} (v : Nat) (hs : d.Sound) : (d.setTeamState v).Sound := by
  unfold Dev.setTeamState
  repeat' first | (with_reducible first | assumption | apply Dev.setF_sound) | split | dsimp only

theorem Dev.ropeBringUp_sound {d : Dev} (p : Nat) (hs : d.Sound) : (d.ropeBringUp p).Sound := by
  unfold Dev.ropeBringUp
  repeat' first
    | (with_reducible first
          | assumption | apply Dev.onCore_sound | apply Dev.countUp_sound | apply Dev.applyPage_sound | apply Dev.setRopeState_sound)
    | split | dsimp only

theorem Dev.takeHello_sound {d : Dev} (p : Nat) (h : Hello) (hs : d.Sound) : (d.takeHello p h).Sound := by
  unfold Dev.takeHello
  repeat' first | (with_reducible first | assumption | apply Dev.wr_sound | apply Dev.setF_sound | apply Dev.flag_sound) | split | dsimp only

theorem Dev.incompat_sound {d : Dev} (p : Nat) (hs : d.Sound) : (d.incompat p).Sound := by
  unfold Dev.incompat
  repeat' first | (with_reducible first | assumption | apply Dev.flag_sound | apply Dev.setRopeState_sound) | split | dsimp only

theorem Dev.takeRole_sound {d : Dev} (hs : d.Sound) : d.takeRole.Sound :=
  Dev.onRope_sound _ hs

theorem Dev.flood_sound {d : Dev} (except : Nat) (c : Claim) (hs : d.Sound) : (d.flood except c).Sound := by
  unfold Dev.flood
  repeat' first | (with_reducible first | assumption | apply Dev.say_sound | refine Dev.foldl_sound (fun _ _ _ => ?_) ?_) | split | dsimp only

theorem Dev.startElection_sound {d : Dev} (hs : d.Sound) : d.startElection.Sound := by
  unfold Dev.startElection
  repeat' first
    | (with_reducible first | assumption | apply Dev.onRope_sound | apply Dev.setTeamState_sound | apply Dev.flood_sound)
    | split | dsimp only

theorem Dev.meetNeighbour_sound {d : Dev} (p : Nat) (hs : d.Sound) : (d.meetNeighbour p).Sound := by
  unfold Dev.meetNeighbour
  repeat' first
    | (with_reducible first
          | assumption | apply Dev.say_sound | apply Dev.setTeamState_sound | apply Dev.takeRole_sound | apply Dev.startElection_sound)
    | split | dsimp only

theorem Dev.claimReceived_sound {d : Dev} (p : Nat) (c : Claim) (hs : d.Sound) : (d.claimReceived p c).Sound := by
  unfold Dev.claimReceived
  repeat' first
    | (with_reducible first
          | assumption | apply Dev.onRope_sound | apply Dev.say_sound | apply Dev.hush_sound | apply Dev.setTeamState_sound
          | apply Dev.takeRole_sound | apply Dev.flood_sound)
    | split | dsimp only

theorem Dev.electionEnd_sound {d : Dev} (hs : d.Sound) : d.electionEnd.Sound := by
  unfold Dev.electionEnd
  repeat' first
    | (with_reducible first
          | assumption | apply Dev.onRope_sound | apply Dev.setB_sound | apply Dev.flag_sound | apply Dev.advance_sound | apply Dev.say_sound
          | apply Dev.hush_sound | apply Dev.setTeamState_sound | apply Dev.enumerate_sound | refine Dev.foldl_sound (fun _ _ _ => ?_) ?_)
    | split | dsimp only

theorem Dev.enumerate_sound {d : Dev} (hs : d.Sound) : d.enumerate.Sound := by
  unfold Dev.enumerate
  repeat' first
    | (with_reducible first
          | assumption | apply Dev.onRope_sound | apply Dev.setB_sound | apply Dev.say_sound | apply Dev.hush_sound | apply Dev.setTeamState_sound
          | apply Dev.takeRole_sound | apply Dev.startElection_sound | refine Dev.foldl_sound (fun _ _ _ => ?_) ?_)
    | split | dsimp only

theorem Dev.showTables_sound {d : Dev} (t : Tables) (hs : d.Sound) : (d.showTables t).Sound := by
  unfold Dev.showTables
  repeat' first
    | (with_reducible first | assumption | apply Dev.onRope_sound | apply Dev.setF_sound | apply Dev.setB_sound | apply Dev.wrN_sound)
    | split | dsimp only

theorem Dev.assignAll_sound {d : Dev} (t : Tables) (hs : d.Sound) : (d.assignAll t).Sound := by
  unfold Dev.assignAll
  repeat' first | (with_reducible first | assumption | apply Dev.say_sound | refine Dev.foldl_sound (fun _ _ _ => ?_) ?_) | split | dsimp only

theorem Dev.teamFormed_sound {d : Dev} (x : TeamResult) (hs : d.Sound) : (d.teamFormed x).Sound := by
  unfold Dev.teamFormed
  repeat' first
    | (with_reducible first
          | assumption | apply Dev.onRope_sound | apply Dev.setF_sound | apply Dev.flag_sound | apply Dev.hush_sound | apply Dev.setTeamState_sound
          | apply Dev.showTables_sound | apply Dev.assignAll_sound)
    | split | dsimp only

theorem Dev.memberJoin_sound {d : Dev} (x : TeamResult) (hs : d.Sound) : (d.memberJoin x).Sound := by
  unfold Dev.memberJoin
  repeat' first
    | (with_reducible first
          | assumption | apply Dev.setF_sound | apply Dev.flag_sound | apply Dev.say_sound | apply Dev.hush_sound | apply Dev.setTeamState_sound
          | apply Dev.showTables_sound | apply Dev.assignAll_sound | refine Dev.foldl_sound (fun _ _ _ => ?_) ?_)
    | split | dsimp only

theorem Dev.rerouteTables_sound {d : Dev} (x : TeamResult) (hs : d.Sound) : (d.rerouteTables x).Sound := by
  unfold Dev.rerouteTables
  repeat' first
    | (with_reducible first
          | assumption | apply Dev.onRope_sound | apply Dev.flag_sound | apply Dev.hush_sound | apply Dev.showTables_sound
          | apply Dev.assignAll_sound)
    | split | dsimp only

theorem Dev.setTiming_sound {d : Dev} (v : Nat) (hs : d.Sound) : (d.setTiming v).Sound := by
  unfold Dev.setTiming
  repeat' first | (with_reducible first | assumption | apply Dev.setF_sound) | split | dsimp only

theorem Dev.toChildren_sound {d : Dev} (m : RopeMsg) (hs : d.Sound) : (d.toChildren m).Sound := by
  unfold Dev.toChildren
  repeat' first | (with_reducible first | assumption | apply Dev.say_sound | refine Dev.foldl_sound (fun _ _ _ => ?_) ?_) | split | dsimp only

theorem Dev.syncSend_sound {d : Dev} (hs : d.Sound) : d.syncSend.Sound := by
  unfold Dev.syncSend
  repeat' first | (with_reducible first | assumption | apply Dev.hush_sound | apply Dev.toChildren_sound) | split | dsimp only

theorem Dev.syncReceived_sound {d : Dev} (p time : Nat) (err : Int) (locked : Bool) (hs : d.Sound) : (d.syncReceived p time err locked).Sound := by
  unfold Dev.syncReceived
  repeat' first
    | (with_reducible first
          | assumption | apply Dev.onRope_sound | apply Dev.wrN_sound | apply Dev.flag_sound | apply Dev.hush_sound | apply Dev.setTiming_sound
          | apply Dev.toChildren_sound)
    | split | dsimp only

theorem Dev.announce_sound {d : Dev} (t : Tick) (s : Nat) (hs : d.Sound) : (d.announce t s).Sound := by
  unfold Dev.announce
  repeat' first
    | (with_reducible first
          | assumption | apply Dev.setCad_sound | apply Dev.setF_sound | apply Dev.setCadBit_sound | apply Dev.withRate_sound
          | apply Dev.ratePorts_sound)
    | split | dsimp only

theorem Dev.tickReceived_sound {d : Dev} (p : Nat) (t : Tick) (hs : d.Sound) : (d.tickReceived p t).Sound := by
  unfold Dev.tickReceived
  repeat' first
    | (with_reducible first
          | assumption | apply Dev.onRope_sound | apply Dev.hush_sound | apply Dev.toChildren_sound | apply Dev.announce_sound
          | apply Dev.tick_sound | refine Dev.foldl_sound (fun _ _ _ => ?_) ?_)
    | split | dsimp only

theorem Dev.setMismatch_sound {d : Dev} (s : Nat) (b : Bool) (hs : d.Sound) : (d.setMismatch s b).Sound := by
  unfold Dev.setMismatch
  repeat' first | (with_reducible first | assumption | apply Dev.onRope_sound | apply Dev.setB_sound | apply Dev.flag_sound) | split | dsimp only

theorem Dev.teamTick_sound {d : Dev} (s : Nat) (n : Option Nat) (hs : d.Sound) : (d.teamTick s n).Sound := by
  unfold Dev.teamTick
  repeat' first
    | (with_reducible first
          | assumption | apply Dev.setCad_sound | apply Dev.onRope_sound | apply Dev.toChildren_sound | apply Dev.announce_sound
          | apply Dev.setMismatch_sound | apply Dev.tick_sound | apply Dev.hush_sound | refine Dev.foldl_sound (fun _ _ _ => ?_) ?_)
    | split | dsimp only

theorem Dev.linkDelay_sound {d : Dev} (p delay : Nat) (hs : d.Sound) : (d.linkDelay p delay).Sound := by
  unfold Dev.linkDelay
  repeat' first | (with_reducible first | assumption | apply Dev.wrN_sound) | split | dsimp only

theorem Dev.moveParent_sound {d : Dev} (p : Nat) (lost : Bool) (hs : d.Sound) : (d.moveParent p lost).Sound := by
  unfold Dev.moveParent
  repeat' first
    | (with_reducible first | assumption | apply Dev.onRope_sound | apply Dev.setF_sound | apply Dev.flag_sound | apply Dev.setTiming_sound)
    | split | dsimp only

theorem Dev.returnParent_sound {d : Dev} (hs : d.Sound) : d.returnParent.Sound := by
  unfold Dev.returnParent
  repeat' first | (with_reducible first | assumption | apply Dev.onRope_sound | apply Dev.setF_sound) | split | dsimp only

theorem Dev.dropUnreached_sound {d : Dev} (gone : Option Nat) (hs : d.Sound) : (d.dropUnreached gone).Sound := by
  unfold Dev.dropUnreached
  repeat' first
    | (with_reducible first | assumption | apply Dev.onRope_sound | apply Dev.flag_sound | apply Dev.showTables_sound)
    | split | dsimp only

theorem Dev.portDown_sound {d : Dev} (p : Nat) (left : Bool) (hs : d.Sound) : (d.portDown p left).Sound := by
  unfold Dev.portDown
  repeat' first
    | (with_reducible first
          | assumption | apply Dev.inc_sound | apply Dev.flag_sound | apply Dev.hush_sound | apply Dev.setRopeState_sound
          | apply Dev.moveParent_sound | apply Dev.dropUnreached_sound)
    | split | dsimp only

theorem Dev.ropePortUp_sound {d : Dev} (p : Nat) (h : Hello) (delay : Nat) (hs : d.Sound) : (d.ropePortUp p h delay).Sound := by
  unfold Dev.ropePortUp
  repeat' first
    | (with_reducible first
          | assumption | apply Dev.setB_sound | apply Dev.wrN_sound | apply Dev.flag_sound | apply Dev.hush_sound | apply Dev.setRopeState_sound
          | apply Dev.takeHello_sound | apply Dev.incompat_sound | apply Dev.meetNeighbour_sound | apply Dev.returnParent_sound)
    | split | dsimp only

theorem Dev.ropeRetrain_sound {d : Dev} (r : Requester) (p : Nat) (hs : d.Sound) : (d.ropeRetrain r p).Sound := by
  unfold Dev.ropeRetrain
  repeat' first
    | (with_reducible first
          | assumption | apply Dev.wrN_sound | apply Dev.reject_sound | apply Dev.hush_sound | apply Dev.ropeBringUp_sound
          | apply Dev.moveParent_sound)
    | split | dsimp only

theorem Dev.ropeRetry_sound {d : Dev} (p : Nat) (hs : d.Sound) : (d.ropeRetry p).Sound := by
  unfold Dev.ropeRetry
  repeat' first | (with_reducible first | assumption | apply Dev.ropeBringUp_sound) | split | dsimp only

theorem Dev.ropeStart_sound {d : Dev} (hs : d.Sound) : d.ropeStart.Sound := by
  unfold Dev.ropeStart
  repeat' first
    | (with_reducible first | assumption | apply Dev.ropeBringUp_sound | refine Dev.foldl_sound (fun _ _ _ => ?_) ?_)
    | split | dsimp only

theorem Dev.helloSend_sound {d : Dev} (p : Fin 4) (hs : d.Sound) : (d.helloSend p).Sound := by
  unfold Dev.helloSend
  repeat' first | (with_reducible first | assumption | apply Dev.say_sound | apply Dev.hush_sound) | split | dsimp only

theorem Dev.helloReceived_sound {d : Dev} (p : Nat) (h : Hello) (hs : d.Sound) : (d.helloReceived p h).Sound := by
  unfold Dev.helloReceived
  repeat' first | (with_reducible first | assumption | apply Dev.takeHello_sound | apply Dev.incompat_sound) | split | dsimp only

theorem Dev.replay_sound {d : Dev} (p corr : Nat) (uncorr sender : Bool) (hs : d.Sound) : (d.replay p corr uncorr sender).Sound := by
  unfold Dev.replay
  repeat' first
    | (with_reducible first
          | assumption | apply Dev.wr_sound | apply Dev.inc_sound | apply Dev.flag_sound | apply Dev.say_sound | apply Dev.hush_sound)
    | split | dsimp only

theorem Dev.keepaliveSend_sound {d : Dev} (p : Nat) (hs : d.Sound) : (d.keepaliveSend p).Sound := by
  unfold Dev.keepaliveSend
  repeat' first | (with_reducible first | assumption | apply Dev.say_sound | apply Dev.hush_sound) | split | dsimp only

theorem Dev.ropeSleep_sound {d : Dev} (hs : d.Sound) : d.ropeSleep.Sound := by
  unfold Dev.ropeSleep
  repeat' first
    | (with_reducible first
          | assumption | apply Dev.setB_sound | apply Dev.hush_sound | apply Dev.setRopeState_sound | apply Dev.portDown_sound
          | refine Dev.foldl_sound (fun _ _ _ => ?_) ?_)
    | split | dsimp only

theorem Dev.ropeWake_sound {d : Dev} (hs : d.Sound) : d.ropeWake.Sound := by
  unfold Dev.ropeWake
  repeat' first
    | (with_reducible first | assumption | apply Dev.setB_sound | apply Dev.setRopeState_sound | refine Dev.foldl_sound (fun _ _ _ => ?_) ?_)
    | split | dsimp only

theorem Dev.orphanElection_sound {d : Dev} (winner : Option (Nat × Nat)) (hs : d.Sound) : (d.orphanElection winner).Sound := by
  unfold Dev.orphanElection
  repeat' first
    | (with_reducible first
          | assumption | apply Dev.onRope_sound | apply Dev.setF_sound | apply Dev.setB_sound | apply Dev.wrN_sound | apply Dev.flag_sound
          | apply Dev.advance_sound | apply Dev.hush_sound | apply Dev.setTeamState_sound)
    | split | dsimp only

theorem Dev.armHook_sound {d : Dev} (x : Page × Nat) (hs : d.Sound) : (d.armHook x).Sound := by
  unfold Dev.armHook
  repeat' first | (with_reducible first | assumption | apply Dev.toneArm_sound | apply Dev.startStaging_sound) | split | dsimp only

theorem Dev.cancelHook_sound {d : Dev} (x : Page × Nat) (hs : d.Sound) : (d.cancelHook x).Sound := by
  unfold Dev.cancelHook
  repeat' first | (with_reducible first | assumption | apply Dev.toneForget_sound) | split | dsimp only

theorem Dev.armNow_sound {d : Dev} (p : Page) (n : Nat) (hs : d.Sound) : (d.armNow p n).Sound := by
  unfold Dev.armNow
  repeat' first
    | (with_reducible first
          | assumption | apply Dev.onCore_sound | apply Dev.armPage_sound | apply Dev.applyPage_sound | apply Dev.pllCheck_sound
          | apply Dev.xptCheck_sound | apply Dev.retrain_sound | apply Dev.applyIdle_sound | apply Dev.mccCheck_sound | apply Dev.ropeBringUp_sound)
    | split | dsimp only

theorem Dev.armPortions_sound {d : Dev} (p : Page) (hs : d.Sound) : (d.armPortions p).Sound := by
  unfold Dev.armPortions
  repeat' first | (with_reducible first | assumption | apply Dev.armPage_sound | apply Dev.portionsNow_sound) | split | dsimp only

theorem Dev.armNext_sound {d : Dev} (p : Page) (n : Nat) (hs : d.Sound) : (d.armNext p n).Sound := by
  unfold Dev.armNext
  repeat' first
    | (with_reducible first
          | assumption | apply Dev.commitStat_sound | apply Dev.armPage_sound | apply Dev.refreshBoundary_sound | apply Dev.armHook_sound
          | apply Dev.armNow_sound | apply Dev.armPortions_sound)
    | split | dsimp only

theorem Dev.commitArm_sound {d : Dev} (r : Requester) (p : Page) (n : Nat) (hs : d.Sound) : (d.commitArm r p n).Sound := by
  unfold Dev.commitArm
  repeat' first | (with_reducible first | assumption | apply Dev.reject_sound | apply Dev.armNext_sound) | split | dsimp only

theorem Dev.cancelPage_sound {d : Dev} (r : Requester) (p : Page) (n : Nat) (hs : d.Sound) : (d.cancelPage r p n).Sound := by
  unfold Dev.cancelPage
  repeat' first
    | (with_reducible first | assumption | apply Dev.commitCancel_sound | apply Dev.cancelHook_sound | refine Dev.foldl_sound (fun _ _ _ => ?_) ?_)
    | split | dsimp only

theorem Dev.commitWrite_sound {d : Dev} (r : Requester) (p : Page) (n : Nat) (v : Word) (hs : d.Sound) : (d.commitWrite r p n v).Sound := by
  unfold Dev.commitWrite
  repeat' first
    | (with_reducible first | assumption | apply Dev.reject_sound | apply Dev.commitArm_sound | apply Dev.cancelPage_sound)
    | split | dsimp only

theorem Dev.groupArm_sound {d d1 : Dev} {s : Nat} {target : Option Nat} {team : Bool} (h : d.Sound)
    (e : d.groupArm s target team = .ok d1) : d1.Sound := by
  unfold Dev.groupArm at e
  generalize d.groupPages s (if team then 1 else 0) = pages at e
  split at e
  · cases e
  · rename_i y now hy
    have h1 := Dev.groupArmOne_sound h hy
    have h2 := Dev.foldl_sound (l := (now.filter fun x => x.1.boundary == .vbl)) (f := fun x y => x.applyIdle y.1 y.2)
      (fun x a hx => Dev.applyIdle_sound _ _ hx)
      (Dev.foldl_sound (l := pages) (fun x a hx => Dev.armHook_sound a hx) h1)
    split at e
    · cases e; exact h2
    · cases e
      repeat' first
        | (with_reducible first | assumption | apply Dev.setGroup_sound | apply Dev.sceneApply_sound | apply Dev.groupStep_sound)
        | split

theorem Dev.groupCancelScene_sound {d : Dev} (r : Requester) (s : Nat) (hs : d.Sound) : (d.groupCancelScene r s).Sound := by
  unfold Dev.groupCancelScene
  repeat' first
    | (with_reducible first
          | assumption | apply Dev.groupCancelOne_sound | apply Dev.cancelHook_sound | refine Dev.foldl_sound (fun _ _ _ => ?_) ?_)
    | split | dsimp only

theorem Dev.groupDrop_sound {d : Dev} (s : Nat) (hs : d.Sound) : (d.groupDrop s).Sound := by
  unfold Dev.groupDrop
  repeat' first
    | (with_reducible first | assumption | apply Dev.groupDisarm_sound | apply Dev.cancelHook_sound | refine Dev.foldl_sound (fun _ _ _ => ?_) ?_)
    | split | dsimp only

theorem Dev.groupWrite_sound {d : Dev} (r : Requester) (arm cancel : Nat) (atFrame : Bool) (hs : d.Sound) : (d.groupWrite r arm cancel
    atFrame).Sound := by
  unfold Dev.groupWrite
  repeat' first
    | (with_reducible first | assumption | apply Dev.reject_sound | apply Dev.groupCancelScene_sound | refine Dev.foldl_sound (fun _ _ _ => ?_) ?_)
    | (refine Dev.groupArm_sound ?_ (by assumption)) | split | dsimp only

theorem Dev.sayTo_sound {d : Dev} (ids : List Nat) (m : RopeMsg) (hs : d.Sound) : (d.sayTo ids m).Sound := by
  unfold Dev.sayTo
  repeat' first | (with_reducible first | assumption | apply Dev.say_sound) | split | dsimp only

theorem Dev.tcOutcome_sound {d : Dev} (o : TcOutcome) (hs : d.Sound) : (d.tcOutcome o).Sound := by
  unfold Dev.tcOutcome
  repeat' first | (with_reducible first | assumption | apply Dev.wrN_sound | apply Dev.flag_sound) | split | dsimp only

theorem Dev.tcTell_sound {d : Dev} (origin : Nat) (o : TcOutcome) (hs : d.Sound) : (d.tcTell origin o).Sound := by
  unfold Dev.tcTell
  repeat' first | (with_reducible first | assumption | apply Dev.sayTo_sound | apply Dev.tcOutcome_sound) | split | dsimp only

theorem Dev.armScenes_sound {d d1 : Dev} {target : Nat} {l : List Nat} (h : d.Sound) (e : d.armScenes target l = .ok d1) : d1.Sound := by
  induction l generalizing d with
  | nil => cases e; exact h
  | cons s r ih =>
    unfold Dev.armScenes at e
    split at e
    · cases e
    · exact ih (Dev.groupArm_sound h (by assumption)) e

theorem Dev.tcArmHere_sound {d d1 : Dev} {commit : Nat} {q : TcReq} (h : d.Sound) (e : d.tcArmHere commit q = .ok d1) : d1.Sound := by
  unfold Dev.tcArmHere at e
  dsimp only at e
  split at e
  · cases e
  · split at e
    · cases e
    · split at e
      · cases e
      · rename_i y hy
        have h1 := Dev.armScenes_sound h hy
        split at e
        · cases e
        · split at e
          · cases e
          · cases e; exact h1

theorem Dev.tcCancelHere_sound {d : Dev} (commit : Nat) (hs : d.Sound) : (d.tcCancelHere commit).1.Sound := by
  unfold Dev.tcCancelHere
  repeat' first
    | (with_reducible first | assumption | apply Dev.onRope_sound | apply Dev.groupDrop_sound | refine Dev.foldl_sound (fun _ _ _ => ?_) ?_)
    | split | dsimp only
theorem Dev.tcCancelHere_fst {d : Dev} {commit : Nat} {dx : Dev} {rx : Bool} (hs : d.Sound) (he : d.tcCancelHere commit = (dx, rx)) : dx.Sound := by
  have := Dev.tcCancelHere_sound commit hs
  rwa [he] at this

theorem Dev.tcCancelAll_sound {d : Dev} (x : TcRun) (hs : d.Sound) : (d.tcCancelAll x).1.Sound := by
  unfold Dev.tcCancelAll
  repeat' first
    | (with_reducible first | assumption | apply Dev.sayTo_sound | apply Dev.tcCancelHere_sound)
    | (refine Dev.tcCancelHere_fst ?_ (by assumption)) | split | dsimp only
theorem Dev.tcCancelAll_fst {d : Dev} {x : TcRun} {dx : Dev} {rx : TcRun} (hs : d.Sound) (he : d.tcCancelAll x = (dx, rx)) : dx.Sound := by
  have := Dev.tcCancelAll_sound x hs
  rwa [he] at this

theorem Dev.tcBegin_sound {d : Dev} (q : TcReq) (hs : d.Sound) : (d.tcBegin q).1.Sound := by
  unfold Dev.tcBegin
  repeat' first
    | (with_reducible first | assumption | apply Dev.freeStep_sound | apply Dev.sayTo_sound | apply Dev.tcTell_sound)
    | (refine Dev.tcArmHere_sound ?_ (by assumption)) | split | dsimp only
theorem Dev.tcBegin_fst {d : Dev} {q : TcReq} {dx : Dev} {rx : Option TcRun} (hs : d.Sound) (he : d.tcBegin q = (dx, rx)) : dx.Sound := by
  have := Dev.tcBegin_sound q hs
  rwa [he] at this

theorem Dev.tcUnwind_sound {d : Dev} (x : TcRun) (hs : d.Sound) : (d.tcUnwind x).1.Sound := by
  unfold Dev.tcUnwind
  repeat' first
    | (with_reducible first | assumption | apply Dev.tcCancelAll_sound)
    | (refine Dev.tcCancelAll_fst ?_ (by assumption)) | split | dsimp only
theorem Dev.tcUnwind_fst {d : Dev} {x : TcRun} {dx : Dev} {rx : TcRun} (hs : d.Sound) (he : d.tcUnwind x = (dx, rx)) : dx.Sound := by
  have := Dev.tcUnwind_sound x hs
  rwa [he] at this

theorem Dev.tcAdvance_sound {d : Dev} (n : Nat) (h : d.Sound) : (Dev.tcAdvance n d).Sound := by
  induction n generalizing d with
  | zero => exact h
  | succ n ih =>
    unfold Dev.tcAdvance
    repeat' first
      | (with_reducible first
            | assumption | apply ih | apply Dev.onRope_sound | apply Dev.flag_sound | apply Dev.tcTell_sound | apply Dev.tcBegin_sound
            | apply Dev.tcUnwind_sound)
      | (refine Dev.tcBegin_fst ?_ (by assumption)) | (refine Dev.tcUnwind_fst ?_ (by assumption)) | split | dsimp only

theorem Dev.tcRunOn_sound {d : Dev} (hs : d.Sound) : d.tcRunOn.Sound := by
  unfold Dev.tcRunOn
  repeat' first
    | (with_reducible first | assumption | apply Dev.tcAdvance_sound)
    | (refine Dev.tcAdvance_fst ?_ (by assumption)) | split | dsimp only

theorem Dev.tcArrive_sound {d : Dev} (q : TcReq) (hs : d.Sound) : (d.tcArrive q).Sound := by
  unfold Dev.tcArrive
  repeat' first
    | (with_reducible first | assumption | apply Dev.onRope_sound | apply Dev.tcTell_sound | apply Dev.tcRunOn_sound | apply Dev.hush_sound)
    | split | dsimp only

theorem Dev.tcSend_sound {d : Dev} (r : Requester) (hs : d.Sound) : (d.tcSend r).Sound := by
  unfold Dev.tcSend
  repeat' first
    | (with_reducible first
          | assumption | apply Dev.wrN_sound | apply Dev.hush_sound | apply Dev.rpgReject_sound | apply Dev.sayTo_sound | apply Dev.tcArrive_sound)
    | split | dsimp only

theorem Dev.tcArmReceived_sound {d : Dev} (commit : Nat) (q : TcReq) (hs : d.Sound) : (d.tcArmReceived commit q).Sound := by
  unfold Dev.tcArmReceived
  repeat' first
    | (with_reducible first | assumption | apply Dev.hush_sound | apply Dev.sayTo_sound)
    | (refine Dev.tcArmHere_sound ?_ (by assumption)) | split | dsimp only

theorem Dev.tcReplyReceived_sound {d : Dev} (id commit reason : Nat) (cancelled : Option Bool) (hs : d.Sound) : (d.tcReplyReceived id commit reason
    cancelled).Sound := by
  unfold Dev.tcReplyReceived
  repeat' first
    | (with_reducible first | assumption | apply Dev.onRope_sound | apply Dev.hush_sound | apply Dev.sayTo_sound | apply Dev.tcRunOn_sound)
    | split | dsimp only

theorem Dev.tcAckTimeout_sound {d : Dev} (hs : d.Sound) : d.tcAckTimeout.Sound := by
  unfold Dev.tcAckTimeout
  repeat' first
    | (with_reducible first | assumption | apply Dev.onRope_sound | apply Dev.advance_sound | apply Dev.hush_sound | apply Dev.tcRunOn_sound)
    | split | dsimp only

theorem Dev.tcCancelReceived_sound {d : Dev} (commit : Nat) (hs : d.Sound) : (d.tcCancelReceived commit).Sound := by
  unfold Dev.tcCancelReceived
  repeat' first
    | (with_reducible first | assumption | apply Dev.hush_sound | apply Dev.sayTo_sound | apply Dev.tcCancelHere_sound)
    | (refine Dev.tcCancelHere_fst ?_ (by assumption)) | split | dsimp only

theorem Dev.tcOutcomeReceived_sound {d : Dev} (o : TcOutcome) (hs : d.Sound) : (d.tcOutcomeReceived o).Sound := by
  unfold Dev.tcOutcomeReceived
  repeat' first | (with_reducible first | assumption | apply Dev.tcOutcome_sound) | split | dsimp only

theorem Dev.setChan_sound {d : Dev} (c : Nat) (x : Option Xch) (hs : d.Sound) : (d.setChan c x).Sound :=
  Dev.onRope_sound _ hs

theorem Dev.readLines_sound {d : Dev} (l : List (Nat × Nat)) (acc : List XPiece) (den bad : Bool) (h : d.Sound) :
    (d.readLines l acc den bad).1.Sound := by
  induction l generalizing d acc den bad with
  | nil => exact h
  | cons x r ih =>
    unfold Dev.readLines
    repeat' first
      | (with_reducible first | assumption | apply ih | apply Dev.onCore_sound | apply Dev.dramRead_sound)
      | (refine Dev.dramRead_fst ?_ (by assumption)) | split | dsimp only

theorem Dev.sendSegment_sound {d : Dev} (x : Xch) (seg : XSeg) (hs : d.Sound) : (d.sendSegment x seg).Sound := by
  unfold Dev.sendSegment
  repeat' first | (with_reducible first | assumption | apply Dev.sayTo_sound | refine Dev.foldl_sound (fun _ _ _ => ?_) ?_) | split | dsimp only

theorem Dev.runSegment_sound {d : Dev} (c : Fin 8) (x : Xch) (hs : d.Sound) : (d.runSegment c x).Sound := by
  unfold Dev.runSegment
  repeat' first
    | (with_reducible first | assumption | apply Dev.setChan_sound | apply Dev.readLines_sound | apply Dev.sendSegment_sound)
    | (refine Dev.readLines_fst ?_ (by assumption)) | split | dsimp only

theorem Dev.xstat_sound {d : Dev} (c : Nat) (busy : Bool) (result : Nat) (hs : d.Sound) : (d.xstat c busy result).Sound := by
  unfold Dev.xstat
  repeat' first | (with_reducible first | assumption | apply Dev.wrN_sound) | split | dsimp only

theorem Dev.xferEnd_sound {d : Dev} (c result : Nat) (hs : d.Sound) : (d.xferEnd c result).Sound := by
  unfold Dev.xferEnd
  repeat' first | (with_reducible first | assumption | apply Dev.flag_sound | apply Dev.setChan_sound | apply Dev.xstat_sound) | split | dsimp only

theorem Dev.xferOn_sound {d : Dev} (c : Fin 8) (x : Xch) (hs : d.Sound) : (d.xferOn c x).Sound := by
  unfold Dev.xferOn
  repeat' first
    | (with_reducible first | assumption | apply Dev.setChan_sound | apply Dev.runSegment_sound | apply Dev.xferEnd_sound)
    | split | dsimp only

theorem Dev.xferStart_sound {d : Dev} (r : Requester) (c : Fin 8) (hs : d.Sound) : (d.xferStart r c).Sound := by
  unfold Dev.xferStart
  repeat' first
    | (with_reducible first
          | assumption | apply Dev.wrN_sound | apply Dev.hush_sound | apply Dev.rpgReject_sound | apply Dev.runSegment_sound | apply Dev.xstat_sound
          | apply Dev.xferEnd_sound)
    | split | dsimp only

theorem Dev.xferAbort_sound {d : Dev} (c : Nat) (hs : d.Sound) : (d.xferAbort c).Sound := by
  unfold Dev.xferAbort
  repeat' first | (with_reducible first | assumption | apply Dev.hush_sound | apply Dev.sayTo_sound | apply Dev.xferEnd_sound) | split | dsimp only

theorem Dev.xferAck_sound {d : Dev} (c : Fin 8) (id index result : Nat) (hs : d.Sound) : (d.xferAck c id index result).Sound := by
  unfold Dev.xferAck
  repeat' first | (with_reducible first | assumption | apply Dev.wr_sound | apply Dev.hush_sound | apply Dev.xferOn_sound) | split | dsimp only

theorem Dev.xferTimeout_sound {d : Dev} (c : Fin 8) (id : Nat) (hs : d.Sound) : (d.xferTimeout c id).Sound := by
  unfold Dev.xferTimeout
  repeat' first
    | (with_reducible first | assumption | apply Dev.hush_sound | apply Dev.setChan_sound | apply Dev.runSegment_sound | apply Dev.xferOn_sound)
    | split | dsimp only

theorem Dev.putRx_sound {d : Dev} (x : XRx) (hs : d.Sound) : (d.putRx x).Sound :=
  Dev.onRope_sound _ hs

theorem Dev.writePieces_sound {d : Dev} (l : List XPiece) (den : Bool) (h : d.Sound) : (d.writePieces l den).1.Sound := by
  induction l generalizing d den with
  | nil => exact h
  | cons p r ih => exact ih _ (Dev.dramWrite_sound _ _ _ _ h)

theorem Dev.xferSegment_sound {d : Dev} (s : XSeg) (hs : d.Sound) : (d.xferSegment s).Sound := by
  unfold Dev.xferSegment
  repeat' first
    | (with_reducible first | assumption | apply Dev.hush_sound | apply Dev.sayTo_sound | apply Dev.putRx_sound | apply Dev.writePieces_sound)
    | (refine Dev.writePieces_fst ?_ (by assumption)) | split | dsimp only

theorem Dev.ackOwed_sound {d : Dev} (x : XRx) (hs : d.Sound) : (d.ackOwed x).Sound := by
  unfold Dev.ackOwed
  repeat' first
    | (with_reducible first | assumption | apply Dev.sayTo_sound | apply Dev.putRx_sound | refine Dev.foldl_sound (fun _ _ _ => ?_) ?_)
    | split | dsimp only

theorem Dev.xferFence_sound {d : Dev} (sender chan : Nat) (hs : d.Sound) : (d.xferFence sender chan).Sound := by
  unfold Dev.xferFence
  repeat' first
    | (with_reducible first | assumption | apply Dev.dramWrite_sound | apply Dev.hush_sound | apply Dev.putRx_sound | apply Dev.ackOwed_sound)
    | (refine Dev.dramWrite_fst ?_ (by assumption)) | split | dsimp only | with_reducible refine Dev.sound_mk (Dev.sound_mem ?_) (Dev.sound_fm ?_)

theorem Dev.rregEnd_sound {d : Dev} (result : Nat) (data : Option Word) (hs : d.Sound) : (d.rregEnd result data).Sound := by
  unfold Dev.rregEnd
  repeat' first
    | (with_reducible first | assumption | apply Dev.onRope_sound | apply Dev.wr_sound | apply Dev.wrN_sound | apply Dev.flag_sound)
    | split | dsimp only

theorem Dev.rregGo_sound {d : Dev} (r : Requester) (hs : d.Sound) : (d.rregGo r).Sound := by
  unfold Dev.rregGo
  repeat' first
    | (with_reducible first
          | assumption | apply Dev.onRope_sound | apply Dev.wrN_sound | apply Dev.hush_sound | apply Dev.rpgReject_sound | apply Dev.sayTo_sound
          | apply Dev.rregEnd_sound | apply Dev.rregRequest_sound)
    | split | dsimp only

theorem Dev.rregReply_sound {d : Dev} (result : Nat) (data : Word) (hs : d.Sound) : (d.rregReply result data).Sound := by
  unfold Dev.rregReply
  repeat' first | (with_reducible first | assumption | apply Dev.rregEnd_sound) | split | dsimp only

theorem Dev.rregTimeout_sound {d : Dev} (hs : d.Sound) : d.rregTimeout.Sound := by
  unfold Dev.rregTimeout
  repeat' first | (with_reducible first | assumption | apply Dev.advance_sound | apply Dev.rregEnd_sound) | split | dsimp only

theorem Dev.hopDrop_sound {d : Dev} (origin source seq : Nat) (hs : d.Sound) : (d.hopDrop origin source seq).Sound := by
  unfold Dev.hopDrop
  repeat' first | (with_reducible first | assumption | apply Dev.onRope_sound | apply Dev.inc_sound) | split | dsimp only

theorem Dev.hopSummary_sound {d : Dev} (dst : Nat) (hs : d.Sound) : (d.hopSummary dst).Sound := by
  unfold Dev.hopSummary
  repeat' first | (with_reducible first | assumption | apply Dev.onRope_sound | apply Dev.sayTo_sound) | split | dsimp only

theorem Dev.cairnForward_sound {d : Dev} (x : CairnStep) (hs : d.Sound) : (d.cairnForward x).Sound := by
  unfold Dev.cairnForward
  repeat' first
    | (with_reducible first
          | assumption | apply Dev.onCore_sound | apply Dev.wr_sound | apply Dev.dramWrite_sound | apply Dev.hush_sound | apply Dev.sayTo_sound
          | apply Dev.hopDrop_sound | apply Dev.hopSummary_sound)
    | (refine Dev.dramWrite_fst ?_ (by assumption)) | split | dsimp only

theorem Dev.wakeSend_sound {d : Dev} (r : Requester) (hs : d.Sound) : (d.wakeSend r).Sound := by
  unfold Dev.wakeSend
  repeat' first
    | (with_reducible first | assumption | apply Dev.hush_sound | apply Dev.rpgReject_sound | apply Dev.sayTo_sound)
    | split | dsimp only

end Sys2Proof.Machine
end

