-- ==== Sys2Proof/Laws/SoundPower.lean ====
section
/-! SUPPORT. Every operation keeps DDR5 and frame memory in their canonical form: modes, firmware and Rakin. -/

namespace Sys2Proof.Machine

theorem Dev.pwrReject_sound {d : Dev} (r : Requester) (off reason : Nat) (hs : d.Sound) : (d.pwrReject r off reason).Sound := by
  unfold Dev.pwrReject
  repeat' first | (with_reducible first | assumption | apply Dev.wrN_sound | apply Dev.reject_sound) | split | dsimp only

theorem Dev.hardReset_sound {d : Dev} (causes : Nat) (_h : d.Sound) : (d.hardReset causes).Sound := by
  unfold Dev.hardReset
  exact Dev.wrN_sound _ _ _ _ (Dev.onCore_sound _ (Dev.sound_mk Memory.wf_nil Memory.wf_nil))

theorem Dev.brownout_sound {d : Dev} (first : Bool) (hs : d.Sound) : (d.brownout first).Sound := by
  unfold Dev.brownout
  repeat' first | (with_reducible first | assumption | apply Dev.wrN_sound | apply Dev.hardReset_sound) | split | dsimp only

theorem Dev.pinReset_sound {d : Dev} (hs : d.Sound) : d.pinReset.Sound := by
  unfold Dev.pinReset
  repeat' first | (with_reducible first | assumption | apply Dev.hardReset_sound) | split | dsimp only

theorem Dev.softReset_sound {d : Dev} (hs : d.Sound) : d.softReset.Sound := by
  unfold Dev.softReset
  repeat' first | (with_reducible first | assumption | apply Dev.hardReset_sound) | split | dsimp only

theorem Dev.resetCmd_sound {d : Dev} (r : Requester) (v : Word) (hs : d.Sound) : (d.resetCmd r v).Sound := by
  unfold Dev.resetCmd
  repeat' first | (with_reducible first | assumption | apply Dev.pwrReject_sound | apply Dev.softReset_sound) | split | dsimp only

theorem Dev.watchdog_sound {d : Dev} (hs : d.Sound) : d.watchdog.Sound := by
  unfold Dev.watchdog
  repeat' first | (with_reducible first | assumption | apply Dev.hardReset_sound) | split | dsimp only

theorem Dev.release_sound {d : Dev} (bootsel : Nat) (svcen : Bool) (hs : d.Sound) : (d.release bootsel svcen).Sound := by
  unfold Dev.release
  repeat' first
    | (with_reducible first | assumption | apply Dev.onCore_sound | apply Dev.setF_sound | apply Dev.setB_sound | apply Dev.coldLock_sound)
    | split | dsimp only

theorem Dev.setMove_sound {d : Dev} (m : Option Move) (target : Nat) (hs : d.Sound) : (d.setMove m target).Sound := by
  unfold Dev.setMove
  repeat' first | (with_reducible first | assumption | apply Dev.onPower_sound | apply Dev.wrN_sound) | split | dsimp only

theorem Dev.goMode_sound {d : Dev} (t : Nat) (hs : d.Sound) : (d.goMode t).Sound := by
  unfold Dev.goMode
  repeat' first | (with_reducible first | assumption | apply Dev.setMode_sound | apply Dev.belayModeLeft_sound) | split | dsimp only

theorem Dev.startWake_sound {d : Dev} (t : Nat) (hs : d.Sound) : (d.startWake t).Sound := by
  unfold Dev.startWake
  repeat' first
    | (with_reducible first | assumption | apply Dev.unpark_sound | apply Dev.srLeave_sound | apply Dev.setMove_sound)
    | split | dsimp only

theorem Dev.modeReq_sound {d : Dev} (r : Requester) (t : Nat) (hs : d.Sound) : (d.modeReq r t).Sound := by
  unfold Dev.modeReq
  repeat' first
    | (with_reducible first
          | assumption | apply Dev.moveStep_sound | apply Dev.pwrReject_sound | apply Dev.setMove_sound | apply Dev.goMode_sound
          | apply Dev.startWake_sound)
    | split | dsimp only

theorem Dev.memorySleep_sound {d : Dev} (hs : d.Sound) : d.memorySleep.Sound := by
  unfold Dev.memorySleep
  repeat' first | (with_reducible first | assumption | apply Dev.setF_sound | apply Dev.park_sound | apply Dev.srEntered_sound) | split | dsimp only

theorem Dev.parkPorts_sound {d : Dev} (hs : d.Sound) : d.parkPorts.Sound := by
  unfold Dev.parkPorts
  repeat' first | (with_reducible first | assumption | apply Dev.park_sound | refine Dev.foldl_sound (fun _ _ _ => ?_) ?_) | split | dsimp only

theorem Dev.bivouacEntered_sound {d : Dev} (hs : d.Sound) : d.bivouacEntered.Sound := by
  unfold Dev.bivouacEntered
  repeat' first
    | (with_reducible first
          | assumption | apply Dev.onPower_sound | apply Dev.setF_sound | apply Dev.wrN_sound | apply Dev.moveStep_sound | apply Dev.setMode_sound
          | apply Dev.stopCadences_sound | apply Dev.ropeSleep_sound | apply Dev.setMove_sound | apply Dev.startWake_sound
          | apply Dev.memorySleep_sound | apply Dev.parkPorts_sound)
    | split | dsimp only

theorem Dev.wakeCause_sound {d : Dev} (causes : Nat) (hs : d.Sound) : (d.wakeCause causes).Sound := by
  unfold Dev.wakeCause
  repeat' first
    | (with_reducible first | assumption | apply Dev.onPower_sound | apply Dev.wrN_sound | apply Dev.advance_sound | apply Dev.startWake_sound)
    | split | dsimp only

theorem Dev.wakePort_sound {d : Dev} (p : Nat) (hs : d.Sound) : (d.wakePort p).Sound := by
  unfold Dev.wakePort
  repeat' first
    | (with_reducible first | assumption | apply Dev.setF_sound | apply Dev.unpark_sound | apply Dev.startLink_sound)
    | split | dsimp only

theorem Dev.wakeCadences_sound {d : Dev} (hs : d.Sound) : d.wakeCadences.Sound := by
  unfold Dev.wakeCadences
  repeat' first
    | (with_reducible first
          | assumption | apply Dev.setCad_sound | apply Dev.onRope_sound | apply Dev.startCadences_sound
          | refine Dev.foldl_sound (fun _ _ _ => ?_) ?_)
    | split | dsimp only

theorem Dev.wakeMode_sound {d : Dev} (t : Nat) (hs : d.Sound) : (d.wakeMode t).Sound := by
  unfold Dev.wakeMode
  repeat' first
    | (with_reducible first | assumption | apply Dev.onSafe_sound | apply Dev.setF_sound | apply Dev.putMode_sound | apply Dev.goMode_sound)
    | split | dsimp only

theorem Dev.bivouacReturn_sound {d : Dev} (hs : d.Sound) : d.bivouacReturn.Sound := by
  unfold Dev.bivouacReturn
  repeat' first
    | (with_reducible first
          | assumption | apply Dev.onFw_sound | apply Dev.setF_sound | apply Dev.flag_sound | apply Dev.ropeWake_sound | apply Dev.setMove_sound
          | apply Dev.wakePort_sound | apply Dev.wakeCadences_sound | apply Dev.wakeMode_sound | refine Dev.foldl_sound (fun _ _ _ => ?_) ?_)
    | split | dsimp only

theorem Dev.leaveTeam_sound {d : Dev} (hs : d.Sound) : d.leaveTeam.Sound := by
  unfold Dev.leaveTeam
  repeat' first
    | (with_reducible first | assumption | apply Dev.onRope_sound | apply Dev.portDown_sound | refine Dev.foldl_sound (fun _ _ _ => ?_) ?_)
    | split | dsimp only

theorem Dev.shutDown_sound {d : Dev} (hs : d.Sound) : d.shutDown.Sound := by
  unfold Dev.shutDown
  repeat' first
    | (with_reducible first
          | assumption | apply Dev.flag_sound | apply Dev.setMode_sound | apply Dev.park_sound | apply Dev.stopCadences_sound
          | apply Dev.setMove_sound | apply Dev.memorySleep_sound | apply Dev.parkPorts_sound)
    | split | dsimp only

theorem Dev.vpEnd_sound {d : Dev} (point done : Bool) (hs : d.Sound) : (d.vpEnd point done).Sound := by
  unfold Dev.vpEnd
  repeat' first | (with_reducible first | assumption | apply Dev.onPower_sound | apply Dev.setB_sound | apply Dev.flag_sound) | split | dsimp only

theorem Dev.vpStep_sound {d : Dev} (hs : d.Sound) : d.vpStep.Sound := by
  unfold Dev.vpStep
  repeat' first | (with_reducible first | assumption | apply Dev.onPower_sound | apply Dev.setB_sound | apply Dev.vpEnd_sound) | split | dsimp only

theorem Dev.vpIdle_sound {d : Dev} (hs : d.Sound) : d.vpIdle.Sound := by
  unfold Dev.vpIdle
  repeat' first | (with_reducible first | assumption | apply Dev.vpStep_sound) | split | dsimp only

theorem Dev.vpBoundary_sound {d : Dev} (s : Nat) (hs : d.Sound) : (d.vpBoundary s).Sound := by
  unfold Dev.vpBoundary
  repeat' first | (with_reducible first | assumption | apply Dev.vpStep_sound) | split | dsimp only

theorem Dev.vpBegin_sound {d : Dev} (up : Bool) (hs : d.Sound) : (d.vpBegin up).Sound := by
  unfold Dev.vpBegin
  repeat' first | (with_reducible first | assumption | apply Dev.onPower_sound | apply Dev.setB_sound | apply Dev.vpIdle_sound) | split | dsimp only

theorem Dev.vpReq_sound {d : Dev} (r : Requester) (high : Bool) (hs : d.Sound) : (d.vpReq r high).Sound := by
  unfold Dev.vpReq
  repeat' first | (with_reducible first | assumption | apply Dev.pwrReject_sound | apply Dev.vpBegin_sound) | split | dsimp only

theorem Dev.vpSettled_sound {d : Dev} (hs : d.Sound) : d.vpSettled.Sound := by
  unfold Dev.vpSettled
  repeat' first
    | (with_reducible first | assumption | apply Dev.onPower_sound | apply Dev.vpEnd_sound | apply Dev.vpIdle_sound)
    | split | dsimp only

theorem Dev.vpTimeout_sound {d : Dev} (hs : d.Sound) : d.vpTimeout.Sound := by
  unfold Dev.vpTimeout
  repeat' first | (with_reducible first | assumption | apply Dev.onPower_sound | apply Dev.setB_sound | apply Dev.vpIdle_sound) | split | dsimp only

theorem Dev.vpCtrlWrite_sound {d : Dev} (v : Word) (hs : d.Sound) : (d.vpCtrlWrite v).Sound := by
  unfold Dev.vpCtrlWrite
  repeat' first | (with_reducible first | assumption | apply Dev.wr_sound | apply Dev.setB_sound | apply Dev.vpIdle_sound) | split | dsimp only

theorem Dev.thermWarn_sound {d : Dev} (hs : d.Sound) : d.thermWarn.Sound := by
  unfold Dev.thermWarn
  repeat' first
    | (with_reducible first | assumption | apply Dev.onPower_sound | apply Dev.flag_sound | apply Dev.degrade_sound | apply Dev.vpBegin_sound)
    | split | dsimp only

theorem Dev.thermalSample_sound {d : Dev} (tj : BitVec 12) (sensor : Nat) (hs : d.Sound) : (d.thermalSample tj sensor).Sound := by
  unfold Dev.thermalSample
  repeat' first
    | (with_reducible first
          | assumption | apply Dev.onPower_sound | apply Dev.wrN_sound | apply Dev.undegrade_sound | apply Dev.hardReset_sound
          | apply Dev.wakeCause_sound | apply Dev.thermWarn_sound)
    | split | dsimp only

theorem Dev.supplySample_sound {d : Dev} (good coreMv : Nat) (bad : Bool) (hs : d.Sound) : (d.supplySample good coreMv bad).Sound := by
  unfold Dev.supplySample
  repeat' first | (with_reducible first | assumption | apply Dev.setF_sound | apply Dev.wrN_sound | apply Dev.fault_sound) | split | dsimp only

theorem Dev.resumePorts_sound {d : Dev} (hs : d.Sound) : d.resumePorts.Sound := by
  unfold Dev.resumePorts
  repeat' first
    | (with_reducible first | assumption | apply Dev.onPower_sound | apply Dev.wakePort_sound | refine Dev.foldl_sound (fun _ _ _ => ?_) ?_)
    | split | dsimp only

theorem Dev.setTrial_sound {d : Dev} (v : Nat) (hs : d.Sound) : (d.setTrial v).Sound := by
  unfold Dev.setTrial
  repeat' first | (with_reducible first | assumption | apply Dev.setF_sound) | split | dsimp only

theorem Dev.setStage_sound {d : Dev} (st : Nat) (err : Nat) (hs : d.Sound) : (d.setStage st err).Sound := by
  unfold Dev.setStage
  repeat' first | (with_reducible first | assumption | apply Dev.onFw_sound | apply Dev.wrN_sound) | split | dsimp only

theorem Dev.stageClear_sound {d : Dev} (hs : d.Sound) : d.stageClear.Sound := by
  unfold Dev.stageClear
  repeat' first | (with_reducible first | assumption | apply Dev.onFw_sound | apply Dev.wrN_sound | apply Dev.setStage_sound) | split | dsimp only

theorem Dev.fwReject_sound {d : Dev} (r : Requester) (off reason : Nat) (detail : Nat) (hs : d.Sound) : (d.fwReject r off reason detail).Sound := by
  unfold Dev.fwReject
  repeat' first | (with_reducible first | assumption | apply Dev.wrN_sound | apply Dev.reject_sound) | split | dsimp only

theorem Dev.showImage_sound {d : Dev} (hs : d.Sound) : d.showImage.Sound := by
  unfold Dev.showImage
  repeat' first | (with_reducible first | assumption | apply Dev.wr_sound | apply Dev.wrN_sound) | split | dsimp only

theorem Dev.flashError_sound {d : Dev} (hs : d.Sound) : d.flashError.Sound := by
  unfold Dev.flashError
  repeat' first | (with_reducible first | assumption | apply Dev.inc_sound | apply Dev.flag_sound) | split | dsimp only

theorem Dev.mbxSend_sound {d : Dev} (r : Requester) (hs : d.Sound) : (d.mbxSend r).Sound := by
  unfold Dev.mbxSend
  repeat' first | (with_reducible first | assumption | apply Dev.onFw_sound | apply Dev.wrN_sound | apply Dev.fwReject_sound) | split | dsimp only

theorem Dev.mbxAnswer_sound {d : Dev} (func : Nat) {f : Dev → Dev × Nat × List Word} (hf : ∀ x, x.Sound → (f x).1.Sound)
    (h : d.Sound) : (d.mbxAnswer func f).Sound := by
  unfold Dev.mbxAnswer
  split
  · split
    · exact Dev.onFw_sound _ (hf d h)
    · exact h
  · exact h

theorem Dev.getInfo_sound {d : Dev} (hs : d.Sound) : d.getInfo.1.Sound := by
  unfold Dev.getInfo
  repeat' first | (with_reducible first | assumption) | split | dsimp only
theorem Dev.getInfo_fst {d : Dev} {dx : Dev} {rx : Nat × List Word} (hs : d.Sound) (he : d.getInfo = (dx, rx)) : dx.Sound := by
  have := Dev.getInfo_sound hs
  rwa [he] at this

theorem Dev.putSettings_sound {d : Dev} (body : Saved) (hs : d.Sound) : (d.putSettings body).Sound := by
  unfold Dev.putSettings
  repeat' first | (with_reducible first | assumption | apply Dev.onFw_sound | apply Dev.flag_sound) | split | dsimp only

theorem Dev.saveSettings_sound {d : Dev} (flashOk : Bool) (hs : d.Sound) : (d.saveSettings flashOk).1.Sound := by
  unfold Dev.saveSettings
  repeat' first
    | (with_reducible first | assumption | apply Dev.onCore_sound | apply Dev.onFw_sound | apply Dev.flashError_sound | apply Dev.putSettings_sound)
    | split | dsimp only
theorem Dev.saveSettings_fst {d : Dev} {flashOk : Bool} {dx : Dev} {rx : Nat × List Word} (hs : d.Sound) (he : d.saveSettings flashOk = (dx, rx)) :
    dx.Sound := by
  have := Dev.saveSettings_sound flashOk hs
  rwa [he] at this

theorem Dev.loadDefaults_sound {d : Dev} (flashOk : Bool) (hs : d.Sound) : (d.loadDefaults flashOk).1.Sound := by
  unfold Dev.loadDefaults
  repeat' first | (with_reducible first | assumption | apply Dev.flashError_sound | apply Dev.putSettings_sound) | split | dsimp only
theorem Dev.loadDefaults_fst {d : Dev} {flashOk : Bool} {dx : Dev} {rx : Nat × List Word} (hs : d.Sound) (he : d.loadDefaults flashOk = (dx, rx)) :
    dx.Sound := by
  have := Dev.loadDefaults_sound flashOk hs
  rwa [he] at this

theorem Dev.settingsInfo_sound {d : Dev} (hs : d.Sound) : d.settingsInfo.1.Sound := by
  unfold Dev.settingsInfo
  repeat' first | (with_reducible first | assumption) | split | dsimp only
theorem Dev.settingsInfo_fst {d : Dev} {dx : Dev} {rx : Nat × List Word} (hs : d.Sound) (he : d.settingsInfo = (dx, rx)) : dx.Sound := by
  have := Dev.settingsInfo_sound hs
  rwa [he] at this

theorem Dev.setPoweron_sound {d : Dev} (arg : Word) (hs : d.Sound) : (d.setPoweron arg).1.Sound := by
  unfold Dev.setPoweron
  repeat' first | (with_reducible first | assumption | apply Dev.onFw_sound) | split | dsimp only
theorem Dev.setPoweron_fst {d : Dev} {arg : Word} {dx : Dev} {rx : Nat × List Word} (hs : d.Sound) (he : d.setPoweron arg = (dx, rx)) : dx.Sound :=
    by
  have := Dev.setPoweron_sound arg hs
  rwa [he] at this

theorem Dev.stagedInfo_sound {d : Dev} (hs : d.Sound) : d.stagedInfo.1.Sound := by
  unfold Dev.stagedInfo
  repeat' first | (with_reducible first | assumption) | split | dsimp only
theorem Dev.stagedInfo_fst {d : Dev} {dx : Dev} {rx : Nat × List Word} (hs : d.Sound) (he : d.stagedInfo = (dx, rx)) : dx.Sound := by
  have := Dev.stagedInfo_sound hs
  rwa [he] at this

theorem Dev.fallbackLog_sound {d : Dev} (hs : d.Sound) : d.fallbackLog.1.Sound := by
  unfold Dev.fallbackLog
  repeat' first | (with_reducible first | assumption) | split | dsimp only
theorem Dev.fallbackLog_fst {d : Dev} {dx : Dev} {rx : Nat × List Word} (hs : d.Sound) (he : d.fallbackLog = (dx, rx)) : dx.Sound := by
  have := Dev.fallbackLog_sound hs
  rwa [he] at this

theorem Dev.mbxRun_sound {d : Dev} (hs : d.Sound) : d.mbxRun.Sound := by
  unfold Dev.mbxRun
  repeat' first
    | (with_reducible first
          | assumption | apply Dev.mbxAnswer_sound | apply Dev.getInfo_sound | apply Dev.saveSettings_sound | apply Dev.loadDefaults_sound
          | apply Dev.settingsInfo_sound | apply Dev.setPoweron_sound | apply Dev.stagedInfo_sound | apply Dev.fallbackLog_sound)
    | intro _ _ | (refine Dev.getInfo_fst ?_ (by assumption)) | (refine Dev.saveSettings_fst ?_ (by assumption))
    | (refine Dev.loadDefaults_fst ?_ (by assumption)) | (refine Dev.settingsInfo_fst ?_ (by assumption))
    | (refine Dev.setPoweron_fst ?_ (by assumption)) | (refine Dev.stagedInfo_fst ?_ (by assumption))
    | (refine Dev.fallbackLog_fst ?_ (by assumption)) | split | dsimp only

theorem Dev.mbxUnknown_sound {d : Dev} (hs : d.Sound) : d.mbxUnknown.Sound := by
  unfold Dev.mbxUnknown
  repeat' first | (with_reducible first | assumption | apply Dev.mbxAnswer_sound) | intro _ _ | split | dsimp only

theorem Dev.mbxDone_sound {d : Dev} (hs : d.Sound) : d.mbxDone.Sound := by
  unfold Dev.mbxDone
  repeat' first
    | (with_reducible first
          | assumption | apply Dev.onCore_sound | apply Dev.onFw_sound | apply Dev.setF_sound | apply Dev.flag_sound | apply Dev.answer_sound)
    | split | dsimp only

theorem Dev.mbxRelease_sound {d : Dev} (hs : d.Sound) : d.mbxRelease.Sound :=
  Dev.onFw_sound _ hs

theorem Dev.handHome_sound {d : Dev} (h : Handover) (hs : d.Sound) : (d.handHome h).Sound := by
  unfold Dev.handHome
  repeat' first | (with_reducible first | assumption | apply Dev.setMode_sound) | split | dsimp only

theorem Dev.handTime_sound {d : Dev} (h : Handover) (hs : d.Sound) : (d.handTime h).Sound := by
  unfold Dev.handTime
  repeat' first | (with_reducible first | assumption | apply Dev.wrN_sound) | split | dsimp only

theorem Dev.setHand_sound {d : Dev} (h : Option Handover) (hs : d.Sound) : (d.setHand h).Sound :=
  Dev.onFw_sound _ hs

theorem Dev.actBegin_sound {d : Dev} (hs : d.Sound) : d.actBegin.Sound := by
  unfold Dev.actBegin
  repeat' first
    | (with_reducible first
          | assumption | apply Dev.setF_sound | apply Dev.flag_sound | apply Dev.setMode_sound | apply Dev.setTrial_sound | apply Dev.setHand_sound)
    | split | dsimp only

theorem Dev.activate_sound {d : Dev} (r : Requester) (hs : d.Sound) : (d.activate r).Sound := by
  unfold Dev.activate
  repeat' first | (with_reducible first | assumption | apply Dev.fwReject_sound | apply Dev.actBegin_sound) | split | dsimp only

theorem Dev.actDone_sound {d : Dev} (h : Handover) (hs : d.Sound) : (d.actDone h).Sound := by
  unfold Dev.actDone
  repeat' first
    | (with_reducible first
          | assumption | apply Dev.onFw_sound | apply Dev.setF_sound | apply Dev.flag_sound | apply Dev.setTrial_sound | apply Dev.setStage_sound
          | apply Dev.handHome_sound | apply Dev.handTime_sound | apply Dev.setHand_sound)
    | split | dsimp only

theorem Dev.actSwitch_sound {d : Dev} (h : Handover) (hs : d.Sound) : (d.actSwitch h).Sound := by
  unfold Dev.actSwitch
  repeat' first
    | (with_reducible first
          | assumption | apply Dev.onFw_sound | apply Dev.setF_sound | apply Dev.showImage_sound | apply Dev.mbxRun_sound | apply Dev.mbxDone_sound
          | apply Dev.mbxRelease_sound | apply Dev.setHand_sound | apply Dev.actDone_sound)
    | split | dsimp only

theorem Dev.fallDone_sound {d : Dev} (h : Handover) (hs : d.Sound) : (d.fallDone h).Sound := by
  unfold Dev.fallDone
  repeat' first
    | (with_reducible first
          | assumption | apply Dev.onFw_sound | apply Dev.setF_sound | apply Dev.flag_sound | apply Dev.setTrial_sound | apply Dev.setStage_sound
          | apply Dev.handHome_sound | apply Dev.handTime_sound | apply Dev.setHand_sound)
    | split | dsimp only

theorem Dev.seqSwitch_sound {d : Dev} (h : Handover) (s : Nat) (hs : d.Sound) : (d.seqSwitch h s).Sound := by
  unfold Dev.seqSwitch
  repeat' first
    | (with_reducible first | assumption | apply Dev.setB_sound | apply Dev.setHand_sound | apply Dev.actDone_sound | apply Dev.fallDone_sound)
    | split | dsimp only

theorem Dev.handSettle_sound {d : Dev} (hs : d.Sound) : d.handSettle.Sound := by
  unfold Dev.handSettle
  repeat' first | (with_reducible first | assumption | apply Dev.actSwitch_sound | apply Dev.seqSwitch_sound) | split | dsimp only

theorem Dev.fwBoundary_sound {d : Dev} (s : Nat) (hs : d.Sound) : (d.fwBoundary s).Sound := by
  unfold Dev.fwBoundary
  repeat' first
    | (with_reducible first | assumption | apply Dev.setHand_sound | apply Dev.actSwitch_sound | apply Dev.seqSwitch_sound)
    | split | dsimp only

theorem Dev.bankLoaded_sound {d : Dev} (flashOk : Bool) (hs : d.Sound) : (d.bankLoaded flashOk).Sound := by
  unfold Dev.bankLoaded
  repeat' first
    | (with_reducible first
          | assumption | apply Dev.flag_sound | apply Dev.setTrial_sound | apply Dev.setStage_sound | apply Dev.mbxRelease_sound
          | apply Dev.handHome_sound | apply Dev.setHand_sound | apply Dev.handSettle_sound)
    | split | dsimp only

theorem Dev.fallBack_sound {d : Dev} (cause : Nat) (hs : d.Sound) : (d.fallBack cause).Sound := by
  unfold Dev.fallBack
  repeat' first
    | (with_reducible first
          | assumption | apply Dev.onFw_sound | apply Dev.wrN_sound | apply Dev.setMode_sound | apply Dev.softReset_sound | apply Dev.setTrial_sound
          | apply Dev.setHand_sound)
    | split | dsimp only

theorem Dev.fallSaved_sound {d : Dev} (responsive : Bool) (hs : d.Sound) : (d.fallSaved responsive).Sound := by
  unfold Dev.fallSaved
  repeat' first
    | (with_reducible first
          | assumption | apply Dev.onFw_sound | apply Dev.setF_sound | apply Dev.setB_sound | apply Dev.showImage_sound | apply Dev.setHand_sound
          | apply Dev.fallDone_sound)
    | split | dsimp only

theorem Dev.confirmed_sound {d : Dev} (hs : d.Sound) : d.confirmed.Sound := by
  unfold Dev.confirmed
  repeat' first
    | (with_reducible first
          | assumption | apply Dev.onFw_sound | apply Dev.setF_sound | apply Dev.setB_sound | apply Dev.flag_sound | apply Dev.setTrial_sound
          | apply Dev.setStage_sound | apply Dev.showImage_sound)
    | split | dsimp only

theorem Dev.confirm_sound {d : Dev} (r : Requester) (hs : d.Sound) : (d.confirm r).Sound := by
  unfold Dev.confirm
  repeat' first
    | (with_reducible first | assumption | apply Dev.fwReject_sound | apply Dev.fallBack_sound | apply Dev.confirmed_sound)
    | split | dsimp only

theorem Dev.healthFail_sound {d : Dev} (r : Requester) (hs : d.Sound) : (d.healthFail r).Sound := by
  unfold Dev.healthFail
  repeat' first | (with_reducible first | assumption | apply Dev.fwReject_sound | apply Dev.fallBack_sound) | split | dsimp only

theorem Dev.approve_sound {d : Dev} (r : Requester) (hs : d.Sound) : (d.approve r).Sound := by
  unfold Dev.approve
  repeat' first
    | (with_reducible first | assumption | apply Dev.setB_sound | apply Dev.fwReject_sound | apply Dev.fallBack_sound)
    | split | dsimp only

theorem Dev.rejectTrial_sound {d : Dev} (r : Requester) (hs : d.Sound) : (d.rejectTrial r).Sound := by
  unfold Dev.rejectTrial
  repeat' first | (with_reducible first | assumption | apply Dev.fwReject_sound | apply Dev.fallBack_sound) | split | dsimp only

theorem Dev.restartArm_sound {d : Dev} (hs : d.Sound) : d.restartArm.Sound := by
  unfold Dev.restartArm
  repeat' first | (with_reducible first | assumption | apply Dev.onFw_sound | apply Dev.setStage_sound) | split | dsimp only

theorem Dev.restartTrial_sound {d : Dev} (r : Requester) (hs : d.Sound) : (d.restartTrial r).Sound := by
  unfold Dev.restartTrial
  repeat' first | (with_reducible first | assumption | apply Dev.fwReject_sound | apply Dev.restartArm_sound) | split | dsimp only

theorem Dev.discard_sound {d : Dev} (r : Requester) (hs : d.Sound) : (d.discard r).Sound := by
  unfold Dev.discard
  repeat' first | (with_reducible first | assumption | apply Dev.stageClear_sound | apply Dev.fwReject_sound) | split | dsimp only

theorem Dev.trialCtrlWrite_sound {d : Dev} (v : Word) (hs : d.Sound) : (d.trialCtrlWrite v).Sound := by
  unfold Dev.trialCtrlWrite
  repeat' first | (with_reducible first | assumption | apply Dev.onFw_sound | apply Dev.wr_sound | apply Dev.fallBack_sound) | split | dsimp only

theorem Dev.selfCheck_sound {d : Dev} (hs : d.Sound) : d.selfCheck.Sound := by
  unfold Dev.selfCheck
  repeat' first | (with_reducible first | assumption | apply Dev.setB_sound) | split | dsimp only

theorem Dev.trialExpiring_sound {d : Dev} (hs : d.Sound) : d.trialExpiring.Sound := by
  unfold Dev.trialExpiring
  repeat' first | (with_reducible first | assumption | apply Dev.onFw_sound | apply Dev.flag_sound | apply Dev.advance_sound) | split | dsimp only

theorem Dev.trialExpiry_sound {d : Dev} (hs : d.Sound) : d.trialExpiry.Sound := by
  unfold Dev.trialExpiry
  repeat' first | (with_reducible first | assumption | apply Dev.advance_sound | apply Dev.fallBack_sound) | split | dsimp only

theorem Dev.unresponsive_sound {d : Dev} (hs : d.Sound) : d.unresponsive.Sound := by
  unfold Dev.unresponsive
  repeat' first | (with_reducible first | assumption | apply Dev.fallBack_sound) | split | dsimp only

theorem Dev.shutdownReady_sound {d : Dev} (flashOk : Bool) (hs : d.Sound) : (d.shutdownReady flashOk).Sound := by
  unfold Dev.shutdownReady
  repeat' first
    | (with_reducible first
          | assumption | apply Dev.onCore_sound | apply Dev.moveStep_sound | apply Dev.leaveTeam_sound | apply Dev.shutDown_sound
          | apply Dev.flashError_sound | apply Dev.putSettings_sound)
    | split | dsimp only

theorem Dev.bootStat_sound {d : Dev} (from_ copied discarded cause copyS : Nat) (hs : d.Sound) : (d.bootStat from_ copied discarded cause
    copyS).Sound := by
  unfold Dev.bootStat
  repeat' first | (with_reducible first | assumption | apply Dev.wrN_sound) | split | dsimp only

theorem Dev.baseCamp_sound {d : Dev} (cause : Nat) (hs : d.Sound) : (d.baseCamp cause).Sound := by
  unfold Dev.baseCamp
  repeat' first | (with_reducible first | assumption | apply Dev.onFw_sound | apply Dev.setF_sound | apply Dev.setMode_sound) | split | dsimp only

theorem Dev.takeSettings_sound {d : Dev} (hs : d.Sound) : d.takeSettings.Sound := by
  unfold Dev.takeSettings
  repeat' first | (with_reducible first | assumption | apply Dev.onFw_sound | apply Dev.setB_sound | apply Dev.flag_sound) | split | dsimp only

theorem Dev.startImage_sound {d : Dev} (m : Image) (hs : d.Sound) : (d.startImage m).Sound := by
  unfold Dev.startImage
  repeat' first
    | (with_reducible first
          | assumption | apply Dev.onCore_sound | apply Dev.setCad_sound | apply Dev.onFw_sound | apply Dev.setF_sound | apply Dev.setMode_sound
          | apply Dev.ropeStart_sound | apply Dev.showImage_sound | apply Dev.takeSettings_sound | refine Dev.foldl_sound (fun _ _ _ => ?_) ?_)
    | split | dsimp only

theorem Dev.bootActive_sound {d : Dev} (m : Option Image) (hs : d.Sound) : (d.bootActive m).Sound := by
  unfold Dev.bootActive
  repeat' first | (with_reducible first | assumption | apply Dev.baseCamp_sound | apply Dev.startImage_sound) | split | dsimp only

theorem Dev.bootTrial_sound {d : Dev} (ctrl : Word) (hs : d.Sound) : (d.bootTrial ctrl).Sound := by
  unfold Dev.bootTrial
  repeat' first
    | (with_reducible first
          | assumption | apply Dev.onFw_sound | apply Dev.wr_sound | apply Dev.setTrial_sound | apply Dev.bootStat_sound
          | apply Dev.startImage_sound)
    | split | dsimp only

theorem Dev.firmwareLoaded_sound {d : Dev} (b : BootReport) (hs : d.Sound) : (d.firmwareLoaded b).Sound := by
  unfold Dev.firmwareLoaded
  repeat' first
    | (with_reducible first
          | assumption | apply Dev.wr_sound | apply Dev.wrN_sound | apply Dev.stageClear_sound | apply Dev.bootStat_sound | apply Dev.baseCamp_sound
          | apply Dev.bootActive_sound | apply Dev.bootTrial_sound)
    | split | dsimp only

theorem Dev.respond_sound {d : Dev} (op : Nat) (tag : Word) (status : Nat) (ws : List Word) (hs : d.Sound) : (d.respond op tag status ws).Sound :=
    by
  unfold Dev.respond
  repeat' first | (with_reducible first | assumption | apply Dev.answer_sound) | split | dsimp only

theorem Dev.rakin_sound {d : Dev} (op : Nat) (hd : RakinHdr) (bs : List (BitVec 8)) (gated : Bool) (allowed : Nat → Bool)
    {f : Dev → Dev × Nat × List Word} (hf : ∀ x, x.Sound → (f x).1.Sound) (h : d.Sound) :
    (d.rakin op hd bs gated allowed f).Sound := by
  unfold Dev.rakin
  repeat' first | (with_reducible first | assumption | apply Dev.respond_sound | apply Dev.flag_sound | apply hf) | split | dsimp only

theorem Dev.rakinHello_sound {d : Dev} (h : RakinHdr) (bs : List (BitVec 8)) (hs : d.Sound) : (d.rakinHello h bs).Sound := by
  unfold Dev.rakinHello
  repeat' first
    | (with_reducible first | assumption | apply Dev.setB_sound | apply Dev.flag_sound | apply Dev.rakin_sound)
    | intro _ _ | split | dsimp only

theorem Dev.stageBroken_sound {d : Dev} (hs : d.Sound) : d.stageBroken.1.Sound := by
  unfold Dev.stageBroken
  repeat' first | (with_reducible first | assumption | apply Dev.setStage_sound | apply Dev.flashError_sound) | split | dsimp only
theorem Dev.stageBroken_fst {d : Dev} {dx : Dev} {rx : Nat × List Word} (hs : d.Sound) (he : d.stageBroken = (dx, rx)) : dx.Sound := by
  have := Dev.stageBroken_sound hs
  rwa [he] at this

theorem Dev.stageBegin_sound {d : Dev} (h : RakinHdr) (bs : List (BitVec 8)) (flashOk : Bool) (hs : d.Sound) : (d.stageBegin h bs flashOk).Sound :=
    by
  unfold Dev.stageBegin
  repeat' first
    | (with_reducible first
          | assumption | apply Dev.onFw_sound | apply Dev.wrN_sound | apply Dev.setStage_sound | apply Dev.stageClear_sound | apply Dev.rakin_sound
          | apply Dev.stageBroken_sound)
    | intro _ _ | (refine Dev.stageBroken_fst ?_ (by assumption)) | split | dsimp only

theorem Dev.stageData_sound {d : Dev} (h : RakinHdr) (bs : List (BitVec 8)) (flashOk : Bool) (hs : d.Sound) : (d.stageData h bs flashOk).Sound := by
  unfold Dev.stageData
  repeat' first
    | (with_reducible first | assumption | apply Dev.onFw_sound | apply Dev.wrN_sound | apply Dev.rakin_sound | apply Dev.stageBroken_sound)
    | intro _ _ | (refine Dev.stageBroken_fst ?_ (by assumption)) | split | dsimp only

theorem Dev.stageEnd_sound {d : Dev} (h : RakinHdr) (bs : List (BitVec 8)) (hs : d.Sound) : (d.stageEnd h bs).Sound := by
  unfold Dev.stageEnd
  repeat' first
    | (with_reducible first | assumption | apply Dev.onFw_sound | apply Dev.answer_sound | apply Dev.setStage_sound | apply Dev.rakin_sound)
    | intro _ _ | split | dsimp only

theorem Dev.verified_sound {d : Dev} (status : Nat) (hs : d.Sound) : (d.verified status).Sound := by
  unfold Dev.verified
  repeat' first
    | (with_reducible first | assumption | apply Dev.wr_sound | apply Dev.flag_sound | apply Dev.setStage_sound | apply Dev.flashError_sound)
    | split | dsimp only

theorem Dev.verifyDone_sound {d : Dev} (flashOk : Bool) (hs : d.Sound) : (d.verifyDone flashOk).Sound := by
  unfold Dev.verifyDone
  repeat' first
    | (with_reducible first | assumption | apply Dev.onFw_sound | apply Dev.respond_sound | apply Dev.verified_sound)
    | split | dsimp only

theorem Dev.rakinActivate_sound {d : Dev} (h : RakinHdr) (bs : List (BitVec 8)) (hs : d.Sound) : (d.rakinActivate h bs).Sound := by
  unfold Dev.rakinActivate
  repeat' first
    | (with_reducible first | assumption | apply Dev.wrN_sound | apply Dev.actBegin_sound | apply Dev.rakin_sound)
    | intro _ _ | split | dsimp only

theorem Dev.rakinRestart_sound {d : Dev} (h : RakinHdr) (bs : List (BitVec 8)) (hs : d.Sound) : (d.rakinRestart h bs).Sound := by
  unfold Dev.rakinRestart
  repeat' first | (with_reducible first | assumption | apply Dev.restartArm_sound | apply Dev.rakin_sound) | intro _ _ | split | dsimp only

theorem Dev.rakinDiscard_sound {d : Dev} (h : RakinHdr) (bs : List (BitVec 8)) (hs : d.Sound) : (d.rakinDiscard h bs).Sound := by
  unfold Dev.rakinDiscard
  repeat' first | (with_reducible first | assumption | apply Dev.stageClear_sound | apply Dev.rakin_sound) | intro _ _ | split | dsimp only

theorem Dev.logRead_sound {d : Dev} (h : RakinHdr) (bs : List (BitVec 8)) (hs : d.Sound) : (d.logRead h bs).Sound := by
  unfold Dev.logRead
  repeat' first | (with_reducible first | assumption | apply Dev.rakin_sound) | intro _ _ | split | dsimp only

theorem Dev.settingsRead_sound {d : Dev} (h : RakinHdr) (bs : List (BitVec 8)) (hs : d.Sound) : (d.settingsRead h bs).Sound := by
  unfold Dev.settingsRead
  repeat' first | (with_reducible first | assumption | apply Dev.rakin_sound) | intro _ _ | split | dsimp only

theorem Dev.settingsWrite_sound {d : Dev} (h : RakinHdr) (bs : List (BitVec 8)) (flashOk : Bool) (hs : d.Sound) : (d.settingsWrite h bs
    flashOk).Sound := by
  unfold Dev.settingsWrite
  repeat' first
    | (with_reducible first | assumption | apply Dev.flashError_sound | apply Dev.putSettings_sound | apply Dev.rakin_sound)
    | intro _ _ | split | dsimp only

theorem Dev.enterBasecamp_sound {d : Dev} (h : RakinHdr) (bs : List (BitVec 8)) (hs : d.Sound) : (d.enterBasecamp h bs).Sound := by
  unfold Dev.enterBasecamp
  repeat' first
    | (with_reducible first | assumption | apply Dev.onFw_sound | apply Dev.softReset_sound | apply Dev.rakin_sound)
    | intro _ _ | split | dsimp only

theorem Dev.rakinReset_sound {d : Dev} (h : RakinHdr) (bs : List (BitVec 8)) (hs : d.Sound) : (d.rakinReset h bs).Sound := by
  unfold Dev.rakinReset
  repeat' first | (with_reducible first | assumption | apply Dev.softReset_sound | apply Dev.rakin_sound) | intro _ _ | split | dsimp only

theorem Dev.rakinStatus_sound {d : Dev} (h : RakinHdr) (bs : List (BitVec 8)) (hs : d.Sound) : (d.rakinStatus h bs).Sound := by
  unfold Dev.rakinStatus
  repeat' first | (with_reducible first | assumption | apply Dev.rakin_sound) | intro _ _ | split | dsimp only

theorem Dev.loadCore_sound {d : Dev} (h : RakinHdr) (bs : List (BitVec 8)) (hs : d.Sound) : (d.loadCore h bs).Sound := by
  unfold Dev.loadCore
  repeat' first | (with_reducible first | assumption | apply Dev.onFw_sound | apply Dev.rakin_sound) | intro _ _ | split | dsimp only

theorem Dev.unknownOp_sound {d : Dev} (op : Nat) (h : RakinHdr) (bs : List (BitVec 8)) (hs : d.Sound) : (d.unknownOp op h bs).Sound := by
  unfold Dev.unknownOp
  repeat' first | (with_reducible first | assumption | apply Dev.respond_sound) | split | dsimp only

theorem Dev.dfuDnload_sound {d : Dev} (bs : List (BitVec 8)) (flashOk : Bool) (hs : d.Sound) : (d.dfuDnload bs flashOk).Sound := by
  unfold Dev.dfuDnload
  repeat' first
    | (with_reducible first
          | assumption | apply Dev.onFw_sound | apply Dev.wrN_sound | apply Dev.flag_sound | apply Dev.setStage_sound | apply Dev.stageClear_sound
          | apply Dev.stageBroken_sound | apply Dev.verified_sound)
    | (refine Dev.stageBroken_fst ?_ (by assumption)) | split | dsimp only

theorem Dev.campCopied_sound {d : Dev} (hs : d.Sound) : d.campCopied.Sound := by
  unfold Dev.campCopied
  repeat' first | (with_reducible first | assumption | apply Dev.softReset_sound | apply Dev.stageClear_sound) | split | dsimp only

theorem Dev.svcCtrlWrite_sound {d : Dev} (r : Requester) (v : Word) (hs : d.Sound) : (d.svcCtrlWrite r v).Sound := by
  unfold Dev.svcCtrlWrite
  repeat' first
    | (with_reducible first | assumption | apply Dev.wr_sound | apply Dev.setB_sound | apply Dev.wrN_sound | apply Dev.reject_sound)
    | split | dsimp only

theorem Dev.attach_sound {d : Dev} (hs : d.Sound) : d.attach.Sound := by
  unfold Dev.attach
  repeat' first | (with_reducible first | assumption | apply Dev.setB_sound | apply Dev.flag_sound | apply Dev.wakeCause_sound) | split | dsimp only

theorem Dev.detach_sound {d : Dev} (hs : d.Sound) : d.detach.Sound := by
  unfold Dev.detach
  repeat' first | (with_reducible first | assumption | apply Dev.setF_sound | apply Dev.flag_sound) | split | dsimp only

theorem Dev.stallWatchdog_sound {d : Dev} (s : Nat) (hs : d.Sound) : (d.stallWatchdog s).Sound := by
  unfold Dev.stallWatchdog
  repeat' first | (with_reducible first | assumption | apply Dev.fault_sound) | split | dsimp only

theorem Dev.safetyWatchdog_sound {d : Dev} (hs : d.Sound) : d.safetyWatchdog.Sound := by
  unfold Dev.safetyWatchdog
  repeat' first | (with_reducible first | assumption | apply Dev.fault_sound) | split | dsimp only

theorem Dev.clockMonitor_sound {d : Dev} (port : Option (Fin 8)) (bad : Bool) (hs : d.Sound) : (d.clockMonitor port bad).Sound := by
  unfold Dev.clockMonitor
  repeat' first | (with_reducible first | assumption | apply Dev.fault_sound) | split | dsimp only

theorem Dev.cadenceMonitor_sound {d : Dev} (s : Nat) (hs : d.Sound) : (d.cadenceMonitor s).Sound := by
  unfold Dev.cadenceMonitor
  repeat' first | (with_reducible first | assumption | apply Dev.fault_sound) | split | dsimp only

theorem Dev.configCheck_sound {d : Dev} (bad : Bool) (hs : d.Sound) : (d.configCheck bad).Sound := by
  unfold Dev.configCheck
  repeat' first | (with_reducible first | assumption | apply Dev.fault_sound) | split | dsimp only

theorem Dev.lutCheck_sound {d : Dev} (lut : LutRef) (bad : Bool) (hs : d.Sound) : (d.lutCheck lut bad).Sound := by
  unfold Dev.lutCheck
  repeat' first | (with_reducible first | assumption | apply Dev.fault_sound) | split | dsimp only

theorem Dev.injectReject_sound {d : Dev} (r : Requester) (reason : Nat) (hs : d.Sound) : (d.injectReject r reason).Sound := by
  unfold Dev.injectReject
  repeat' first | (with_reducible first | assumption | apply Dev.flag_sound | apply Dev.safeReject_sound) | split | dsimp only

theorem Dev.injected_sound {d : Dev} (sm unit region : Nat) (react : Bool) (test : Bool) (hs : d.Sound) : (d.injected sm unit region react
    test).Sound := by
  unfold Dev.injected
  repeat' first | (with_reducible first | assumption | apply Dev.setB_sound | apply Dev.flag_sound | apply Dev.fault_sound) | split | dsimp only

theorem Dev.injectGo_sound {d : Dev} (r : Requester) (us : Nat) (found : Option Bool) (hs : d.Sound) : (d.injectGo r us found).Sound := by
  unfold Dev.injectGo
  repeat' first
    | (with_reducible first | assumption | apply Dev.onSafe_sound | apply Dev.wrN_sound | apply Dev.injectReject_sound)
    | split | dsimp only

theorem Dev.injectEnd_sound {d : Dev} (x : Injection) (hs : d.Sound) : (d.injectEnd x).Sound := by
  unfold Dev.injectEnd
  repeat' first
    | (with_reducible first
          | assumption | apply Dev.onSafe_sound | apply Dev.wrN_sound | apply Dev.flag_sound | apply Dev.react_sound | apply Dev.injected_sound)
    | split | dsimp only

theorem Dev.injectBy_sound {d : Dev} (t : Nat) (hs : d.Sound) : (d.injectBy t).Sound := by
  unfold Dev.injectBy
  repeat' first | (with_reducible first | assumption | apply Dev.advance_sound | apply Dev.injectEnd_sound) | split | dsimp only

theorem Dev.selftest_sound {d : Dev} (r : Requester) (hs : d.Sound) : (d.selftest r).Sound := by
  unfold Dev.selftest
  repeat' first
    | (with_reducible first | assumption | apply Dev.onSafe_sound | apply Dev.setB_sound | apply Dev.injectReject_sound)
    | split | dsimp only

theorem Dev.selftestFaults_sound {d : Dev} (passed : Nat) (hs : d.Sound) : (d.selftestFaults passed).Sound := by
  unfold Dev.selftestFaults
  repeat' first
    | (with_reducible first
          | assumption | apply Dev.onSafe_sound | apply Dev.wr_sound | apply Dev.setF_sound | apply Dev.injected_sound
          | refine Dev.foldl_sound (fun _ _ _ => ?_) ?_)
    | split | dsimp only

theorem Dev.selftestDone_sound {d : Dev} (passed : Nat) (hs : d.Sound) : (d.selftestDone passed).Sound := by
  unfold Dev.selftestDone
  repeat' first
    | (with_reducible first
          | assumption | apply Dev.onSafe_sound | apply Dev.setB_sound | apply Dev.wrN_sound | apply Dev.flag_sound | apply Dev.selftest_sound
          | apply Dev.selftestFaults_sound)
    | split | dsimp only

end Sys2Proof.Machine
end

