-- ==== Sys2Proof/Laws/SoundAccess.lean ====
section
/-! SUPPORT. Every operation keeps DDR5 and frame memory in their canonical form: register accesses, the host link and the idle step. -/

namespace Sys2Proof.Machine

theorem Dev.onBit_sound {d : Dev} (v : Word) (i : Nat) {f : Dev → Dev} (hf : ∀ x, x.Sound → (f x).Sound) (h : d.Sound) :
    (d.onBit v i f).Sound := by
  unfold Dev.onBit
  split
  · exact hf d h
  · exact h

theorem Dev.writeIm_sound {d : Dev} (p : Page) (n off : Nat) (v : Word) (hs : d.Sound) : (d.writeIm p n off v).Sound := by
  unfold Dev.writeIm
  repeat' first | (with_reducible first | assumption | apply Dev.wr_sound) | split | dsimp only

theorem Dev.writeSys_sound {d : Dev} (r : Requester) (off : Nat) (v : Word) (hs : d.Sound) : (d.writeSys r off v).Sound := by
  unfold Dev.writeSys
  repeat' first | (with_reducible first | assumption | apply Dev.groupWrite_sound | apply Dev.writeIm_sound) | split | dsimp only

theorem Dev.writeProt_sound {d : Dev} (off : Nat) (v : Word) (hs : d.Sound) : (d.writeProt off v).Sound := by
  unfold Dev.writeProt
  repeat' first | (with_reducible first | assumption | apply Dev.wrN_sound | apply Dev.writeIm_sound) | split | dsimp only

theorem Dev.writePwr_sound {d : Dev} (r : Requester) (off : Nat) (v : Word) (hs : d.Sound) : (d.writePwr r off v).Sound := by
  unfold Dev.writePwr
  repeat' first
    | (with_reducible first
          | assumption | apply Dev.resetCmd_sound | apply Dev.modeReq_sound | apply Dev.vpReq_sound | apply Dev.vpCtrlWrite_sound
          | apply Dev.writeIm_sound)
    | split | dsimp only

theorem Dev.writeFwm_sound {d : Dev} (r : Requester) (off : Nat) (v : Word) (hs : d.Sound) : (d.writeFwm r off v).Sound := by
  unfold Dev.writeFwm
  repeat' first
    | (with_reducible first
          | assumption | apply Dev.fwReject_sound | apply Dev.mbxSend_sound | apply Dev.activate_sound | apply Dev.confirm_sound
          | apply Dev.healthFail_sound | apply Dev.approve_sound | apply Dev.rejectTrial_sound | apply Dev.restartTrial_sound
          | apply Dev.discard_sound | apply Dev.trialCtrlWrite_sound | apply Dev.onBit_sound | apply Dev.writeIm_sound)
    | intro _ _ | split | dsimp only

theorem Dev.writeIntc_sound {d : Dev} (r : Requester) (off : Nat) (v : Word) (hs : d.Sound) : (d.writeIntc r off v).Sound := by
  unfold Dev.writeIntc
  repeat' first | (with_reducible first | assumption | apply Dev.onCore_sound | apply Dev.writeIm_sound) | split | dsimp only

theorem Dev.writeIsrc_sound {d : Dev} (r : Requester) (n off : Nat) (v : Word) (hs : d.Sound) : (d.writeIsrc r n off v).Sound := by
  unfold Dev.writeIsrc
  repeat' first | (with_reducible first | assumption | apply Dev.onCore_sound) | split | dsimp only

theorem Dev.writeElog_sound {d : Dev} (r : Requester) (off : Nat) (v : Word) (hs : d.Sound) : (d.writeElog r off v).Sound := by
  unfold Dev.writeElog
  repeat' first
    | (with_reducible first | assumption | apply Dev.onCore_sound | apply Dev.reject_sound | apply Dev.onBit_sound | apply Dev.writeIm_sound)
    | intro _ _ | split | dsimp only

theorem Dev.writeIntf_sound {d : Dev} (r : Requester) (off : Nat) (v : Word) (hs : d.Sound) : (d.writeIntf r off v).Sound := by
  unfold Dev.writeIntf
  repeat' first | (with_reducible first | assumption | apply Dev.onCore_sound) | split | dsimp only

theorem Dev.forceWrite_sound {d : Dev} (s : Nat) (v : Word) (hs : d.Sound) : (d.forceWrite s v).Sound := by
  unfold Dev.forceWrite
  repeat' first
    | (with_reducible first | assumption | apply Dev.forceRecompose_sound | apply Dev.forceFlatDrop_sound | apply Dev.onBit_sound)
    | intro _ _ | split | dsimp only

theorem Dev.writeStim_sound {d : Dev} (s off : Nat) (v : Word) (hs : d.Sound) : (d.writeStim s off v).Sound := by
  unfold Dev.writeStim
  repeat' first | (with_reducible first | assumption | apply Dev.writeIm_sound | apply Dev.forceWrite_sound) | split | dsimp only

theorem Dev.allocWrite_sound {d : Dev} (r : Requester) (v : Word) (hs : d.Sound) : (d.allocWrite r v).Sound := by
  unfold Dev.allocWrite
  repeat' first | (with_reducible first | assumption | apply Dev.allocInstall_sound | apply Dev.allocFree_sound) | split | dsimp only

theorem Dev.xferWrite_sound {d : Dev} (r : Requester) (v : Word) (hs : d.Sound) : (d.xferWrite r v).Sound := by
  unfold Dev.xferWrite
  repeat' first
    | (with_reducible first | assumption | apply Dev.xferUpload_sound | apply Dev.xferCapture_sound | apply Dev.xferFromPort_sound)
    | split | dsimp only

theorem Dev.writeFmem_sound {d : Dev} (r : Requester) (off : Nat) (v : Word) (hs : d.Sound) : (d.writeFmem r off v).Sound := by
  unfold Dev.writeFmem
  repeat' first
    | (with_reducible first | assumption | apply Dev.writeIm_sound | apply Dev.allocWrite_sound | apply Dev.xferWrite_sound)
    | split | dsimp only

theorem Dev.cadCmdWrite_sound {d : Dev} (r : Requester) (s : Nat) (v : Word) (hs : d.Sound) : (d.cadCmdWrite r s v).Sound := by
  unfold Dev.cadCmdWrite
  repeat' first
    | (with_reducible first
          | assumption | apply Dev.ackReturn_sound | apply Dev.presetFrame_sound | apply Dev.applyRate_sound | apply Dev.onBit_sound)
    | intro _ _ | split | dsimp only

theorem Dev.cadCtrl_sound {d : Dev} (r : Requester) (s : Nat) (v : Word) (hs : d.Sound) : (d.cadCtrl r s v).Sound := by
  unfold Dev.cadCtrl
  repeat' first
    | (with_reducible first | assumption | apply Dev.cadCtrlWrite_sound | apply Dev.vpIdle_sound | apply Dev.handSettle_sound)
    | split | dsimp only

theorem Dev.writeAnch_sound {d : Dev} (r : Requester) (off : Nat) (v : Word) (hs : d.Sound) : (d.writeAnch r off v).Sound := by
  unfold Dev.writeAnch
  repeat' first
    | (with_reducible first | assumption | apply Dev.writeIm_sound | apply Dev.cadCmdWrite_sound | apply Dev.cadCtrl_sound)
    | split | dsimp only

theorem Dev.writePadp_sound {d : Dev} (p off : Nat) (v : Word) (hs : d.Sound) : (d.writePadp p off v).Sound := by
  unfold Dev.writePadp
  repeat' first
    | (with_reducible first | assumption | apply Dev.prestage_sound | apply Dev.onBit_sound | apply Dev.writeIm_sound)
    | intro _ _ | split | dsimp only

theorem Dev.writeXpt_sound {d : Dev} (r : Requester) (p off : Nat) (v : Word) (hs : d.Sound) : (d.writeXpt r p off v).Sound := by
  unfold Dev.writeXpt
  repeat' first
    | (with_reducible first
          | assumption | apply Dev.retrainCmd_sound | apply Dev.sbGo_sound | apply Dev.tcLoad_sound | apply Dev.onBit_sound
          | apply Dev.writeIm_sound)
    | intro _ _ | split | dsimp only

theorem Dev.writePpll_sound {d : Dev} (r : Requester) (p off : Nat) (v : Word) (hs : d.Sound) : (d.writePpll r p off v).Sound := by
  unfold Dev.writePpll
  repeat' first
    | (with_reducible first | assumption | apply Dev.retryMain_sound | apply Dev.onBit_sound | apply Dev.writeIm_sound)
    | intro _ _ | split | dsimp only

theorem Dev.writeSpll_sound {d : Dev} (r : Requester) (n off : Nat) (v : Word) (hs : d.Sound) : (d.writeSpll r n off v).Sound := by
  unfold Dev.writeSpll
  repeat' first | (with_reducible first | assumption | apply Dev.ckoWrite_sound | apply Dev.writeIm_sound) | split | dsimp only

theorem Dev.tagWrite_sound {d : Dev} (r : Requester) (v : Word) (hs : d.Sound) : (d.tagWrite r v).Sound := by
  unfold Dev.tagWrite
  repeat' first | (with_reducible first | assumption | apply Dev.mcgReject_sound | apply Dev.writeIm_sound) | split | dsimp only

theorem Dev.spareWrite_sound {d : Dev} (r : Requester) (v : Word) (hs : d.Sound) : (d.spareWrite r v).Sound := by
  unfold Dev.spareWrite
  repeat' first | (with_reducible first | assumption | apply Dev.mcgReject_sound | apply Dev.writeIm_sound) | split | dsimp only

theorem Dev.writeMcg_sound {d : Dev} (r : Requester) (off : Nat) (v : Word) (hs : d.Sound) : (d.writeMcg r off v).Sound := by
  unfold Dev.writeMcg
  repeat' first
    | (with_reducible first
          | assumption | apply Dev.mapApply_sound | apply Dev.weightWrite_sound | apply Dev.migStart_sound | apply Dev.onBit_sound
          | apply Dev.writeIm_sound | apply Dev.tagWrite_sound | apply Dev.spareWrite_sound)
    | intro _ _ | split | dsimp only

theorem Dev.writeBlt_sound {d : Dev} (r : Requester) (off : Nat) (v : Word) (hs : d.Sound) : (d.writeBlt r off v).Sound := by
  unfold Dev.writeBlt
  repeat' first
    | (with_reducible first | assumption | apply Dev.bltStart_sound | apply Dev.bltAbort_sound | apply Dev.onBit_sound | apply Dev.writeIm_sound)
    | intro _ _ | split | dsimp only

theorem Dev.teamWrite_sound {d : Dev} (r : Requester) (v : Word) (hs : d.Sound) : (d.teamWrite r v).Sound := by
  unfold Dev.teamWrite
  repeat' first
    | (with_reducible first
          | assumption | apply Dev.onRope_sound | apply Dev.hush_sound | apply Dev.rpgReject_sound | apply Dev.sayTo_sound | apply Dev.writeIm_sound)
    | split | dsimp only

theorem Dev.xctlWrite_sound {d : Dev} (r : Requester) (c : Fin 8) (v : Word) (hs : d.Sound) : (d.xctlWrite r c v).Sound := by
  unfold Dev.xctlWrite
  repeat' first
    | (with_reducible first | assumption | apply Dev.xferStart_sound | apply Dev.xferAbort_sound | apply Dev.onBit_sound)
    | intro _ _ | split | dsimp only

theorem Dev.writeRpg_sound {d : Dev} (r : Requester) (off : Nat) (v : Word) (hs : d.Sound) : (d.writeRpg r off v).Sound := by
  unfold Dev.writeRpg
  repeat' first
    | (with_reducible first
          | assumption | apply Dev.rpgReject_sound | apply Dev.enumerate_sound | apply Dev.tcSend_sound | apply Dev.rregGo_sound
          | apply Dev.wakeSend_sound | apply Dev.onBit_sound | apply Dev.writeIm_sound | apply Dev.teamWrite_sound | apply Dev.xctlWrite_sound)
    | intro _ _ | split | dsimp only

theorem Dev.writeRpp_sound {d : Dev} (r : Requester) (p off : Nat) (v : Word) (hs : d.Sound) : (d.writeRpp r p off v).Sound := by
  unfold Dev.writeRpp
  repeat' first
    | (with_reducible first | assumption | apply Dev.ropeRetrain_sound | apply Dev.onBit_sound | apply Dev.writeIm_sound)
    | intro _ _ | split | dsimp only

theorem Dev.reactWrite_sound {d : Dev} (r : Requester) (off : Nat) (v : Word) (hs : d.Sound) : (d.reactWrite r off v).Sound := by
  unfold Dev.reactWrite
  repeat' first
    | (with_reducible first | assumption | apply Dev.flag_sound | apply Dev.safeReject_sound | apply Dev.writeIm_sound)
    | split | dsimp only

theorem Dev.injectFree_sound {d : Dev} (r : Requester) (hs : d.Sound) : (d.injectFree r).Sound := by
  unfold Dev.injectFree
  repeat' first | (with_reducible first | assumption | apply Dev.freeStep_sound | apply Dev.injectGo_sound) | split | dsimp only

theorem Dev.writeSafe_sound {d : Dev} (r : Requester) (off : Nat) (v : Word) (hs : d.Sound) : (d.writeSafe r off v).Sound := by
  unfold Dev.writeSafe
  repeat' first
    | (with_reducible first
          | assumption | apply Dev.belayClear_sound | apply Dev.selftest_sound | apply Dev.onBit_sound | apply Dev.writeIm_sound
          | apply Dev.reactWrite_sound | apply Dev.injectFree_sound)
    | intro _ _ | split | dsimp only

theorem Dev.writePcie_sound {d : Dev} (r : Requester) (off : Nat) (v : Word) (hs : d.Sound) : (d.writePcie r off v).Sound := by
  unfold Dev.writePcie
  repeat' first | (with_reducible first | assumption | apply Dev.reject_sound | apply Dev.writeIm_sound) | split | dsimp only

theorem Dev.writeActs_sound {d : Dev} (r : Requester) (p : Page) (n off : Nat) (v : Word) (hs : d.Sound) : (d.writeActs r p n off v).Sound := by
  unfold Dev.writeActs
  repeat' first
    | (with_reducible first
          | assumption | apply Dev.svcCtrlWrite_sound | apply Dev.writeIm_sound | apply Dev.writeSys_sound | apply Dev.writeProt_sound
          | apply Dev.writePwr_sound | apply Dev.writeFwm_sound | apply Dev.writeIntc_sound | apply Dev.writeIsrc_sound | apply Dev.writeElog_sound
          | apply Dev.writeIntf_sound | apply Dev.writeStim_sound | apply Dev.writeFmem_sound | apply Dev.writeAnch_sound
          | apply Dev.writePadp_sound | apply Dev.writeXpt_sound | apply Dev.writePpll_sound | apply Dev.writeSpll_sound | apply Dev.writeMcg_sound
          | apply Dev.writeBlt_sound | apply Dev.writeRpg_sound | apply Dev.writeRpp_sound | apply Dev.writeSafe_sound | apply Dev.writePcie_sound)
    | split | dsimp only

theorem Dev.clearStat_sound {d : Dev} (p : Page) (n off : Nat) (v : Word) (hs : d.Sound) : (d.clearStat p n off v).Sound := by
  unfold Dev.clearStat
  repeat' first
    | (with_reducible first | assumption | apply Dev.onCore_sound | apply Dev.alertSettle_sound | apply Dev.faultsCleared_sound)
    | split | dsimp only

theorem Dev.shadowWrite_sound {d : Dev} (r : Requester) (p : Page) (n off : Nat) (v : Word) (hs : d.Sound) : (d.shadowWrite r p n off v).Sound := by
  unfold Dev.shadowWrite
  repeat' first | (with_reducible first | assumption | apply Dev.writeShadow_sound) | split | dsimp only

theorem Dev.writeHeader_sound {d : Dev} (r : Requester) (p : Page) (n off : Nat) (v : Word) (hs : d.Sound) : (d.writeHeader r p n off v).Sound := by
  unfold Dev.writeHeader
  repeat' first
    | (with_reducible first | assumption | apply Dev.wr_sound | apply Dev.commitWrite_sound | apply Dev.writeIm_sound | apply Dev.clearStat_sound)
    | split | dsimp only

theorem Dev.writeReg_sound {d : Dev} (r : Requester) (p : Page) (n off : Nat) (v : Word) (hs : d.Sound) : (d.writeReg r p n off v).Sound := by
  unfold Dev.writeReg
  repeat' first
    | (with_reducible first
          | assumption | apply Dev.writeActs_sound | apply Dev.clearStat_sound | apply Dev.shadowWrite_sound | apply Dev.writeHeader_sound)
    | split | dsimp only

theorem Dev.refuse_sound {d : Dev} (r : Requester) (p : Page) (n off : Nat) (asleep write : Bool) (hs : d.Sound) : (d.refuse r p n off asleep
    write).Sound := by
  unfold Dev.refuse
  repeat' first | (with_reducible first | assumption | apply Dev.onCore_sound | apply Dev.inc_sound | apply Dev.answer_sound) | split | dsimp only

theorem Dev.letIn_sound {d : Dev} (r : Requester) (p : Page) (n off : Nat) (write : Bool) (v : Word) {f : Dev → Dev}
    (hf : ∀ x, x.Sound → (f x).Sound) (h : d.Sound) : (d.letIn r p n off write v f).Sound := by
  unfold Dev.letIn
  repeat' first | (with_reducible first | assumption | apply Dev.refuse_sound | apply hf) | split

theorem Dev.readLo_sound {d : Dev} (p : Page) (n off value hi : Nat) (hs : d.Sound) : (d.readLo p n off value hi).Sound := by
  unfold Dev.readLo
  repeat' first | (with_reducible first | assumption | apply Dev.wr_sound | apply Dev.answer_sound) | split | dsimp only

theorem Dev.readFree_sound {d : Dev} (hi : Nat) (hs : d.Sound) : (d.readFree hi).Sound := by
  unfold Dev.readFree
  repeat' first | (with_reducible first | assumption | apply Dev.answer_sound | apply Dev.freeStep_sound) | split | dsimp only

theorem Dev.readApplied_sound {d : Dev} (p : Page) (n : Nat) (hs : d.Sound) : (d.readApplied p n).Sound := by
  unfold Dev.readApplied
  repeat' first | (with_reducible first | assumption | apply Dev.readLo_sound) | split | dsimp only

theorem Dev.readShown_sound {d : Dev} (p : Nat) (hs : d.Sound) : (d.readShown p).Sound := by
  unfold Dev.readShown
  repeat' first | (with_reducible first | assumption | apply Dev.wr_sound | apply Dev.answer_sound) | split | dsimp only

theorem Dev.readReg_sound {d : Dev} (r : Requester) (p : Page) (n off : Nat) (hs : d.Sound) : (d.readReg r p n off).Sound := by
  unfold Dev.readReg
  repeat' first
    | (with_reducible first
          | assumption | apply Dev.onCore_sound | apply Dev.answer_sound | apply Dev.readLo_sound | apply Dev.readFree_sound
          | apply Dev.readApplied_sound | apply Dev.readShown_sound)
    | split | dsimp only

theorem Dev.busWrite_sound {d : Dev} (r : Requester) (a : Nat) (v : Word) (bar : Bool) (hs : d.Sound) : (d.busWrite r a v bar).Sound := by
  unfold Dev.busWrite
  repeat' first
    | (with_reducible first | assumption | apply Dev.onCore_sound | apply Dev.writeReg_sound | apply Dev.refuse_sound | apply Dev.letIn_sound)
    | intro _ _ | split | dsimp only

theorem Dev.busRead_sound {d : Dev} (r : Requester) (a : Nat) (bar : Bool) (hs : d.Sound) : (d.busRead r a bar).Sound := by
  unfold Dev.busRead
  repeat' first
    | (with_reducible first | assumption | apply Dev.answer_sound | apply Dev.refuse_sound | apply Dev.letIn_sound | apply Dev.readReg_sound)
    | intro _ _ | split | dsimp only

theorem Dev.viaBar4_sound {d : Dev} (r : Requester) (off : Nat) (write : Bool) {f : Dev → Dev}
    (hf : ∀ x, x.Sound → (f x).Sound) (h : d.Sound) : (d.viaBar4 r off write f).Sound := by
  unfold Dev.viaBar4
  repeat' first | (with_reducible first | assumption | apply Dev.refuse_sound | apply hf) | split

theorem Dev.bar4Write_sound {d : Dev} (r : Requester) (off : Nat) (v : Word) (hs : d.Sound) : (d.bar4Write r off v).Sound := by
  unfold Dev.bar4Write
  repeat' first | (with_reducible first | assumption | apply Dev.writeReg_sound | apply Dev.viaBar4_sound) | intro _ _ | split | dsimp only

theorem Dev.bar4Read_sound {d : Dev} (r : Requester) (off : Nat) (hs : d.Sound) : (d.bar4Read r off).Sound := by
  unfold Dev.bar4Read
  repeat' first | (with_reducible first | assumption | apply Dev.readReg_sound | apply Dev.viaBar4_sound) | intro _ _ | split | dsimp only

theorem Dev.badAccess_sound {d : Dev} (r : Requester) (bar4 : Bool) (a size : Nat) (write : Bool) (hs : d.Sound) : (d.badAccess r bar4 a size
    write).Sound := by
  unfold Dev.badAccess
  repeat' first | (with_reducible first | assumption | apply Dev.wr_sound | apply Dev.inc_sound | apply Dev.flag_sound) | split | dsimp only

theorem Dev.writeWord_sound {d : Dev} (r : Requester) (bar4 : Bool) (a : Nat) (v : Word) (hs : d.Sound) : (d.writeWord r bar4 a v).Sound := by
  unfold Dev.writeWord
  repeat' first | (with_reducible first | assumption | apply Dev.busWrite_sound | apply Dev.bar4Write_sound) | split | dsimp only

theorem Dev.registerWrite_sound {d : Dev} (r : Requester) (bar4 : Bool) (a size : Nat) (v : BitVec 64) (hs : d.Sound) : (d.registerWrite r bar4 a
    size v).Sound := by
  unfold Dev.registerWrite
  repeat' first | (with_reducible first | assumption | apply Dev.badAccess_sound | apply Dev.writeWord_sound) | split | dsimp only

theorem Dev.restoreShadow_sound {d : Dev} (x : Nat × Word) (hs : d.Sound) : (d.restoreShadow x).Sound := by
  unfold Dev.restoreShadow
  repeat' first | (with_reducible first | assumption | apply Dev.shadowWrite_sound) | split | dsimp only

theorem Dev.restoreIm_sound {d : Dev} (x : Nat × Word) (hs : d.Sound) : (d.restoreIm x).Sound := by
  unfold Dev.restoreIm
  repeat' first | (with_reducible first | assumption | apply Dev.writeReg_sound) | split | dsimp only

theorem Dev.restoreFrame_sound {d : Dev} (e : Nat) (words : List Word) (bs : List (BitVec 8)) (hs : d.Sound) : (d.restoreFrame e words bs).Sound :=
    by
  unfold Dev.restoreFrame
  repeat' first
    | (with_reducible first | assumption | apply Dev.onCore_sound | apply Dev.showFree_sound)
    | split | dsimp only | with_reducible refine Dev.sound_mk (Dev.sound_mem ?_) (Dev.sound_fm ?_)
    | with_reducible refine Dev.sound_mk (Dev.sound_mem ?_) (Memory.wf_writeBytes _ _ (Dev.sound_fm ?_))

theorem Dev.restoreSettings_sound {d : Dev} (hs : d.Sound) : d.restoreSettings.Sound := by
  unfold Dev.restoreSettings
  repeat' first
    | (with_reducible first
          | assumption | apply Dev.commitArm_sound | apply Dev.restoreShadow_sound | apply Dev.restoreIm_sound | apply Dev.restoreFrame_sound
          | refine Dev.foldl_sound (fun _ _ _ => ?_) ?_)
    | split | dsimp only

theorem Dev.trainingDone_sound {d : Dev} (t : TrainReport) (hs : d.Sound) : (d.trainingDone t).Sound := by
  unfold Dev.trainingDone
  repeat' first
    | (with_reducible first
          | assumption | apply Dev.wrN_sound | apply Dev.setMode_sound | apply Dev.startCadences_sound | apply Dev.trainMemory_sound
          | apply Dev.restoreSettings_sound)
    | split | dsimp only

theorem Dev.sceneTick_sound {d : Dev} (s : Nat) (golden : Bool) (hs : d.Sound) : (d.sceneTick s golden).Sound := by
  unfold Dev.sceneTick
  repeat' first
    | (with_reducible first
          | assumption | apply Dev.moveStep_sound | apply Dev.cadenceTick_sound | apply Dev.teamTick_sound | apply Dev.vpBoundary_sound
          | apply Dev.resumePorts_sound | apply Dev.handSettle_sound | apply Dev.fwBoundary_sound | apply Dev.injectBy_sound)
    | split | dsimp only

theorem Dev.pcieLinkUp_sound {d : Dev} (x : PcieLink) (hs : d.Sound) : (d.pcieLinkUp x).Sound := by
  unfold Dev.pcieLinkUp
  repeat' first | (with_reducible first | assumption | apply Dev.wr_sound | apply Dev.flag_sound) | split | dsimp only

theorem Dev.pcieSpeedChange_sound {d : Dev} (x : PcieLink) (hs : d.Sound) : (d.pcieSpeedChange x).Sound := by
  unfold Dev.pcieSpeedChange
  repeat' first | (with_reducible first | assumption | apply Dev.wr_sound | apply Dev.flag_sound) | split | dsimp only

theorem Dev.functionReset_sound {d : Dev} (k : Fin 8) (hs : d.Sound) : (d.functionReset k).Sound := by
  unfold Dev.functionReset
  repeat' first
    | (with_reducible first | assumption | apply Dev.onCore_sound | apply Dev.wr_sound | apply Dev.discardStalled_sound)
    | split | dsimp only

theorem Dev.countReset_sound {d : Dev} (lo : Nat) (hs : d.Sound) : (d.countReset lo).Sound := by
  unfold Dev.countReset
  repeat' first | (with_reducible first | assumption | apply Dev.setF_sound) | split | dsimp only

theorem Dev.flr_sound {d : Dev} (k : Fin 8) (hs : d.Sound) : (d.flr k).Sound := by
  unfold Dev.flr
  repeat' first
    | (with_reducible first | assumption | apply Dev.flag_sound | apply Dev.functionReset_sound | apply Dev.countReset_sound)
    | split | dsimp only

theorem Dev.pePerst_sound {d : Dev} (_how : HotReset) (hs : d.Sound) : (d.pePerst _how).Sound := by
  unfold Dev.pePerst
  repeat' first
    | (with_reducible first
          | assumption | apply Dev.wr_sound | apply Dev.wrN_sound | apply Dev.flag_sound | apply Dev.functionReset_sound
          | apply Dev.countReset_sound | refine Dev.foldl_sound (fun _ _ _ => ?_) ?_)
    | split | dsimp only

theorem Dev.configRequest_sound {d : Dev} (k : Fin 8) (x : CfgWrite) (hs : d.Sound) : (d.configRequest k x).Sound := by
  unfold Dev.configRequest
  repeat' first | (with_reducible first | assumption | apply Dev.setB_sound | apply Dev.wrN_sound) | split | dsimp only

theorem Dev.msixBlockEnd_sound {d : Dev} (k : Fin 8) (hs : d.Sound) : (d.msixBlockEnd k).Sound :=
  Dev.onCore_sound _ hs

theorem Dev.bar2Write_sound {d : Dev} (k : Fin 8) (a : Nat) (bs : List (BitVec 8)) (bad : Bool) (hs : d.Sound) : (d.bar2Write k a bs bad).Sound :=
    by
  unfold Dev.bar2Write
  repeat' first
    | (with_reducible first | assumption | apply Dev.inc_sound | apply Dev.flag_sound | apply Dev.dramWrite_sound)
    | (refine Dev.dramWrite_fst ?_ (by assumption)) | split | dsimp only

theorem Dev.bar2Read_sound {d : Dev} (k : Fin 8) (a n : Nat) (hs : d.Sound) : (d.bar2Read k a n).Sound := by
  unfold Dev.bar2Read
  repeat' first
    | (with_reducible first
          | assumption | apply Dev.onCore_sound | apply Dev.onBoard_sound | apply Dev.inc_sound | apply Dev.flag_sound | apply Dev.answer_sound
          | apply Dev.memWake_sound | apply Dev.rangeError_sound | refine Dev.foldl_sound (fun _ _ _ => ?_) ?_)
    | split | dsimp only

theorem Dev.qspiSet_sound {d : Dev} (i : Nat) (hs : d.Sound) : (d.qspiSet i).Sound := by
  unfold Dev.qspiSet
  repeat' first | (with_reducible first | assumption | apply Dev.setB_sound | apply Dev.flag_sound) | split | dsimp only

theorem Dev.qspiAnswer_sound {d : Dev} (w : Word) (hs : d.Sound) : (d.qspiAnswer w).Sound := by
  unfold Dev.qspiAnswer
  repeat' first | (with_reducible first | assumption | apply Dev.answer_sound) | split | dsimp only

theorem Dev.qspiRead_sound {d : Dev} (a : Nat) (inTime : Bool) (hs : d.Sound) : (d.qspiRead a inTime).Sound := by
  unfold Dev.qspiRead
  repeat' first
    | (with_reducible first | assumption | apply Dev.busRead_sound | apply Dev.qspiSet_sound | apply Dev.qspiAnswer_sound)
    | split | dsimp only

theorem Dev.qspiWords_sound {d : Dev} (a : Nat) (l : List Word) (h : d.Sound) : (d.qspiWords a l).Sound := by
  induction l generalizing d a with
  | nil => exact h
  | cons w r ih =>
    unfold Dev.qspiWords
    refine ih _ ?_
    split
    · exact Dev.qspiSet_sound _ (Dev.busWrite_sound _ _ _ _ h)
    · exact Dev.busWrite_sound _ _ _ _ h

theorem Dev.qspiWrite_sound {d : Dev} (a : Nat) (ws : List Word) (hs : d.Sound) : (d.qspiWrite a ws).Sound := by
  unfold Dev.qspiWrite
  repeat' first
    | (with_reducible first | assumption | apply Dev.qspiSet_sound | apply Dev.qspiWords_sound)
    | (refine Dev.qspiWords_fst ?_ (by assumption)) | split | dsimp only

theorem Dev.qspiStatus_sound {d : Dev} (hs : d.Sound) : d.qspiStatus.Sound := by
  unfold Dev.qspiStatus
  repeat' first | (with_reducible first | assumption | apply Dev.wr_sound | apply Dev.answer_sound) | split | dsimp only

theorem Dev.smbWake_sound {d : Dev} (hs : d.Sound) : d.smbWake.Sound := by
  unfold Dev.smbWake
  repeat' first | (with_reducible first | assumption | apply Dev.onBoard_sound | apply Dev.wakeCause_sound) | split | dsimp only

theorem Dev.smbDeny_sound {d : Dev} (hs : d.Sound) : d.smbDeny.Sound := by
  unfold Dev.smbDeny
  repeat' first | (with_reducible first | assumption | apply Dev.inc_sound) | split | dsimp only

theorem Dev.smbRead_sound {d : Dev} (a : Nat) (hs : d.Sound) : (d.smbRead a).Sound := by
  unfold Dev.smbRead
  repeat' first
    | (with_reducible first | assumption | apply Dev.answer_sound | apply Dev.busRead_sound | apply Dev.smbWake_sound | apply Dev.smbDeny_sound)
    | split | dsimp only

theorem Dev.smbWrite_sound {d : Dev} (a : Nat) (v : Word) (pec : Option Bool) (hs : d.Sound) : (d.smbWrite a v pec).Sound := by
  unfold Dev.smbWrite
  repeat' first
    | (with_reducible first | assumption | apply Dev.onBoard_sound | apply Dev.busWrite_sound | apply Dev.smbWake_sound | apply Dev.smbDeny_sound)
    | split | dsimp only

theorem Dev.smbStatus_sound {d : Dev} (hs : d.Sound) : d.smbStatus.Sound := by
  unfold Dev.smbStatus
  repeat' first | (with_reducible first | assumption | apply Dev.answer_sound | apply Dev.smbWake_sound) | split | dsimp only

theorem Dev.smbTemp_sound {d : Dev} (hs : d.Sound) : d.smbTemp.Sound := by
  unfold Dev.smbTemp
  repeat' first | (with_reducible first | assumption | apply Dev.answer_sound | apply Dev.smbWake_sound) | split | dsimp only

theorem Dev.alertResponse_sound {d : Dev} (hs : d.Sound) : d.alertResponse.Sound := by
  unfold Dev.alertResponse
  repeat' first | (with_reducible first | assumption | apply Dev.onBoard_sound | apply Dev.answer_sound) | split | dsimp only

theorem Dev.gpioEvent_sound {d : Dev} (n : Nat) (level : Bool) (hs : d.Sound) : (d.gpioEvent n level).Sound := by
  unfold Dev.gpioEvent
  repeat' first
    | (with_reducible first | assumption | apply Dev.setB_sound | apply Dev.event_sound | apply Dev.wakeCause_sound)
    | split | dsimp only

theorem Dev.boundaryScan_sound {d : Dev} (x : ScanInstr) (hs : d.Sound) : (d.boundaryScan x).Sound := by
  unfold Dev.boundaryScan
  repeat' first | (with_reducible first | assumption | apply Dev.onBoard_sound | apply Dev.answer_sound) | split | dsimp only

theorem Dev.rregRequest_sound {d : Dev} (origin a : Nat) (write : Bool) (v : Word) (hs : d.Sound) : (d.rregRequest origin a write v).Sound := by
  unfold Dev.rregRequest
  repeat' first
    | (with_reducible first
          | assumption | apply Dev.hush_sound | apply Dev.sayTo_sound | apply Dev.rregReply_sound | apply Dev.busWrite_sound
          | apply Dev.busRead_sound)
    | split | dsimp only

theorem Dev.bringBack_sound {d : Dev} (h : d.Sound) : d.bringBack.Sound := Dev.sound_mk (Dev.sound_mem h) (Dev.sound_fm h)

theorem spillLanded_sound {y : Dev × WriteFate} (h : y.1.Sound) : (spillLanded y).Sound := by
  unfold spillLanded
  split
  · exact Dev.flag_sound _ _ _ _ _ _ _ _ h
  · exact h

theorem Dev.landSpill_sound {d : Dev} (x : Nat × Rec) (h : d.Sound) : (d.landSpill x).Sound :=
  spillLanded_sound (Dev.dramWrite_sound (.cpu 0) x.1 (wordBytes x.2.words) false h)

theorem Dev.landSpills_sound {d : Dev} (hs : d.Sound) : d.landSpills.Sound := by
  unfold Dev.landSpills
  repeat' first
    | (with_reducible first | assumption | apply Dev.onCore_sound | apply Dev.landSpill_sound | refine Dev.foldl_sound (fun _ _ _ => ?_) ?_)
    | split | dsimp only

theorem Dev.tick_sound {d : Dev} (hs : d.Sound) : d.tick.Sound := by
  unfold Dev.tick
  repeat' first
    | (with_reducible first
          | assumption | apply Dev.advance_sound | apply Dev.moveStep_sound | apply Dev.resumePorts_sound | apply Dev.handSettle_sound
          | apply Dev.injectBy_sound | apply Dev.landSpills_sound)
    | split | dsimp only

end Sys2Proof.Machine
end

