-- ==== Sys2Proof/Laws/Exec.lean ====
section
/-! SUPPORT. What the forms of a command do: a write or a read that arrives, one that is held back, and an event. -/

namespace Sys2Proof.Machine

open Host (Outcome)

/-- A page that the present mode serves is served in a mode. -/
theorem servedIn_mode {m : Nat} {p : Page} (h : servedIn m p = true) : m ≠ 0 := by
  rintro rfl
  simp [servedIn] at h

/-- A host function without a stalled write is not held back. -/
theorem State.posted_free {s : State} {r : Requester} (i : Instr) (f : Dev → Dev) (h : s.dev.fnStalled r = false) :
    s.posted r i f = s.on f := by
  unfold State.posted
  split
  · rw [h]; rfl
  · rfl

@[simp] theorem State.posted_pending (s : State) (r : Requester) (i : Instr) (f : Dev → Dev) :
    (s.posted r i f).pending = s.pending := by
  unfold State.posted
  split
  · split <;> rfl
  · rfl

/-- An access that is served and allowed is made. -/
theorem Dev.letIn_made {d : Dev} {r : Requester} {p : Page} {n off : Nat} {write : Bool} {v : Word} (f : Dev → Dev) (hn : n < p.count)
    (hs : servedIn d.mode p = true) (hr : d.core.mayAccess r p n off write v = true) : d.letIn r p n off write v f = f d := by
  have h0 := servedIn_mode hs
  have h1 : ¬ p.count ≤ n := by omega
  simp [Dev.letIn, h0, h1, hs, hr]

/-- Two events that change the device alike end alike. -/
theorem State.next_on {s : State} {f g : Dev → Dev} (h : f s.dev = g s.dev) :
    (Outcome.next (s.on f) : Outcome State Fault Refusal) = .next (s.on g) := by
  simp only [State.on, h]

/-- An access that no stalled write holds back has its effect. -/
theorem State.access_made {s : State} {r : Requester} {i : Instr} {f : Dev → Dev} (h : s.dev.fnStalled r = false) :
    s.access r i f = .next (s.on f) := by
  unfold State.access
  rw [State.posted_free _ _ h]

/-- A command that writes a register and arrives has the effect of its write. -/
theorem State.write_made {s : State} {r : Requester} {i : Instr} {p : Page} {n off : Nat} {v : Word} {f : Dev → Dev}
    (h : s.Reaches r p n off true v) : s.write r i p n off v f = .next (s.on f) := by
  unfold State.write
  rw [State.posted_free _ _ h.1]
  simp only [State.on, Dev.letIn_made f h.2.1 h.2.2.1 h.2.2.2]

/-- A command that reads a register and arrives has the effect of its read. -/
theorem State.read_made {s : State} {r : Requester} {i : Instr} {p : Page} {n off : Nat} (h : s.Reaches r p n off false 0) :
    s.read r i p n off = .next (s.on (·.readReg r p n off)) := by
  unfold State.read
  rw [State.posted_free _ _ h.1]
  simp only [State.on, Dev.letIn_made _ h.2.1 h.2.2.1 h.2.2.2]

/-- A Rakin command that is carried out answers what its action gives. -/
theorem Dev.rakin_taken {d d1 : Dev} {op : Nat} {h : RakinHdr} {bs : List (BitVec 8)} {gated : Bool} {allowed : Nat → Bool}
    {f : Dev → Dev × Nat × List Word} {status : Nat} {ws : List Word} (hr : d.RakinTaken op h bs gated allowed) (hf : f d = (d1, status, ws)) :
    d.rakin op h bs gated allowed f = d1.respond op h.tag status ws := by
  obtain ⟨h1, h2, h3, h4, h5, h6, h7, h8⟩ := hr
  have a3 : ¬ (h.length ≠ bs.length ∨ 65536 < bs.length) := by omega
  have a5 : (!d.bit .svc 0 Off.SVC_SVC_STAT 4 && op != 1) = false := by rcases h5 with h | h <;> simp [h]
  have a6 : ¬ (d.mode = 2 ∧ !campOps op) := fun h => by simp [h6 h.1] at h
  have a8 : (gated && !d.writeOk) = false := by cases gated <;> simp_all
  simp only [Dev.rakin, h1, if_neg a3, h4, a5, if_neg a6, h7, a8, hf, ne_eq, not_true_eq_false, Bool.not_true, Bool.false_eq_true, if_false]

/-- A mailbox request that is carried out gets the answer its function gives. -/
theorem Dev.mbx_answered {d d1 : Dev} {func : Nat} {f : Dev → Dev × Nat × List Word} {status : Nat} {ws : List Word} {m : Mbx}
    (h1 : d.fw.mbx = some m) (h2 : m.func = func) (h3 : m.answer = none) (h4 : m.held = false) (hf : f d = (d1, status, ws)) :
    d.mbxAnswer func f = d1.onFw fun x => { x with mbx := some { m with answer := some (status, ws) } } := by
  have : m.func = func ∧ m.answer = none ∧ (!m.held) = true := ⟨h2, h3, by simp [h4]⟩
  simp only [Dev.mbxAnswer, h1, if_pos this, hf]

/-! Soundness of the forms -/

theorem State.on_sound {s : State} {f : Dev → Dev} (hf : ∀ d, d.Sound → (f d).Sound) (h : s.Sound) : (s.on f).Sound := hf _ h

theorem State.posted_sound {s : State} {r : Requester} {i : Instr} {f : Dev → Dev} (hf : ∀ d, d.Sound → (f d).Sound) (h : s.Sound) :
    (s.posted r i f).Sound := by
  unfold State.posted
  split
  · split
    · exact State.on_sound (fun d h => Dev.sound_mk (Dev.sound_mem h) (Dev.sound_fm h)) h
    · exact State.on_sound hf h
  · exact State.on_sound hf h

/-- A register write keeps a sound state sound where its effect does. -/
theorem State.write_sound {s t : State} {r : Requester} {i : Instr} {p : Page} {n off : Nat} {v : Word} {f : Dev → Dev}
    (hf : ∀ d, d.Sound → (f d).Sound) (h : s.Sound) (e : s.write r i p n off v f = .next t) : t.Sound := by
  cases e
  exact State.posted_sound (fun d hd => Dev.letIn_sound _ _ _ _ _ _ hf hd) h

/-- A register read keeps a sound state sound. -/
theorem State.read_sound {s t : State} {r : Requester} {i : Instr} {p : Page} {n off : Nat} (h : s.Sound)
    (e : s.read r i p n off = .next t) : t.Sound := by
  cases e
  exact State.posted_sound (fun d hd => Dev.letIn_sound _ _ _ _ _ _ (fun x hx => Dev.readReg_sound _ _ _ _ hx) hd) h

/-- An access keeps a sound state sound where its effect does. -/
theorem State.access_sound {s t : State} {r : Requester} {i : Instr} {f : Dev → Dev} (hf : ∀ d, d.Sound → (f d).Sound) (h : s.Sound)
    (e : s.access r i f = .next t) : t.Sound := by
  cases e
  exact State.posted_sound hf h

/-- An event keeps a sound state sound where its effect does. -/
theorem State.happens_sound {s t : State} {f : Dev → Dev} (hf : ∀ d, d.Sound → (f d).Sound) (h : s.Sound)
    (e : s.happens f = .next t) : t.Sound := by
  cases e
  exact State.on_sound hf h

end Sys2Proof.Machine
end

