-- ==== Sys2Proof/Laws/ExecSound.lean ====
section
/-! SUPPORT. Every command keeps a sound state sound. -/

namespace Sys2Proof.Machine

theorem exec_sound {c : Instr} {s t : State} (h : s.Sound) (e : exec c s = .next t) : t.Sound := by
  cases c with
  | registerWrite => exact State.access_sound (by intro d hd; apply Dev.registerWrite_sound; exact hd) h e
  | shadowWrite => exact State.write_sound (by intro d hd; apply Dev.shadowWrite_sound; exact hd) h e
  | arm => exact State.write_sound (by intro d hd; apply Dev.commitArm_sound; exact hd) h e
  | cancel => exact State.write_sound (by intro d hd; apply Dev.cancelPage_sound; exact hd) h e
  | sqClear => exact State.write_sound (by intro d hd; apply Dev.clearStat_sound; exact hd) h e
  | groupArm => exact State.write_sound (by intro d hd; apply Dev.groupWrite_sound; exact hd) h e
  | groupCancel => exact State.write_sound (by intro d hd; apply Dev.groupWrite_sound; exact hd) h e
  | timeLoRead => exact State.read_sound h e
  | appliedLoRead => exact State.read_sound h e
  | frameLoRead => exact State.read_sound h e
  | pframeLoRead => exact State.read_sound h e
  | shownLoRead => exact State.read_sound h e
  | teamTimeLoRead => exact State.read_sound h e
  | teamFrameLoRead => exact State.read_sound h e
  | faultTimeLoRead => exact State.read_sound h e
  | cadenceTick => exact State.happens_sound (by intro d hd; apply Dev.sceneTick_sound; exact hd) h e
  | fenceReadDone => exact State.happens_sound (by intro d hd; apply Dev.fenceReadDone_sound; exact hd) h e
  | waitFenceReread => exact State.happens_sound (by intro d hd; apply Dev.waitReread_sound; exact hd) h e
  | waitBoundExpiry => exact State.happens_sound (by intro d hd; apply Dev.waitExpiry_sound; exact hd) h e
  | metaReadDone => exact State.happens_sound (by intro d hd; apply Dev.metaDone_sound; exact hd) h e
  | pixelReadReturn => exact State.happens_sound (by intro d hd; apply Dev.pixelReturn_sound; exact hd) h e
  | releaseWrite => exact State.happens_sound (by intro d hd; apply Dev.releaseOldest_sound; exact hd) h e
  | bandComplete => exact State.happens_sound (by intro d hd; apply Dev.bandComplete_sound; exact hd) h e
  | blenderRowWrite => exact State.happens_sound (by intro d hd; apply Dev.rowWrite_sound; exact hd) h e
  | composeDone => exact State.happens_sound (by intro d hd; apply Dev.composeDone_sound; exact hd) h e
  | forceRecompose => exact State.write_sound (by intro d hd; apply Dev.forceRecompose_sound; exact hd) h e
  | forceFlatDrop => exact State.write_sound (by intro d hd; apply Dev.forceFlatDrop_sound; exact hd) h e
  | toneLutBuildDone => exact State.happens_sound (by intro d hd; apply Dev.toneBuildDone_sound; exact hd) h e
  | prestage => exact State.write_sound (by intro d hd; apply Dev.prestage_sound; exact hd) h e
  | adapterStagingDone => exact State.happens_sound (by intro d hd; apply Dev.stagingDone_sound; exact hd) h e
  | adapterReloadDone => exact State.happens_sound (by intro d hd; apply Dev.reloadDone_sound; exact hd) h e
  | allocInstall => exact State.write_sound (by intro d hd; apply Dev.allocInstall_sound; exact hd) h e
  | allocFree => exact State.write_sound (by intro d hd; apply Dev.allocFree_sound; exact hd) h e
  | xferUpload => exact State.write_sound (by intro d hd; apply Dev.xferUpload_sound; exact hd) h e
  | xferCapture => exact State.write_sound (by intro d hd; apply Dev.xferCapture_sound; exact hd) h e
  | xferCaptureFromPort => exact State.write_sound (by intro d hd; apply Dev.xferFromPort_sound; exact hd) h e
  | xferDone => exact State.happens_sound (by intro d hd; apply Dev.xferDone_sound; exact hd) h e
  | hbmRound => exact State.happens_sound (by intro d hd; apply Dev.hbmRound_sound; exact hd) h e
  | fmScrubRead => exact State.happens_sound (by intro d hd; apply Dev.fmScrub_sound; exact hd) h e
  | vblankStart => exact State.happens_sound (by intro d hd; apply Dev.vblankStart_sound; exact hd) h e
  | lineStart => exact State.happens_sound (by intro d hd; apply Dev.lineStart_sound; exact hd) h e
  | rowFetchDeadline => exact State.happens_sound (by intro d hd; apply Dev.rowFetchDeadline_sound; exact hd) h e
  | frameDone => exact State.happens_sound (by intro d hd; apply Dev.frameDone_sound; exact hd) h e
  | cadCtrlWrite => exact State.write_sound (by intro d hd; apply Dev.cadCtrl_sound; exact hd) h e
  | applyRate => exact State.write_sound (by intro d hd; apply Dev.applyRate_sound; exact hd) h e
  | ackSlew => exact State.write_sound (by intro d hd; apply Dev.ackReturn_sound; exact hd) h e
  | ackSnap => exact State.write_sound (by intro d hd; apply Dev.ackReturn_sound; exact hd) h e
  | preset => exact State.write_sound (by intro d hd; apply Dev.presetFrame_sound; exact hd) h e
  | anchorEdge => exact State.happens_sound (by intro d hd; apply Dev.anchorEdge_sound; exact hd) h e
  | anchorLineEdge => exact State.happens_sound (by intro d hd; apply Dev.anchorLineEdge_sound; exact hd) h e
  | refLost => exact State.happens_sound (by intro d hd; apply Dev.refLost_sound; exact hd) h e
  | pllBandSearchDone => exact State.happens_sound (by intro d hd; apply Dev.bandSearchDone_sound; exact hd) h e
  | pllInternalLock => exact State.happens_sound (by intro d hd; apply Dev.internalLock_sound; exact hd) h e
  | pllAlignmentEdge => exact State.happens_sound (by intro d hd; apply Dev.alignmentEdge_sound; exact hd) h e
  | lockPinCrossing => exact State.happens_sound (by intro d hd; apply Dev.lockCrossing_sound; exact hd) h e
  | lockPinTimeout => exact State.happens_sound (by intro d hd; apply Dev.lockTimeout_sound; exact hd) h e
  | pllInternalLoss => exact State.happens_sound (by intro d hd; apply Dev.pllLoss_sound; exact hd) h e
  | fallbackLock => exact State.happens_sound (by intro d hd; apply Dev.fallbackResume_sound; exact hd) h e
  | pllRetry => exact State.happens_sound (by intro d hd; apply Dev.pllRetry_sound; exact hd) h e
  | warmRelockTimeout => exact State.happens_sound (by intro d hd; apply Dev.warmTimeout_sound; exact hd) h e
  | retryMain => exact State.write_sound (by intro d hd; apply Dev.retryMain_sound; exact hd) h e
  | referenceLoss => exact State.happens_sound (by intro d hd; apply Dev.referenceLoss_sound; exact hd) h e
  | referenceReturn => exact State.happens_sound (by intro d hd; apply Dev.referenceReturn_sound; exact hd) h e
  | ckoWrite => exact State.write_sound (by intro d hd; apply Dev.ckoWrite_sound; exact hd) h e
  | retrain => exact State.write_sound (by intro d hd; apply Dev.retrainCmd_sound; exact hd) h e
  | trainingAttemptFail => exact State.happens_sound (by intro d hd; apply Dev.attemptFail_sound; exact hd) h e
  | linkUp => exact State.happens_sound (by intro d hd; apply Dev.linkUp_sound; exact hd) h e
  | linkLoss => exact State.happens_sound (by intro d hd; apply Dev.linkLossEvent_sound; exact hd) h e
  | scdcPoll => exact State.happens_sound (by intro d hd; apply Dev.scdcPoll_sound; exact hd) h e
  | hpdQualified => exact State.happens_sound (by intro d hd; apply Dev.hpdQualified_sound; exact hd) h e
  | hpdUnplug => exact State.happens_sound (by intro d hd; apply Dev.hpdUnplug_sound; exact hd) h e
  | irqHpd => exact State.happens_sound (by intro d hd; apply Dev.irqHpd_sound; exact hd) h e
  | sbGo => exact State.write_sound (by intro d hd; apply Dev.sbGo_sound; exact hd) h e
  | sbDone => exact State.happens_sound (by intro d hd; apply Dev.sbDone_sound; exact hd) h e
  | tcLoad => exact State.write_sound (by intro d hd; apply Dev.tcLoad_sound; exact hd) h e
  | dramTrainingDone => exact State.happens_sound (by intro d hd; apply Dev.trainingDone_sound; exact hd) h e
  | mapApply => exact State.write_sound (by intro d hd; apply Dev.mapApply_sound; exact hd) h e
  | weightWrite => exact State.write_sound (by intro d hd; apply Dev.weightWrite_sound; exact hd) h e
  | dramReadEnqueue => exact State.happens_sound (by intro d hd; apply Dev.readEnqueue_sound; exact hd) h e
  | dramWriteEnqueue => exact State.happens_sound (by intro d hd; apply Dev.writeEnqueue_sound; exact hd) h e
  | stalledWriteResume => exact State.happens_sound (by intro d hd; apply Dev.resumeWrite_sound; exact hd) h e
  | holdStallTimeout => exact State.happens_sound (by intro d hd; apply Dev.stallTimeout_sound; exact hd) h e
  | dramReadReturn => exact State.happens_sound (by intro d hd; apply Dev.readReturn_sound; exact hd) h e
  | dramWriteRetire => exact State.happens_sound (by intro d hd; apply Dev.writeRetire_sound; exact hd) h e
  | dramRefresh => exact State.happens_sound (by intro d hd; apply Dev.dramRefresh_sound; exact hd) h e
  | dramTempPoll => exact State.happens_sound (by intro d hd; apply Dev.dramTemp_sound; exact hd) h e
  | rhCountHalving => exact State.happens_sound (by intro d hd; apply Dev.rhHalve_sound; exact hd) h e
  | dramPatrolScrub => exact State.happens_sound (by intro d hd; apply Dev.patrolScrub_sound; exact hd) h e
  | migStart => exact State.write_sound (by intro d hd; apply Dev.migStart_sound; exact hd) h e
  | migLineCopy => exact State.happens_sound (by intro d hd; apply Dev.migCopy_sound; exact hd) h e
  | migDone => exact State.happens_sound (by intro d hd; apply Dev.migDone_sound; exact hd) h e
  | srEntry => exact State.happens_sound (by intro d hd; apply Dev.srEntry_sound; exact hd) h e
  | srEntered => exact State.happens_sound (by intro d hd; apply Dev.srEntered_sound; exact hd) h e
  | srPrewake => exact State.happens_sound (by intro d hd; apply Dev.srPrewake_sound; exact hd) h e
  | srExit => exact State.happens_sound (by intro d hd; apply Dev.srExit_sound; exact hd) h e
  | srExited => exact State.happens_sound (by intro d hd; apply Dev.srExited_sound; exact hd) h e
  | clockLoss => exact State.happens_sound (by intro d hd; apply Dev.clockLoss_sound; exact hd) h e
  | bltStart => exact State.write_sound (by intro d hd; apply Dev.bltStart_sound; exact hd) h e
  | bltAbort => exact State.write_sound (by intro d hd; apply Dev.bltAbort_sound; exact hd) h e
  | bltOpDone => exact State.happens_sound (by intro d hd; apply Dev.bltOpDone_sound; exact hd) h e
  | bltDoneFence => exact State.happens_sound (by intro d hd; apply Dev.bltFence_sound; exact hd) h e
  | ropeRetrain => exact State.write_sound (by intro d hd; apply Dev.ropeRetrain_sound; exact hd) h e
  | ropeBringupRetry => exact State.happens_sound (by intro d hd; apply Dev.ropeRetry_sound; exact hd) h e
  | ropePortUp => exact State.happens_sound (by intro d hd; apply Dev.ropePortUp_sound; exact hd) h e
  | helloSend => exact State.happens_sound (by intro d hd; apply Dev.helloSend_sound; exact hd) h e
  | hello => exact State.happens_sound (by intro d hd; apply Dev.helloReceived_sound; exact hd) h e
  | replay => exact State.happens_sound (by intro d hd; apply Dev.replay_sound; exact hd) h e
  | keepaliveSend => exact State.happens_sound (by intro d hd; apply Dev.keepaliveSend_sound; exact hd) h e
  | portDown => exact State.happens_sound (by intro d hd; apply Dev.portDown_sound; exact hd) h e
  | claimReceived => exact State.happens_sound (by intro d hd; apply Dev.claimReceived_sound; exact hd) h e
  | electionEnd => exact State.happens_sound (by intro d hd; apply Dev.electionEnd_sound; exact hd) h e
  | enumerate => exact State.write_sound (by intro d hd; apply Dev.enumerate_sound; exact hd) h e
  | teamFormed => exact State.happens_sound (by intro d hd; apply Dev.teamFormed_sound; exact hd) h e
  | memberJoin => exact State.happens_sound (by intro d hd; apply Dev.memberJoin_sound; exact hd) h e
  | orphanElection => exact State.happens_sound (by intro d hd; apply Dev.orphanElection_sound; exact hd) h e
  | syncSend => exact State.happens_sound (by intro d hd; apply Dev.syncSend_sound; exact hd) h e
  | sync => exact State.happens_sound (by intro d hd; apply Dev.syncReceived_sound; exact hd) h e
  | tick => exact State.happens_sound (by intro d hd; apply Dev.tickReceived_sound; exact hd) h e
  | linkDelayMeasure => exact State.happens_sound (by intro d hd; apply Dev.linkDelay_sound; exact hd) h e
  | tcSend => exact State.write_sound (by intro d hd; apply Dev.tcSend_sound; exact hd) h e
  | tcRequest => exact State.happens_sound (by intro d hd; apply Dev.tcArrive_sound; exact hd) h e
  | tcArm => exact State.happens_sound (by intro d hd; apply Dev.tcArmReceived_sound; exact hd) h e
  | tcReply => exact State.happens_sound (by intro d hd; apply Dev.tcReplyReceived_sound; exact hd) h e
  | tcAckTimeout => exact State.happens_sound (by intro d hd; apply Dev.tcAckTimeout_sound; exact hd) h e
  | tcCancel => exact State.happens_sound (by intro d hd; apply Dev.tcCancelReceived_sound; exact hd) h e
  | tcOutcome => exact State.happens_sound (by intro d hd; apply Dev.tcOutcomeReceived_sound; exact hd) h e
  | xferStart => exact State.write_sound (by intro d hd; apply Dev.xferStart_sound; exact hd) h e
  | xferAbort => exact State.write_sound (by intro d hd; apply Dev.xferAbort_sound; exact hd) h e
  | xferSegment => exact State.happens_sound (by intro d hd; apply Dev.xferSegment_sound; exact hd) h e
  | xferSegmentTimeout => exact State.happens_sound (by intro d hd; apply Dev.xferTimeout_sound; exact hd) h e
  | xferAck => exact State.happens_sound (by intro d hd; apply Dev.xferAck_sound; exact hd) h e
  | xferDestFence => exact State.happens_sound (by intro d hd; apply Dev.xferFence_sound; exact hd) h e
  | rregGo => exact State.write_sound (by intro d hd; apply Dev.rregGo_sound; exact hd) h e
  | rregRequest => exact State.happens_sound (by intro d hd; apply Dev.rregRequest_sound; exact hd) h e
  | rregReply => exact State.happens_sound (by intro d hd; apply Dev.rregReply_sound; exact hd) h e
  | rregTimeout => exact State.happens_sound (by intro d hd; apply Dev.rregTimeout_sound; exact hd) h e
  | cairnForward => exact State.happens_sound (by intro d hd; apply Dev.cairnForward_sound; exact hd) h e
  | wakeSend => exact State.write_sound (by intro d hd; apply Dev.wakeSend_sound; exact hd) h e
  | intcClaim => exact State.read_sound h e
  | intfClaim => exact State.access_sound (by intro d hd; split <;> first | exact Dev.bar4Read_sound _ _ hd | exact Dev.busRead_sound _ _ _ hd) h e
  | intcComplete => exact State.write_sound (fun _ hd => Dev.onCore_sound _ hd) h e
  | intfComplete => exact State.access_sound (by intro d hd; apply Dev.writeWord_sound; exact hd) h e
  | coalesceTimeout => exact State.happens_sound (fun _ hd => Dev.onCore_sound _ hd) h e
  | globalHold => exact State.write_sound (fun _ hd => Dev.onCore_sound _ hd) h e
  | dbRaise => exact State.write_sound (fun _ hd => Dev.onCore_sound _ hd) h e
  | pendClr => exact State.write_sound (fun _ hd => Dev.onCore_sound _ hd) h e
  | srcCfgWrite => exact State.write_sound (fun _ hd => Dev.onCore_sound _ hd) h e
  | profileWrite => exact State.write_sound (fun _ hd => Dev.onCore_sound _ hd) h e
  | msixBlockEnd => exact State.happens_sound (by intro d hd; apply Dev.msixBlockEnd_sound; exact hd) h e
  | wakeCause => exact State.happens_sound (by intro d hd; apply Dev.wakeCause_sound; exact hd) h e
  | logTokenRefill => exact State.happens_sound (fun _ hd => Dev.onCore_sound _ hd) h e
  | suppressedSummary => exact State.happens_sound (fun _ hd => Dev.onCore_sound _ hd) h e
  | rptrWrite => exact State.write_sound (fun _ hd => Dev.onCore_sound _ hd) h e
  | spillRptrWrite => exact State.write_sound (fun _ hd => Dev.onCore_sound _ hd) h e
  | win0Read => exact State.read_sound h e
  | spillEnWrite => exact State.write_sound (fun _ hd => Dev.onCore_sound _ hd) h e
  | satClear => exact State.write_sound (fun _ hd => Dev.onCore_sound _ hd) h e
  | checkReferenceDone => exact State.happens_sound (by intro d hd; apply Dev.checkDone_sound; exact hd) h e
  | stallWatchdog => exact State.happens_sound (by intro d hd; apply Dev.stallWatchdog_sound; exact hd) h e
  | safetyCoreWatchdog => exact State.happens_sound (by intro d hd; apply Dev.safetyWatchdog_sound; exact hd) h e
  | supplySample => exact State.happens_sound (by intro d hd; apply Dev.supplySample_sound; exact hd) h e
  | clockMonitorWindow => exact State.happens_sound (by intro d hd; apply Dev.clockMonitor_sound; exact hd) h e
  | cadenceMonitorTimeout => exact State.happens_sound (by intro d hd; apply Dev.cadenceMonitor_sound; exact hd) h e
  | belayEntry => exact State.happens_sound (by intro d hd; apply Dev.belayArrives_sound; exact hd) h e
  | belayClear => exact State.write_sound (by intro d hd; apply Dev.belayClear_sound; exact hd) h e
  | injectGo => exact State.write_sound (by intro d hd; apply Dev.injectGo_sound; exact hd) h e
  | selftest => exact State.write_sound (by intro d hd; apply Dev.selftest_sound; exact hd) h e
  | selftestDone => exact State.happens_sound (by intro d hd; apply Dev.selftestDone_sound; exact hd) h e
  | modeReqReady => exact State.write_sound (by intro d hd; apply Dev.modeReq_sound; exact hd) h e
  | modeReqRun => exact State.write_sound (by intro d hd; apply Dev.modeReq_sound; exact hd) h e
  | modeReqBivouac => exact State.write_sound (by intro d hd; apply Dev.modeReq_sound; exact hd) h e
  | modeReqTest => exact State.write_sound (by intro d hd; apply Dev.modeReq_sound; exact hd) h e
  | modeReqShutdown => exact State.write_sound (by intro d hd; apply Dev.modeReq_sound; exact hd) h e
  | bivouacEntered => exact State.happens_sound (by intro d hd; apply Dev.bivouacEntered_sound; exact hd) h e
  | bivouacReturnDone => exact State.happens_sound (by intro d hd; apply Dev.bivouacReturn_sound; exact hd) h e
  | shutdownReady => exact State.happens_sound (by intro d hd; apply Dev.shutdownReady_sound; exact hd) h e
  | powerHoldRelease => exact State.happens_sound (by intro d hd; apply Dev.release_sound; exact hd) h e
  | supplyBrownout => exact State.happens_sound (by intro d hd; apply Dev.brownout_sound; exact hd) h e
  | porst => exact State.happens_sound (by intro d hd; apply Dev.pinReset_sound; exact hd) h e
  | resetCmd => exact State.write_sound (by intro d hd; apply Dev.resetCmd_sound; exact hd) h e
  | watchdogReset => exact State.happens_sound (by intro d hd; apply Dev.watchdog_sound; exact hd) h e
  | thermalSample => exact State.happens_sound (by intro d hd; apply Dev.thermalSample_sound; exact hd) h e
  | firmwareLoaded => exact State.happens_sound (by intro d hd; apply Dev.firmwareLoaded_sound; exact hd) h e
  | vpReq => exact State.write_sound (by intro d hd; apply Dev.vpReq_sound; exact hd) h e
  | vpSettled => exact State.happens_sound (by intro d hd; apply Dev.vpSettled_sound; exact hd) h e
  | vpRampTimeout => exact State.happens_sound (by intro d hd; apply Dev.vpTimeout_sound; exact hd) h e
  | rakinHello => exact State.happens_sound (by intro d hd; apply Dev.rakinHello_sound; exact hd) h e
  | stageBegin => exact State.happens_sound (by intro d hd; apply Dev.stageBegin_sound; exact hd) h e
  | stageData => exact State.happens_sound (by intro d hd; apply Dev.stageData_sound; exact hd) h e
  | stageEnd => exact State.happens_sound (by intro d hd; apply Dev.stageEnd_sound; exact hd) h e
  | stageVerifyDone => exact State.happens_sound (by intro d hd; apply Dev.verifyDone_sound; exact hd) h e
  | rakinActivate => exact State.happens_sound (by intro d hd; apply Dev.rakinActivate_sound; exact hd) h e
  | rakinRestartTrial => exact State.happens_sound (by intro d hd; apply Dev.rakinRestart_sound; exact hd) h e
  | rakinDiscard => exact State.happens_sound (by intro d hd; apply Dev.rakinDiscard_sound; exact hd) h e
  | logRead => exact State.happens_sound (by intro d hd; apply Dev.logRead_sound; exact hd) h e
  | settingsRead => exact State.happens_sound (by intro d hd; apply Dev.settingsRead_sound; exact hd) h e
  | settingsWrite => exact State.happens_sound (by intro d hd; apply Dev.settingsWrite_sound; exact hd) h e
  | enterBasecamp => exact State.happens_sound (by intro d hd; apply Dev.enterBasecamp_sound; exact hd) h e
  | rakinReset => exact State.happens_sound (by intro d hd; apply Dev.rakinReset_sound; exact hd) h e
  | rakinStatus => exact State.happens_sound (by intro d hd; apply Dev.rakinStatus_sound; exact hd) h e
  | loadCore => exact State.happens_sound (by intro d hd; apply Dev.loadCore_sound; exact hd) h e
  | unknownOp => exact State.happens_sound (by intro d hd; apply Dev.unknownOp_sound; exact hd) h e
  | activate => exact State.write_sound (by intro d hd; apply Dev.activate_sound; exact hd) h e
  | standbyBankLoaded => exact State.happens_sound (by intro d hd; apply Dev.bankLoaded_sound; exact hd) h e
  | approve => exact State.write_sound (by intro d hd; apply Dev.approve_sound; exact hd) h e
  | rejectTrial => exact State.write_sound (by intro d hd; apply Dev.rejectTrial_sound; exact hd) h e
  | restartTrial => exact State.write_sound (by intro d hd; apply Dev.restartTrial_sound; exact hd) h e
  | discard => exact State.write_sound (by intro d hd; apply Dev.discard_sound; exact hd) h e
  | trialCtrlWrite => exact State.write_sound (by intro d hd; apply Dev.trialCtrlWrite_sound; exact hd) h e
  | selfCheckPass => exact State.happens_sound (by intro d hd; apply Dev.selfCheck_sound; exact hd) h e
  | confirm => exact State.write_sound (by intro d hd; apply Dev.confirm_sound; exact hd) h e
  | healthFail => exact State.write_sound (by intro d hd; apply Dev.healthFail_sound; exact hd) h e
  | trialExpiring => exact State.happens_sound (by intro d hd; apply Dev.trialExpiring_sound; exact hd) h e
  | trialWindowExpiry => exact State.happens_sound (by intro d hd; apply Dev.trialExpiry_sound; exact hd) h e
  | unresponsive => exact State.happens_sound (by intro d hd; apply Dev.unresponsive_sound; exact hd) h e
  | fallbackStateSaved => exact State.happens_sound (by intro d hd; apply Dev.fallSaved_sound; exact hd) h e
  | getInfo => exact State.happens_sound (by intro d hd; apply Dev.mbxAnswer_sound _ _ hd; intro x hx; apply Dev.getInfo_sound; exact hx) h e
  | saveSettings => exact State.happens_sound (by intro d hd; apply Dev.mbxAnswer_sound _ _ hd; intro x hx; apply Dev.saveSettings_sound; exact hx) h e
  | loadDefaults => exact State.happens_sound (by intro d hd; apply Dev.mbxAnswer_sound _ _ hd; intro x hx; apply Dev.loadDefaults_sound; exact hx) h e
  | settingsInfo => exact State.happens_sound (by intro d hd; apply Dev.mbxAnswer_sound _ _ hd; intro x hx; apply Dev.settingsInfo_sound; exact hx) h e
  | setPoweronFrame => exact State.happens_sound (by intro d hd; apply Dev.mbxAnswer_sound _ _ hd; intro x hx; apply Dev.setPoweron_sound; exact hx) h e
  | stagedInfo => exact State.happens_sound (by intro d hd; apply Dev.mbxAnswer_sound _ _ hd; intro x hx; apply Dev.stagedInfo_sound; exact hx) h e
  | fallbackLog => exact State.happens_sound (by intro d hd; apply Dev.mbxAnswer_sound _ _ hd; intro x hx; apply Dev.fallbackLog_sound; exact hx) h e
  | unknownFunc => exact State.happens_sound (by intro d hd; apply Dev.mbxUnknown_sound; exact hd) h e
  | mbxDone => exact State.happens_sound (by intro d hd; apply Dev.mbxDone_sound; exact hd) h e
  | dfuDnload => exact State.happens_sound (by intro d hd; apply Dev.dfuDnload_sound; exact hd) h e
  | baseCampCopyDone => exact State.happens_sound (by intro d hd; apply Dev.campCopied_sound; exact hd) h e
  | svcCtrlWrite => exact State.write_sound (by intro d hd; apply Dev.svcCtrlWrite_sound; exact hd) h e
  | attach => exact State.happens_sound (by intro d hd; apply Dev.attach_sound; exact hd) h e
  | detach => exact State.happens_sound (by intro d hd; apply Dev.detach_sound; exact hd) h e
  | pcieLinkUp => exact State.happens_sound (by intro d hd; apply Dev.pcieLinkUp_sound; exact hd) h e
  | pePerst => exact State.happens_sound (by intro d hd; apply Dev.pePerst_sound; exact hd) h e
  | flr => exact State.happens_sound (by intro d hd; apply Dev.flr_sound; exact hd) h e
  | hostBar2Write => exact State.access_sound (by intro d hd; apply Dev.bar2Write_sound; exact hd) h e
  | hostBar2Read => exact State.access_sound (by intro d hd; apply Dev.bar2Read_sound; exact hd) h e
  | qspiRead => exact State.happens_sound (by intro d hd; apply Dev.qspiRead_sound; exact hd) h e
  | qspiWrite => exact State.happens_sound (by intro d hd; apply Dev.qspiWrite_sound; exact hd) h e
  | qspiStatus => exact State.happens_sound (by intro d hd; apply Dev.qspiStatus_sound; exact hd) h e
  | readReg => exact State.happens_sound (by intro d hd; apply Dev.smbRead_sound; exact hd) h e
  | writeReg => exact State.happens_sound (by intro d hd; apply Dev.smbWrite_sound; exact hd) h e
  | smbusStatus => exact State.happens_sound (by intro d hd; apply Dev.smbStatus_sound; exact hd) h e
  | smbusTemp => exact State.happens_sound (by intro d hd; apply Dev.smbTemp_sound; exact hd) h e
  | alertResponse => exact State.happens_sound (by intro d hd; apply Dev.alertResponse_sound; exact hd) h e
  | gpioEvent => exact State.happens_sound (by intro d hd; apply Dev.gpioEvent_sound; exact hd) h e
  | declarationLoss => exact State.happens_sound (by intro d hd; apply Dev.declarationLoss_sound; exact hd) h e
  | throttleEpisodeEnd => exact State.happens_sound (by intro d hd; apply Dev.throttleEnd_sound; exact hd) h e
  | configurationIntegrityCheck => exact State.happens_sound (by intro d hd; apply Dev.configCheck_sound; exact hd) h e
  | lutIntegrityCheck => exact State.happens_sound (by intro d hd; apply Dev.lutCheck_sound; exact hd) h e
  | rerouteTables => exact State.happens_sound (by intro d hd; apply Dev.rerouteTables_sound; exact hd) h e
  | configurationRequest => exact State.happens_sound (by intro d hd; apply Dev.configRequest_sound; exact hd) h e
  | pcieSpeedChange => exact State.happens_sound (by intro d hd; apply Dev.pcieSpeedChange_sound; exact hd) h e
  | boundaryScanInstruction => exact State.happens_sound (by intro d hd; apply Dev.boundaryScan_sound; exact hd) h e

end Sys2Proof.Machine
end

