-- ==== Sys2Proof/Laws/Frame.lean ====
section
/-! SUPPORT. The frame of a command that writes registers and raises events: one lemma per shared operation, and what a register reads
after each of them. -/

namespace Sys2Proof.Machine

/-! Registers after the shared operations -/

section
variable {d : Dev} {p q : Page} {n m off o bit : Nat}

/-- A register that an operation on another register does not touch. -/
theorem Dev.rd_wr_ne {v : Word} (hn : n < p.count) (hm : m < q.count) (ha : off < 4096) (hb : o < 4096)
    (h : (q, m, o) ≠ (p, n, off)) : (d.wr p n off v).rd q m o = d.rd q m o := by
  refine Dev.rd_wr_page d p n off v hn hm ha hb ?_
  by_cases h1 : q = p
  · by_cases h2 : m = n
    · exact .inr (.inr fun h3 => h (by rw [h1, h2, h3]))
    · exact .inr (.inl h2)
  · exact .inl h1

theorem Dev.rd_wrN_same {v : Nat} : (d.wrN p n off v).rd p n off = BitVec.ofNat 32 v := Core.rd_wr_same _ _ _ _ _
theorem Dev.rd_setF_same {lo len v : Nat} : (d.setF p n off lo len v).rd p n off = putBits (d.rd p n off) lo len v :=
  Core.rd_wr_same _ _ _ _ _
theorem Dev.rd_setB_same {i : Nat} {b : Bool} : (d.setB p n off i b).rd p n off = putBits (d.rd p n off) i 1 b.toNat :=
  Core.rd_wr_same _ _ _ _ _
theorem Dev.rd_inc_same : (d.inc p n off).rd p n off = satWord ((d.rd p n off).toNat + 1) := Core.rd_wr_same _ _ _ _ _

theorem Dev.rd_wrN_ne {v : Nat} (hn : n < p.count) (hm : m < q.count) (ha : off < 4096) (hb : o < 4096)
    (h : (q, m, o) ≠ (p, n, off)) : (d.wrN p n off v).rd q m o = d.rd q m o := Dev.rd_wr_ne hn hm ha hb h
theorem Dev.rd_setF_ne {lo len v : Nat} (hn : n < p.count) (hm : m < q.count) (ha : off < 4096) (hb : o < 4096)
    (h : (q, m, o) ≠ (p, n, off)) : (d.setF p n off lo len v).rd q m o = d.rd q m o := Dev.rd_wr_ne hn hm ha hb h
theorem Dev.rd_setB_ne {i : Nat} {b : Bool} (hn : n < p.count) (hm : m < q.count) (ha : off < 4096) (hb : o < 4096)
    (h : (q, m, o) ≠ (p, n, off)) : (d.setB p n off i b).rd q m o = d.rd q m o := Dev.rd_wr_ne hn hm ha hb h
theorem Dev.rd_inc_ne (hn : n < p.count) (hm : m < q.count) (ha : off < 4096) (hb : o < 4096)
    (h : (q, m, o) ≠ (p, n, off)) : (d.inc p n off).rd q m o = d.rd q m o := Dev.rd_wr_ne hn hm ha hb h

theorem Dev.rd_flag_ne {reason : Nat} {w0 w1 w2 w3 : Word} (hn : n < p.count) (hm : m < q.count) (hb : o < 4096) (hq : q ≠ .elog)
    (h : (q, m, o) ≠ (p, n, Off.PAGE_STAT)) : (d.flag p n bit reason w0 w1 w2 w3).rd q m o = d.rd q m o := by
  refine Core.rd_flag hn hm hb hq ?_
  by_cases h1 : q = p
  · by_cases h2 : m = n
    · exact .inr (.inr fun h3 => h (by rw [h1, h2, h3]))
    · exact .inr (.inl h2)
  · exact .inl h1

theorem Dev.rd_flag_stat {reason : Nat} {w0 w1 w2 w3 : Word} (hn : n < p.count) (hp : p ≠ .elog) :
    (d.flag p n bit reason w0 w1 w2 w3).rd p n Off.PAGE_STAT = sqSet (d.rd p n Off.PAGE_STAT) (2 ^ bit) := Core.rd_flag_stat hn hp

/-- A page flag that sets stands in PAGE_STAT. -/
theorem Dev.bit_flag {reason : Nat} {w0 w1 w2 w3 : Word} (hn : n < p.count) (hp : p ≠ .elog) (hb : bit < 24) :
    (d.flag p n bit reason w0 w1 w2 w3).bit p n Off.PAGE_STAT bit = true := by
  unfold Dev.bit Core.bit
  rw [show (d.flag p n bit reason w0 w1 w2 w3).core.rd p n Off.PAGE_STAT = _ from Core.rd_flag_stat hn hp]
  exact bitOf_sqSet _ hb

theorem Dev.rd_event {k code : Nat} {w0 w1 w2 w3 : Word} (hm : m < q.count) (hb : o < 4096) (hq : q ≠ .elog) :
    (d.event k code w0 w1 w2 w3).rd q m o = d.rd q m o := Core.rd_event hm hb hq

@[simp] theorem Dev.rd_answer {ws : List Word} : (d.answer ws).rd q m o = d.rd q m o := rfl

@[simp] theorem Core.regs_deliver {c : Core} {t : Nat} {f : Bool} : (c.deliver t f).regs = c.regs := by
  unfold Core.deliver; split <;> rfl

/-- Deliveries change no register. -/
@[simp] theorem Core.regs_deliverAll {c : Core} : c.deliverAll.regs = c.regs := by
  unfold Core.deliverAll
  generalize targets = l
  induction l generalizing c with
  | nil => rfl
  | cons t l ih => simp [ih]

@[simp] theorem Core.regs_advance {c : Core} {t : Nat} : (c.advance t).regs = c.regs := by
  unfold Core.advance; split <;> simp

@[simp] theorem Core.rd_advance {c : Core} {t : Nat} : (c.advance t).rd q m o = c.rd q m o := by
  unfold Core.rd; rw [Core.regs_advance]

@[simp] theorem Dev.rd_advance {t : Nat} : (d.advance t).rd q m o = d.rd q m o := Core.rd_advance
@[simp] theorem Dev.rd_freeStep : d.freeStep.rd q m o = d.rd q m o := rfl
@[simp] theorem Dev.resp_answer {ws : List Word} : (d.answer ws).core.resp = ws := rfl
@[simp] theorem Dev.rd_onSafe {f : Safe → Safe} : (d.onSafe f).rd q m o = d.rd q m o := rfl
@[simp] theorem Dev.rd_onMc {f : MemCtl → MemCtl} : (d.onMc f).rd q m o = d.rd q m o := rfl
@[simp] theorem Dev.rd_onRope {f : Rope → Rope} : (d.onRope f).rd q m o = d.rd q m o := rfl
@[simp] theorem Dev.rd_onPower {f : Power → Power} : (d.onPower f).rd q m o = d.rd q m o := rfl
@[simp] theorem Dev.rd_onFw {f : Fw → Fw} : (d.onFw f).rd q m o = d.rd q m o := rfl
@[simp] theorem Dev.rd_onBoard {f : Board → Board} : (d.onBoard f).rd q m o = d.rd q m o := rfl
@[simp] theorem Dev.rd_setCad {s : Nat} {x : Cad} : (d.setCad s x).rd q m o = d.rd q m o := rfl
@[simp] theorem Dev.rd_setPort {s : Nat} {x : Port} : (d.setPort s x).rd q m o = d.rd q m o := rfl
@[simp] theorem Dev.rd_setPll {s : Nat} {x : Pll} : (d.setPll s x).rd q m o = d.rd q m o := rfl
@[simp] theorem Dev.rd_setXp {s : Nat} {x : Xp} : (d.setXp s x).rd q m o = d.rd q m o := rfl
@[simp] theorem Dev.rd_setEnc {s : Nat} {x : Enc} : (d.setEnc s x).rd q m o = d.rd q m o := rfl
@[simp] theorem Dev.rd_setScene {s : Nat} {x : Scene} : (d.setScene s x).rd q m o = d.rd q m o := rfl
@[simp] theorem Dev.rd_setEng {s : Nat} {x : Eng} : (d.setEng s x).rd q m o = d.rd q m o := rfl
@[simp] theorem Dev.rd_setTone {s : Nat} {x : Tone} : (d.setTone s x).rd q m o = d.rd q m o := rfl
@[simp] theorem Dev.rd_setBuilds {s : Nat} {x : List Build} : (d.setBuilds s x).rd q m o = d.rd q m o := rfl
@[simp] theorem Dev.rd_setAdp {s : Nat} {x : Adp} : (d.setAdp s x).rd q m o = d.rd q m o := rfl
@[simp] theorem Dev.rd_setChk {s : Nat} {x : Chk} : (d.setChk s x).rd q m o = d.rd q m o := rfl
@[simp] theorem Dev.rd_setPortChk {s : Nat} {x : PortChk} : (d.setPortChk s x).rd q m o = d.rd q m o := rfl
@[simp] theorem Dev.rd_setRef {s : Nat} {x : Ref} : (d.setRef s x).rd q m o = d.rd q m o := rfl
@[simp] theorem Dev.rd_setBuf {s : Nat} {x : Buf} : (d.setBuf s x).rd q m o = d.rd q m o := rfl
@[simp] theorem Dev.rd_setArm {n : Nat} {x : Option Arm} : (d.setArm p n x).rd q m o = d.rd q m o := rfl
@[simp] theorem Dev.rd_setGroup {s : Nat} {x : Group} : (d.setGroup s x).rd q m o = d.rd q m o := rfl

/-- A bit that is set reads so. -/
theorem Dev.bit_setB_same {i : Nat} {b : Bool} (h : i < 32) : (d.setB p n off i b).bit p n off i = b := by
  unfold Dev.bit Core.bit
  rw [show (d.setB p n off i b).core.rd p n off = _ from Dev.rd_setB_same]
  exact bitOf_putBits h

/-- A field that is set reads so. -/
theorem Dev.fld_setF_same {lo len v : Nat} (h : lo + len ≤ 32) : (d.setF p n off lo len v).fld p n off lo len = v % 2 ^ len := by
  unfold Dev.fld Core.fld
  rw [show (d.setF p n off lo len v).core.rd p n off = _ from Dev.rd_setF_same]
  exact bitsOf_putBits h
end

/-! The frame -/

section
variable {d e : Dev} {c : Page × Nat × Nat → Prop} {p : Page} {n off : Nat}

theorem Dev.RegsOnly.refl (d : Dev) (c : Page × Nat × Nat → Prop) : d.RegsOnly d c := ⟨fun _ _ _ _ _ _ _ => rfl, rfl, rfl⟩

theorem Dev.RegsOnly.wr {v : Word} (h : d.RegsOnly e c) (hn : n < p.count) (ho : off < 4096) (hc : c (p, n, off)) :
    d.RegsOnly (e.wr p n off v) c := by
  refine ⟨fun q m o hm hb hq hx => ?_, h.2.1, h.2.2⟩
  rw [Dev.rd_wr_ne hn hm ho hb (fun he => hx (he ▸ hc))]
  exact h.1 q m o hm hb hq hx

theorem Dev.RegsOnly.wrN {v : Nat} (h : d.RegsOnly e c) (hn : n < p.count) (ho : off < 4096) (hc : c (p, n, off)) :
    d.RegsOnly (e.wrN p n off v) c := h.wr hn ho hc
theorem Dev.RegsOnly.setF {lo len v : Nat} (h : d.RegsOnly e c) (hn : n < p.count) (ho : off < 4096) (hc : c (p, n, off)) :
    d.RegsOnly (e.setF p n off lo len v) c := h.wr hn ho hc
theorem Dev.RegsOnly.setB {i : Nat} {b : Bool} (h : d.RegsOnly e c) (hn : n < p.count) (ho : off < 4096) (hc : c (p, n, off)) :
    d.RegsOnly (e.setB p n off i b) c := h.wr hn ho hc
theorem Dev.RegsOnly.inc (h : d.RegsOnly e c) (hn : n < p.count) (ho : off < 4096) (hc : c (p, n, off)) :
    d.RegsOnly (e.inc p n off) c := h.wr hn ho hc

theorem Core.shared_of_rest {c e : Core} (h : c.rest = e.rest) : c.shared = e.shared := by
  simp only [Core.rest, Prod.mk.injEq] at h
  simp only [Core.shared, Prod.mk.injEq]
  obtain ⟨h1, h2, h3, h4, h5, h6, h7, h8, h9, _, h10⟩ := h
  exact ⟨h1, h2, h3, h4, h5, h6, h7, h8, h9, h10⟩

/-- What changes only sources, the log and registers of the shared part keeps a frame. -/
theorem Dev.RegsOnly.core {f : Core → Core} (h : d.RegsOnly e c) (hf : (f e.core).shared = e.core.shared)
    (hr : ∀ q m o, m < q.count → o < 4096 → q ≠ .elog → ¬ c (q, m, o) → (f e.core).rd q m o = e.core.rd q m o) :
    d.RegsOnly (e.onCore f) c :=
  ⟨fun q m o hm hb hq hx => (hr q m o hm hb hq hx).trans (h.1 q m o hm hb hq hx), h.2.1, hf.trans h.2.2⟩

theorem Dev.RegsOnly.answer {ws : List Word} (h : d.RegsOnly e c) : d.RegsOnly (e.answer ws) c :=
  h.core rfl fun _ _ _ _ _ _ _ => rfl

theorem Dev.RegsOnly.flag {bit reason : Nat} {w0 w1 w2 w3 : Word} (h : d.RegsOnly e c) (hn : n < p.count)
    (hc : c (p, n, Off.PAGE_STAT)) : d.RegsOnly (e.flag p n bit reason w0 w1 w2 w3) c :=
  h.core (Core.shared_of_rest (Core.rest_flag _ _ _ _ _ _ _ _ _)) fun _ _ _ hm hb hq hx =>
    Dev.rd_flag_ne (d := e) hn hm hb hq fun he => hx (he ▸ hc)

theorem Dev.RegsOnly.event {k code : Nat} {w0 w1 w2 w3 : Word} (h : d.RegsOnly e c) : d.RegsOnly (e.event k code w0 w1 w2 w3) c :=
  h.core (Core.shared_of_rest (Core.rest_event _ _ _ _ _ _ _)) fun _ _ _ hm hb hq _ => Core.rd_event hm hb hq

theorem Dev.RegsOnly.reject {r : Requester} {reason : Nat} (h : d.RegsOnly e c) (hn : n < p.count) (hc : c (p, n, Off.PAGE_STAT))
    (h1 : c (.sys, 0, Off.SYS_REJECT_LAST)) (h2 : c (.sys, 0, Off.SYS_REJECT_COUNT)) : d.RegsOnly (e.reject r p n off reason) c := by
  refine h.core (Core.shared_of_rest (Core.rest_reject _ _ _ _ _ _)) fun q m o hm hb hq hx => ?_
  refine Core.rd_reject _ _ _ _ _ _ hn hm hb hq ?_ ?_
  · by_cases h3 : q = p
    · by_cases h4 : m = n
      · by_cases h5 : o = Off.PAGE_STAT
        · exact absurd (by rw [h3, h4, h5]; exact hc) hx
        · exact .inr (.inr h5)
      · exact .inr (.inl h4)
    · exact .inl h3
  · by_cases h3 : q = .sys
    · subst h3
      have hm0 : m = 0 := by have : Page.count .sys = 1 := rfl; omega
      subst hm0
      exact .inr ⟨fun h4 => hx (h4 ▸ h1), fun h4 => hx (h4 ▸ h2)⟩
    · exact .inl h3

/-- The blocks beside the shared part are as they were. -/
theorem Dev.RegsOnly.blocks (h : d.RegsOnly e c) : { e with core := d.core } = d := h.2.1
theorem Dev.RegsOnly.mem (h : d.RegsOnly e c) : e.mem = d.mem := by have h1 := congrArg Dev.mem h.2.1; exact h1
theorem Dev.RegsOnly.fm (h : d.RegsOnly e c) : e.fm = d.fm := by have h1 := congrArg Dev.fm h.2.1; exact h1
/-! Sources -/

theorem Core.src_flag_ne {c : Core} {t : Nat} {bit reason : Nat} {w0 w1 w2 w3 : Word} (h : flagSource p n bit ≠ some t) (h8 : t ≠ 8)
    (h9 : t ≠ 9) : (c.flag p n bit reason w0 w1 w2 w3).src t = c.src t := by
  have h0 : (c.flagOnly p n bit).src t = c.src t := Core.wr_src _ _ _ _ _ _
  unfold Core.flag
  dsimp only
  split
  · exact h0
  · rename_i k hk
    have hne : t ≠ k := fun he => h (he ▸ hk)
    have h1 : ((c.flagOnly p n bit).record k (bit + 256 * reason) w0 w1 w2 w3).src t = c.src t := by
      unfold Core.record
      rw [Core.src_reportLog _ _ h8 h9, Core.src_recordFlat_ne _ _ _ _ _ _ hne, h0]
    split
    · unfold Core.raise
      rw [Core.src_setSrc, if_neg hne, h1]
    · exact h1

theorem Core.src_reject_ne {c : Core} {r : Requester} {reason t : Nat} (h : t ≠ 0) (h8 : t ≠ 8) (h9 : t ≠ 9) :
    (c.reject r p n off reason).src t = c.src t := by
  unfold Core.reject Core.rejected
  rw [Core.src_event_ne _ _ _ _ _ _ h h8 h9, Core.inc, Core.wr_src, Core.wr_src, Core.flagOnly, Core.wr_src]

section
variable {l : List Nat}

theorem Dev.SourcesBut.refl (d : Dev) (l : List Nat) : d.SourcesBut d l := fun _ _ => rfl

/-- A register write changes no source. -/
theorem Dev.SourcesBut.wr {v : Word} (h : d.SourcesBut e l) : d.SourcesBut (e.wr p n off v) l := h

theorem Dev.SourcesBut.event {k code : Nat} {w0 w1 w2 w3 : Word} (h : d.SourcesBut e l) (hk : k ∈ l) (h8 : 8 ∈ l) (h9 : 9 ∈ l) :
    d.SourcesBut (e.event k code w0 w1 w2 w3) l := fun t ht =>
  (Core.src_event_ne _ _ _ _ _ _ (by rintro rfl; exact ht hk) (by rintro rfl; exact ht h8) (by rintro rfl; exact ht h9)).trans (h t ht)

theorem Dev.SourcesBut.flag {bit reason : Nat} {w0 w1 w2 w3 : Word} (h : d.SourcesBut e l) (hk : ∀ k, flagSource p n bit = some k → k ∈ l)
    (h8 : 8 ∈ l) (h9 : 9 ∈ l) : d.SourcesBut (e.flag p n bit reason w0 w1 w2 w3) l := fun t ht =>
  (Core.src_flag_ne (fun he => ht (hk t he)) (by rintro rfl; exact ht h8) (by rintro rfl; exact ht h9)).trans (h t ht)

theorem Dev.SourcesBut.reject {r : Requester} {reason : Nat} (h : d.SourcesBut e l) (h0 : 0 ∈ l) (h8 : 8 ∈ l) (h9 : 9 ∈ l) :
    d.SourcesBut (e.reject r p n off reason) l := fun t ht =>
  (Core.src_reject_ne (by rintro rfl; exact ht h0) (by rintro rfl; exact ht h8) (by rintro rfl; exact ht h9)).trans (h t ht)
end
/-! Both together -/

section
variable {l : List (Page × Nat × Nat)} {k : List Nat}

theorem Dev.Touches.refl (d : Dev) (l : List (Page × Nat × Nat)) (k : List Nat) : d.Touches d l k :=
  ⟨Dev.RegsOnly.refl _ _, Dev.SourcesBut.refl _ _⟩

theorem Dev.Touches.wr {v : Word} (h : d.Touches e l k) (hn : n < p.count) (ho : off < 4096) (hc : (p, n, off) ∈ l) :
    d.Touches (e.wr p n off v) l k := ⟨h.1.wr hn ho hc, h.2.wr⟩

theorem Dev.Touches.wrN {v : Nat} (h : d.Touches e l k) (hn : n < p.count) (ho : off < 4096) (hc : (p, n, off) ∈ l) :
    d.Touches (e.wrN p n off v) l k := h.wr hn ho hc

theorem Dev.Touches.setF {lo len v : Nat} (h : d.Touches e l k) (hn : n < p.count) (ho : off < 4096) (hc : (p, n, off) ∈ l) :
    d.Touches (e.setF p n off lo len v) l k := h.wr hn ho hc

theorem Dev.Touches.setB {i : Nat} {b : Bool} (h : d.Touches e l k) (hn : n < p.count) (ho : off < 4096) (hc : (p, n, off) ∈ l) :
    d.Touches (e.setB p n off i b) l k := h.wr hn ho hc

theorem Dev.Touches.inc (h : d.Touches e l k) (hn : n < p.count) (ho : off < 4096) (hc : (p, n, off) ∈ l) :
    d.Touches (e.inc p n off) l k := h.wr hn ho hc

theorem Dev.Touches.answer {ws : List Word} (h : d.Touches e l k) : d.Touches (e.answer ws) l k := ⟨h.1.answer, h.2⟩

theorem Dev.Touches.flag {bit reason : Nat} {w0 w1 w2 w3 : Word} (h : d.Touches e l k) (hn : n < p.count) (hc : (p, n, Off.PAGE_STAT) ∈ l)
    (hk : ∀ j, flagSource p n bit = some j → j ∈ 8 :: 9 :: k) : d.Touches (e.flag p n bit reason w0 w1 w2 w3) l k :=
  ⟨h.1.flag hn hc, h.2.flag hk (by simp) (by simp)⟩

theorem Dev.Touches.event {j code : Nat} {w0 w1 w2 w3 : Word} (h : d.Touches e l k) (hk : j ∈ 8 :: 9 :: k) :
    d.Touches (e.event j code w0 w1 w2 w3) l k := ⟨h.1.event, h.2.event hk (by simp) (by simp)⟩

theorem Dev.Touches.reject {r : Requester} {reason : Nat} (h : d.Touches e l k) (hn : n < p.count) (hc : (p, n, Off.PAGE_STAT) ∈ l)
    (h1 : (.sys, 0, Off.SYS_REJECT_LAST) ∈ l) (h2 : (.sys, 0, Off.SYS_REJECT_COUNT) ∈ l) (h0 : 0 ∈ k) :
    d.Touches (e.reject r p n off reason) l k := ⟨h.1.reject hn hc h1 h2, h.2.reject (by simp [h0]) (by simp) (by simp)⟩

theorem Dev.Touches.mem (h : d.Touches e l k) : e.mem = d.mem := h.1.mem
theorem Dev.Touches.fm (h : d.Touches e l k) : e.fm = d.fm := h.1.fm
end
end

end Sys2Proof.Machine
end

