-- ==== Sys2Proof/WellFormed.lean ====
section
/-! DEFINITION. Well-formed commands: what the spec says of a command's operands and their types do not say. -/

namespace Sys2Proof

open Machine

/-- A page has a register of an access type at an offset. -/
def Machine.Page.has (p : Page) (off : Nat) (a : Access) : Bool :=
  match p.desc off with
  | some x => x.access == a
  | none => false

/-- An address of a 64-byte line (R129, R226, R340). -/
def lineAligned (a : Nat) : Bool := a % 64 == 0

/-- A command is well formed: an instance its page has (R28), a register of the access type the command needs (R8), whole lines where
memory is read, and figures in their ranges. -/
def Instr.wf : Instr → Bool
  | .registerWrite _ _ _ size _ => decide (1 ≤ size)
  | .shadowWrite _ p n off _ => decide (n < p.count) && p.shadowed && decide (0x100 ≤ off) && p.has off .sh
  | .arm _ p n => decide (n < p.count) && p.shadowed
  | .cancel _ p n => decide (n < p.count) && p.shadowed
  | .sqClear _ p n off _ => decide (n < p.count) && p.has off .sq
  | .appliedLoRead _ p n => decide (n < p.count) && p.shadowed
  | .pixelReadReturn _ addr => lineAligned addr.toNat
  | .composeDone _ _ engines => decide (engines.map (·.engine)).Nodup
  | .adapterReloadDone _ _ addr => decide (addr < 2 ^ 34)
  | .hbmRound ports classes => decide (ports.length = 8 ∧ classes.length = 4)
  | .fmScrubRead addr _ => lineAligned addr.toNat
  | .trainingAttemptFail _ why _ sinkLanes => decide (1 ≤ why ∧ why < 256 ∧ sinkLanes ≤ 2)
  | .linkUp _ _ _ sinkLanes => decide (sinkLanes ≤ 2)
  | .sbDone _ result bytes => decide (result < 4 ∧ bytes.length ≤ 16)
  | .dramReadEnqueue _ _ addr => lineAligned addr.toNat
  | .dramWriteEnqueue _ _ addr bytes => decide (1 ≤ bytes.length ∧ addr.toNat % 64 + bytes.length ≤ 64)
  | .dramTempPoll _ temp => decide (temp < 256)
  | .dramPatrolScrub addr _ => lineAligned addr.toNat
  | .hostBar2Write _ _ bytes _ => decide (1 ≤ bytes.length)
  | .hostBar2Read _ _ bytes => decide (1 ≤ bytes)
  | .qspiWrite _ words => !words.isEmpty
  | .groupArm .. | .groupCancel .. | .timeLoRead .. | .frameLoRead .. | .pframeLoRead .. | .shownLoRead .. | .teamTimeLoRead ..
  | .teamFrameLoRead .. | .faultTimeLoRead .. | .cadenceTick .. | .fenceReadDone .. | .waitFenceReread .. | .waitBoundExpiry ..
  | .metaReadDone .. | .releaseWrite .. | .bandComplete .. | .blenderRowWrite .. | .forceRecompose .. | .forceFlatDrop ..
  | .toneLutBuildDone .. | .prestage .. | .adapterStagingDone .. | .allocInstall .. | .allocFree .. | .xferUpload .. | .xferCapture ..
  | .xferCaptureFromPort .. | .xferDone .. | .vblankStart .. | .lineStart .. | .rowFetchDeadline .. | .frameDone .. | .cadCtrlWrite ..
  | .applyRate .. | .ackSlew .. | .ackSnap .. | .preset .. | .anchorEdge .. | .anchorLineEdge .. | .refLost .. | .pllBandSearchDone ..
  | .pllInternalLock .. | .pllAlignmentEdge .. | .lockPinCrossing .. | .lockPinTimeout .. | .pllInternalLoss .. | .fallbackLock ..
  | .pllRetry .. | .warmRelockTimeout .. | .retryMain .. | .referenceLoss .. | .referenceReturn .. | .ckoWrite .. | .retrain ..
  | .linkLoss .. | .scdcPoll .. | .hpdQualified .. | .hpdUnplug .. | .irqHpd .. | .sbGo .. | .tcLoad .. | .dramTrainingDone ..
  | .mapApply .. | .weightWrite .. | .stalledWriteResume .. | .holdStallTimeout .. | .dramReadReturn .. | .dramWriteRetire ..
  | .dramRefresh .. | .rhCountHalving .. | .migStart .. | .migLineCopy .. | .migDone .. | .srEntry .. | .srEntered .. | .srPrewake ..
  | .srExit .. | .srExited .. | .clockLoss .. | .bltStart .. | .bltAbort .. | .bltOpDone .. | .bltDoneFence .. | .ropeRetrain ..
  | .ropeBringupRetry .. | .ropePortUp .. | .helloSend .. | .hello .. | .replay .. | .keepaliveSend .. | .portDown .. | .claimReceived ..
  | .electionEnd .. | .enumerate .. | .teamFormed .. | .memberJoin .. | .orphanElection .. | .syncSend .. | .sync .. | .tick ..
  | .linkDelayMeasure .. | .tcSend .. | .tcRequest .. | .tcArm .. | .tcReply .. | .tcAckTimeout .. | .tcCancel .. | .tcOutcome ..
  | .xferStart .. | .xferAbort .. | .xferSegment .. | .xferSegmentTimeout .. | .xferAck .. | .xferDestFence .. | .rregGo ..
  | .rregRequest .. | .rregReply .. | .rregTimeout .. | .cairnForward .. | .wakeSend .. | .intcClaim .. | .intfClaim ..
  | .intcComplete .. | .intfComplete .. | .coalesceTimeout .. | .globalHold .. | .dbRaise .. | .pendClr .. | .srcCfgWrite ..
  | .profileWrite .. | .msixBlockEnd .. | .wakeCause .. | .logTokenRefill .. | .suppressedSummary .. | .rptrWrite .. | .spillRptrWrite ..
  | .win0Read .. | .spillEnWrite .. | .satClear .. | .checkReferenceDone .. | .stallWatchdog .. | .safetyCoreWatchdog ..
  | .supplySample .. | .clockMonitorWindow .. | .cadenceMonitorTimeout .. | .belayEntry .. | .belayClear .. | .injectGo .. | .selftest ..
  | .selftestDone .. | .modeReqReady .. | .modeReqRun .. | .modeReqBivouac .. | .modeReqTest .. | .modeReqShutdown ..
  | .bivouacEntered .. | .bivouacReturnDone .. | .shutdownReady .. | .powerHoldRelease .. | .supplyBrownout .. | .porst .. | .resetCmd ..
  | .watchdogReset .. | .thermalSample .. | .firmwareLoaded .. | .vpReq .. | .vpSettled .. | .vpRampTimeout .. | .rakinHello ..
  | .stageBegin .. | .stageData .. | .stageEnd .. | .stageVerifyDone .. | .rakinActivate .. | .rakinRestartTrial .. | .rakinDiscard ..
  | .logRead .. | .settingsRead .. | .settingsWrite .. | .enterBasecamp .. | .rakinReset .. | .rakinStatus .. | .loadCore ..
  | .unknownOp .. | .activate .. | .standbyBankLoaded .. | .approve .. | .rejectTrial .. | .restartTrial .. | .discard ..
  | .trialCtrlWrite .. | .selfCheckPass .. | .confirm .. | .healthFail .. | .trialExpiring .. | .trialWindowExpiry .. | .unresponsive ..
  | .fallbackStateSaved .. | .getInfo .. | .saveSettings .. | .loadDefaults .. | .settingsInfo .. | .setPoweronFrame .. | .stagedInfo ..
  | .fallbackLog .. | .unknownFunc .. | .mbxDone .. | .dfuDnload .. | .baseCampCopyDone .. | .svcCtrlWrite .. | .attach .. | .detach ..
  | .pcieLinkUp .. | .pePerst .. | .flr .. | .qspiRead .. | .qspiStatus .. | .readReg .. | .writeReg .. | .smbusStatus .. | .smbusTemp ..
  | .alertResponse .. | .gpioEvent .. | .declarationLoss .. | .throttleEpisodeEnd .. | .configurationIntegrityCheck ..
  | .lutIntegrityCheck .. | .rerouteTables .. | .configurationRequest .. | .pcieSpeedChange .. | .boundaryScanInstruction .. => true

end Sys2Proof
end

