-- ==== Sys2Proof/Tests/Slice0.lean ====
section
/-! SUPPORT. The tests of the model: an ill-formed command for each check of Instr.wf, a state and operands that meet the hypotheses of each
statement, and effects whose results the spec writes out. -/

open Sys2Proof Sys2Proof.Machine
open Host (Outcome)
namespace Sys2Proof.Tests

/-- Registers given by page, instance, offset and value. -/
def setRegs (d : Dev) (l : List (Page × Nat × Nat × Nat)) : Dev := l.foldl (fun x r => x.wrN r.1 r.2.1 r.2.2.1 r.2.2.2) d

/-- Values in use of shadowed registers, given in the same way. -/
def setUses (d : Dev) (l : List (Page × Nat × Nat × Nat)) : Dev :=
  l.foldl (fun x r => x.onCore fun c => { c with inUse := Tbl.set resetOf c.inUse (r.1.reg r.2.1 (r.2.2.1 + 0x800)) (BitVec.ofNat 32 r.2.2.2) }) d

/-- A device out of POWER_HOLD in a mode, with these registers. -/
def dev (mode : Nat) (l : List (Page × Nat × Nat × Nat) := []) : Dev :=
  setRegs (({ Dev.initial with core := { Core.initial with powerHold := false } }).wrN .pwr 0 Off.PWR_MODE mode) l

/-- The state of a device with no command waiting. -/
def at_ (d : Dev) : State := { dev := d, pending := [] }

/-- The state of a device in a mode, with these registers. -/
def run (mode : Nat) (l : List (Page × Nat × Nat × Nat) := []) : State := at_ (dev mode l)

/-- The device after a command. -/
def after (c : Instr) (d : Dev) : Dev :=
  match exec c (at_ d) with
  | .next t => t.dev
  | .fault _ => Dev.initial
  | .refused _ => Dev.initial

/-- A command that is a register access arrives, as a Bool. -/
def arrives (d : Dev) (c : Instr) : Bool :=
  match c.register with
  | some (r, p, n, off, write, v) => decide ((at_ d).Reaches r p n off write v)
  | none => true

/-- The Bool says what Arrives says. -/
theorem arrives_sound {d : Dev} {c : Instr} (h : arrives d c = true) : (at_ d).Arrives c := by
  unfold arrives at h
  unfold State.Arrives
  cases hr : c.register with
  | none => trivial
  | some x => rw [hr] at h; exact of_decide_eq_true h


/-! Ill-formed commands: one for each check of Instr.wf -/

theorem test_wf_register : (Instr.registerWrite (.cpu 0) false 0 0 0).wf = false ∧ (Instr.registerWrite (.cpu 0) false 0 1 0).wf = true := by decide
theorem test_wf_shadow : (Instr.shadowWrite (.cpu 0) .leng 64 0x100 0).wf = false ∧ (Instr.shadowWrite (.cpu 0) .intc 0 0x100 0).wf = false ∧
    (Instr.shadowWrite (.cpu 0) .leng 63 0xFC 0).wf = false ∧ (Instr.shadowWrite (.cpu 0) .leng 63 0x100 0).wf = true := by decide
theorem test_wf_arm : (Instr.arm (.cpu 0) .intc 0).wf = false ∧ (Instr.arm (.cpu 0) .leng 64).wf = false ∧ (Instr.arm (.cpu 0) .leng 63).wf = true := by
  decide
theorem test_wf_cancel : (Instr.cancel (.cpu 0) .intc 0).wf = false ∧ (Instr.cancel (.cpu 0) .leng 64).wf = false := by decide
theorem test_wf_sqClear : (Instr.sqClear (.cpu 0) .intc 0 Off.INTC_CLAIM 0).wf = false ∧ (Instr.sqClear (.cpu 0) .leng 64 Off.PAGE_STAT 0).wf = false ∧
    (Instr.sqClear (.cpu 0) .leng 0 Off.PAGE_STAT 0).wf = true := by decide
theorem test_wf_applied : (Instr.appliedLoRead (.cpu 0) .intc 0).wf = false ∧ (Instr.appliedLoRead (.cpu 0) .leng 64).wf = false := by decide
theorem test_wf_pixel : (Instr.pixelReadReturn 0 32).wf = false ∧ (Instr.pixelReadReturn 0 64).wf = true := by decide
theorem test_wf_compose : (Instr.composeDone 0 0 [⟨3, 0, 0, 0⟩, ⟨3, 0, 0, 0⟩]).wf = false := by decide
theorem test_wf_reload : (Instr.adapterReloadDone 0 .good (2 ^ 34)).wf = false ∧ (Instr.adapterReloadDone 0 .good (2 ^ 34 - 1)).wf = true := by decide
theorem test_wf_round : (Instr.hbmRound [1] [0, 0, 0, 0]).wf = false := by decide
theorem test_wf_scrub : (Instr.fmScrubRead 1 .good).wf = false := by decide
theorem test_wf_attempt : (Instr.trainingAttemptFail 0 0 0 0).wf = false ∧ (Instr.trainingAttemptFail 0 256 0 0).wf = false ∧
    (Instr.trainingAttemptFail 0 1 0 3).wf = false ∧ (Instr.trainingAttemptFail 0 1 0 2).wf = true := by decide
theorem test_wf_linkUp : (Instr.linkUp 0 0 0 3).wf = false := by decide
theorem test_wf_sbDone : (Instr.sbDone 0 4 []).wf = false ∧ (Instr.sbDone 0 0 (List.replicate 17 0)).wf = false := by decide
theorem test_wf_dramRead : (Instr.dramReadEnqueue (.cpu 0) 0 32).wf = false := by decide
theorem test_wf_dramWrite : (Instr.dramWriteEnqueue (.cpu 0) 0 0 []).wf = false ∧ (Instr.dramWriteEnqueue (.cpu 0) 0 60 (List.replicate 5 0)).wf = false ∧
    (Instr.dramWriteEnqueue (.cpu 0) 0 60 (List.replicate 4 0)).wf = true := by decide
theorem test_wf_temp : (Instr.dramTempPoll 0 256).wf = false := by decide
theorem test_wf_patrol : (Instr.dramPatrolScrub 1 .good).wf = false := by decide
theorem test_wf_bar2Write : (Instr.hostBar2Write 0 0 [] false).wf = false := by decide
theorem test_wf_bar2Read : (Instr.hostBar2Read 0 0 0).wf = false := by decide
theorem test_wf_qspi : (Instr.qspiWrite 0 []).wf = false := by decide

/-! A state that meets the hypotheses of each statement -/

theorem witness_StepRunsTheFrontCommand : ({ State.reset with pending := [Instr.porst, .srExit] } : State).pending = [.porst, .srExit] := by decide

theorem witness_EmptyQueue : State.reset.pending = [] ∧ State.reset.dev.readyDeferred = none ∧ State.reset.dev.core.powerHold = true ∧
    ({ State.reset.dev with deferred := [(0, .porst)] } : Dev).readyDeferred = some (0, .porst) := by decide

theorem witness_StepKeepsSound : State.reset.Sound ∧ step State.reset = .next State.reset := ⟨⟨rfl, rfl⟩, rfl⟩

theorem witness_ResetValues : 63 < Page.leng.count ∧ Page.leng.shadowed = true := by decide

/-- A write of function 0 that a hold window stalls. -/
def stalledWrite : Stalled := { who := .pf 0, addr := 64, data := [1], uses := [(0, 0)], since := 0, bad := false }

/-- A function with a stalled write. -/
def stalledFn : Dev := { dev 5 with stalled := [stalledWrite] }

theorem witness_StalledFunctionWaits : stalledFn.fnStalled (.pf 0) = true ∧ (Instr.modeReqReady (.pf 0)).register =
    some (.pf 0, .pwr, 0, Off.PWR_MODE_REQ, true, 4) := by decide

theorem witness_AccessesNotServed : (Instr.bltStart (.cpu 0)).register = some (.cpu 0, .blt, 0, Off.BLT_CMD, true, 1) ∧
    (dev 9).fnStalled (.cpu 0) = false ∧ (dev 9).mode ≠ 0 ∧ 0 < Page.blt.count ∧ servedIn (dev 9).mode .blt = false ∧
    BitVec.toNat (BitVec.ofNat 24 (Page.blt.reg 0 Off.BLT_CMD)) = Page.blt.reg 0 Off.BLT_CMD :=
  ⟨rfl, by decide⟩

theorem witness_DeniedAccesses : (Instr.modeReqReady .blt).register = some (.blt, .pwr, 0, Off.PWR_MODE_REQ, true, 4) ∧ (dev 5).fnStalled .blt = false ∧
    servedIn (dev 5).mode .pwr = true ∧ (dev 5).core.mayAccess .blt .pwr 0 Off.PWR_MODE_REQ true 4 = false ∧ (dev 5).core.hasToken 1 = true ∧
    (run 5).Reaches (.cpu 0) .prot 0 Off.PROT_DENY_LAST true 0 := ⟨rfl, by decide⟩

theorem witness_RegisterWriteStores : (dev 5).fnStalled (.cpu 0) = false ∧ (BitVec.ofNat 24 (Page.mwin.reg 0 Off.MWIN_CTRL)).toNat = Page.mwin.reg 0 Off.MWIN_CTRL ∧
    servedIn 5 .mwin = true ∧ (dev 5).core.mayAccess (.cpu 0) .mwin 0 Off.MWIN_CTRL true 1 = true ∧
    (Page.mwin.desc Off.MWIN_CTRL).map (·.access) = some .im ∧ (Page.mwin.desc Off.MWIN_DENY_LAST_LO).map (·.access) = some .ro ∧
    Page.ofSlot 4095 = none := by decide

theorem witness_RegisterWriteSizes : (dev 5).fnStalled (.pf 0) = false ∧ (4 : BitVec 24).toNat % 4 = 0 ∧
    (after (.registerWrite (.pf 0) false 4 4 0) (dev 5)).fnStalled (.pf 0) = false ∧ (dev 5).mode ≠ 0 ∧
    ¬ ((4 : BitVec 24).toNat % 4 = 0 ∧ ((16 : Nat) = 4 ∨ (16 : Nat) = 8)) ∧ ¬ ((2 : BitVec 24).toNat % 4 = 0) := by decide

/-- An SCN page armed for its next boundary, with running timing whose next boundary is 10 ms away. -/
def armedScene : Dev := ((dev 5 [(.anch, 0, Off.ANCH_CAD_CTRL, 1)]).setCad 0 { next := 10000000 * 2 ^ 32 }).setArm .scn 0 (some { wait := .next 0 })

theorem witness_ShadowWrite : arrives (dev 5) (.shadowWrite (.cpu 0) .scn 0 Off.SCN_SCN_CTRL 1) = true ∧
    (Page.scn.desc Off.SCN_SCN_CTRL).map (·.access) = some .sh ∧ (dev 5).armOf .scn 0 = none ∧
    arrives armedScene (.shadowWrite (.cpu 0) .scn 0 Off.SCN_SCN_CTRL 1) = true ∧ armedScene.armOf .scn 0 ≠ none := by decide

theorem witness_SequencedClear : arrives (dev 5) (.sqClear (.cpu 0) .safe 0 Off.SAFE_FAULT_STAT 1) = true ∧
    (Page.safe.desc Off.SAFE_FAULT_STAT).map (·.access) = some .sq ∧ bitsOf (1 : Word) 24 8 = bitsOf ((dev 5).rd .safe 0 Off.SAFE_FAULT_STAT) 24 8 ∧
    bitsOf (0x1000001 : Word) 24 8 ≠ bitsOf ((dev 5).rd .safe 0 Off.SAFE_FAULT_STAT) 24 8 := by decide

theorem witness_LatchingReads : arrives (dev 5) (.timeLoRead (.cpu 0)) = true ∧ arrives (dev 5) (.appliedLoRead (.cpu 0) .leng 63) = true ∧
    arrives (dev 5) (.frameLoRead (.cpu 0) 3) = true ∧ arrives (dev 5) (.pframeLoRead (.cpu 0) 7) = true ∧ arrives (dev 5) (.shownLoRead (.cpu 0) 7) = true ∧
    arrives (dev 5) (.teamTimeLoRead (.cpu 0)) = true ∧ arrives (dev 5) (.teamFrameLoRead (.cpu 0)) = true ∧
    arrives (dev 5) (.faultTimeLoRead (.cpu 0)) = true := by decide

/-- The same scene, not armed; and armed for frame 9. -/
def openScene : Dev := armedScene.setArm .scn 0 none
def targetScene : Dev := armedScene.setArm .scn 0 (some { wait := .frame 9 })
/-- The same scene within its cut-off. -/
def lateScene : Dev := armedScene.setCad 0 { next := 32000 * 2 ^ 32 }

theorem witness_CommitArm : arrives openScene (.arm (.cpu 0) .scn 0) = true ∧ openScene.armOf .scn 0 = none ∧
    (openScene.commitStat .scn 0 false false false false false false).armPlan .scn 0 = .wait (.next 0) false ∧
    ((lateScene.setArm .scn 0 none).commitStat .scn 0 false false false false false false).armPlan .scn 0 = .wait (.next 1) true ∧
    armedScene.armOf .scn 0 = some { wait := .next 0 } ∧ armedScene.targetedArm { wait := .next 0 } = false ∧
    targetScene.armOf .scn 0 = some { wait := .frame 9 } ∧ targetScene.targetedArm { wait := .frame 9 } = true := by decide

theorem witness_CommitCancel : arrives armedScene (.cancel (.cpu 0) .scn 0) = true ∧ armedScene.armOf .scn 0 = some { wait := .next 0 } ∧
    armedScene.cutReached .scn 0 { wait := .next 0 } = false ∧ arrives lateScene (.cancel (.cpu 0) .scn 0) = true ∧
    lateScene.armOf .scn 0 = some { wait := .next 0 } ∧ lateScene.cutReached .scn 0 { wait := .next 0 } = true ∧
    (openScene.armOf .scn 0 = none) ∧ (armedScene.groupCancellable 0 = false) := by decide

/-- Scenes 0 and 1 are an active pair. -/
def pairDev : Dev := setUses (dev 5) [(.scn, 0, Off.SCN_SCN_CTRL, 3)]

theorem witness_GroupArm : arrives openScene (.groupArm (.cpu 0) 1 false) = true ∧ openScene.pairSplit 1 = false ∧ openScene.groupScenes 1 = [0] ∧
    openScene.sceneIdle 0 = false ∧ openScene.targetReason 0 0 = some 0x05 ∧ openScene.targetReason 0 1 = none ∧ openScene.targetReason 0 65536 = some 0x06 ∧
    arrives pairDev (.groupArm (.cpu 0) 1 false) = true ∧ pairDev.pairSplit 1 = true := by decide

/-- The group of scene 0 armed for its next boundary. -/
def groupDev : Dev := (armedScene.setArm .scn 0 (some { wait := .next 0, group := some 0 })).setGroup 0 { phase := .armed }
def lateGroup : Dev := groupDev.setCad 0 { next := 32000 * 2 ^ 32 }

theorem witness_GroupCancel : arrives groupDev (.groupCancel (.cpu 0) 1) = true ∧ groupDev.pairSplit 1 = false ∧ groupDev.groupScenes 1 = [0] ∧
    (groupDev.group 0).phase ≠ .idle ∧ groupDev.groupCancellable 0 = true ∧ groupDev.armedGroup 0 = [(.scn, 0)] ∧
    (lateGroup.group 0).phase ≠ .idle ∧ lateGroup.groupCancellable 0 = false := by decide

/-- A use of a buffer whose descriptor waits for the fence value `v`, and sets `ctl` at 0x160. -/
def use_ (v ctl : Nat) (ready : Bool) : Use :=
  { id := 0, desc := List.replicate 16 0 ++ [BitVec.ofNat 32 v] ++ List.replicate 7 0 ++ [BitVec.ofNat 32 ctl], ready := ready }

/-- 1 GiB of DDR5, and an engine of scene 0 whose use waits at this boundary beside engine 5. -/
def fenceDev (v : Nat) : Dev :=
  { (dev 5 [(.mcg, 0, Off.MCG_INSTALLED, 1)]).setEng 3 { scene := some 0, use := some (use_ v 0 false) } with deciding := [(0, some [3, 5])] }

/-- The same engine with a ready use that asks for a metadata block (METADATA at bit 2) and for release writes (bit 1), and memory. -/
def metaDev (m : List Host.Cell) (gib : Nat) : Dev :=
  { (dev 5 [(.mcg, 0, Off.MCG_INSTALLED, gib)]).setEng 3 { scene := some 0, use := some (use_ 0 6 true) } with mem := m }

theorem witness_EngineReads : ((fenceDev 0).eng 3).scene = some 0 ∧ (fenceDev 0).decidingOf 0 = some [3, 5] ∧ ((fenceDev 0).eng 3).use = some (use_ 0 0 false) ∧
    (fenceDev 0).core.mwinAllows .comp (descAddr (use_ 0 0 false).desc 0x138) 8 false = true ∧
    (fenceDev 0).dramBytes (descAddr (use_ 0 0 false).desc 0x138) 8 = some (List.replicate 8 0) ∧
    ((metaDev [(0, 1)] 1).eng 3).use = some (use_ 0 6 true) ∧ bitOf (descW (use_ 0 6 true).desc 0x160) 2 = true ∧
    (metaDev [(0, 1)] 1).core.mwinAllows .comp (descAddr (use_ 0 6 true).desc 0x158) 64 false = true ∧
    (metaDev [(0, 1)] 1).dramBytes (descAddr (use_ 0 6 true).desc 0x158) 64 = some (1 :: List.replicate 63 0) ∧
    (metaDev [] 0).dramBytes (descAddr (use_ 0 6 true).desc 0x158) 64 = none ∧ (metaDev [] 1).dramBytes 64 64 ≠ none := by decide

theorem witness_EngineReads_not_waiting : ((fenceDev 0).setEng 4 { scene := some 0 } |>.eng 4).scene = some 0 ∧ [3, 5].contains 4 = false ∧
    ((dev 5).eng 3).use = none ∧ (!(use_ 0 0 false).ready || (use_ 0 0 false).metaRead || !bitOf (descW (use_ 0 0 false).desc 0x160) 2) = true := by decide

/-- A composition of scene 0 of a canvas of 128 rows. -/
def comp : Comp := { frame := 7, start := 0, deadline := 1000, slot := 0, entry := 2, chase := false, w := 64, h := 128 }

/-- Scene 0 composes, and engine 3 waits until 0 ns for the fence value `v`. -/
def waitDev (v : Nat) : Dev := (fenceDev v).setScene 0 { comp := some { comp with waiting := [(3, 0)] } }

theorem witness_WaitingLayers : (waitDev 0).waitScene 3 = some 0 ∧ ((waitDev 0).scene 0).comp = some { comp with waiting := [(3, 0)] } ∧
    ((waitDev 0).eng 3).use = some (use_ 0 0 false) ∧ (waitDev 0).core.mwinAllows .comp (descAddr (use_ 0 0 false).desc 0x138) 8 false = true ∧
    descVal (use_ 0 0 false).desc 0x140 ≤ leNat (List.replicate 8 0) ∧ leNat (List.replicate 8 0) < descVal (use_ 1 0 false).desc 0x140 ∧
    (waitDev 0).dramBytes (descAddr (use_ 0 0 false).desc 0x138) 8 = some (List.replicate 8 0) ∧ (dev 5).waitScene 3 = none ∧
    ((dev 5).scene 0).comp = none ∧ 0 ≤ (waitDev 0).now := by decide

set_option maxRecDepth 4000 in
theorem witness_ReleaseFences : ((dev 5).eng 3).ending = [] ∧ (((metaDev [] 1).setEng 3 { ending := [use_ 0 6 true] }).eng 3).ending = [use_ 0 6 true] ∧
    bitOf (descW (use_ 0 6 true).desc 0x160) 1 = true ∧ bitOf (descW (use_ 0 0 true).desc 0x160) 1 = false ∧
    (metaDev [] 1).core.mwinAllows .comp (descAddr (use_ 0 6 true).desc 0x148) 8 true = true ∧
    descAddr (use_ 0 6 true).desc 0x148 + 8 ≤ (metaDev [] 1).core.installed ∧ (metaDev [] 1).behindStall .comp = false ∧
    (dev 5 [(.mwin, 0, Off.MWIN_CTRL, 1)]).core.mwinAllows .comp (descAddr (use_ 0 6 true).desc 0x148) 8 true = false := by decide

/-- Scene 0 composes with no layer waiting; in chase mode; and with every row written. -/
def compDev (c : Comp) : Dev := (dev 5).setScene 0 { comp := some c }

theorem witness_ComposedFrames : ((compDev comp).scene 0).comp = some comp ∧ comp.waiting = [] ∧ comp.chase = false ∧ 64 * comp.bands < comp.h ∧
    ({ comp with chase := true } : Comp).rows < comp.h ∧ (∀ p, p < 8 → (compDev { comp with chase := true }).rowHeldBy 0 p 0 = false) ∧
    ({ comp with rows := 128, bands := 2 } : Comp).h ≤ ({ comp with rows := 128, bands := 2 } : Comp).rows ∧ ((dev 5).scene 0).comp = none := by decide

/-- Scene 0's generator goes, with timing that runs or stands. -/
def tickDev (runs : Nat) : Dev := (dev 5 [(.anch, 0, Off.ANCH_CAD_CTRL, runs)]).setCad 0 { going := true, next := 1000 * 2 ^ 32 }

theorem witness_SceneTicks : cadModes.contains (dev 9).mode = false ∧ ((dev 5).cad 0).going = false ∧ cadModes.contains (tickDev 1).mode = true ∧
    ((tickDev 1).cad 0).going = true ∧ (tickDev 1).safe.injecting = none ∧ (tickDev 1).power.move = none ∧ (tickDev 1).power.restart = [] ∧
    (tickDev 1).cadSource 0 ≠ 3 ∧ (tickDev 1).tickIsBoundary 0 = true ∧ (tickDev 0).tickIsBoundary 0 = false := by decide

theorem witness_ForceWrites : arrives (dev 5) (.forceRecompose (.cpu 0) 3) = true ∧ arrives (dev 5) (.forceFlatDrop (.cpu 0) 3) = true := by decide

/-- A build for the tone mapper of scene 0, one for engine 0's, and an image to be staged at address 0. -/
def build (tone : Nat) (dynamic : Bool) : Build := { tone := tone, key := {}, peak := 0, dynamic := dynamic }
def stageDev (gib : Nat) : Dev := (dev 5 [(.mcg, 0, Off.MCG_INSTALLED, gib)]).setAdp 0 { staging := some (0, 5) }

theorem witness_LutLoads : (dev 5).buildsOf 0 = [] ∧ ((dev 5).setBuilds 0 [build 64 true]).buildsOf 0 = [build 64 true] ∧ 64 ≤ (build 64 true).tone ∧
    (build 64 true).key.curve ≠ 2 ∧ ((dev 5).tone 64).want = none ∧ arrives (dev 5) (.prestage (.cpu 0) 0) = true ∧
    (lutWant ((dev 5).rd .padp 0)).en = 0 ∧ arrives (dev 5 [(.padp, 0, Off.PADP_ADP_CTRL, 7)]) (.prestage (.cpu 0) 0) = true ∧
    (lutWant ((dev 5 [(.padp, 0, Off.PADP_ADP_CTRL, 7)]).rd .padp 0)).en ≠ 0 ∧ ((dev 5).adp 0).image = none ∧ ((dev 5).adp 0).staged = none ∧
    ((dev 5).adp 0).staging = none ∧ ((stageDev 0).adp 0).staging = some (0, 5) ∧ (stageDev 0).dramBytes 0 imageBytes = none ∧
    (stageDev 1).core.mwinAllows .comp 0 imageBytes false = true ∧ ((dev 5).adp 0).reload = none ∧
    (((dev 5).setAdp 0 { reload := some (0, none, 3) }).adp 0).reload = some (0, none, 3) := by decide

theorem witness_LutLoads_read : ∃ bs, (stageDev 1).dramBytes 0 imageBytes = some bs ∧ bs.getD 0 0 ≠ 1 := by
  have h : ¬ ((stageDev 1).core.installed < 0 + imageBytes ∨ (linesOf 0 imageBytes).any (stageDev 1).linePoisoned = true) := by
    simp only [not_or, Bool.not_eq_true, List.any_eq_false]
    exact ⟨by decide, fun x _ => rfl⟩
  refine ⟨_, if_neg h, ?_⟩
  show ((List.range (299847 + 1)).map fun i => readByte (stageDev 1).mem (0 + i)).getD 0 0 ≠ 1
  rw [List.range_succ_eq_map]
  decide

/-- Entry 3 is a valid Belay frame of 64 × 32 pixels in one granule; in use, it is the still of enabled port 0. -/
def entryRegs : List (Page × Nat × Nat × Nat) :=
  [(.fmem, 0, Off.FMEM_ENT_BASE + 48, 2 ^ 31), (.fmem, 0, Off.FMEM_ENT_SIZE + 48, 1), (.fmem, 0, Off.FMEM_ENT_DESC + 48, 2),
    (.fmem, 0, Off.FMEM_ENT_DIM + 48, 64 + 32 * 65536)]
def entryDev : Dev := dev 5 (entryRegs ++ [(.mcg, 0, Off.MCG_INSTALLED, 1), (.fmem, 0, Off.FMEM_XFER_STRIDE, 512), (.fmem, 0, Off.FMEM_XFER_ROWS, 65536)])
def usedEntry : Dev := setUses entryDev [(.scan, 0, Off.SCAN_SCAN_CTRL, 9 + 3 * 256)]

theorem witness_AllocTable : entryDev.entValid 3 = true ∧ entryDev.installReason 3 = some 0x70 ∧
    arrives (dev 5) (.allocInstall (.cpu 0) 3) = true ∧ (dev 5).installReason 3 = some 0x71 ∧
    (dev 5 [(.fmem, 0, Off.FMEM_NEW_SIZE, 8128)]).installReason 63 = none ∧ arrives entryDev (.allocFree (.cpu 0) 3) = true ∧
    (dev 5).entValid 3 = false ∧ entryDev.entInUse 3 = false ∧ usedEntry.entValid 3 = true ∧ usedEntry.entInUse 3 = true := by decide

/-- A transfer of one row of entry 3 that runs, and port 0 showing that entry as a still. -/
def xfer : Xfer := { capture := true, entry := 3, pinned := false, first := 0, count := 1, rowBytes := 384, dram := 0, stride := 512, chase := none }
def movingDev : Dev := dev 5 [(.pwr, 0, Off.PWR_MODE_STAT, 1 + 16 * 9)]
def stillDev : Dev := entryDev.setPort 0 { shown := .still 3 }

theorem witness_Transfers : arrives entryDev (.xferUpload (.cpu 0) 3) = true ∧ arrives entryDev (.xferCapture (.cpu 0) 3) = true ∧
    arrives stillDev (.xferCaptureFromPort (.cpu 0) 0) = true ∧ entryDev.moving = false ∧ entryDev.xfer = none ∧ entryDev.xferLegal 3 = true ∧
    entryDev.belayEntry 3 = true ∧ entryDev.entInUse 3 = false ∧ (stillDev.port 0).shown = .still 3 ∧ movingDev.moving = true ∧
    usedEntry.belayEntry 3 = true ∧ usedEntry.entInUse 3 = true ∧ ({ entryDev with xfer := some xfer } : Dev).xfer ≠ none ∧
    (dev 5).belayEntry 3 = false ∧ (dev 5).xferLegal 3 = false ∧ ((dev 5).port 0).shown = .off ∧
    ((stillDev.setPort 0 { shown := .buffer 3 0 0 7 true }).port 0).shown = .buffer 3 0 0 7 true := by decide

theorem witness_RoundsAndScrub : ((List.range 8).map (dev 5).portSlots).foldl (· + ·) 0 ≤ 319 := by decide

/-- Port 0 enabled, its raster placed, showing entry 3; its scene's generator goes. -/
def portDev : Dev :=
  (((setUses entryDev [(.xpt, 0, Off.XPT_XPT_CTRL, 1), (.scan, 0, Off.SCAN_V_TIMING, 1080 + 1125 * 65536), (.scan, 0, Off.SCAN_WIN_SIZE, 64 + 32 * 65536)]).setPort 0
    { shown := .still 3, lastV := 1, rasterOk := true, rasterKnown := true }).setXp 0 { started := true }).setCad 0 { going := true }
/-- The same port with its PLL locked and its link up, which sends video. -/
def videoDev : Dev := setRegs portDev [(.ppll, 0, Off.PPLL_PLL_STAT, 0x63), (.xpt, 0, Off.XPT_LINK_STAT, 4 + 2048)]

theorem witness_PortFrames : portDev.portEnabled 0 = true ∧ (portDev.xp 0).started = true ∧ (portDev.cad (portDev.portScene 0)).going = true ∧
    portDev.power.stopping = false ∧ portDev.rasterRuns 0 = true ∧ (portDev.shownSurface 0).isSome = true ∧ (portDev.port 0).frameDone = false ∧
    portDev.vTotal 0 = 1125 ∧ (1 : Nat) ≠ portDev.vActive 0 ∧ (dev 5).portEnabled 0 = false ∧ (dev 5).rasterRuns 0 = false ∧
    videoDev.rasterRuns 0 = true ∧ videoDev.portReads 0 = true ∧ (videoDev.port 0).row < (videoDev.window 0).h.toNat := by decide

/-- Scene 0 awaits an ACK for an edge that came half a frame late. -/
def ackDev : Dev := (dev 5 [(.anch, 0, Off.ANCH_CAD_STAT, 4)]).setCad 0 { period := 16000000 * 2 ^ 32, edges := [8000000] }

theorem witness_CadenceCommands : arrives (dev 5) (.cadCtrlWrite (.cpu 0) 0 0x30) = true ∧ (dev 5).power.vp = none ∧ (dev 5).fw.hand = none ∧
    bitsOf (0x30 : Word) 4 2 = 3 ∧ bitsOf (0 : Word) 4 2 ≠ 3 ∧ bitsOf (6 : Word) 1 2 = 3 ∧ (dev 5).teamMember = false ∧
    arrives (dev 5) (.applyRate (.cpu 0) 0 true) = true ∧ (dev 5 [(.anch, 0, Off.ANCH_RATE_DEN, 0)]).rateReason 0 true = some 0x89 ∧
    (dev 5 [(.anch, 0, Off.ANCH_RATE_NUM, 60), (.anch, 0, Off.ANCH_RATE_DEN, 1)]).rateReason 0 false = none ∧
    arrives ackDev (.ackSnap (.cpu 0) 0) = true ∧ arrives ackDev (.ackSlew (.cpu 0) 0) = true ∧ ackDev.cadState 0 = 4 ∧ (dev 5).cadState 0 ≠ 4 ∧
    ackDev.belowThreshold 0 (ackDev.phaseError 0 8000000) = false ∧ arrives (dev 5) (.preset (.cpu 0) 0) = true ∧ (dev 5).cadRun 0 = false ∧
    (dev 5 [(.anch, 0, Off.ANCH_CAD_CTRL, 1)]).cadRun 0 = true := by decide

/-- Anchor inputs 0 and 2 enabled; scene 0 follows anchor 0, locked or acquiring, and expects an edge. -/
def anchorDev (st : Nat) : Dev :=
  (dev 5 [(.anch, 0, Off.ANCH_IN_CTRL, 1), (.anch, 0, Off.ANCH_IN_CTRL + 8, 1), (.anch, 0, Off.ANCH_CAD_CTRL, 3), (.anch, 0, Off.ANCH_CAD_STAT, st)]).setCad 0
    { expected := some 1000 }

theorem witness_AnchorEdges : (dev 5).bit .anch 0 (Off.ANCH_IN_CTRL + 4) 0 = false ∧ (anchorDev 2).bit .anch 0 Off.ANCH_IN_CTRL 0 = true ∧
    (anchorDev 2).bit .anch 0 (Off.ANCH_IN_CTRL + 8) 0 = true ∧ (dev 5).bit .anch 0 (Off.ANCH_IN_CTRL + 12) 0 = false ∧
    ((anchorDev 2).cad 0).expected = some 1000 ∧ (anchorDev 2).cadSource 0 = 1 ∧ (anchorDev 2).cadState 0 = 2 ∧ (anchorDev 1).cadState 0 = 1 ∧
    ((dev 5).cad 0).expected = none := by decide

/-- Port PLL 0 with a status word, its port enabled. -/
def pllDev (st : Nat) (x : Pll) : Dev := (setUses (dev 5 [(.ppll, 0, Off.PPLL_PLL_STAT, st)]) [(.xpt, 0, Off.XPT_XPT_CTRL, 1)]).setPll 0 x

theorem witness_ClockLocks : (pllDev 1 {}).pllState 0 = 1 ∧ (pllDev 2 {}).pllState 0 = 2 ∧ (pllDev 0x22 {}).pllState 0 = 2 ∧ (pllDev 0x22 {}).pllBit 0 5 = true ∧
    (pllDev 6 {}).pllState 0 = 6 ∧ (pllDev 6 {}).portEnabled 0 = true ∧ ((pllDev 2 { warm := true }).pll 0).warm = true ∧ (pllDev 2 { warm := true }).pllBit 0 5 = false ∧
    arrives (pllDev 0x13 {}) (.retryMain (.cpu 0) 0) = true ∧ (pllDev 0x13 {}).pllBit 0 4 = true ∧ (pllDev 3 {}).pllBit 0 4 = false ∧
    (dev 5 [(.ppll, 0, Off.PPLL_PLL_STAT, 0x13)]).portEnabled 0 = false ∧ (dev 5).pllState 9 = 0 := by decide

theorem witness_ClockDeclarations : ((pllDev 0x23 { pinAt := some 0 }).pll 0).pinAt = some 0 ∧ (pllDev 0x23 { pinAt := some 0 }).pllBit 0 6 = false ∧
    (pllDev 0x23 { pinAt := some 0 }).pllBit 0 5 = true ∧ (pllDev 3 {}).pllState 0 = 3 ∧ (pllDev 3 {}).mayFallBack 0 = true ∧
    (setUses (pllDev 3 {}) [(.ppll, 0, Off.PPLL_PLL_CTRL, 0)]).mayFallBack 0 = false ∧ (pllDev 7 {}).pllState 0 = 7 ∧ (pllDev 0x24 {}).pllState 0 = 4 ∧
    (pllDev 0x24 {}).pllBit 0 5 = true ∧ ((pllDev 0x43 {}).pll 0).pinAt = none ∧ (pllDev 0x43 {}).pllBit 0 6 = true ∧ (pllDev 4 {}).pllBit 0 5 = false := by decide

theorem witness_ReferenceAndOutputs : (dev 5).refOk = false ∧ (dev 5 [(.spll, 1, Off.SPLL_REF_STAT, 1)]).refOk = true ∧ (pllDev 3 {}).pllState 0 ∉ [0, 4, 5] ∧
    (pllDev 4 {}).pllState 0 ∈ [0, 4, 5] ∧ arrives (dev 5) (.ckoWrite (.cpu 0) 3 true 1) = true ∧
    (dev 5).ckoReason ((dev 5).ckoCtrl 3) 0 = some 0x93 ∧ (dev 5).ckoReason ((dev 5).ckoCtrl 3) 1 = none := by decide

/-- Port 0 enabled with a protocol, a link state and a LINK_CFG in use. -/
def linkDev (ctrl st cfg : Nat) : Dev :=
  setUses (dev 5 [(.xpt, 0, Off.XPT_LINK_STAT, st)]) [(.xpt, 0, Off.XPT_XPT_CTRL, 1 + ctrl), (.xpt, 0, Off.XPT_LINK_CFG, cfg)]

theorem witness_LinkTraining : (linkDev 0 3 1).linkState 0 = 3 ∧ (linkDev 0 4 1).linkState 0 ≠ 3 ∧ (linkDev 0 3 1).capsRefused 0 0 2 = true ∧
    (linkDev 0 3 0).capsRefused 0 0 2 = false ∧ (linkDev 0 3 0).proto 0 = 0 ∧ (linkDev 2 3 0).proto 0 = 1 ∧ (linkDev 2 3 0).capsRefused 0 0 0 = false ∧
    (linkDev 0 3 0).useB .xpt 0 Off.XPT_XPT_CTRL 5 = false ∧ (linkDev 4 3 3).proto 0 = 2 ∧ (linkDev 4 3 3).useB .xpt 0 Off.XPT_XPT_CTRL 5 = false ∧
    2 < (((linkDev 4 3 3).xp 0).attempt.getD ((linkDev 4 3 3).useF .xpt 0 Off.XPT_LINK_CFG 0 4, 0)).1 ∧
    (linkDev 32 3 1).useB .xpt 0 Off.XPT_XPT_CTRL 5 = true ∧
    ((linkDev 0 3 0).linkFits 0 0 0 = true ∨ (linkDev 0 3 0).linkFits 0 0 0 = false) := by decide

theorem witness_LinkTraining_next : (linkDev 32 3 1).nextCandidate 0 4 2 (if ((linkDev 32 3 1).xp 0).attempt.isSome then ((linkDev 32 3 1).xp 0).candidates else
    ((dpOrder ((linkDev 32 3 1).useF .xpt 0 Off.XPT_LINK_CFG 4 2)).dropWhile (· != (linkDev 32 3 1).attempt 0 4 2)).drop 1)
    ((linkDev 32 3 1).xp 0).skipped = (some ((0, 0), []), false) := by decide

theorem witness_LinkEvents : arrives (dev 5) (.retrain (.cpu 0) 0) = true ∧ (dev 5).portEnabled 0 = false ∧ (linkDev 0 4 0).portEnabled 0 = true ∧
    arrives (linkDev 0 4 0) (.retrain (.cpu 0) 0) = true ∧ (linkDev 16 4 0).useB .xpt 0 Off.XPT_XPT_CTRL 4 = true ∧ (linkDev 16 4 0).linkState 0 = 4 ∧
    (linkDev 0 4 0).useB .xpt 0 Off.XPT_XPT_CTRL 4 = false ∧ (linkDev 20 4 0).proto 0 = 2 ∧ (linkDev 4 4 0).proto 0 = 2 ∧ (linkDev 6 4 0).proto 0 = 3 ∧
    (linkDev 0 2 0).linkState 0 = 2 ∧ (linkDev 0 4 0).proto 0 = 0 := by decide

theorem witness_SidebandAndTimecode : arrives (linkDev 0 4 0) (.sbGo (.cpu 0) 0) = true ∧ (linkDev 0 4 0).bit .xpt 0 Off.XPT_SB_STAT 0 = false ∧
    (linkDev 0 4 0).proto 0 = 0 ∧ (linkDev 0 4 0).fld .xpt 0 Off.XPT_SB_CTRL 0 3 = 0 ∧ (dev 5 [(.xpt, 0, Off.XPT_SB_STAT, 1)]).bit .xpt 0 Off.XPT_SB_STAT 0 = true ∧
    (dev 5 [(.xpt, 0, Off.XPT_SB_CTRL, 6)]).fld .xpt 0 Off.XPT_SB_CTRL 0 3 = 6 ∧ (linkDev 2 4 0).proto 0 = 1 ∧
    (dev 5 [(.xpt, 0, Off.XPT_SB_CTRL, 5)]).fld .xpt 0 Off.XPT_SB_CTRL 0 3 = 5 ∧ arrives (dev 5) (.tcLoad (.cpu 0) 0) = true ∧
    (dev 5).useF .xpt 0 Off.XPT_SDI_CFG 2 2 ≠ 2 ∧ (setUses (dev 5) [(.xpt, 0, Off.XPT_SDI_CFG, 8)]).useF .xpt 0 Off.XPT_SDI_CFG 2 2 = 2 := by decide

/-- A default map, for 7 column bits, 16 row bits and one rank, and a device in READY that uses it. -/
def map0 : AddrMap := defaultMap 7 16 0
def mapDev : Dev := { (dev 4 [(.mcg, 0, Off.MCG_INSTALLED, 1)]).showMap map0 with mc := { map := some map0 } }

theorem witness_MapAndWeights : arrives mapDev (.mapApply (.cpu 0)) = true ∧ mapDev.mode = 4 ∧ mapDev.mc.map = some map0 ∧ mapDev.mc.mig = none ∧
    arrives (dev 5) (.mapApply (.cpu 0)) = true ∧ (dev 4).mc.map = none ∧ arrives (dev 5) (.weightWrite (.cpu 0) 0 0x40000000) = true ∧
    64 < byteSum (0x40000001 : Word) := by decide

theorem witness_MapAndWeights_scenes : ∀ k : Fin 4, mapDev.useB .scn k.val Off.SCN_SCN_CTRL 0 = false := by decide

theorem witness_MapAndWeights_accepted : byteSum (0 : Word) + byteSum (0 : Word) + byteSum (BitVec.ofNat 32 (max 1 (bitsOf (64 : Word) 0 8))) ≤ 64 := by decide

theorem witness_MapAndWeights_legal : (mapDev.mapWritten map0.k).legal (map0.k == 2 && decide (mapDev.core.installed < 2 ^ map0.width)) = true := by decide +kernel

/-- A read and a write of CPU in the queue of its port. -/
def req (write : Bool) : MemReq :=
  { id := 4, port := 6, who := .cpu 0, write := write, addr := 64, data := if write then none else some (List.replicate 64 0), loc := map0.locOf 64 }
def queueDev (write : Bool) : Dev := { mapDev with mc := { mapDev.mc with queue := [req write], nextId := 5 } }

set_option maxRecDepth 8000 in
theorem witness_MemoryQueues : (0x40 : BitVec 40).toNat / 64 * 64 = 64 ∧ mapDev.core.mwinAllows (.cpu 0) 64 64 false = true ∧
    64 + 64 ≤ mapDev.core.installed ∧ (dev 5).core.installed < 64 + 64 ∧ (queueDev false).retirable 6 = some (req false) ∧ (req false).write = false ∧
    (queueDev true).retirable 6 = some (req true) ∧ (req true).write = true ∧ mapDev.retirable 6 = none := by decide

set_option maxRecDepth 8000 in
theorem witness_MemoryQueues_denied : (dev 5 [(.mwin, 0, Off.MWIN_CTRL, 1)]).core.mwinAllows (.pf 0) 64 64 false = false ∧
    (dev 5 [(.mwin, 0, Off.MWIN_CTRL, 1)]).core.mwinAllows (.pf 0) 64 1 true = false := by decide

/-- Engine 3 holds the lines of a 64 × 1 buffer at address 0, whose rows take 256 bytes, in a hold mode: 1 STALL, 2 REJECT. -/
def holdUse (mode : Nat) : Use :=
  { id := 9, ready := true, held := true
    desc := [1, 64 + 65536] ++ List.replicate 8 0 ++ [256] ++ List.replicate 13 0 ++ [BitVec.ofNat 32 (16 * mode)] }
def heldDev (mode : Nat) : Dev := mapDev.setEng 3 { scene := some 0, use := some (holdUse mode) }

/-- A write that engine 3's windows stall; one that met its window before it waited behind another. -/
def heldWrite (uses : List (Nat × Nat)) : Stalled := { who := .pf 0, addr := 64, data := [1], uses := uses, since := 0, bad := false }
def waitingDev (mode : Nat) (uses : List (Nat × Nat)) : Dev := { heldDev mode with stalled := [heldWrite uses] }

theorem witness_MemoryWrites : mapDev.core.mwinAllows (.pf 0) 64 1 true = true ∧ 64 + 1 ≤ mapDev.core.installed ∧ mapDev.behindStall (.pf 0) = false ∧
    mapDev.windowsAt 64 1 = [] ∧ (heldDev 1).windowsAt 64 1 = [(3, 9, 1)] ∧ (heldDev 2).windowsAt 255 1 = [(3, 9, 2)] ∧ (heldDev 2).windowsAt 256 1 = [] ∧
    (Requester.pf 0).holdExempt = false ∧ (waitingDev 1 [(3, 9)]).behindStall (.pf 0) = true ∧ (dev 5).core.installed < 64 + 1 := by decide

theorem witness_MemoryWrites_resume : (dev 5).resumable (dev 5).stalled [] = none ∧
    ({ mapDev with stalled := [heldWrite [(3, 9)]] } : Dev).resumable [heldWrite [(3, 9)]] [] = some 0 ∧
    (waitingDev 1 []).resumable (waitingDev 1 []).stalled [] = some 0 ∧ (waitingDev 1 []).windowsAt 64 1 = [(3, 9, 1)] ∧
    (waitingDev 2 []).resumable (waitingDev 2 []).stalled [] = some 0 ∧ (waitingDev 2 []).windowsAt 64 1 = [(3, 9, 2)] ∧
    (waitingDev 1 [(3, 9)]).stalled[0]? = some (heldWrite [(3, 9)]) ∧ (waitingDev 1 [(3, 9)]).useHeld (3, 9) = true := by decide

/-- A trained READY device with a memory state and system PLL 0 locked. -/
def memDev (mode sr : Nat) (l : List (Page × Nat × Nat × Nat) := []) : Dev :=
  dev mode ([(.mcg, 0, Off.MCG_TRAIN_STAT, 2), (.mcg, 0, Off.MCG_SR_STAT, sr), (.spll, 0, Off.SPLL_PLL_STAT, 0x63)] ++ l)

/-- Rank 0 of subchannel 0 in service, and rank 1 its spare. -/
def rankRegs : List (Page × Nat × Nat × Nat) := [(.mcc, 0, Off.MCC_RANK_STATE, 1 + 8 * 2)]
def mig (ptr : Nat) : Mig := { sub := 0, rank := 0, spare := 1, ptr := ptr, poison := 0 }
def migDev (ptr : Nat) : Dev := { memDev 4 0 rankRegs with mc := { map := some (defaultMap 7 16 0), mig := some (mig ptr) } }

theorem witness_RowsAndRefresh : (memDev 5 0).trained = true ∧ (memDev 5 0).ddrActive = true ∧ (memDev 5 0).pllState 8 = 3 ∧
    (setUses (memDev 5 0) [(.mcc, 0, Off.MCC_REF_CTRL, 2)]).useF .mcc 0 Off.MCC_REF_CTRL 0 2 = 2 ∧ (memDev 5 0).armOf .mcc 0 = none ∧
    (setUses (memDev 5 0) [(.mcc, 0, Off.MCC_REF_CTRL, 0)]).useF .mcc 0 Off.MCC_REF_CTRL 0 2 ≠ 2 ∧ (dev 5).trained = false ∧ (memDev 5 2).ddrActive = false ∧
    ({ dev 5 with mc := { throttles := [{ bank := 31, port := 2, since := 0 }] } } : Dev).mc.throttles.find? (fun y => y.bank / 256 == 0) =
      some { bank := 31, port := 2, since := 0 } ∧ (migDev 0).mc.map = some (defaultMap 7 16 0) ∧ (dev 5).mc.map = none ∧
    0 / 64 * 64 + 64 ≤ (memDev 5 0 [(.mcg, 0, Off.MCG_INSTALLED, 1)]).core.installed := by decide

theorem witness_RankMigration : arrives (memDev 4 0 rankRegs) (.migStart (.cpu 0) 0 0) = true ∧ (memDev 4 0 rankRegs).mc.mig = none ∧
    (memDev 4 0 rankRegs).mode ∈ [4, 5, 6] ∧ (memDev 4 0 rankRegs).rankState 0 0 = 1 ∧ (memDev 4 0 rankRegs).spareOf 0 = some 1 ∧
    (dev 5).rankState 15 3 ≠ 1 ∧ (migDev 7).mc.mig = some (mig 7) ∧ 7 < (migDev 7).rankLines ∧
    (migDev 0).rankLines ≤ 2 ^ 28 ∧ (migDev (2 ^ 28)).mc.migQueue = [] ∧ (dev 5).mc.mig = none := by decide

/-- A scene whose frame pages are armed, with timing that runs, in self-refresh. -/
def wakeDev : Dev := setRegs (((dev 5 [(.anch, 0, Off.ANCH_CAD_CTRL, 1)]).setCad 0 { next := 10000000 * 2 ^ 32 }).setArm .scn 0 (some { wait := .next 0 })) [(.mcg, 0, Off.MCG_SR_STAT, 2)]

theorem witness_SelfRefreshAndTraining : (memDev 9 0).trained = true ∧ (memDev 9 0).fld .mcg 0 Off.MCG_SR_STAT 0 2 = 0 ∧ (memDev 9 0).mode = 9 ∧
    (memDev 9 0).scenesQuiet = true ∧ (memDev 9 0).mc.queue = [] ∧ (memDev 9 0).mc.mig = none ∧ (memDev 5 1).fld .mcg 0 Off.MCG_SR_STAT 0 2 = 1 ∧
    (memDev 5 2).fld .mcg 0 Off.MCG_SR_STAT 0 2 = 2 ∧ (memDev 5 3).fld .mcg 0 Off.MCG_SR_STAT 0 2 = 3 ∧ (memDev 5 3).pllState 8 = 3 ∧
    (memDev 5 0 [(.spll, 0, Off.SPLL_PLL_STAT, 6)]).pllState 8 = 6 ∧ wakeDev.timingRuns 0 = true ∧ wakeDev.frameArmed 0 = true ∧
    (dev 3).mode = 3 ∧ (dev 3).fw.config = [] ∧ (dev 3).fw.frame = none ∧ (dev 3).safe.deviceDue = false := by decide

/-- The block engine set up for one pixel at address 0 (operation 0 fills, 3 is reserved); an operation that runs; a done fence to write. -/
def bltDev (op : Nat) : Dev :=
  setUses (dev 5 [(.mcg, 0, Off.MCG_INSTALLED, 1)]) [(.blt, 0, Off.BLT_OP_CTRL, op), (.blt, 0, Off.BLT_DST_FORMAT, 1), (.blt, 0, Off.BLT_SIZE, 65537), (.blt, 0, Off.BLT_DST_STRIDE, 64)]
def bltRuns (abort : Bool) : Dev := { dev 5 with blt := { op := some { start := 0, abort := abort, moved := some {} } } }
def fenceBlt (issued : Bool) : Dev := { dev 5 [(.mcg, 0, Off.MCG_INSTALLED, 1)] with blt := { fences := [(64, 7, issued)] } }

theorem witness_BlockOperations : arrives (dev 5) (.bltStart (.cpu 0)) = true ∧ (bltRuns false).blt.op ≠ none ∧ (dev 5 [(.pwr, 0, Off.PWR_MODE_STAT, 1)]).moving = true ∧ (dev 5).moving = false ∧ (dev 5).blt.op = none ∧
    (dev 5).armOf .blt 0 = none ∧ (bltDev 3).bltReason = some 0xD2 ∧ (bltDev 0).bltReason = none ∧ arrives (bltRuns false) (.bltAbort (.cpu 0)) = true ∧
    (bltRuns true).blt.op = some { start := 0, abort := true, moved := some {} } ∧ ((bltRuns true).bltRun { start := 0, abort := true, moved := some {} } 0 0).1.bltStalled = false ∧
    (fenceBlt true).blt.fences = [(64, 7, true)] ∧ (fenceBlt true).bltStalled = false ∧ ((fenceBlt false).dramWrite .blt 64 (leBytes 8 7)).2 = .landed ∧
    (dev 5).blt.fences = [] := by decide

/-- Rope port 0 enabled in a state, with tables of a team of two: this device 1 and the lead 0 behind port 0. -/
def tables : Tables :=
  { id := 1, lead := 0, parent := 0, parentAlt := none, children := [], hops := 1, pathMax := 100, conflict := false
    members := [{ id := 0, unit := 5, groups := 1, bulk := true, rreg := true, multi := true, primary := some 0, alternate := none }] }
def ropeDev (port team : Nat) (x : Rope := {}) (l : List (Page × Nat × Nat × Nat) := []) : Dev :=
  { setUses (dev 5 ([(.rpp, 0, Off.RPP_PORT_STAT, port), (.rpp, 0, Off.RPP_PORT_CTRL, 1), (.rpg, 0, Off.RPG_TEAM_STAT, team)] ++ l))
      [(.rpp, 0, Off.RPP_PORT_CTRL, 1)] with rope := x }
def hello : Hello := { ver := 0x01020100, caps := 0, unit := 7, formed := false, id := 0, port := 2, fec := false }

theorem witness_RopePorts : arrives (dev 5) (.ropeRetrain (.cpu 0) 0) = true ∧ (setUses (dev 5) [(.rpp, 0, Off.RPP_PORT_CTRL, 0)]).useB .rpp 0 Off.RPP_PORT_CTRL 0 = false ∧
    (ropeDev 4 0).useB .rpp 0 Off.RPP_PORT_CTRL 0 = true ∧ (ropeDev 4 0).ropeState 0 = 4 ∧ arrives (ropeDev 2 0) (.ropeRetrain (.cpu 0) 0) = true ∧
    (ropeDev 1 0).ropeState 0 = 1 ∧ (ropeDev 3 0).ropeState 0 = 3 ∧ (ropeDev 2 0).carries 0 = true ∧ (ropeDev 0 0).carries 0 = false ∧
    (ropeDev 2 0).rope.tables = none ∧ commonVersion ((ropeDev 1 0).rd .rpg 0 Off.RPG_PROTO_VER) hello.ver ≠ none ∧
    commonVersion ((ropeDev 1 0).rd .rpg 0 Off.RPG_PROTO_VER) 0 = none ∧ (ropeDev 1 0).armOf .rpp 0 = none := by decide

theorem witness_TeamForming : (ropeDev 2 2).carries 0 = true ∧ (ropeDev 2 2 { role := 2, best := some ⟨3, 9⟩ }).rope.role ≠ 0 ∧
    Claim.beats ⟨4, 9⟩ ⟨3, 9⟩ = true ∧ Claim.beats ⟨3, 8⟩ ⟨3, 9⟩ = true ∧ Claim.beats ⟨2, 9⟩ ⟨3, 9⟩ = false ∧ (ropeDev 2 2).teamState = 2 ∧
    (ropeDev 2 2).rope.best = none ∧ arrives (dev 5) (.enumerate (.cpu 0)) = true ∧ (dev 5 [(.rpg, 0, Off.RPG_TEAM_CTRL, 0)]).fld .rpg 0 Off.RPG_TEAM_CTRL 0 2 = 0 ∧
    (dev 5 [(.rpg, 0, Off.RPG_TEAM_CTRL, 2)]).fld .rpg 0 Off.RPG_TEAM_CTRL 0 2 = 2 ∧ (dev 5).rope.best = none ∧ (ropeDev 2 3).teamState = 3 ∧
    (ropeDev 2 11).teamState = 3 ∧ (ropeDev 2 11).bit .rpg 0 Off.RPG_TEAM_STAT 3 = true ∧ (ropeDev 2 3).bit .rpg 0 Off.RPG_TEAM_STAT 3 = false ∧
    (ropeDev 2 12 { tables := some tables }).teamLead = true ∧ (ropeDev 2 12 { tables := some tables }).rope.tables = some tables ∧
    (ropeDev 2 4 { lostAt := some 5 }).rope.lostAt = some 5 ∧ arrives (dev 5) (.wakeSend (.cpu 0)) = true ∧ (dev 5).teamMember = false ∧
    (ropeDev 2 4).teamMember = true ∧ (ropeDev 2 4).bit .rpg 0 Off.RPG_WAKE_TARGET 15 = false := by decide

theorem witness_TeamTimeAndRemoteAccess : (ropeDev 2 12 { tables := some tables }).teamLead = true ∧ (dev 5).teamLead = false ∧ (dev 5).isParent 0 = false ∧
    (ropeDev 2 260 { tables := some tables }).isParent 0 = true ∧ arrives (dev 5) (.rregGo (.cpu 0)) = true ∧ (dev 5).rope.rregAt = none ∧
    (ropeDev 2 260 { rregAt := some (0, 3) }).rope.rregAt = some (0, 3) ∧ (ropeDev 2 260 { tables := some tables }).teamMember = true ∧
    (ropeDev 2 260 { tables := some tables }).ownId = 1 ∧ (ropeDev 2 260 { tables := some tables }).fld .rpg 0 Off.RPG_RREG_CTRL 0 14 = 0 ∧
    (ropeDev 2 260 { tables := some tables } [(.rpg, 0, Off.RPG_RREG_CTRL, 1)]).fld .rpg 0 Off.RPG_RREG_CTRL 0 14 = 1 ∧ State.reset.dev.core.powerHold = true ∧
    (dev 9).mode = 9 ∧ (dev 5).core.powerHold = false ∧ (dev 5).core.forwardQ = [] ∧ nextForward [({ seq := 2 } : Rec)] = some { seq := 2 } ∧
    (dev 5 [(.rpg, 0, Off.RPG_COLLECT_CTRL, 1)]).bit .rpg 0 Off.RPG_COLLECT_CTRL 0 = true ∧ (3 : Nat) ≠ (dev 5).ownId := by decide

theorem witness_TeamTimeAndRemoteAccess_reach : ∃ m, (ropeDev 2 260 { tables := some tables }).member 0 = some m ∧ m.rreg = true ∧
    (ropeDev 2 260 { tables := some tables }).reaches m = true := ⟨_, rfl, rfl, by decide⟩

/-- A request of device 2, and a run that awaits two members. -/
def tcReq (target : Nat) (atomic : Bool := false) : TcReq := { origin := 2, target := target, scenes := 1, groups := 1, atomic := atomic }
def tcRun (wait : List Nat) : TcRun := { req := tcReq 9, commit := 6, wait := wait, sentAt := 0 }
/-- A lead, and a member with a scene and a group to commit. -/
def leadDev (x : Rope) : Dev := ropeDev 2 12 { x with tables := some { tables with id := 0 } }
def sender (l : List (Page × Nat × Nat × Nat)) : Dev := ropeDev 2 4 { tables := some tables } ([(.rpg, 0, Off.RPG_TC_CTRL, 0x101)] ++ l)

theorem witness_TeamCommits : arrives (dev 5) (.tcSend (.cpu 0)) = true ∧ (dev 5).fld .rpg 0 Off.RPG_TC_CTRL 0 4 = 0 ∧ arrives (sender []) (.tcSend (.cpu 0)) = true ∧
    (sender []).fld .rpg 0 Off.RPG_TC_CTRL 0 4 ≠ 0 ∧ (sender []).fld .rpg 0 Off.RPG_TC_CTRL 8 8 ≠ 0 ∧ (sender []).teamMember = true ∧ (sender []).teamLead = false ∧
    (sender []).fld .rpg 0 Off.RPG_TC_STAT 0 3 ≠ 1 ∧ (sender []).moving = false ∧ (sender [(.rpg, 0, Off.RPG_TC_STAT, 1)]).fld .rpg 0 Off.RPG_TC_STAT 0 3 = 1 ∧
    (dev 5).teamLead = false ∧ (leadDev {}).teamLead = true ∧ (leadDev {}).rope.tcRun = none ∧ (leadDev {}).rope.tcQueue = [] ∧ (tcReq 9).origin ≠ (leadDev {}).ownId ∧
    (tcReq 0).target ≤ ((leadDev {}).cad (leadDev {}).rope.cadScene).frame ∧
    16 ≤ (leadDev { tcRun := some (tcRun [4, 5]), tcQueue := List.replicate 16 (tcReq 9) }).rope.tcQueue.length ∧
    (tcRun [4, 5]).failed = [] ∧ (tcRun [4, 5]).wait ≠ [] ∧ 4 ∈ (tcRun [4, 5]).wait ∧ (tcRun [4, 5]).cancelling = false ∧ (∃ y ∈ (tcRun [4, 5]).wait, y ≠ 4) ∧
    (∀ y ∈ (tcRun [4]).wait, y = 4) ∧ (tcRun [4]).req.atomic = false ∧ (tcRun [4]).acks = [] := by decide

theorem witness_TeamCommits_arm : (pairDev.pairSplit (tcReq 9).scenes = true) ∧ (dev 9).mode = 9 ∧ ∃ e, (dev 9).hush.tcArmHere 3 (tcReq 9) = .error e := ⟨by decide, by decide, _, rfl⟩

/-- A channel that sends the first of two segments to devices 4 and 5, and a transfer that arrives. -/
def chan (d : List XDest) : Xch :=
  { src := 0, dst := 0, srcStride := 65536, dstStride := 65536, rowBytes := 65536, rows := 2, fence := none, multicast := false, dests := d }
def chanDev (d : List XDest) : Dev := ropeDev 2 4 { tables := some tables, chans := [(1, some (chan d))], rx := [{ sender := 4, chan := 1, last := true, fence := some (64, 7) }] }

theorem witness_BulkTransfers : arrives (dev 5) (.xferStart (.cpu 0) 0) = true ∧ (dev 5).xferReason 0 ((dev 5).xferPlan 0) = some 0xE8 ∧
    arrives (chanDev [{ id := 4 }, { id := 5 }]) (.xferAbort (.cpu 0) 1) = true ∧ (chanDev [{ id := 4 }, { id := 5 }]).chan 1 = some (chan [{ id := 4 }, { id := 5 }]) ∧
    (dev 5).chan 1 = none ∧ (dev 9).mode = 9 ∧ (dev 5).mode ≠ 9 ∧
    (chan [{ id := 4 }, { id := 5 }]).dests.find? (fun y => y.id == 4 && !y.closed && !y.acked) = some { id := 4 } ∧
    (chan [{ id := 4, attempts := 8 }]).dests.find? (fun y => y.id == 4 && !y.closed && !y.acked) = some { id := 4, attempts := 8 } ∧
    (∃ y ∈ (chan [{ id := 4 }, { id := 5 }]).dests, y.id ≠ 4 ∧ y.closed = false ∧ y.acked = false) ∧ ({ chan [{ id := 4 }] with index := 1 } : Xch).atLast = true ∧
    (chanDev []).rplStalled = false ∧
    (chanDev []).rope.rx.find? (fun y => y.sender == 4 && y.chan == 1) = some { sender := 4, chan := 1, last := true, fence := some (64, 7) } := by decide

/-- Source 5 with a state, configured with a word. -/
def srcDev (mode : Nat) (x : Src) (cfg : Nat) : Dev := (dev mode [(.isrc, 0, Off.ISRC_SRC_CFG + 20, cfg)]).onCore fun c => c.setSrc 5 x

theorem witness_ClaimAndComplete : arrives (dev 5) (.intcClaim (.cpu 1)) = true ∧ (dev 5).core.lowest 0x11 false = none ∧ arrives (dev 5) (.intcClaim .blt) = false ∧
    (dev 5).core.mayAccess .remote .intf 0 Off.INTF_CLAIM false 0 = true ∧ (Requester.remote).target = none ∧
    (srcDev 5 { pending := true, edges := 2 } 0x1103).core.lowest 0x11 true = some 5 ∧ (srcDev 5 { pending := true, edges := 255 } 0x0001).core.lowest 0 false = some 5 ∧
    (dev 5).fnStalled (.pf 1) = false ∧ servedIn 5 .intf = true ∧ arrives (dev 5) (.intcComplete (.pf 0) 5) = true ∧
    ((srcDev 5 { active := true } 0x0101).core.src 5).active = true ∧ (Requester.pf 1).target = some (bitsOf ((srcDev 5 { active := true } 0x0101).core.srcCfg 5) 8 8) ∧
    bitOf ((srcDev 5 { active := true } 0x0101).core.srcCfg 5) 1 = false ∧ bitOf ((srcDev 5 { active := true } 0x0103).core.srcCfg 5) 1 = true ∧
    ((dev 5).core.src 1023).active = false ∧ (Requester.pf 0).target ≠ some (bitsOf ((srcDev 5 { active := true } 0x0101).core.srcCfg 5) 8 8) := by decide

theorem witness_SourcesAndDelivery : ((dev 5).core.src 1023).pending = false ∧ ((srcDev 5 { pending := true } 1).core.src 5).pending = true ∧
    arrives (dev 5) (.globalHold (.cpu 0) 3) = true ∧ arrives (dev 5) (.profileWrite (.cpu 0) 31 0xFFFFFFFF) = true ∧
    arrives (dev 5) (.dbRaise (.pf 0) true 0x80000000) = true ∧ bitOf (0x80000000 : Word) 31 = true ∧ arrives (dev 5) (.pendClr (.cpu 0) 31 1) = true ∧
    arrives (srcDev 5 {} 0x1000000) (.srcCfgWrite (.pf 0) 5 1) = true ∧ bitOf ((srcDev 5 {} 0x1000000).core.srcCfg 5) 24 = true ∧
    targetLegal (bitsOf (0x0800 : Word) 8 8) = false ∧ targetLegal (bitsOf (0x1800 : Word) 8 8) = false ∧ targetLegal (bitsOf (0x1700 : Word) 8 8) = true ∧
    0x10 ≤ bitsOf (0x1700 : Word) 8 8 ∧ ((srcDev 5 { active := true } 0x0100).core.src 5).active = true ∧ bitsOf (0x0200 : Word) 8 8 ≠ bitsOf (0x0100 : Word) 8 8 ∧
    targetLegal (bitsOf (0x0700 : Word) 8 8) = true ∧ bitsOf (0x30000 : Word) 16 2 ≠ bitsOf ((srcDev 5 {} 0).core.srcCfg 5) 16 2 ∧
    (dev 9).mode = 9 ∧ (dev 9).moving = false ∧ ((0x20000 : BitVec 18).toNat &&& 0x3F00F) &&& ((dev 9 [(.intc, 0, Off.INTC_WAKE_CTRL, 0x20000)]).rd .intc 0 Off.INTC_WAKE_CTRL).toNat ≠ 0 ∧
    ((0x00F00 : BitVec 18).toNat &&& 0x3F00F) &&& ((dev 9).rd .intc 0 Off.INTC_WAKE_CTRL).toNat = 0 ∧
    ({ dev 5 with power := { move := some (.entry false) } } : Dev).power.move = some (.entry false) := by decide

/-- A log with a full bucket of source 5 less some tokens; and one whose read pointer lags. -/
def logDev (x : Src) (l : List (Page × Nat × Nat × Nat) := []) : Dev := setRegs (srcDev 5 x 0) l

theorem witness_CairnLog : ((dev 5).core.src 1023).used = 0 ∧ ((logDev { used := 1 }).core.src 5).used ≠ 0 ∧ (logDev { used := 1 }).core.rate 5 ≠ 0 ∧
    ((dev 5).core.src 0).episode = false ∧ ((logDev { episode := true, supp := 1 }).core.src 5).episode = true ∧ ((logDev { episode := true, supp := 1 }).core.src 5).supp ≠ 0 ∧
    arrives (dev 5) (.rptrWrite (.cpu 0) 2 1) = true ∧ rptrNew ((dev 5).core.wptr 2) ((dev 5).core.rptr 2) 1 = none ∧
    rptrNew 3 1 2 = some 2 ∧ rptrNew 3 1 0 = some 1 ∧ rptrNew 3 1 3 = some 3 ∧ rptrNew 3 1 0x80000003 = some 1 ∧
    arrives (dev 5) (.spillRptrWrite (.cpu 0) 1) = true ∧ rptrNew ((dev 5).rd .elog 0 Off.ELOG_SPILL_WPTR) ((dev 5).rd .elog 0 Off.ELOG_SPILL_RPTR) 1 = none ∧
    rptrNew ((dev 5).rd .elog 0 Off.ELOG_SPILL_WPTR) ((dev 5).rd .elog 0 Off.ELOG_SPILL_RPTR) 0 = some 0 ∧
    arrives (dev 5) (.spillEnWrite (.cpu 0) 1) = true ∧ (dev 5).core.spillLegal = false ∧ (dev 5 [(.mcg, 0, Off.MCG_INSTALLED, 1)]).core.spillLegal = true ∧
    arrives (dev 5) (.satClear (.cpu 0)) = true ∧ (dev 5).bit .elog 0 Off.ELOG_ELOG_STAT 0 = false ∧
    (logDev {} [(.elog, 0, Off.ELOG_ELOG_STAT, 1), (.elog, 0, Off.ELOG_WPTR, 7)]).core.wptr 0 ≠ (logDev {} [(.elog, 0, Off.ELOG_ELOG_STAT, 1), (.elog, 0, Off.ELOG_WPTR, 7)]).core.rptr 0 ∧
    (logDev {} [(.elog, 0, Off.ELOG_ELOG_STAT, 1)]).bit .elog 0 Off.ELOG_ELOG_STAT 0 = true ∧ arrives (dev 5) (.win0Read (.cpu 0)) = true := by decide

/-- Scene 2 makes a reference; port 7 is due to enter Belay; a fault of port 3 is latched; a self-test runs. -/
def makingDev : Dev := { dev 5 with chks := Tbl.set (fun _ => {}) [] 2 { making := some (4, 9, 9, 0) } }
def dueDev : Dev := { dev 5 with safe := { due := [7] } }
def latchedDev : Dev := { dev 5 with safe := { latched := [{ sm := 19, scope := 2, unit := 3 }] } }
def selftestDev : Dev := { dev 10 [(.safe, 0, Off.SAFE_INJECT_STAT, 1)] with safe := { selftest := true } }

theorem witness_SafetyMechanisms : ((dev 5).chk 3).making = none ∧ (makingDev.chk 2).making = some (4, 9, 9, 0) ∧
    (dev 5 [(.anch, 0, Off.ANCH_PORT_TSTAT + 28, 2)]).timingCovered 7 = true ∧ (dev 5 [(.anch, 0, Off.ANCH_CAD_STAT, 8)]).cadenceCovered 0 = true ∧
    (dev 5 [(.anch, 0, Off.ANCH_CAD_STAT, 6)]).cadenceCovered 0 = true ∧ (dev 5).core.powerHold = false ∧ State.reset.dev.core.powerHold = true ∧
    (dev 5).timingCovered 7 = false ∧ (dev 5).cadenceCovered 3 = false ∧ (dev 5 [(.safe, 0, Off.SAFE_REACT + 40, 0)]).fld .safe 0 (Off.SAFE_REACT + 40) 0 2 = 0 ∧
    (dev 5 [(.safe, 0, Off.SAFE_REACT + 40, 1)]).fld .safe 0 (Off.SAFE_REACT + 40) 0 2 = 1 ∧ 0 ∈ (setUses (dev 5) [(.scan, 0, Off.SCAN_SCAN_CTRL, 1)]).scopePorts 1 0 ∧
    7 ∈ (dev 5).scopePorts 0 0 ∧ 7 ∈ (dev 5).scopePorts 2 7 ∧ 7 ∉ (dev 5).safe.due ∧ 7 ∈ dueDev.safe.due ∧
    arrives (dev 5) (.belayClear (.cpu 0) 0) = true ∧ arrives (dev 5) (.belayClear (.cpu 0) 0x80) = true ∧ (dev 8).mode = 8 ∧ arrives (dev 8) (.belayClear (.cpu 0) 1) = true ∧
    3 ∈ bitsSet (8 : BitVec 8).toNat 8 ∧ latchedDev.faultHolds 3 = true ∧ (∀ q ∈ bitsSet (0xF7 : BitVec 8).toNat 8, latchedDev.faultHolds q = false) ∧
    arrives (dev 5) (.injectGo (.cpu 0) 1 none) = true ∧ arrives (dev 5) (.selftest (.cpu 0)) = true ∧ (dev 10).mode = 10 ∧ selftestDev.bit .safe 0 Off.SAFE_INJECT_STAT 0 = true ∧
    (dev 10).fld .safe 0 Off.SAFE_INJECT_CTRL 0 5 = 0 ∧ (dev 10 [(.safe, 0, Off.SAFE_INJECT_CTRL, 25)]).fld .safe 0 Off.SAFE_INJECT_CTRL 0 5 = 25 ∧
    (dev 10 [(.safe, 0, Off.SAFE_INJECT_CTRL, 22 + 1024)]).fld .safe 0 Off.SAFE_INJECT_CTRL 8 3 = 4 ∧ (dev 10 [(.safe, 0, Off.SAFE_INJECT_CTRL, 24)]).fld .safe 0 Off.SAFE_INJECT_CTRL 0 5 = 24 ∧
    arrives (dev 10) (.injectGo (.cpu 0) 1 none) = true ∧ arrives (dev 10) (.selftest (.cpu 0)) = true ∧ (dev 10).bit .safe 0 Off.SAFE_INJECT_STAT 0 = false ∧
    (dev 10).safe.selftest = false ∧ selftestDev.safe.selftest = true := by decide

/-- A device in a mode that moves; one whose entry has no more work. -/
def moveDev (mode : Nat) (m : Move) : Dev := { dev mode with power := { move := some m, stopping := true } }
def entryArmed : Dev := (dev 5).setArm .scn 0 (some { wait := .frame 9 })

theorem witness_ModeRequests : (∀ m ∈ [4, 5, 6, 8, 9, 10], arrives (dev m) (.modeReqRun (.cpu 0)) = true) ∧ arrives (dev 5) (.modeReqShutdown (.cpu 0)) = true ∧
    arrives (dev 7) (.modeReqReady (.cpu 0)) = true ∧ arrives (dev 11) (.modeReqReady (.cpu 0)) = true ∧ arrives (dev 3) (.modeReqReady (.cpu 0)) = true ∧
    (dev 5 [(.pwr, 0, Off.PWR_MODE_STAT, 1)]).moving = true ∧ (dev 5).moving = false ∧ arrives (dev 8) (.modeReqTest (.cpu 0)) = true ∧
    (dev 4 [(.mcg, 0, Off.MCG_TRAIN_STAT, 5)]).memoryFailed = true ∧ (dev 4).memoryFailed = false ∧ (dev 8 [(.safe, 0, Off.SAFE_FAULT_STAT, 1)]).fld .safe 0 Off.SAFE_FAULT_STAT 0 24 ≠ 0 ∧
    (dev 8).fld .safe 0 Off.SAFE_FAULT_STAT 0 24 = 0 ∧ entryArmed.entryBarred = true ∧ (dev 5 [(.rpg, 0, Off.RPG_TC_STAT, 1)]).entryBarred = true ∧ (dev 5).entryBarred = false ∧
    (dev 5).safe.deviceDue = false ∧ (dev 9 [(.mcg, 0, Off.MCG_SR_STAT, 2)]).fld .mcg 0 Off.MCG_SR_STAT 0 2 = 2 ∧
    (dev 5).power.move ≠ some (.entry false) ∧ (dev 5).moveStep.entryDone = false ∧ (∀ b, (moveDev 5 (.entry b)).moveStep.entryDone = true) ∧
    (moveDev 9 (.wake 4)).power.move = some (.wake 4) ∧ (dev 5).gpioWake = 0 ∧ (dev 9 [(.intc, 0, Off.INTC_WAKE_CTRL, 8)]).gpioWake ≠ 0 ∧
    ({ moveDev 9 (.wake 4) with safe := { deviceDue := true } } : Dev).safe.deviceDue = true ∧ (dev 5 [(.fwm, 0, Off.FWM_FW_STAT, 12)]).trialOn = true := by decide

/-- A voltage point change whose VDD_CORE moves, of a device whose scene 0 runs or stands. -/
def vpDev (up : Bool) (runs : Nat) : Dev :=
  { ((dev 5 [(.anch, 0, Off.ANCH_CAD_CTRL, runs)]).setCad 0 { going := true, next := 1000 * 2 ^ 32 }) with power := { vp := some { up := up, step := 1 } } }
/-- The ROM of a device with a boot strap and a recovery record. -/
def romDev (boot : Nat) (x : Recovery) (fuses : Nat := 0) : Dev := { dev 1 [(.pwr, 0, Off.PWR_RESET_CAUSE, 1 + 256 * boot)] with fw := { record := x, fuses := fuses } }

theorem witness_ResetsAndPower : (dev 5).core.powerHold = false ∧ State.reset.dev.core.powerHold = true ∧ State.reset.dev.fld .pwr 0 Off.PWR_MODE 0 4 = 1 ∧
    (dev 5 [(.fwm, 0, Off.FWM_FW_STAT, 12)]).fld .fwm 0 Off.FWM_FW_STAT 1 3 = 6 ∧ arrives (dev 5) (.resetCmd (.cpu 0) 0x1B7) = true ∧ bitsOf (0x1B7 : Word) 0 8 = 0xB7 ∧
    bitOf (0x1B7 : Word) 8 = true ∧ 480 ≤ (480 : BitVec 12).toInt ∧ (0x800 : BitVec 12).toInt < 480 ∧ (479 : BitVec 12).toInt < 480 ∧ bitOf (0xB7 : Word) 8 = false ∧
    arrives (dev 5) (.resetCmd (.cpu 0) 0) = true ∧ bitsOf (0 : Word) 0 8 ≠ 0xB7 ∧ arrives (dev 5) (.vpReq (.cpu 0) true) = true ∧ arrives (dev 3) (.vpReq (.cpu 0) true) = true ∧
    (dev 5 [(.pwr, 0, Off.PWR_MODE_STAT, 1)]).moving = true ∧ (dev 3).moving = false ∧ (dev 5 [(.pwr, 0, Off.PWR_VP_STAT, 2)]).bit .pwr 0 Off.PWR_VP_STAT 1 = true ∧
    (dev 5).bit .pwr 0 Off.PWR_VP_STAT 1 = false ∧ (dev 5).bit .pwr 0 Off.PWR_VP_CTRL 0 = false ∧ (dev 5 [(.pwr, 0, Off.PWR_DEGRADE, 4)]).bit .pwr 0 Off.PWR_DEGRADE 2 = true ∧
    (dev 5 [(.pwr, 0, Off.PWR_VP_CTRL, 1)]).bit .pwr 0 Off.PWR_VP_CTRL 0 = true ∧ (dev 5).bit .pwr 0 Off.PWR_VP_STAT 0 = false ∧
    (dev 5 [(.pwr, 0, Off.PWR_VP_STAT, 1)]).bit .pwr 0 Off.PWR_VP_STAT 0 = true ∧ (dev 5).power.vp = none ∧ (∀ up, (vpDev up 0).power.vp = some { up := up, step := 1 }) ∧
    (vpDev true 0).vpStopped = true ∧ (vpDev true 1).vpStopped = false ∧ 4 * ((dev 5).fld .pwr 0 Off.PWR_THERM_CTRL 0 8 : Int) = 380 ∧
    (dev 5).mode ≠ 1 ∧ (romDev 1 {}).mode = 1 ∧ (romDev 1 {}).fld .pwr 0 Off.PWR_RESET_CAUSE 8 2 = 1 ∧ (romDev 0 {}).fld .pwr 0 Off.PWR_RESET_CAUSE 8 2 ≠ 1 ∧
    (romDev 0 { request := true }).fw.record.request = true ∧ (romDev 0 { stage := 5 }).fw.record.armed = none ∧ (romDev 0 { stage := 6 }).fw.record.stage = 6 ∧
    (romDev 0 {} 1).fw.fuses = 1 ∧ (imageOf []).secVer = 0 ∧ (romDev 0 { stage := 5, armed := some 600 }).fw.record.armed ≠ none ∧
    (romDev 0 { stage := 5, armed := some 600 }).fw.record.begun = false := by decide

/-- A Rakin header whose length and CRC are those of a payload. -/
def hdr (bs : List (BitVec 8)) : RakinHdr := { tag := 7, length := bs.length, crc := crc32 bs }

/-- A bundle of nine empty components (R526, R527): header, component table at 64, signature block at 640. -/
def bundle : List (BitVec 8) :=
  [0x53, 0x4C, 0x4E, 0x59, 1, 0, 0, 0, 0x40, 0x84, 0, 0] ++ List.replicate 16 0 ++ [5, 0, 0, 1, 9, 0, 0, 0, 0x44, 3, 0, 0, 64, 0, 0, 0, 0x80, 2, 0, 0, 0x80, 2, 0, 0] ++
    List.replicate 12 0 ++ (List.range 9).flatMap (fun k => [BitVec.ofNat 8 k, 0, 1, 0, 0, 0, 0, 0, 0x80, 2] ++ List.replicate 54 0) ++ List.replicate 196 0

/-- The service port attached, with a session and writing allowed; a staging state and a trial state. -/
def svcDev (mode stage trial : Nat) (x : Fw := {}) (l : List (Page × Nat × Nat × Nat) := []) : Dev :=
  { dev mode ([(.svc, 0, Off.SVC_SVC_STAT, 0x1D), (.svc, 0, Off.SVC_STAGE_STAT, stage), (.fwm, 0, Off.FWM_FW_STAT, 2 * trial)] ++ l) with fw := x }

/-- A Rakin command with these bytes passes the checks, as a Bool. -/
def taken (d : Dev) (op : Nat) (bs : List (BitVec 8)) (gated : Bool) (allowed : Nat → Bool) : Bool := decide (d.RakinTaken op (hdr bs) bs gated allowed)

/-- The Bool says what RakinTaken says. -/
theorem taken_sound {d : Dev} {op : Nat} {bs : List (BitVec 8)} {gated : Bool} {allowed : Nat → Bool} (h : taken d op bs gated allowed = true) :
    d.RakinTaken op (hdr bs) bs gated allowed := of_decide_eq_true h

theorem witness_RakinCommands_port : (dev 5).bit .svc 0 Off.SVC_SVC_STAT 3 = false ∧ (svcDev 5 0 0).bit .svc 0 Off.SVC_SVC_STAT 3 = true ∧
    ((hdr [1]).length ≠ ([] : List (BitVec 8)).length) ∧ (hdr [1]).crc ≠ crc32 [2] ∧ (dev 5 [(.svc, 0, Off.SVC_SVC_STAT, 8)]).bit .svc 0 Off.SVC_SVC_STAT 4 = false ∧
    (dev 5 [(.svc, 0, Off.SVC_SVC_STAT, 0x18)]).writeOk = false ∧ (0 : BitVec 16).toNat ∉ List.range' 1 14 ∧ (15 : BitVec 16).toNat ∉ List.range' 1 14 ∧
    (14 : BitVec 16).toNat ∈ List.range' 1 14 := by decide

theorem witness_RakinCommands_taken : taken (svcDev 5 0 0) 1 [0, 1, 0, 2] false (fun _ => true) = true ∧ fieldAt [0, 1, 0, 2] 2 2 = 512 ∧
    taken (svcDev 5 0 0) 2 [4, 0, 0, 0] true (allBut [7]) = true ∧ (svcDev 5 5 0).stageHeld = true ∧ (svcDev 5 0 2).stageHeld = true ∧ (svcDev 5 0 0).stageHeld = false ∧
    taken (svcDev 5 0 0) 2 [0, 0, 0, 1] true (allBut [7]) = true ∧ 12582912 < fieldAt [0, 0, 0, 1] 0 4 ∧
    taken (svcDev 5 1 0 { staged := [1], total := 2 }) 3 [1, 0, 0, 0, 9] true (allBut [7]) = true ∧ (svcDev 5 1 0).stage = 1 ∧
    taken (svcDev 5 1 0) 4 [] true (allBut [7]) = true ∧ (svcDev 5 1 0 { total := 1 }).fw.staged.length < 1 ∧ taken (svcDev 5 3 0) 5 [] true [4, 5, 6].contains = true ∧
    (svcDev 5 3 0).actReason = none ∧ (svcDev 5 0 0).actReason = some (0xF8, 0) ∧ taken (svcDev 5 3 0) 6 [] true [4, 5, 6, 10].contains = true ∧
    (svcDev 5 0 0).restartBarred = true ∧ (svcDev 5 3 0).restartBarred = false ∧ taken (svcDev 5 0 0) 7 [] true (allBut [7, 2]) = true ∧ (svcDev 5 0 4).trialBusy = true ∧
    (svcDev 5 0 0).trialBusy = false := by decide +kernel

theorem witness_RakinCommands_rest : taken (svcDev 5 0 0) 8 (List.replicate 8 0) false (allBut [1, 2]) = true ∧
    taken (svcDev 5 0 0) 8 [3, 0, 0, 0, 0, 0, 0, 0] false (allBut [1, 2]) = true ∧ taken (svcDev 5 0 0) 9 [] false (allBut [1, 2]) = true ∧
    taken (svcDev 4 0 0) 0xA [] true [4, 10].contains = true ∧ (svcDev 4 0 2).trialOn = true ∧ (svcDev 4 0 0).trialOn = false ∧ (dev 4).mode ≠ 0 ∧
    taken (svcDev 5 0 0) 0xB [] true (allBut [1, 2]) = true ∧ taken (svcDev 5 0 0) 0xC [] true (fun _ => true) = true ∧
    taken (svcDev 5 0 0) 0xD [] false (fun _ => true) = true ∧ taken (svcDev 2 3 0) 0xE [7, 0, 0, 0] true [2, 10].contains = true ∧
    (svcDev 2 3 0).stage = 3 ∧ (svcDev 2 0 0).stage ≠ 3 ∧ (imageOf []).comp 7 = none ∧ 7 < fieldAt [8, 0, 0, 0] 0 4 := by decide +kernel

theorem witness_RakinCommands_bundle : ((imageOf bundle).comp 7).isSome = true ∧ ((imageOf bundle).needs.filter fun n => n.core == 7).all (·.holds []) = true := by decide +kernel

/-- A matrix row that asks of component 1 an interface that component 2 has not. -/
theorem witness_RakinCommands_needs : FwNeed.holds { core := 1, peer := 2, ifMajor := 2, ifMinor := 0 }
    [{ number := 2, ifMajor := 1, ifMinor := 0, stVer := 0, stMin := 0, offset := 0, length := 0, digest := 0 }] = false := by decide

theorem witness_ActivationAndTrials : arrives (dev 5) (.activate (.cpu 0)) = true ∧ arrives (dev 5) (.approve (.cpu 0)) = true ∧ arrives (dev 5) (.rejectTrial (.cpu 0)) = true ∧
    arrives (dev 5) (.restartTrial (.cpu 0)) = true ∧ arrives (dev 5) (.discard (.cpu 0)) = true ∧ arrives (dev 5) (.confirm (.cpu 0)) = true ∧ arrives (dev 5) (.healthFail (.pf 0)) = true ∧
    (Requester.pf 0).isCpu = false ∧ (Requester.cpu 0).isCpu = true ∧ (dev 5).trialOn = false ∧ (svcDev 5 3 4).trial ∈ [1, 2, 4, 6] ∧ (dev 5).actReason = some (0xF8, 0) ∧
    (svcDev 5 3 0 { image := { setMajor := 1 } }).actReason = some (0xF9, 4) ∧ (svcDev 5 3 0).actReason = none ∧ (svcDev 5 3 0).stage = 3 ∧ (svcDev 5 3 5).trial ∉ [1, 2, 4, 6] ∧
    (svcDev 5 5 2).trialOn = true ∧ (svcDev 5 5 2).trialExpired = false ∧ (dev 5).mode ≠ 9 ∧ (svcDev 5 5 2).fw.expiring = false ∧ 60000000000 ≤ (svcDev 5 5 2).trialWindow ∧
    (svcDev 5 5 2 {} [(.fwm, 0, Off.FWM_TRIAL_CTRL, 10)]).trialWindow < 60000000000 ∧ arrives (svcDev 5 5 2) (.trialCtrlWrite (.cpu 0) 0) = true ∧
    (svcDev 5 5 2).trialTime < bitsOf (10 : Word) 0 16 * 1000000000 ∧ (svcDev 5 5 2).bit .fwm 0 Off.FWM_FW_STAT 4 = false ∧
    (svcDev 5 5 2 {} [(.fwm, 0, Off.FWM_FW_STAT, 0x34)]).bit .fwm 0 Off.FWM_FW_STAT 4 = true ∧ (svcDev 5 5 2 {} [(.fwm, 0, Off.FWM_FW_STAT, 0x34)]).trialOn = true ∧
    ((svcDev 5 5 2 {} [(.fwm, 0, Off.FWM_TRIAL_CTRL, 0)]).trialExpired = true) ∧ (svcDev 5 5 6).trial = 6 ∧ (dev 5).fw.hand = none := by decide

/-- A handover that still awaits its bank, or the state for the old image; with a scene whose timing runs or none. -/
def handDev (back : Bool) (runs : Nat) (bs : List (BitVec 8)) : Dev :=
  svcDev 7 3 1 { hand := some { back := back, since := 0, former := 0, home := some 5 }, staged := bs } [(.anch, 0, Off.ANCH_CAD_CTRL, runs)]

theorem witness_ActivationAndTrials_handover : (∀ b, (handDev b 1 []).fw.hand = some { back := b, since := 0, former := 0, home := some 5 }) ∧ (handDev false 0 []).mode = 7 ∧
    (handDev false 0 []).safe.deviceDue = false ∧ (handDev false 0 []).bundleStatus [] = 6 ∧ (handDev false 1 []).runScenes = [0] ∧ (handDev true 0 []).runScenes = [] := by decide

/-- The bundle passes R530 under a signature that the free functions of Config accept. -/
theorem witness_ActivationAndTrials_verified (h1 : Config.sha384 (publicKey bundle) = Config.keyHash 0) (h2 : Config.sha384 [] = 0)
    (h3 : Config.ecdsaVerifies (publicKey bundle) (Config.sha384 (bundle.take 640)) (signatureOf bundle) = true) : (handDev false 0 bundle).bundleStatus bundle = 0 := by
  have e1 : headerOk bundle = true := by decide +kernel
  have e2 : fieldAt bundle 8 4 = 0x8440 ∧ fieldAt bundle 12 4 % 2 = 0 ∧ fieldAt bundle 48 4 = 640 := by decide +kernel
  have e3 : tableOk bundle = true ∧ (imageOf bundle).keySlot = 0 ∧ (imageOf bundle).needs = [] ∧ (handDev false 0 bundle).fw.revoked = 0 := by decide +kernel
  have e4 : ∀ c ∈ (imageOf bundle).comps, partOf bundle c.offset c.length = [] ∧ c.digest = 0 := by decide +kernel
  have e5 : digestsOk bundle = true := by
    unfold digestsOk
    exact List.all_eq_true.2 fun c hc => by rw [(e4 c hc).1, (e4 c hc).2, h2]; rfl
  unfold Dev.bundleStatus
  simp [e1, e2, e3, e5, h1, h3]

/-- A mailbox request that awaits its answer, and one that has it. -/
def mbxDev (n : Nat) (arg : Word) (x : Option (Nat × List Word)) (l : List (Page × Nat × Nat × Nat) := []) (sel : Option Nat := none) : Dev :=
  { dev 5 l with fw := { mbx := some { func := n, arg := arg, held := false, answer := x }, frameSel := sel } }

theorem witness_MailboxAndService : (∀ n ∈ List.range 9, (mbxDev n 0 none).Asked n) ∧ ¬ (dev 5).Asked 1 := by
  refine ⟨fun n _ => ⟨_, rfl, rfl, rfl, rfl⟩, ?_⟩
  rintro ⟨m, h, -⟩
  have e : (dev 5).fw.mbx = none := by decide
  rw [e] at h
  cases h

theorem witness_MailboxAndService_rest : (dev 5).trialOn = false ∧ (mbxDev 2 0 none [(.fwm, 0, Off.FWM_FW_STAT, 4)]).trialOn = true ∧ (mbxDev 5 0 none).frameKept 0 = false ∧
    (mbxDev 5 3 none entryRegs).frameKept 3 = true ∧ (mbxDev 2 0 none [] (some 0)).fw.frameSel = some 0 ∧ (dev 5).fw.mbx = none ∧
    (mbxDev 1 0 (some (0, [1]))).fw.mbx = some { func := 1, arg := 0, held := false, answer := some (0, [1]) } ∧
    (dev 5).stage ≠ 2 ∧ (svcDev 5 2 0).stage = 2 ∧ (svcDev 5 2 0).stagedStatus [] = 6 ∧ (svcDev 5 2 0 { ending := some 9 }).fw.ending = some 9 ∧ (dev 5).mode ≠ 2 ∧
    (svcDev 2 1 0).bit .svc 0 Off.SVC_SVC_STAT 3 = true ∧ (svcDev 2 1 0).writeOk = true ∧ (dev 2 [(.svc, 0, Off.SVC_SVC_STAT, 8)]).writeOk = false ∧ (svcDev 2 1 0).stage = 1 ∧
    (svcDev 2 3 0).stage = 3 ∧ (svcDev 2 3 0).mode = 2 ∧ arrives (dev 5) (.svcCtrlWrite (.cpu 0) 1) = true ∧ arrives (dev 5) (.svcCtrlWrite (.pf 0) 3) = true ∧
    bitOf (1 : Word) 0 ≠ (dev 5).bit .svc 0 Off.SVC_SVC_CTRL 0 ∧ (dev 5 [(.svc, 0, Off.SVC_SVC_CTRL, 2)]).bit .svc 0 Off.SVC_SVC_CTRL 1 = true ∧
    (dev 5).bit .svc 0 Off.SVC_SVC_CTRL 1 = false ∧ (dev 5).bit .svc 0 Off.SVC_SVC_STAT 2 = false ∧ (svcDev 5 0 0).bit .svc 0 Off.SVC_SVC_STAT 2 = true := by decide

/-- The PCI Express link up, function 0 with Memory Space Enable, 1 GiB of DDR5. -/
def hostDev (mode : Nat) (l : List (Page × Nat × Nat × Nat) := []) : Dev :=
  dev mode ([(.pcie, 0, Off.PCIE_LINK_STAT, 0x181), (.pcie, 0, Off.PCIE_FUNC_STAT, 1), (.mcg, 0, Off.MCG_INSTALLED, 1)] ++ l)

set_option maxRecDepth 8000 in
theorem witness_HostAndBoard_link : (dev 5).linkIsUp = false ∧ (hostDev 5).linkIsUp = true ∧ State.reset.dev.core.powerHold = true ∧ (dev 5).core.powerHold = false ∧
    bitsOf ((hostDev 5).rd .pcie 0 Off.PCIE_LINK_STAT) 0 8 ≠ bitsOf (0x182 : Word) 0 8 ∧ (dev 5).fnStalled (.pf 0) = false ∧ (dev 5).takesMemory 0 = false ∧
    (hostDev 5).takesMemory 0 = true ∧ (hostDev 5).inBar2 64 1 = true ∧ (hostDev 5).inBar2 (2 ^ 36) 1 = false ∧ servedIn 9 .mcc = false ∧ servedIn 5 .mcc = true ∧
    (hostDev 5 [(.mwin, 0, Off.MWIN_CTRL, 1)]).core.mwinAllows (.pf 0) 64 1 true = false ∧ (hostDev 5).core.installed < 2 ^ 30 + 1 ∧
    (hostDev 5).core.mwinAllows (.pf 0) 64 1 true = true ∧ 64 + 1 ≤ (hostDev 5).core.installed ∧ (hostDev 5).windowsAt 64 1 = [] ∧ (heldDev 1).windowsAt 64 1 = [(3, 9, 1)] ∧
    ({ hostDev 5 with poison := [(1, true)] } : Dev).badLine 1 = true ∧ 1 ∈ linesOf 64 1 := by decide

set_option maxRecDepth 8000 in
theorem witness_HostAndBoard_board : (2 : BitVec 24).toNat % 4 ≠ 0 ∧ (dev 5).asleepAt 0 = false ∧ (dev 9).asleepAt (Page.leng.reg 0 0) = true ∧ (dev 9).mode ≠ 0 ∧ (dev 5).mode ≠ 9 ∧
    (dev 9).moving = false ∧ (dev 9 [(.intc, 0, Off.INTC_WAKE_CTRL, 0x10000)]).bit .intc 0 Off.INTC_WAKE_CTRL 16 = true ∧
    (dev 5 [(.pcie, 0, Off.PCIE_SMB_CTRL, 0x100)]).bit .pcie 0 Off.PCIE_SMB_CTRL 8 = true ∧ (dev 5 [(.pcie, 0, Off.PCIE_SMB_CTRL, 0)]).bit .pcie 0 Off.PCIE_SMB_CTRL 8 = false ∧
    Page.ofSlot ((BitVec.ofNat 24 (Page.leng.reg 0 0)).toNat / 4096) = some (.leng, 0) ∧ Page.ofSlot ((BitVec.ofNat 24 (Page.pwr.reg 0 Off.PWR_MODE_REQ)).toNat / 4096) = some (.pwr, 0) ∧
    (BitVec.ofNat 24 (Page.pwr.reg 0 Off.PWR_MODE_REQ)).toNat % 4096 = Off.PWR_MODE_REQ ∧ msixOff .pcie Off.PCIE_SMB_CTRL = false ∧ servedIn 1 .safe = false ∧
    (dev 5).alertLow = false ∧ (dev 8 [(.pcie, 0, Off.PCIE_SMB_CTRL, 0x200)]).alertLow = true ∧ (dev 5).power.move ≠ some (.entry false) ∧
    (dev 5 [(.pcie, 0, Off.PCIE_GPIO_EVT, 3)]).fld .pcie 0 Off.PCIE_GPIO_EVT 0 2 = 3 ∧ (dev 5).bit .pcie 0 Off.PCIE_GPIO_IN 0 = false ∧ (dev 5).bit .pcie 0 Off.PCIE_GPIO_DIR 0 = false ∧
    (dev 9 [(.intc, 0, Off.INTC_WAKE_CTRL, 0x11)]).bit .intc 0 Off.INTC_WAKE_CTRL 0 = true ∧ (dev 9 [(.intc, 0, Off.INTC_WAKE_CTRL, 0x11)]).bit .intc 0 Off.INTC_WAKE_CTRL 4 = true := by decide

/-! Effects, with results from the spec's worked examples, tables and rules. -/

/-- R335 and R337 (worked example): the map and its piece at 0x10_0050_0300, which lies in D0, bank group 2, bank 0, row 0x8002, column line 32. -/
theorem test_defaultMap : (defaultMap 6 16 1).masks.take 5 = [0x44000100, 0x88000200, 0x110000400, 0x220000800, 0x00201000] ∧
    (defaultMap 6 16 1).locOf 0x1000500300 = { sub := 6, rank := 0, bank := 8, row := 0x8002, col := 32 } := by decide +kernel

/-- R271: the stream clock, divider and ratio of the worked example at 60,000 / 1,001 Hz. -/
theorem test_pllRatio : streamHz 9900000 60000 1001 = 148351648 ∧ outDivider 9900000 60000 1001 = 49 ∧
    ratioAtRate 9900000 60000 1001 49 = 290 * 2 ^ 32 + 0xC4EC4EC5 := by decide

/-- R119 (worked example): a 4K source on an 8K canvas: the step, and −0.25 and 0.25 for columns 0 and 1. -/
theorem test_scale : scaleStep 3840 7680 = 524288 ∧ scalePos 524288 0 0 = -262144 ∧ scalePos 524288 1 0 = 262144 := by decide

/-- R54: a clear with the present sequence, and one that a set has overtaken. -/
theorem test_sqClear : (after (.sqClear (.cpu 0) .leng 0 Off.PAGE_STAT 0x37000004) (dev 5 [(.leng, 0, Off.PAGE_STAT, 0x37000004)])).rd .leng 0 Off.PAGE_STAT = 0x37000000 ∧
    (after (.sqClear (.cpu 0) .leng 0 Off.PAGE_STAT 0x37000004) (dev 5 [(.leng, 0, Off.PAGE_STAT, 0x38000006)])).rd .leng 0 Off.PAGE_STAT = 0x38000006 ∧
    sqSet (0x37000004 : Word) 2 = 0x38000006 := by decide

/-- R41: an arm 120 µs before the boundary waits for it; within the cut-off of 32 µs it is late. -/
theorem test_groupArm : ((after (.groupArm (.cpu 0) 1 false) (openScene.setCad 0 { next := 120000 * 2 ^ 32 })).armOf .scn 0).map (·.wait) = some (.next 0) ∧
    ((after (.groupArm (.cpu 0) 1 false) (openScene.setCad 0 { next := 20000 * 2 ^ 32 })).armOf .scn 0).map (·.wait) = some (.next 1) := by decide +kernel

/-- R57 and R43: a shadow write to an armed page is rejected with SHADOW_LOCKED and keeps the shadow. -/
theorem test_shadowLocked : ((after (.shadowWrite (.cpu 0) .scn 0 Off.SCN_SCN_CTRL 1) armedScene).fld .sys 0 Off.SYS_REJECT_LAST 0 8 = 1) ∧
    (after (.shadowWrite (.cpu 0) .scn 0 Off.SCN_SCN_CTRL 1) armedScene).rd .scn 0 Off.SCN_SCN_CTRL = armedScene.rd .scn 0 Off.SCN_SCN_CTRL := by decide +kernel

/-- R433: 255 edges of source 672 read 0x00FF_02A0 (worked example). -/
theorem test_claimWord : claimWord 672 255 = 0x00FF02A0 := by decide

/-- R433: with nothing claimable a claim reads 0xFFFF. -/
theorem test_claimNone : (after (.intcClaim (.pf 0)) (dev 5)).core.resp = [0xFFFF] := by decide

/-- R570 and R4: SYS.DEVICE_ID over quad-SPI is 0x8440, with a status byte of 0. -/
theorem test_qspiRead : (after (.qspiRead 0x20 true) (dev 5)).core.resp = [0x8440, 0] := by decide

/-- R500 and R501: READY from RUN; PWR.MODE shows RUN before it. From BOOT a request is rejected, 0x19. -/
theorem test_modeReq : (after (.modeReqReady (.cpu 0)) (dev 5)).rd .pwr 0 Off.PWR_MODE = 0x54 ∧
    (after (.modeReqReady (.cpu 0)) (dev 3)).rd .pwr 0 Off.PWR_PWR_REJECT = 0x19 ∧ (after (.modeReqReady (.cpu 0)) (dev 3)).mode = 3 := by decide

/-- R506: the power-on reset pin leaves POWER_HOLD with its cause. -/
theorem test_porst : (after .porst (dev 5)).mode = 0 ∧ (after .porst (dev 5)).rd .pwr 0 Off.PWR_RESET_CAUSE = 4 := by decide

/-- R506 and R509: a sensor at 120 °C resets, one at 119.75 °C does not. -/
theorem test_thermal : (after (.thermalSample 480 0) (dev 5)).rd .pwr 0 Off.PWR_RESET_CAUSE = 0x10 ∧ (after (.thermalSample 479 3) (dev 5)).mode = 5 ∧
    (after (.thermalSample 479 3) (dev 5)).rd .pwr 0 Off.PWR_TEMP = 0x000301DF := by decide

/-- R579: the identification code. -/
theorem test_idcode : (after (.boundaryScanInstruction .idcode) (dev 5)).core.resp = [0x28440A6B] := by decide

/-- R440: a doorbell bit raises its source alone. -/
theorem test_doorbell : ((after (.dbRaise (.pf 0) true 0x80000001) (dev 5)).core.srcs.filter (·.2.pending)).map (·.1) = [992, 1023] := by decide

/-- R369 and R370: a fill of one pixel starts, and one while it runs is rejected with 0xD0. -/
theorem test_bltStart : (after (.bltStart (.cpu 0)) (bltDev 0)).bit .blt 0 Off.BLT_BLT_STAT 0 = true ∧
    (after (.bltStart (.cpu 0)) (bltRuns false)).fld .sys 0 Off.SYS_REJECT_LAST 0 8 = 0xD0 := by decide +kernel

/-- R563 and R566: a host write through BAR2 stores its bytes, and a denied one none. -/
theorem test_hostWrite : (after (.hostBar2Write 0 64 [1, 2] false) (hostDev 5)).mem = [⟨64, 1⟩, ⟨65, 2⟩] ∧
    (after (.hostBar2Write 0 64 [1, 2] false) (hostDev 5 [(.mwin, 0, Off.MWIN_CTRL, 1)])).mem = [] := by decide +kernel

/-- On an empty queue in POWER_HOLD nothing happens. -/
theorem test_idle : (match step State.reset with | .next t => decide (t = State.reset) | _ => false) = true := by decide +kernel

/-- A command reset keeps no state but what the boot flash holds. -/
theorem test_resetCmd : (after (.resetCmd (.cpu 0) 0x1B7) (svcDev 5 3 0 { staged := [1] })).fw.staged = [1] ∧
    (after (.resetCmd (.cpu 0) 0x1B7) (svcDev 5 3 0)).rd .pwr 0 Off.PWR_RESET_CAUSE = 8 := by decide +kernel

/-- No row of the table has bits. -/
theorem test_decode : decodeTableWord 32 0 = none ∧ State.reset.withFetchWord 32 0 = State.reset := by decide

end Sys2Proof.Tests
end

section
/-! SUPPORT. Mode requests and transitions: what they rest on, what the operations of a transition leave alone, and what a mode request
answers. -/

namespace Sys2Proof.Machine

open Host (Outcome)

/-! What the modes rest on -/

/-- A register that exists, on a page other than PWR and FWM. -/
def Page.Apart (p : Page) (n off : Nat) : Prop := p ≠ .pwr ∧ p ≠ .fwm ∧ n < p.count ∧ off < 4096

/-- What a mode transition rests on is in `e` as it is in `d`: both memories, the power domain, the reaction controller, POWER_HOLD, and the
registers of PWR and FWM. -/
structure Dev.KeepsModes (d e : Dev) : Prop where
  mem : e.mem = d.mem
  fm : e.fm = d.fm
  power : e.power = d.power
  safe : e.safe = d.safe
  hold : e.core.powerHold = d.core.powerHold
  regs : ∀ (q : Page) (o : Nat), q = .pwr ∨ q = .fwm → o < 4096 → e.rd q 0 o = d.rd q 0 o

/-- The cadence generators and the firmware are as they were, too. -/
structure Dev.KeepsCads (d e : Dev) : Prop extends Dev.KeepsModes d e where
  cads : e.cads = d.cads
  fw : e.fw = d.fw

section
variable {d e x : Dev} {p : Page} {n off k : Nat}

theorem Dev.KeepsModes.refl (d : Dev) : d.KeepsModes d := ⟨rfl, rfl, rfl, rfl, rfl, fun _ _ _ _ => rfl⟩

theorem Dev.KeepsCads.refl (d : Dev) : d.KeepsCads d := ⟨.refl d, rfl, rfl⟩

theorem Dev.KeepsModes.trans (h : d.KeepsModes e) (h' : e.KeepsModes x) : d.KeepsModes x :=
  ⟨h'.mem.trans h.mem, h'.fm.trans h.fm, h'.power.trans h.power, h'.safe.trans h.safe, h'.hold.trans h.hold,
    fun q o hq ho => (h'.regs q o hq ho).trans (h.regs q o hq ho)⟩

theorem Dev.KeepsModes.sameBytes (h : d.KeepsModes e) : d.SameBytes e := fun a => by rw [h.mem, h.fm]; exact ⟨rfl, rfl⟩

/-- The mode rests on POWER_HOLD and MODE. -/
theorem Dev.mode_congr (hold : e.core.powerHold = d.core.powerHold) (hr : e.rd .pwr 0 Off.PWR_MODE = d.rd .pwr 0 Off.PWR_MODE) :
    e.mode = d.mode := by
  unfold Dev.rd at hr
  unfold Dev.mode Core.mode Core.fld
  rw [hold, hr]

theorem Dev.KeepsModes.mode (h : d.KeepsModes e) : e.mode = d.mode := Dev.mode_congr h.hold (h.regs _ _ (.inl rfl) (by decide))

/-- A change of no part that the relation names. -/
theorem Dev.KeepsCads.congr (h : d.KeepsCads e)
    (hx : (x.core, x.mem, x.fm, x.power, x.safe, x.cads, x.fw) = (e.core, e.mem, e.fm, e.power, e.safe, e.cads, e.fw)) : d.KeepsCads x := by
  simp only [Prod.mk.injEq] at hx
  obtain ⟨hcore, hmem, hfm, hpower, hsafe, hcads, hfw⟩ := hx
  refine ⟨⟨hmem.trans h.mem, hfm.trans h.fm, hpower.trans h.power, hsafe.trans h.safe, ?_, fun q o hq ho => ?_⟩, hcads.trans h.cads,
    hfw.trans h.fw⟩
  · rw [hcore, h.hold]
  · rw [← h.regs q o hq ho, Dev.rd_core, Dev.rd_core, hcore]

theorem Dev.KeepsCads.wr {v : Word} (h : d.KeepsCads e) (ha : p.Apart n off) : d.KeepsCads (e.wr p n off v) := by
  obtain ⟨h1, h2, hn, ho⟩ := ha
  refine ⟨⟨h.mem, h.fm, h.power, h.safe, h.hold, fun q o hq hb => ?_⟩, h.cads, h.fw⟩
  rw [← h.regs q o hq hb]
  rcases hq with rfl | rfl
  · exact Dev.rd_wr_ne hn (by decide) ho hb fun he => h1 (congrArg Prod.fst he).symm
  · exact Dev.rd_wr_ne hn (by decide) ho hb fun he => h2 (congrArg Prod.fst he).symm

theorem Dev.KeepsCads.wrN {v : Nat} (h : d.KeepsCads e) (ha : p.Apart n off) : d.KeepsCads (e.wrN p n off v) := h.wr ha
theorem Dev.KeepsCads.setF {lo len v : Nat} (h : d.KeepsCads e) (ha : p.Apart n off) : d.KeepsCads (e.setF p n off lo len v) := h.wr ha
theorem Dev.KeepsCads.setB {i : Nat} {b : Bool} (h : d.KeepsCads e) (ha : p.Apart n off) : d.KeepsCads (e.setB p n off i b) := h.wr ha
theorem Dev.KeepsCads.inc (h : d.KeepsCads e) (ha : p.Apart n off) : d.KeepsCads (e.inc p n off) := h.wr ha

theorem Core.powerHold_of_rest {c c' : Core} (h : c.rest = c'.rest) : c.powerHold = c'.powerHold := congrArg (fun x => x.2.2.1) h

theorem Dev.KeepsCads.flag {bit reason : Nat} {w0 w1 w2 w3 : Word} (h : d.KeepsCads e) (ha : p.Apart n Off.PAGE_STAT) :
    d.KeepsCads (e.flag p n bit reason w0 w1 w2 w3) := by
  obtain ⟨h1, h2, hn, ho⟩ := ha
  refine ⟨⟨h.mem, h.fm, h.power, h.safe, (Core.powerHold_of_rest (Core.rest_flag _ _ _ _ _ _ _ _ _)).trans h.hold, fun q o hq hb => ?_⟩,
    h.cads, h.fw⟩
  rw [← h.regs q o hq hb]
  rcases hq with rfl | rfl
  · exact Dev.rd_flag_ne hn (by decide) hb (by decide) fun he => h1 (congrArg Prod.fst he).symm
  · exact Dev.rd_flag_ne hn (by decide) hb (by decide) fun he => h2 (congrArg Prod.fst he).symm

theorem Dev.KeepsCads.record {s code : Nat} {w0 w1 w2 w3 : Word} (h : d.KeepsCads e) :
    d.KeepsCads (e.onCore (·.record s code w0 w1 w2 w3)) := by
  have hs := Core.sameRegs_record s code w0 w1 w2 w3 (Core.SameRegs.refl e.core)
  refine ⟨⟨h.mem, h.fm, h.power, h.safe, (Core.powerHold_of_rest hs.2).trans h.hold, fun q o hq hb => ?_⟩, h.cads, h.fw⟩
  rw [← h.regs q o hq hb]
  rcases hq with rfl | rfl
  · exact hs.1 .pwr 0 o (by decide) hb (by decide)
  · exact hs.1 .fwm 0 o (by decide) hb (by decide)

theorem Dev.KeepsCads.onRope {f : Rope → Rope} (h : d.KeepsCads e) : d.KeepsCads (e.onRope f) := h.congr rfl
theorem Dev.KeepsCads.onMc {f : MemCtl → MemCtl} (h : d.KeepsCads e) : d.KeepsCads (e.onMc f) := h.congr rfl
theorem Dev.KeepsCads.setPll {y : Pll} (h : d.KeepsCads e) : d.KeepsCads (e.setPll k y) := h.congr rfl
theorem Dev.KeepsCads.setXp {y : Xp} (h : d.KeepsCads e) : d.KeepsCads (e.setXp k y) := h.congr rfl

/-! Loops and clock outputs -/

theorem pllPage_apart (hk : k < 10) (ho : off < 4096) : (pllPage k).Apart (pllInst k) off := by
  unfold Page.Apart pllPage pllInst
  split
  · exact ⟨by decide, by decide, by assumption, ho⟩
  · exact ⟨by decide, by decide, show k - 8 < 2 by omega, ho⟩

theorem pllStatOff_lt : pllStatOff k < 4096 := by unfold pllStatOff; split <;> decide

theorem pllBandOff_lt : pllBandOff k < 4096 := by unfold pllBandOff; split <;> decide

theorem Dev.KeepsCads.setPllState {v : Nat} (h : d.KeepsCads e) (hk : k < 10) : d.KeepsCads (e.setPllState k v) :=
  h.setF (pllPage_apart hk pllStatOff_lt)

theorem Dev.KeepsCads.setPllBit {i : Nat} {b : Bool} (h : d.KeepsCads e) (hk : k < 10) : d.KeepsCads (e.setPllBit k i b) :=
  h.setB (pllPage_apart hk pllStatOff_lt)

theorem Dev.KeepsCads.ckoWatch (h : d.KeepsCads e) (hk : k < 4) : d.KeepsCads (e.ckoWatch k) := by
  unfold Dev.ckoWatch
  dsimp only
  split
  · exact Dev.KeepsCads.flag (h.congr rfl) ⟨by decide, by decide, show k / 2 < 2 by omega, by decide⟩
  · exact h.congr rfl

theorem Dev.KeepsCads.ckoAll (h : d.KeepsCads e) : d.KeepsCads e.ckoAll := by
  refine List.foldlRecOn _ _ h fun x hx k hk => hx.ckoWatch ?_
  simp at hk
  omega

theorem Dev.KeepsCads.park (h : d.KeepsCads e) (hk : k < 10) : d.KeepsCads (e.park k) := by
  unfold Dev.park
  split
  · exact h
  · split
    · exact ((h.setPllState hk).setPllBit hk).ckoAll
    · exact ((h.setPllState hk).setPll).ckoAll

theorem Dev.KeepsCads.unpark (h : d.KeepsCads e) (hk : k < 10) : d.KeepsCads (e.unpark k) := by
  unfold Dev.unpark
  split
  · exact h
  · exact (h.setPllState hk).setPll

theorem Dev.KeepsCads.takeFreq (h : d.KeepsCads e) : d.KeepsCads (e.takeFreq k) := by
  unfold Dev.takeFreq
  split
  · rename_i hk8
    have ha : ∀ o, o < 4096 → Page.ppll.Apart k o := fun o ho => ⟨by decide, by decide, hk8, ho⟩
    unfold Dev.showFreq
    exact (((h.setPll.wrN (ha _ (by decide))).wrN (ha _ (by decide))).wrN (ha _ (by decide))).setPll
  · split
    · exact h.wrN (by unfold Page.Apart; decide)
    · exact h

theorem Dev.KeepsCads.coldLock (h : d.KeepsCads e) (hk : k < 10) : d.KeepsCads (e.coldLock k) := by
  unfold Dev.coldLock
  exact (((((h.setPllState hk).setPllBit hk).setPllBit hk).setPll.setF (pllPage_apart hk pllBandOff_lt)).takeFreq).ckoAll

theorem Dev.KeepsCads.parkPorts (h : d.KeepsCads e) : d.KeepsCads e.parkPorts := by
  refine List.foldlRecOn _ _ h fun x hx p hp => ?_
  rw [List.mem_range] at hp
  split
  · exact hx
  · exact hx.park (by omega)

/-! Self-refresh -/

theorem Dev.KeepsCads.srEntered (h : d.KeepsCads e) : d.KeepsCads e.srEntered := by
  have hr : Page.mcg.Apart 0 Off.MCG_SR_STAT := by unfold Page.Apart; decide
  have hc : d.KeepsCads ((List.range 8).foldl (fun x c => x.closeRows c fun _ => true) e) :=
    List.foldlRecOn _ _ h fun x hx c _ => hx.congr rfl
  unfold Dev.srEntered
  split
  · exact h
  · exact ((((hc.setF hr).setF hr).park (by decide)).onMc).flag (by unfold Page.Apart; decide)

theorem Dev.KeepsCads.memorySleep (h : d.KeepsCads e) : d.KeepsCads e.memorySleep := by
  unfold Dev.memorySleep
  split
  · exact h.park (by decide)
  · split
    · exact h
    · exact (h.setF (by unfold Page.Apart; decide)).srEntered

/-! Rope ports -/

theorem Dev.KeepsCads.setTiming {v : Nat} (h : d.KeepsCads e) : d.KeepsCads (e.setTiming v) := h.setF (by unfold Page.Apart; decide)

theorem Dev.KeepsCads.moveParent {lost : Bool} (h : d.KeepsCads e) : d.KeepsCads (e.moveParent k lost) := by
  have ha : ∀ o, o < 4096 → Page.rpg.Apart 0 o := fun o ho => ⟨by decide, by decide, by decide, ho⟩
  unfold Dev.moveParent
  split
  · exact h
  · split
    · exact h
    · dsimp only
      split
      · split
        · exact ((h.setF (ha _ (by decide))).setTiming).flag (ha _ (by decide))
        · exact h.setF (ha _ (by decide))
      · exact ((h.setTiming.flag (ha _ (by decide))).onRope).flag (ha _ (by decide))

theorem Dev.KeepsCads.showTables {t : Tables} (h : d.KeepsCads e) : d.KeepsCads (e.showTables t) := by
  have ha : ∀ o, o < 4096 → Page.rpg.Apart 0 o := fun o ho => ⟨by decide, by decide, by decide, ho⟩
  unfold Dev.showTables
  exact (((((((h.onRope.setF (ha _ (by decide))).wrN (ha _ (by decide))).wrN (ha _ (by decide))).wrN (ha _ (by decide))).setF
    (ha _ (by decide))).setB (ha _ (by decide)))).setF (ha _ (by decide))

theorem Dev.KeepsCads.dropUnreached {gone : Option Nat} (h : d.KeepsCads e) : d.KeepsCads (e.dropUnreached gone) := by
  unfold Dev.dropUnreached
  split
  · exact h
  · split
    · exact h
    · dsimp only
      split
      · exact h
      · exact h.onRope.showTables.flag (by unfold Page.Apart; decide)

theorem Dev.KeepsCads.setRopeState {v : Nat} (h : d.KeepsCads e) (hk : k < 4) : d.KeepsCads (e.setRopeState k v) :=
  h.setF ⟨by decide, by decide, hk, by decide⟩

theorem Dev.KeepsCads.portDown {left : Bool} (h : d.KeepsCads e) (hk : k < 4) : d.KeepsCads (e.portDown k left) := by
  have ha : ∀ o, o < 4096 → Page.rpp.Apart k o := fun o ho => ⟨by decide, by decide, hk, ho⟩
  unfold Dev.portDown
  dsimp only
  split
  · exact h.onRope
  · exact ((((h.onRope.setRopeState hk).inc (ha _ (by decide))).flag (ha _ (by decide))).moveParent).dropUnreached

theorem Dev.KeepsCads.ropeSleep (h : d.KeepsCads e) : d.KeepsCads e.ropeSleep := by
  refine Dev.KeepsCads.setB (List.foldlRecOn _ _ h.onRope fun x hx p hp => ?_) (by unfold Page.Apart; decide)
  rw [List.mem_range] at hp
  split
  · exact hx.setRopeState hp
  · split
    · exact hx.portDown hp
    · exact hx

theorem Dev.KeepsCads.ropeWake (h : d.KeepsCads e) : d.KeepsCads e.ropeWake := by
  refine Dev.KeepsCads.setB (List.foldlRecOn _ _ h fun x hx p hp => ?_) (by unfold Page.Apart; decide)
  rw [List.mem_range] at hp
  split
  · exact hx.setRopeState hp
  · exact hx

theorem Dev.KeepsCads.leaveTeam (h : d.KeepsCads e) : d.KeepsCads e.leaveTeam := by
  unfold Dev.leaveTeam
  dsimp only
  refine Dev.KeepsCads.onRope (List.foldlRecOn _ _ h fun x hx p hp => hx.portDown ?_)
  simpa using (List.mem_filter.1 hp).1

/-! Ports and cadence generators -/

theorem Dev.KeepsCads.enterTraining (h : d.KeepsCads e) (hk : k < 8) : d.KeepsCads (e.enterTraining k) := by
  have ha : Page.xpt.Apart k Off.XPT_LINK_STAT := ⟨by decide, by decide, hk, by decide⟩
  unfold Dev.enterTraining
  split
  · exact Dev.KeepsCads.setXp (h.setF ha)
  · exact h.setF ha

theorem Dev.KeepsCads.startLink {was : Bool} (h : d.KeepsCads e) (hk : k < 8) : d.KeepsCads (e.startLink k was) := by
  have ha : Page.xpt.Apart k Off.XPT_LINK_STAT := ⟨by decide, by decide, hk, by decide⟩
  have hb : Page.anch.Apart 0 (Off.ANCH_PORT_TSTAT + 4 * k) := ⟨by decide, by decide, by decide, by simp only [Off.ANCH_PORT_TSTAT]; omega⟩
  have h0 : d.KeepsCads (if e.portEnabled k && was then e else e.setPort k { e.port k with lastV := 0 }) := by
    split
    · exact h
    · exact h.congr rfl
  unfold Dev.startLink
  extract_lets x
  split
  · exact (((h0.setF ha).setXp).setF hb).park (by omega)
  · split
    · exact ((h0.setF ha).coldLock (by omega)).setF hb
    · split
      · exact (h0.setF ha).enterTraining hk
      · exact h0.setF ha

theorem Dev.KeepsCads.wakePort (h : d.KeepsCads e) (hk : k < 8) : d.KeepsCads (e.wakePort k) := by
  unfold Dev.wakePort
  split
  · exact h
  · split
    · exact (h.setF ⟨by decide, by decide, hk, by decide⟩).unpark (by omega)
    · exact h.startLink hk

theorem Dev.keepsModes_setCad {y : Cad} : d.KeepsModes (d.setCad k y) := ⟨rfl, rfl, rfl, rfl, rfl, fun _ _ _ _ => rfl⟩

theorem Dev.keepsModes_onFw {f : Fw → Fw} : d.KeepsModes (d.onFw f) := ⟨rfl, rfl, rfl, rfl, rfl, fun _ _ _ _ => rfl⟩

theorem Dev.keepsModes_stopCadences : d.KeepsModes d.stopCadences :=
  List.foldlRecOn _ _ (.refl d) fun _ hx _ _ => hx.trans Dev.keepsModes_setCad

theorem Dev.keepsModes_startCadence (hk : k < 4) : d.KeepsModes (d.startCadence k) := by
  unfold Dev.startCadence
  split
  · exact .refl d
  · refine Dev.keepsModes_setCad.trans (Dev.KeepsCads.wrN (.refl _) ⟨by decide, by decide, by decide, ?_⟩).toKeepsModes
    simp only [cadOff, Off.ANCH_PERIOD]
    omega

theorem Dev.keepsModes_wakeCadences : d.KeepsModes d.wakeCadences := by
  have h1 : d.KeepsModes d.startCadences := by
    refine List.foldlRecOn _ _ (.refl d) fun x hx k hk => hx.trans (Dev.keepsModes_startCadence ?_)
    simp at hk
    omega
  unfold Dev.wakeCadences
  refine Dev.KeepsModes.trans (h1.trans ?_) ((Dev.KeepsCads.refl _).onRope).toKeepsModes
  exact List.foldlRecOn _ _ (.refl _) fun x hx k _ => hx.trans Dev.keepsModes_setCad

/-- After the generators stop none of them runs (R245). -/
theorem Dev.going_stopCadences (j : Fin 4) : (d.stopCadences.cad j.val).going = false := by
  unfold Dev.stopCadences
  simp only [List.foldl_cons, List.foldl_nil, Dev.cad_setCad]
  have hj : j.val = 0 ∨ j.val = 1 ∨ j.val = 2 ∨ j.val = 3 := by omega
  rcases hj with h | h | h | h <;> rw [h] <;> rfl
end

end Sys2Proof.Machine
end

section
/-! SUPPORT. Entering a mode, and what a mode request answers. -/

namespace Sys2Proof.Machine

open Host (Outcome)

/-! Entering a mode -/

section
variable {d e x : Dev} {m t k : Nat}

theorem Dev.Touches.mono {l l' : List (Page × Nat × Nat)} {s s' : List Nat} (h : d.Touches e l s) (hl : l ⊆ l') (hs : s ⊆ s') :
    d.Touches e l' s' := by
  refine ⟨⟨fun q n o hn ho hq hx => h.1.1 q n o hn ho hq fun hc => hx (hl hc), h.1.2⟩, fun j hj => h.2 j fun hc => hj ?_⟩
  simp only [List.mem_cons] at hc ⊢
  exact hc.imp_right (·.imp_right (hs ·))

theorem Dev.Touches.trans {l : List (Page × Nat × Nat)} {s : List Nat} (h : d.Touches e l s) (h' : e.Touches x l s) : d.Touches x l s := by
  obtain ⟨⟨hr, hb, hc⟩, hs⟩ := h
  obtain ⟨⟨hr', hb', hc'⟩, hs'⟩ := h'
  refine ⟨⟨fun q n o hn ho hq hx => (hr' q n o hn ho hq hx).trans (hr q n o hn ho hq hx), ?_, hc'.trans hc⟩,
    fun j hj => (hs' j hj).trans (hs j hj)⟩
  rw [← hb, ← hb']

theorem Dev.Touches.hold {l : List (Page × Nat × Nat)} {s : List Nat} (h : d.Touches e l s) : e.core.powerHold = d.core.powerHold :=
  congrArg (fun y => y.2.2.1) h.1.2.2

theorem Dev.mode_lt (d : Dev) : d.mode < 16 := by
  unfold Dev.mode Core.mode
  split
  · decide
  · exact Nat.mod_lt _ (by decide)

theorem Dev.returnMode_lt (d : Dev) : d.returnMode < 16 := Nat.mod_lt _ (by decide)

theorem Dev.hold_of_mode (h : d.mode ≠ 0) : d.core.powerHold = false := by
  cases hp : d.core.powerHold with
  | false => rfl
  | true => exact absurd (by simp [Dev.mode, Core.mode, hp]) h

/-- Out of POWER_HOLD the mode is the field of MODE (R11). -/
theorem Dev.mode_eq_fld (h : d.core.powerHold = false) : d.mode = d.fld .pwr 0 Off.PWR_MODE 0 4 := by
  unfold Dev.mode Core.mode
  rw [h]
  rfl

/-- A write of another register than MODE leaves the mode. -/
theorem Dev.mode_wr_ne {p : Page} {n off : Nat} {v : Word} (hn : n < p.count) (ho : off < 4096)
    (h : (.pwr, 0, Off.PWR_MODE) ≠ (p, n, off)) : (d.wr p n off v).mode = d.mode :=
  Dev.mode_congr rfl (Dev.rd_wr_ne hn (by decide) ho (by decide) h)

theorem Dev.mode_setF_ne {p : Page} {n off lo len v : Nat} (hn : n < p.count) (ho : off < 4096)
    (h : (.pwr, 0, Off.PWR_MODE) ≠ (p, n, off)) : (d.setF p n off lo len v).mode = d.mode := Dev.mode_wr_ne hn ho h

theorem Dev.mode_wrN_ne {p : Page} {n off v : Nat} (hn : n < p.count) (ho : off < 4096)
    (h : (.pwr, 0, Off.PWR_MODE) ≠ (p, n, off)) : (d.wrN p n off v).mode = d.mode := Dev.mode_wr_ne hn ho h

theorem Dev.mode_setB_ne {p : Page} {n off i : Nat} {b : Bool} (hn : n < p.count) (ho : off < 4096)
    (h : (.pwr, 0, Off.PWR_MODE) ≠ (p, n, off)) : (d.setB p n off i b).mode = d.mode := Dev.mode_wr_ne hn ho h

theorem Dev.mode_onSafe (d : Dev) (f : Safe → Safe) : (d.onSafe f).mode = d.mode := rfl
theorem Dev.mode_onFw (d : Dev) (f : Fw → Fw) : (d.onFw f).mode = d.mode := rfl
theorem Dev.mode_onPower (d : Dev) (f : Power → Power) : (d.onPower f).mode = d.mode := rfl

/-- What the board and the start of composition make of an entered mode lies outside every register and source. -/
theorem Dev.Touches.putMode (d : Dev) (m : Nat) :
    ({ d with board := (d.putMode m).board, runSince := (d.putMode m).runSince } : Dev).Touches (d.putMode m)
      [(.pwr, 0, Off.PWR_MODE), (.pwr, 0, Off.PAGE_STAT)] [16] := by
  generalize hb : (d.putMode m).board = b
  generalize hr : (d.putMode m).runSince = r
  let back := if m = 7 ∨ m = 8 ∨ m = 9 then d.mode else d.returnMode
  have he : d.putMode m =
      (({ d with board := b, runSince := r } : Dev).wrN .pwr 0 Off.PWR_MODE (m + d.mode * 16 + back * 256)).flag .pwr 0 8 := by
    rw [← hb, ← hr]
    unfold Dev.putMode
    dsimp only
    split <;> rfl
  rw [he]
  exact ((Dev.Touches.refl _ _ _).wrN (by decide) (by decide) (by simp)).flag (by decide) (by simp) (by simp [flagSource])

/-- MODE after a mode is entered (R502). -/
theorem Dev.rd_putMode (d : Dev) (m : Nat) : (d.putMode m).rd .pwr 0 Off.PWR_MODE =
    BitVec.ofNat 32 (m + d.mode * 16 + (if m = 7 ∨ m = 8 ∨ m = 9 then d.mode else d.returnMode) * 256) := by
  have hw : ∀ v, ((d.wrN .pwr 0 Off.PWR_MODE v).flag .pwr 0 8).rd .pwr 0 Off.PWR_MODE = BitVec.ofNat 32 v := fun v => by
    rw [Dev.rd_flag_ne (by decide) (by decide) (by decide) (by decide) (by decide), Dev.rd_wrN_same]
  rw [← hw]
  unfold Dev.putMode
  dsimp only
  split <;> rfl

/-- The fields of a MODE word: MODE, PREV and RETURN. -/
theorem bitsOf_modeWord {a b c : Nat} (ha : a < 16) (hb : b < 16) (hc : c < 16) :
    bitsOf (BitVec.ofNat 32 (a + b * 16 + c * 256)) 0 4 = a ∧ bitsOf (BitVec.ofNat 32 (a + b * 16 + c * 256)) 4 4 = b ∧
      bitsOf (BitVec.ofNat 32 (a + b * 16 + c * 256)) 8 4 = c := by
  unfold bitsOf
  rw [BitVec.toNat_ofNat]
  omega

theorem Dev.hold_putMode (d : Dev) (m : Nat) : (d.putMode m).core.powerHold = d.core.powerHold := (Dev.Touches.putMode d m).hold

theorem Dev.fld_putMode (hm : m < 16) : (d.putMode m).fld .pwr 0 Off.PWR_MODE 0 4 = m ∧ (d.putMode m).fld .pwr 0 Off.PWR_MODE 4 4 = d.mode ∧
    (d.putMode m).returnMode = if m = 7 ∨ m = 8 ∨ m = 9 then d.mode else d.returnMode := by
  have hb : (if m = 7 ∨ m = 8 ∨ m = 9 then d.mode else d.returnMode) < 16 := by
    split
    · exact d.mode_lt
    · exact d.returnMode_lt
  unfold Dev.returnMode
  rw [Dev.fld_core, Dev.fld_core, Dev.fld_core, ← Dev.rd_core, Dev.rd_putMode]
  exact bitsOf_modeWord hm d.mode_lt hb

theorem Dev.mode_putMode (hp : d.core.powerHold = false) (hm : m < 16) : (d.putMode m).mode = m := by
  rw [Dev.mode_eq_fld ((d.hold_putMode m).trans hp), (Dev.fld_putMode hm).1]

/-- MODE_CHANGED is told (R501). -/
theorem Dev.bit_putMode (d : Dev) (m : Nat) : (d.putMode m).bit .pwr 0 Off.PAGE_STAT 8 = true := by
  have hb : ∀ y : Dev, (y.flag .pwr 0 8).bit .pwr 0 Off.PAGE_STAT 8 = true := fun y => Dev.bit_flag (by decide) (by decide) (by decide)
  rw [← hb (d.wrN .pwr 0 Off.PWR_MODE (m + d.mode * 16 + (if m = 7 ∨ m = 8 ∨ m = 9 then d.mode else d.returnMode) * 256))]
  unfold Dev.putMode
  dsimp only
  split <;> rfl

/-- The entry into a mode changes no block beside the board, and no other register of PWR but PAGE_STAT. -/
theorem Dev.blocks_putMode (d : Dev) (m : Nat) :
    { d.putMode m with core := d.core } = { d with board := (d.putMode m).board, runSince := (d.putMode m).runSince } :=
  (Dev.Touches.putMode d m).1.blocks

theorem Dev.safe_putMode (d : Dev) (m : Nat) : (d.putMode m).safe = d.safe := by have h := congrArg Dev.safe (d.blocks_putMode m); exact h
theorem Dev.power_putMode (d : Dev) (m : Nat) : (d.putMode m).power = d.power := by have h := congrArg Dev.power (d.blocks_putMode m); exact h
theorem Dev.cads_putMode (d : Dev) (m : Nat) : (d.putMode m).cads = d.cads := by have h := congrArg Dev.cads (d.blocks_putMode m); exact h
theorem Dev.fw_putMode (d : Dev) (m : Nat) : (d.putMode m).fw = d.fw := by have h := congrArg Dev.fw (d.blocks_putMode m); exact h

theorem Dev.rd_putMode_ne (d : Dev) (m : Nat) {q : Page} {n o : Nat} (hn : n < q.count) (ho : o < 4096) (hq : q ≠ .elog)
    (h : (q, n, o) ∉ [(Page.pwr, 0, Off.PWR_MODE), (.pwr, 0, Off.PAGE_STAT)]) : (d.putMode m).rd q n o = d.rd q n o :=
  (Dev.Touches.putMode d m).1.1 q n o hn ho hq h

theorem Dev.sameBytes_putMode (d : Dev) (m : Nat) : d.SameBytes (d.putMode m) := fun a => by
  rw [(Dev.Touches.putMode d m).mem, (Dev.Touches.putMode d m).fm]
  exact ⟨rfl, rfl⟩

/-- No DEVICE action that waited takes the mode's place. -/
theorem Dev.setMode_eq_putMode (h : d.safe.deviceDue = false ∨ m ∉ belayFrom) : d.setMode m = d.putMode m := by
  have hn : ((d.putMode m).safe.deviceDue && belayFrom.contains m) = false := by
    rw [Dev.safe_putMode]
    rcases h with h | h <;> simp [h]
  unfold Dev.setMode
  simp only [hn, Bool.false_eq_true, if_false]

/-- RUN is RUN_DEGRADED while DEGRADE is not 0, and only then (R502). -/
def Dev.entered (d : Dev) (t : Nat) : Nat := if t = 5 ∨ t = 6 then (if d.rd .pwr 0 Off.PWR_DEGRADE = 0 then 5 else 6) else t

theorem Dev.goMode_of_ne (hm : d.mode ≠ 8) (hd : d.safe.deviceDue = false) : d.goMode t = d.putMode (d.entered t) := by
  unfold Dev.goMode
  rw [if_neg hm]
  exact Dev.setMode_eq_putMode (.inl hd)

/-- A write of one bit with a change of the reaction controller, beside the board and the start of composition. -/
theorem Dev.Touches.setB_onSafe (d : Dev) {p : Page} {n off : Nat} (i : Nat) (b : Bool) (f : Safe → Safe) (w : Board) (k : Nat)
    (hn : n < p.count) (ho : off < 4096) :
    ({ d with safe := ((d.setB p n off i b).onSafe f).safe, board := w, runSince := k } : Dev).Touches
      { (d.setB p n off i b).onSafe f with board := w, runSince := k } [(p, n, off)] [] :=
  (Dev.Touches.refl ({ d with safe := ((d.setB p n off i b).onSafe f).safe, board := w, runSince := k } : Dev) _ _).setB (i := i) (b := b)
    hn ho (by simp)

/-- BELAY is left in BELAY_STAT and the reaction controller alone (R483). -/
theorem Dev.Touches.belayModeLeft (d : Dev) (w : Board) (k : Nat) :
    ({ d with safe := d.belayModeLeft.safe, board := w, runSince := k } : Dev).Touches { d.belayModeLeft with board := w, runSince := k }
      [(.safe, 0, Off.SAFE_BELAY_STAT)] [] := by
  unfold Dev.belayModeLeft
  exact Dev.Touches.setB_onSafe d _ _ _ w k (by decide) (by decide)

theorem Dev.bit_belayModeLeft (d : Dev) : d.belayModeLeft.bit .safe 0 Off.SAFE_BELAY_STAT 16 = false := by
  unfold Dev.belayModeLeft
  rw [Dev.bit_core, ← Dev.rd_core, Dev.rd_onSafe, Dev.rd_setB_same, bitOf_putBits (by decide)]

theorem Dev.mode_belayModeLeft (d : Dev) : d.belayModeLeft.mode = d.mode := by
  unfold Dev.belayModeLeft
  rw [Dev.mode_onSafe, Dev.mode_setB_ne (by decide) (by decide) (by decide)]

theorem Dev.deviceDue_belayModeLeft (d : Dev) : d.belayModeLeft.safe.deviceDue = d.safe.deviceDue := by
  unfold Dev.belayModeLeft
  rw [Dev.onSafe_safe, Dev.setB_safe]

theorem Dev.goMode_of_belay (hm : d.mode = 8) (hd : d.safe.deviceDue = false) :
    d.goMode t = d.belayModeLeft.putMode (d.entered t) := by
  unfold Dev.goMode
  rw [if_pos hm]
  exact Dev.setMode_eq_putMode (.inl (d.deviceDue_belayModeLeft.trans hd))

end

/-! What a mode request answers (R500, R511) -/

section
variable {d : Dev} {m t : Nat}

/-- The requests of the five modes, with the code each of them writes (R500). -/
def requestCodes (r : Requester) : List (Instr × Nat) :=
  [(.modeReqReady r, 4), (.modeReqRun r, 5), (.modeReqBivouac r, 9), (.modeReqTest r, 10), (.modeReqShutdown r, 11)]

/-- The codes that a mode request may name. -/
def requestable : List Nat := [4, 5, 9, 10, 11]

theorem requestable_of_mem {r : Requester} {c : Instr} (h : (c, t) ∈ requestCodes r) : t ∈ requestable := by
  simp only [requestCodes, List.mem_cons, Prod.mk.injEq, List.not_mem_nil, or_false] at h
  rcases h with ⟨-, rfl⟩ | ⟨-, rfl⟩ | ⟨-, rfl⟩ | ⟨-, rfl⟩ | ⟨-, rfl⟩ <;> decide

/-- A mode request that arrives is its MODE_REQ. -/
theorem exec_modeRequest {s : State} {r : Requester} {c : Instr} (h : (c, t) ∈ requestCodes r) (ha : s.Arrives c) :
    exec c s = .next (s.on (·.modeReq r t)) := by
  simp only [requestCodes, List.mem_cons, Prod.mk.injEq, List.not_mem_nil, or_false] at h
  rcases h with ⟨rfl, rfl⟩ | ⟨rfl, rfl⟩ | ⟨rfl, rfl⟩ | ⟨rfl, rfl⟩ | ⟨rfl, rfl⟩ <;> exact State.write_made ha

theorem Dev.modeAnswer_busy (ht : t ∈ requestable) (h : d.moving = true ∨ d.mode = 7) : d.modeAnswer t = .error 0x1A := by
  unfold Dev.modeAnswer
  rw [show [4, 5, 9, 10, 11].contains t = true from List.contains_iff_mem.2 ht]
  rcases h with h | h <;> simp [h]

/-- The answer out of a transition and of HANDOVER. -/
theorem Dev.modeAnswer_still (ht : t ∈ requestable) (hs : d.moving = false) (h7 : d.mode ≠ 7) : d.modeAnswer t =
    if d.mode < 4 ∨ 11 ≤ d.mode then .error 0x19
    else if d.mode = t ∨ (d.mode = 6 ∧ t = 5) then .ok false
    else if d.mode = 9 then (if t = 10 then .error 0x19 else .ok true)
    else if (d.mode = 10 ∧ t = 9) ∨ (d.mode = 8 ∧ (t = 9 ∨ t = 10)) then .error 0x19
    else if (d.mode = 4 ∨ d.mode = 10) ∧ (t = 5 ∨ t = 10) ∧ d.memoryFailed then .error 0x1B
    else if d.mode = 8 ∧ (t = 4 ∨ t = 5) ∧ d.fld .safe 0 Off.SAFE_FAULT_STAT 0 24 ≠ 0 then .error 0x39
    else if (t = 9 ∨ t = 11) ∧ d.entryBarred then .error 0x1C
    else .ok true := by
  unfold Dev.modeAnswer
  rw [show [4, 5, 9, 10, 11].contains t = true from List.contains_iff_mem.2 ht, hs]
  dsimp only
  rw [if_neg (by decide), if_neg (by decide), if_neg h7]
  rfl

theorem Dev.modeAnswer_outside (ht : t ∈ requestable) (hs : d.moving = false) (h : d.mode < 4 ∨ d.mode = 11) :
    d.modeAnswer t = .error 0x19 := by
  rw [Dev.modeAnswer_still ht hs (by omega), if_pos (by omega)]

theorem Dev.modeAnswer_barred (ht : t ∈ requestable) (hs : d.moving = false) (h : (d.mode, t) ∈ [(9, 10), (10, 9), (8, 9), (8, 10)]) :
    d.modeAnswer t = .error 0x19 := by
  simp only [List.mem_cons, Prod.mk.injEq, List.not_mem_nil, or_false] at h
  rw [Dev.modeAnswer_still ht hs (by omega)]
  rcases h with ⟨hm, rfl⟩ | ⟨hm, rfl⟩ | ⟨hm, rfl⟩ | ⟨hm, rfl⟩ <;> simp [hm]

theorem Dev.modeAnswer_memoryFailed (ht : t ∈ requestable) (hs : d.moving = false) (h : (d.mode, t) ∈ [(4, 5), (4, 10), (10, 5)])
    (hf : d.memoryFailed = true) : d.modeAnswer t = .error 0x1B := by
  simp only [List.mem_cons, Prod.mk.injEq, List.not_mem_nil, or_false] at h
  rw [Dev.modeAnswer_still ht hs (by omega)]
  rcases h with ⟨hm, rfl⟩ | ⟨hm, rfl⟩ | ⟨hm, rfl⟩ <;> simp [hm, hf]

theorem Dev.modeAnswer_faulted (ht : t ∈ requestable) (hs : d.moving = false) (h : (d.mode, t) ∈ [(8, 4), (8, 5)])
    (hf : d.fld .safe 0 Off.SAFE_FAULT_STAT 0 24 ≠ 0) : d.modeAnswer t = .error 0x39 := by
  simp only [List.mem_cons, Prod.mk.injEq, List.not_mem_nil, or_false] at h
  rw [Dev.modeAnswer_still ht hs (by omega)]
  rcases h with ⟨hm, rfl⟩ | ⟨hm, rfl⟩ <;> simp [hm, hf]

/-- The transitions that take time: entries into BIVOUAC and SHUTDOWN (R500). -/
def entries : List (Nat × Nat) := [(4, 9), (5, 9), (6, 9), (4, 11), (5, 11), (6, 11), (8, 11), (10, 11)]

theorem Dev.modeAnswer_entry (ht : t ∈ requestable) (hs : d.moving = false) (h : (d.mode, t) ∈ entries) :
    d.modeAnswer t = if d.entryBarred then .error 0x1C else .ok true := by
  simp only [entries, List.mem_cons, Prod.mk.injEq, List.not_mem_nil, or_false] at h
  rw [Dev.modeAnswer_still ht hs (by omega)]
  rcases h with ⟨hm, rfl⟩ | ⟨hm, rfl⟩ | ⟨hm, rfl⟩ | ⟨hm, rfl⟩ | ⟨hm, rfl⟩ | ⟨hm, rfl⟩ | ⟨hm, rfl⟩ | ⟨hm, rfl⟩ <;> simp [hm]

theorem Dev.modeAnswer_present (ht : t ∈ requestable) (hs : d.moving = false)
    (h : (d.mode, t) ∈ [(4, 4), (5, 5), (6, 5), (9, 9), (10, 10)]) : d.modeAnswer t = .ok false := by
  simp only [List.mem_cons, Prod.mk.injEq, List.not_mem_nil, or_false] at h
  rw [Dev.modeAnswer_still ht hs (by omega), if_neg (by omega), if_pos (by omega)]

theorem Dev.modeAnswer_wake (ht : t ∈ requestable) (hs : d.moving = false) (h : (d.mode, t) ∈ [(9, 4), (9, 5), (9, 11)]) :
    d.modeAnswer t = .ok true := by
  simp only [List.mem_cons, Prod.mk.injEq, List.not_mem_nil, or_false] at h
  rw [Dev.modeAnswer_still ht hs (by omega), if_neg (by omega), if_neg (by omega), if_pos (by omega), if_neg (by omega)]

/-- The changes of mode that are made at once, where neither memory nor faults bar them (R500, R501). -/
def Dev.GoesAtOnce (d : Dev) (t : Nat) : Prop :=
  (d.mode, t) ∈ [(5, 4), (6, 4), (5, 10), (6, 10), (10, 4)] ∨ ((d.mode, t) ∈ [(4, 5), (4, 10), (10, 5)] ∧ d.memoryFailed = false) ∨
    ((d.mode, t) ∈ [(8, 4), (8, 5)] ∧ d.fld .safe 0 Off.SAFE_FAULT_STAT 0 24 = 0)

theorem Dev.GoesAtOnce.bounds (h : d.GoesAtOnce t) : 4 ≤ d.mode ∧ d.mode ≤ 10 ∧ d.mode ≠ 9 ∧ d.mode ≠ 7 ∧ (t = 4 ∨ t = 5 ∨ t = 10) := by
  simp only [Dev.GoesAtOnce, List.mem_cons, Prod.mk.injEq, List.not_mem_nil, or_false] at h
  omega

theorem Dev.modeAnswer_atOnce (ht : t ∈ requestable) (hs : d.moving = false) (h : d.GoesAtOnce t) : d.modeAnswer t = .ok true := by
  obtain ⟨-, -, -, h7, -⟩ := h.bounds
  rw [Dev.modeAnswer_still ht hs h7]
  simp only [Dev.GoesAtOnce, List.mem_cons, Prod.mk.injEq, List.not_mem_nil, or_false] at h
  rcases h with h | ⟨h, hf⟩ | ⟨h, hf⟩
  · rw [if_neg (by omega), if_neg (by omega), if_neg (by omega), if_neg (by omega), if_neg (by omega), if_neg (by omega), if_neg (by omega)]
  · rw [if_neg (by omega), if_neg (by omega), if_neg (by omega), if_neg (by omega), if_neg (by simp [hf]), if_neg (by omega),
      if_neg (by omega)]
  · rw [if_neg (by omega), if_neg (by omega), if_neg (by omega), if_neg (by omega), if_neg (by omega), if_neg (by simp [hf]),
      if_neg (by omega)]

end

/-! The five outcomes of a mode request -/

section
variable {d : Dev} {r : Requester} {t : Nat}

/-- A rejected request tells its reason in PWR_REJECT and SYS, raises STATE_REJECT, and has no other effect (R12, R57, R520). -/
theorem Dev.pwrReject_told (d : Dev) (r : Requester) (e : Nat) :
    (d.pwrReject r Off.PWR_MODE_REQ e).rd .pwr 0 Off.PWR_PWR_REJECT = BitVec.ofNat 32 e ∧
      (d.pwrReject r Off.PWR_MODE_REQ e).mode = d.mode ∧ ((d.pwrReject r Off.PWR_MODE_REQ e).core.src 0).pending = true ∧
      ((d.pwrReject r Off.PWR_MODE_REQ e).core.src 0).seq = (d.core.src 0).seq + 1 ∧
      (d.pwrReject r Off.PWR_MODE_REQ e).rd .sys 0 Off.SYS_REJECT_LAST = rejectWord e (Page.pwr.slot 0) Off.PWR_MODE_REQ r.id ∧
      d.Touches (d.pwrReject r Off.PWR_MODE_REQ e) [(.pwr, 0, Off.PWR_PWR_REJECT), (.pwr, 0, Off.PAGE_STAT), (.sys, 0, Off.SYS_REJECT_LAST),
        (.sys, 0, Off.SYS_REJECT_COUNT)] [0] := by
  have htouch : d.Touches (d.pwrReject r Off.PWR_MODE_REQ e) [(.pwr, 0, Off.PWR_PWR_REJECT), (.pwr, 0, Off.PAGE_STAT),
      (.sys, 0, Off.SYS_REJECT_LAST), (.sys, 0, Off.SYS_REJECT_COUNT)] [0] :=
    ((Dev.Touches.refl _ _ _).wrN (by decide) (by decide) (by simp)).reject (by decide) (by simp) (by simp) (by simp) (by simp)
  obtain ⟨hpend, hseq⟩ := Core.src_reject (d.wrN .pwr 0 Off.PWR_PWR_REJECT e).core r .pwr 0 Off.PWR_MODE_REQ e
  refine ⟨?_, Dev.mode_congr htouch.hold (htouch.1.1 _ _ _ (by decide) (by decide) (by decide) (by decide)), hpend, hseq,
    Core.rd_reject_last _ _ _ _ _ _, htouch⟩
  exact (Core.rd_reject _ _ _ _ _ _ (by decide) (by decide) (by decide) (by decide) (.inr (.inr (by decide))) (.inl (by decide))).trans
    Dev.rd_wrN_same

theorem Dev.modeReq_error {e : Nat} (h : d.modeAnswer t = .error e) : d.modeReq r t = d.pwrReject r Off.PWR_MODE_REQ e := by
  unfold Dev.modeReq
  rw [h]

theorem Dev.modeReq_present (h : d.modeAnswer t = .ok false) : d.modeReq r t = d := by
  unfold Dev.modeReq
  rw [h]

theorem Dev.modeReq_taken (h : d.modeAnswer t = .ok true) : d.modeReq r t =
    if d.mode = 9 then d.startWake t else if t = 9 ∨ t = 11 then (d.setMove (some (.entry (t == 11))) t).moveStep else d.goMode t := by
  unfold Dev.modeReq
  rw [h]

end

end Sys2Proof.Machine
end

section
/-! SUPPORT. The ends of the transitions, and the statement about mode requests. -/

namespace Sys2Proof.Machine

open Host (Outcome)

section
variable {d e x : Dev} {r : Requester} {t : Nat}

/-- The change of mode that a request makes at once (R501, R502): MODE with the mode left as PREV, MODE_CHANGED, and BELAY left in
BELAY_STAT. -/
theorem Dev.goMode_atOnce (hd : d.safe.deviceDue = false) (h : d.GoesAtOnce t) :
    (d.goMode t).mode = (if t = 5 ∧ d.rd .pwr 0 Off.PWR_DEGRADE ≠ 0 then 6 else t) ∧ (d.goMode t).fld .pwr 0 Off.PWR_MODE 4 4 = d.mode ∧
      (d.goMode t).bit .pwr 0 Off.PAGE_STAT 8 = true ∧ (d.mode = 8 → (d.goMode t).bit .safe 0 Off.SAFE_BELAY_STAT 16 = false) ∧
      (d.mode ≠ 8 → (d.goMode t).safe = d.safe ∧ (d.goMode t).rd .safe 0 Off.SAFE_BELAY_STAT = d.rd .safe 0 Off.SAFE_BELAY_STAT) ∧
      ({ d with safe := (d.goMode t).safe, board := (d.goMode t).board, runSince := (d.goMode t).runSince } : Dev).Touches (d.goMode t)
        [(.pwr, 0, Off.PWR_MODE), (.pwr, 0, Off.PAGE_STAT), (.safe, 0, Off.SAFE_BELAY_STAT)] [16] := by
  obtain ⟨h4, -, -, -, ht⟩ := h.bounds
  have hp : d.core.powerHold = false := Dev.hold_of_mode (by omega)
  have he : d.entered t = if t = 5 ∧ d.rd .pwr 0 Off.PWR_DEGRADE ≠ 0 then 6 else t := by
    unfold Dev.entered
    by_cases hg : d.rd .pwr 0 Off.PWR_DEGRADE = 0 <;> rcases ht with rfl | rfl | rfl <;> simp [hg]
  have hlt : d.entered t < 16 := by rw [he]; split <;> omega
  rw [← he]
  by_cases hm : d.mode = 8
  · rw [Dev.goMode_of_belay hm hd]
    have hb := Dev.mode_belayModeLeft d
    refine ⟨Dev.mode_putMode (Dev.hold_of_mode (by omega)) hlt, (Dev.fld_putMode hlt).2.1.trans hb, Dev.bit_putMode _ _, fun _ => ?_, fun hne => absurd hm hne, ?_⟩
    · rw [Dev.bit_core, ← Dev.rd_core, Dev.rd_putMode_ne _ _ (by decide) (by decide) (by decide) (by decide)]
      exact d.bit_belayModeLeft
    · rw [Dev.safe_putMode]
      exact ((Dev.Touches.belayModeLeft d _ _).mono (by simp) (by simp)).trans
        ((Dev.Touches.putMode d.belayModeLeft (d.entered t)).mono (by simp) (by simp))
  · rw [Dev.goMode_of_ne hm hd]
    refine ⟨Dev.mode_putMode hp hlt, (Dev.fld_putMode hlt).2.1, Dev.bit_putMode _ _, fun h8 => absurd h8 hm,
      fun _ => ⟨Dev.safe_putMode _ _, Dev.rd_putMode_ne _ _ (by decide) (by decide) (by decide) (by decide)⟩, ?_⟩
    rw [Dev.safe_putMode]
    exact (Dev.Touches.putMode d (d.entered t)).mono (by simp) (by simp)

/-- Step 2 of an entry changes whether it has ended, and nothing else. -/
theorem Dev.moveStep_eq (d : Dev) : d.moveStep = d.onPower fun y => { y with stopping := d.moveStep.power.stopping } := by
  unfold Dev.moveStep
  split
  · split <;> rfl
  · rfl

theorem Dev.move_moveStep (d : Dev) : d.moveStep.power.move = d.power.move := by rw [Dev.moveStep_eq]; rfl
theorem Dev.core_moveStep (d : Dev) : d.moveStep.core = d.core := by rw [Dev.moveStep_eq]; rfl

/-- An entry begins: step 2 ends at once where nothing runs (R511, R512). -/
theorem Dev.startEntry (d : Dev) (b : Bool) (t : Nat) : (d.setMove (some (.entry b)) t).moveStep =
    ({ d with power := { d.power with move := some (.entry b), stopping := d.workDone, stopped := [], parked := [] } } : Dev).wrN
      .pwr 0 Off.PWR_MODE_STAT (1 + 16 * t) := by
  have hw : (d.setMove (some (.entry b)) t).workDone = d.workDone := rfl
  unfold Dev.moveStep
  simp only [show (d.setMove (some (.entry b)) t).power.move = some (.entry b) from rfl, hw]
  cases h : d.workDone <;> rfl

/-- The exit from BIVOUAC changes clocks and self-refresh beside the transition it notes. -/
theorem Dev.keepsCads_startWake (d : Dev) (t : Nat) : (d.setMove (some (.wake t)) t).KeepsCads (d.startWake t) := by
  have h := Dev.KeepsCads.refl (d.setMove (some (.wake t)) t)
  unfold Dev.startWake
  dsimp only
  split
  · unfold Dev.srLeave
    exact (h.setF (by unfold Page.Apart; decide)).unpark (by decide)
  · exact h.unpark (by decide)

theorem Dev.fld_unpark_sr (d : Dev) : (d.unpark 8).fld .mcg 0 Off.MCG_SR_STAT 0 2 = d.fld .mcg 0 Off.MCG_SR_STAT 0 2 := by
  unfold Dev.unpark
  split
  · rfl
  · rw [Dev.fld_core, Dev.fld_core, ← Dev.rd_core, ← Dev.rd_core, Dev.rd_setPll]
    unfold Dev.setPllState
    rw [Dev.rd_setF_ne (by decide) (by decide) (by decide) (by decide) (by decide)]

/-- The exit from BIVOUAC takes DDR5 out of self-refresh (R359, R514). -/
theorem Dev.sr_startWake (h : d.fld .mcg 0 Off.MCG_SR_STAT 0 2 = 2) : (d.startWake t).fld .mcg 0 Off.MCG_SR_STAT 0 2 = 3 := by
  have h1 : (d.setMove (some (.wake t)) t).rd .mcg 0 Off.MCG_SR_STAT = d.rd .mcg 0 Off.MCG_SR_STAT :=
    Dev.rd_wrN_ne (d := d) (by decide) (by decide) (by decide) (by decide) (by decide)
  have h2 : (d.setMove (some (.wake t)) t).fld .mcg 0 Off.MCG_SR_STAT 0 2 = 2 := (congrArg (bitsOf · 0 2) h1).trans h
  unfold Dev.startWake
  dsimp only
  rw [if_pos h2]
  unfold Dev.srLeave
  rw [Dev.fld_unpark_sr]
  exact Dev.fld_setF_same (by decide)

theorem Dev.hold_setF (d : Dev) (p : Page) (n off lo len v : Nat) : (d.setF p n off lo len v).core.powerHold = d.core.powerHold := rfl
theorem Dev.hold_wrN (d : Dev) (p : Page) (n off v : Nat) : (d.wrN p n off v).core.powerHold = d.core.powerHold := rfl
theorem Dev.hold_setMove (d : Dev) (y : Option Move) (t : Nat) : (d.setMove y t).core.powerHold = d.core.powerHold := rfl
theorem Dev.move_setMove (d : Dev) (y : Option Move) (t : Nat) : (d.setMove y t).power.move = y := rfl

theorem Dev.mem_setMove (d : Dev) (y : Option Move) (t : Nat) : (d.setMove y t).mem = d.mem := rfl
theorem Dev.fm_setMove (d : Dev) (y : Option Move) (t : Nat) : (d.setMove y t).fm = d.fm := rfl
theorem Dev.safe_setMove (d : Dev) (y : Option Move) (t : Nat) : (d.setMove y t).safe = d.safe := rfl
theorem Dev.cads_setMove (d : Dev) (y : Option Move) (t : Nat) : (d.setMove y t).cads = d.cads := rfl
theorem Dev.fw_setMove (d : Dev) (y : Option Move) (t : Nat) : (d.setMove y t).fw = d.fw := rfl

theorem Dev.rd_setMove_ne {y : Option Move} {o : Nat} (ho : o < 4096) (h : o ≠ Off.PWR_MODE_STAT) :
    (d.setMove y t).rd .pwr 0 o = d.rd .pwr 0 o := by
  unfold Dev.setMove
  rw [Dev.rd_onPower, Dev.rd_wrN_ne (by decide) (by decide) (by decide) ho (by simp [h])]

theorem Dev.mode_setMove (d : Dev) (y : Option Move) (t : Nat) : (d.setMove y t).mode = d.mode :=
  Dev.mode_wr_ne (d := d) (p := .pwr) (n := 0) (off := Off.PWR_MODE_STAT) (by decide) (by decide) (by decide)

theorem Dev.startWake_noted (d : Dev) (t : Nat) : (d.startWake t).power.move = some (.wake t) ∧
    (d.startWake t).rd .pwr 0 Off.PWR_MODE_STAT = BitVec.ofNat 32 (1 + 16 * t) ∧ (d.startWake t).mode = d.mode ∧
    d.SameBytes (d.startWake t) := by
  have h := (Dev.keepsCads_startWake d t).toKeepsModes
  refine ⟨congrArg Power.move h.power, (h.regs _ _ (.inl rfl) (by decide)).trans ?_, h.mode.trans (d.mode_setMove _ _), h.sameBytes⟩
  exact Dev.rd_wrN_same (d := d)

/-! What a request that is taken does -/

theorem Dev.modeReq_atOnce (ht : t ∈ requestable) (hs : d.moving = false) (h : d.GoesAtOnce t) : d.modeReq r t = d.goMode t := by
  obtain ⟨-, -, h9, -, h3⟩ := h.bounds
  rw [Dev.modeReq_taken (Dev.modeAnswer_atOnce ht hs h), if_neg h9, if_neg (by omega)]

theorem Dev.modeReq_entry (ht : t ∈ requestable) (hs : d.moving = false) (h : (d.mode, t) ∈ entries) (hb : d.entryBarred = false) :
    d.modeReq r t = (d.setMove (some (.entry (t == 11))) t).moveStep := by
  have ha := Dev.modeAnswer_entry ht hs h
  rw [hb, if_neg (by decide)] at ha
  simp only [entries, List.mem_cons, Prod.mk.injEq, List.not_mem_nil, or_false] at h
  rw [Dev.modeReq_taken ha, if_neg (by omega), if_pos (by omega)]

theorem Dev.modeReq_wake (h9 : d.mode = 9) (ht : t ∈ requestable) (hs : d.moving = false) (h : (d.mode, t) ∈ [(9, 4), (9, 5), (9, 11)]) :
    d.modeReq r t = d.startWake t := by
  rw [Dev.modeReq_taken (Dev.modeAnswer_wake ht hs h), if_pos h9]

end

/-! The ends of the transitions -/

section
variable {d : Dev} {t : Nat}

/-- Steps 5 to 7 of an entry, in the state that the steps before leave (R512): the generators stop, the Rope ports sleep, and the loops and
memories with them. -/
def Dev.asleep (d : Dev) : Dev := ((d.stopCadences.ropeSleep).parkPorts).memorySleep

theorem Dev.keepsCads_asleep (d : Dev) : d.stopCadences.KeepsCads d.asleep :=
  (((Dev.KeepsCads.refl d.stopCadences).ropeSleep).parkPorts).memorySleep

theorem Dev.going_of_cads {d e : Dev} (h : e.cads = d.stopCadences.cads) (k : Fin 4) : (e.cad k.val).going = false := by
  rw [← d.going_stopCadences k]
  unfold Dev.cad
  rw [h]

theorem Dev.keepsModes_asleep (d : Dev) : d.KeepsModes d.asleep := Dev.keepsModes_stopCadences.trans d.keepsCads_asleep.toKeepsModes

/-- Step 7 of an entry into BIVOUAC, before MODE changes: the transition is over, the wake causes are noted, and the entry is counted
(R512). -/
def Dev.sleepNoted (d : Dev) (wake : Nat) : Dev :=
  let d2 := (d.asleep.setMove none 0).onPower fun x => { x with biv := d.asleep.now, wakeDue := false }
  (d2.wrN .intc 0 Off.INTC_WAKE_STAT wake).setF .pwr 0 Off.PWR_BIV_STAT 0 16 (d2.fld .pwr 0 Off.PWR_BIV_STAT 0 16 + 1)

theorem Dev.mode_sleepNoted (d : Dev) (wake : Nat) : (d.sleepNoted wake).mode = d.mode := by
  unfold Dev.sleepNoted
  dsimp only
  rw [Dev.mode_setF_ne (by decide) (by decide) (by decide), Dev.mode_wrN_ne (by decide) (by decide) (by decide), Dev.mode_onPower,
    Dev.mode_setMove, d.keepsModes_asleep.mode]

theorem Dev.biv_sleepNoted (d : Dev) (wake : Nat) :
    (d.sleepNoted wake).fld .pwr 0 Off.PWR_BIV_STAT 0 16 = (d.fld .pwr 0 Off.PWR_BIV_STAT 0 16 + 1) % 65536 := by
  unfold Dev.sleepNoted
  dsimp only
  have hf : ∀ f, ((d.asleep.setMove none 0).onPower f).fld .pwr 0 Off.PWR_BIV_STAT 0 16 = d.fld .pwr 0 Off.PWR_BIV_STAT 0 16 := fun f => by
    rw [Dev.fld_core, Dev.fld_core, ← Dev.rd_core, ← Dev.rd_core, Dev.rd_onPower, Dev.rd_setMove_ne (by decide) (by decide),
      d.keepsModes_asleep.regs _ _ (.inl rfl) (by decide)]
  rw [Dev.fld_setF_same (by decide)]
  exact congrArg (fun k => (k + 1) % 65536) (hf _)

theorem Dev.hold_sleepNoted (d : Dev) (wake : Nat) : (d.sleepNoted wake).core.powerHold = d.core.powerHold := by
  unfold Dev.sleepNoted
  dsimp only
  rw [Dev.hold_setF, Dev.hold_wrN, Dev.onPower_core, Dev.hold_setMove, d.keepsModes_asleep.hold]

theorem Dev.move_sleepNoted (d : Dev) (wake : Nat) : (d.sleepNoted wake).power.move = none := by
  unfold Dev.sleepNoted
  dsimp only
  rw [Dev.setF_power, Dev.wrN_power, Dev.onPower_power]
  exact Dev.move_setMove d.asleep none 0

theorem Dev.cads_sleepNoted (d : Dev) (wake : Nat) : (d.sleepNoted wake).cads = d.stopCadences.cads := by
  unfold Dev.sleepNoted
  dsimp only
  rw [Dev.setF_cads, Dev.wrN_cads, Dev.onPower_cads, Dev.cads_setMove, d.keepsCads_asleep.cads]

theorem Dev.sameBytes_sleepNoted (d : Dev) (wake : Nat) : d.SameBytes (d.sleepNoted wake) := fun a => by
  unfold Dev.sleepNoted
  dsimp only
  rw [Dev.setF_mem, Dev.wrN_mem, Dev.onPower_mem, Dev.setF_fm, Dev.wrN_fm, Dev.onPower_fm, Dev.mem_setMove,
    Dev.fm_setMove, d.keepsModes_asleep.mem, d.keepsModes_asleep.fm]
  exact ⟨rfl, rfl⟩

theorem Dev.SameBytes.trans {d e x : Dev} (h : d.SameBytes e) (h' : e.SameBytes x) : d.SameBytes x := fun a =>
  ⟨(h' a).1.trans (h a).1, (h' a).2.trans (h a).2⟩

/-- What holds of a device in BIVOUAC that has entered it from `d` (R502, R512). -/
structure Dev.EnteredBivouac (d e : Dev) : Prop where
  mode : e.mode = 9
  back : e.returnMode = d.mode
  count : e.fld .pwr 0 Off.PWR_BIV_STAT 0 16 = (d.fld .pwr 0 Off.PWR_BIV_STAT 0 16 + 1) % 65536
  cads : e.cads = d.stopCadences.cads
  bytes : d.SameBytes e

theorem Dev.enteredBivouac (hp : d.core.powerHold = false) (wake : Nat) : d.EnteredBivouac ((d.sleepNoted wake).setMode 9) := by
  rw [Dev.setMode_eq_putMode (.inr (by decide))]
  refine ⟨Dev.mode_putMode ((d.hold_sleepNoted wake).trans hp) (by decide), ?_, ?_, (Dev.cads_putMode _ _).trans (d.cads_sleepNoted wake),
    (d.sameBytes_sleepNoted wake).trans (Dev.sameBytes_putMode _ _)⟩
  · rw [(Dev.fld_putMode (by decide)).2.2, if_pos (by decide), Dev.mode_sleepNoted]
  · rw [Dev.fld_core, ← Dev.rd_core, Dev.rd_putMode_ne _ _ (by decide) (by decide) (by decide) (by decide)]
    exact d.biv_sleepNoted wake

/-- A wake at once leaves a device in BIVOUAC, its return begun (R515). -/
theorem Dev.EnteredBivouac.startWake {e : Dev} (h : d.EnteredBivouac e) (t : Nat) : d.EnteredBivouac (e.startWake t) := by
  have hk := Dev.keepsCads_startWake e t
  obtain ⟨-, -, hmode, hbytes⟩ := e.startWake_noted t
  have hr : ∀ o, o < 4096 → o ≠ Off.PWR_MODE_STAT → (e.startWake t).rd .pwr 0 o = e.rd .pwr 0 o :=
    fun o ho hne => (hk.regs .pwr o (.inl rfl) ho).trans (Dev.rd_setMove_ne ho hne)
  refine ⟨hmode.trans h.mode, ?_, ?_, hk.cads.trans h.cads, h.bytes.trans hbytes⟩
  · rw [← h.back]
    exact congrArg (bitsOf · 8 4) (hr Off.PWR_MODE (by decide) (by decide))
  · rw [← h.count]
    exact congrArg (bitsOf · 0 16) (hr Off.PWR_BIV_STAT (by decide) (by decide))

/-- BIVOUAC_ENTERED once the entry has ended: a wake cause that came meanwhile, or is true now, wakes at once (R512, R515). -/
theorem Dev.bivouacEntered_done (hm : d.power.move = some (.entry false)) (he : d.moveStep.entryDone = true) :
    ∃ wake, d.bivouacEntered =
      if d.power.wakeDue = true ∨ d.gpioWake ≠ 0 then
        ((d.moveStep.sleepNoted wake).setMode 9).startWake ((d.moveStep.sleepNoted wake).setMode 9).returnMode
      else (d.moveStep.sleepNoted wake).setMode 9 := by
  have hg : d.moveStep.gpioWake = d.gpioWake := by rw [Dev.moveStep_eq]; rfl
  have hw : d.moveStep.power.wakeDue = d.power.wakeDue := by rw [Dev.moveStep_eq]; rfl
  refine ⟨(if d.power.wakeDue then (d.moveStep.rd .intc 0 Off.INTC_WAKE_STAT).toNat else 0) ||| d.gpioWake, ?_⟩
  unfold Dev.bivouacEntered
  dsimp only
  rw [if_neg (by rw [Dev.move_moveStep, hm, he]; simp), hg, hw]
  by_cases h : d.power.wakeDue = true ∨ d.gpioWake ≠ 0
  · rw [if_pos h, if_pos (by simpa using h)]
    rfl
  · rw [if_neg h, if_neg (by simpa using h)]
    rfl

/-- Step 2 of an entry changes nothing that the entry into BIVOUAC is measured by. -/
theorem Dev.enteredBivouac_moveStep {e : Dev} (h : d.moveStep.EnteredBivouac e) : d.EnteredBivouac e := by
  rw [Dev.moveStep_eq] at h
  exact ⟨h.mode, h.back, h.count, h.cads, h.bytes⟩

theorem Dev.bivouacEntered_spec (hp : d.core.powerHold = false) (hm : d.power.move = some (.entry false))
    (he : d.moveStep.entryDone = true) : d.EnteredBivouac d.bivouacEntered ∧
      d.bivouacEntered.power.move = if d.power.wakeDue = true ∨ d.gpioWake ≠ 0 then some (.wake d.mode) else none := by
  obtain ⟨wake, hw⟩ := Dev.bivouacEntered_done hm he
  have hb : d.EnteredBivouac ((d.moveStep.sleepNoted wake).setMode 9) :=
    Dev.enteredBivouac_moveStep (Dev.enteredBivouac ((congrArg Core.powerHold d.core_moveStep).trans hp) wake)
  rw [hw]
  split
  · refine ⟨hb.startWake _, ?_⟩
    rw [hb.back]
    exact (Dev.startWake_noted _ _).1
  · refine ⟨hb, ?_⟩
    rw [Dev.setMode_eq_putMode (.inr (by decide)), Dev.power_putMode]
    exact Dev.move_sleepNoted _ wake

/-- An entry that is not under way, or has not ended, ends in no mode (R512, R516). -/
theorem Dev.bivouacEntered_early (h : d.power.move ≠ some (.entry false) ∨ d.moveStep.entryDone = false) : d.bivouacEntered = d := by
  unfold Dev.bivouacEntered
  dsimp only
  rw [if_pos (by rw [Dev.move_moveStep]; simpa using h)]

theorem Dev.shutdownReady_early (f : Bool) (h : d.power.move ≠ some (.entry true) ∨ d.moveStep.entryDone = false) : d.shutdownReady f = d := by
  unfold Dev.shutdownReady
  dsimp only
  rw [if_pos (by rw [Dev.move_moveStep]; simpa using h)]

theorem Dev.bivouacReturn_idle (h : ∀ y, d.power.move ≠ some (.wake y)) : d.bivouacReturn = d := by
  unfold Dev.bivouacReturn
  split
  · exact absurd ‹_› (h _)
  · rfl

/-! The return from BIVOUAC (R514) -/

/-- Step 5 of a return: the stay is counted. -/
def Dev.returnNoted (d : Dev) : Dev :=
  ((d.setMove none 0).setF .pwr 0 Off.PWR_BIV_STAT 16 16 (min 0xFFFF ((d.now - d.power.biv) / 1000000000))).onFw fun x =>
    { x with slept := x.slept + (d.now - d.power.biv) }

/-- Step 6 of a return: the Rope ports, the generators and the ports start again. -/
def Dev.awake (d : Dev) : Dev := (List.range 8).foldl Dev.wakePort d.returnNoted.ropeWake.wakeCadences

theorem Dev.keepsModes_awake (d : Dev) : d.returnNoted.KeepsModes d.awake := by
  have h1 := (Dev.KeepsCads.refl d.returnNoted).ropeWake.toKeepsModes.trans Dev.keepsModes_wakeCadences
  exact h1.trans (List.foldlRecOn _ _ (Dev.KeepsCads.refl _) fun x hx p hp => hx.wakePort (List.mem_range.1 hp)).toKeepsModes

theorem Dev.degrade_returnNoted (d : Dev) : d.returnNoted.rd .pwr 0 Off.PWR_DEGRADE = d.rd .pwr 0 Off.PWR_DEGRADE := by
  unfold Dev.returnNoted
  rw [Dev.rd_onFw, Dev.rd_setF_ne (by decide) (by decide) (by decide) (by decide) (by decide), Dev.rd_setMove_ne (by decide) (by decide)]

theorem Dev.mode_returnNoted (d : Dev) : d.returnNoted.mode = d.mode := by
  unfold Dev.returnNoted
  rw [Dev.mode_onFw, Dev.mode_setF_ne (by decide) (by decide) (by decide), Dev.mode_setMove]

theorem Dev.blocks_returnNoted (d : Dev) : d.returnNoted.power.move = none ∧ d.returnNoted.safe = d.safe ∧ d.returnNoted.mem = d.mem ∧
    d.returnNoted.fm = d.fm := by
  unfold Dev.returnNoted
  rw [Dev.onFw_power, Dev.setF_power, Dev.onFw_safe, Dev.setF_safe, Dev.onFw_mem, Dev.setF_mem, Dev.onFw_fm, Dev.setF_fm, Dev.mem_setMove,
    Dev.fm_setMove, Dev.safe_setMove]
  exact ⟨Dev.move_setMove _ _ _, rfl, rfl, rfl⟩

theorem Dev.mode_awake (d : Dev) : d.awake.mode = d.mode := d.keepsModes_awake.mode.trans d.mode_returnNoted

theorem Dev.move_awake (d : Dev) : d.awake.power.move = none := by rw [d.keepsModes_awake.power, d.blocks_returnNoted.1]

theorem Dev.safe_awake (d : Dev) : d.awake.safe = d.safe := d.keepsModes_awake.safe.trans d.blocks_returnNoted.2.1

theorem Dev.sameBytes_awake (d : Dev) : d.SameBytes d.awake := fun a => by
  obtain ⟨-, -, hmem, hfm⟩ := d.blocks_returnNoted
  rw [d.keepsModes_awake.mem, d.keepsModes_awake.fm, hmem, hfm]
  exact ⟨rfl, rfl⟩

theorem Dev.degrade_awake (d : Dev) : d.awake.rd .pwr 0 Off.PWR_DEGRADE = d.rd .pwr 0 Off.PWR_DEGRADE :=
  (d.keepsModes_awake.regs _ _ (.inl rfl) (by decide)).trans d.degrade_returnNoted

/-- A DEVICE fault that was latched meanwhile takes the destination's place (R515). -/
theorem Dev.wakeMode_due (hp : d.core.powerHold = false) (hd : d.safe.deviceDue = true) : (d.wakeMode t).mode = 8 ∧ d.SameBytes (d.wakeMode t) := by
  unfold Dev.wakeMode
  rw [if_pos hd]
  dsimp only
  generalize hy : (d.onSafe fun x => { x with deviceDue := false }) = y
  have hyp : y.core.powerHold = false := by rw [← hy]; exact hp
  have hyb : d.SameBytes y := by rw [← hy]; exact fun _ => ⟨rfl, rfl⟩
  refine ⟨?_, hyb.trans (Dev.sameBytes_putMode y 8)⟩
  have h8 : ((y.putMode 8).setF .pwr 0 Off.PWR_MODE 8 4 d.returnMode).core.powerHold = false := (y.hold_putMode 8).trans hyp
  rw [Dev.mode_eq_fld h8, Dev.fld_core, ← Dev.rd_core, Dev.rd_setF_same, bitsOf_putBits_below (by decide) (by decide)]
  exact (Dev.fld_putMode (by decide)).1

theorem Dev.wakeMode_free (hm : d.mode = 9) (hd : d.safe.deviceDue = false) : d.wakeMode t = d.putMode (d.entered t) := by
  unfold Dev.wakeMode
  rw [if_neg (by simp [hd]), Dev.goMode_of_ne (by omega) hd]

/-- BIVOUAC_RETURN_DONE: the destination is entered, WAKE is told where causes are noted, and SHUTDOWN begins its entry (R500, R514). -/
theorem Dev.bivouacReturn_eq (h : d.power.move = some (.wake t)) :
    ∃ e : Dev, (d.awake.wakeMode (if t = 11 then d.returnMode else t)).KeepsCads e ∧
      d.bivouacReturn = if t = 11 then e.setMove (some (.entry true)) 11 else e := by
  generalize hy : d.awake.wakeMode (if t = 11 then d.returnMode else t) = y
  refine ⟨if d.rd .intc 0 Off.INTC_WAKE_STAT ≠ 0 then y.flag .intc 0 8 else y, ?_, ?_⟩
  · split
    · exact (Dev.KeepsCads.refl y).flag ⟨by decide, by decide, by decide, by decide⟩
    · exact .refl y
  · unfold Dev.bivouacReturn
    rw [h, ← hy]
    rfl

theorem Dev.sameBytes_wakeMode (hm : d.mode = 9) : d.SameBytes (d.wakeMode t) := by
  cases hd : d.safe.deviceDue with
  | true => exact (Dev.wakeMode_due (Dev.hold_of_mode (by omega)) hd).2
  | false =>
    rw [Dev.wakeMode_free hm hd]
    exact Dev.sameBytes_putMode _ _

/-- What the end of a return leaves (R500, R514, R515). -/
theorem Dev.bivouacReturn_spec (hm : d.mode = 9) (h : d.power.move = some (.wake t)) : d.SameBytes d.bivouacReturn ∧
    (d.safe.deviceDue = true → d.bivouacReturn.mode = 8) ∧
    (d.safe.deviceDue = false → t ∈ [4, 5, 6, 10] → d.bivouacReturn.power.move = none ∧ d.bivouacReturn.mode = d.entered t) ∧
    (t = 11 → d.bivouacReturn.power.move = some (.entry true)) := by
  obtain ⟨e, hk, he⟩ := Dev.bivouacReturn_eq h
  have ha : d.awake.mode = 9 := d.mode_awake.trans hm
  have hbytes : d.SameBytes e := (d.sameBytes_awake.trans (Dev.sameBytes_wakeMode ha)).trans hk.sameBytes
  have hmode : d.bivouacReturn.mode = e.mode := by
    rw [he]
    split
    · exact Dev.mode_setMove _ _ _
    · rfl
  refine ⟨?_, fun hd => ?_, fun hd ht => ?_, fun ht => ?_⟩
  · rw [he]
    split <;> exact hbytes
  · rw [hmode, hk.mode]
    exact (Dev.wakeMode_due (Dev.hold_of_mode (by omega)) (d.safe_awake ▸ hd)).1
  · have h11 : t ≠ 11 := by rintro rfl; simp at ht
    have hent : d.awake.entered t = d.entered t := by unfold Dev.entered; rw [d.degrade_awake]
    have hlt : d.entered t < 16 := by
      simp only [List.mem_cons, List.not_mem_nil, or_false] at ht
      unfold Dev.entered
      split
      · split <;> decide
      · omega
    rw [if_neg h11, Dev.wakeMode_free ha (d.safe_awake ▸ hd), hent] at hk
    rw [hmode, hk.mode, he, if_neg h11, hk.power, Dev.power_putMode, d.move_awake]
    exact ⟨rfl, Dev.mode_putMode (Dev.hold_of_mode (by omega)) hlt⟩
  · rw [he, if_pos ht]
    rfl

/-! SHUTDOWN (R516) -/

theorem Dev.KeepsModes.trialOn {e : Dev} (h : d.KeepsModes e) : e.trialOn = d.trialOn := by
  have ht : e.trial = d.trial := congrArg (bitsOf · 1 3) (h.regs .fwm Off.FWM_FW_STAT (.inr rfl) (by decide))
  unfold Dev.trialOn
  rw [ht]

/-- Step 6 of SHUTDOWN out of a trial: changed settings are written (R516). -/
def Dev.settingsWritten (d : Dev) (changed flashOk : Bool) : Dev :=
  if !changed then d else if flashOk then d.putSettings d.saveBody else d.flashError

theorem Dev.keepsModes_settingsWritten (d : Dev) (changed flashOk : Bool) : d.KeepsModes (d.settingsWritten changed flashOk) := by
  unfold Dev.settingsWritten
  split
  · exact .refl d
  · split
    · unfold Dev.putSettings
      exact Dev.keepsModes_onFw.trans ((Dev.KeepsCads.refl _).flag ⟨by decide, by decide, by decide, by decide⟩).toKeepsModes
    · unfold Dev.flashError
      exact (((Dev.KeepsCads.refl d).inc ⟨by decide, by decide, by decide, by decide⟩).flag
        ⟨by decide, by decide, by decide, by decide⟩).toKeepsModes

/-- Steps 5 and 6 of SHUTDOWN leave what the modes rest on, and during a trial the boot flash (R516, R541). -/
theorem Dev.shutdownReady_done (f : Bool) (hm : d.power.move = some (.entry true)) (he : d.moveStep.entryDone = true) :
    ∃ e : Dev, d.moveStep.KeepsModes e ∧ (d.trialOn = true → e.fw = d.moveStep.fw) ∧ d.shutdownReady f = e.shutDown := by
  have hl : d.moveStep.KeepsCads d.moveStep.leaveTeam := (Dev.KeepsCads.refl _).leaveTeam
  have ht : d.moveStep.leaveTeam.trialOn = d.trialOn := by
    rw [hl.toKeepsModes.trialOn, Dev.moveStep_eq]
    rfl
  unfold Dev.shutdownReady
  dsimp only
  rw [if_neg (by rw [Dev.move_moveStep, hm, he]; simp), ht]
  cases d.trialOn with
  | true => exact ⟨_, hl.record.toKeepsModes, fun _ => hl.record.fw, rfl⟩
  | false =>
    exact ⟨_, hl.toKeepsModes.trans (Dev.keepsModes_settingsWritten _ _ f), fun hf => absurd hf (by decide), rfl⟩

/-- Steps 7 and 8: the generators stop, loops park, and memories sleep. -/
def Dev.stilled (d : Dev) : Dev := ((d.stopCadences.parkPorts).memorySleep).park 8

theorem Dev.keepsCads_stilled (d : Dev) : d.stopCadences.KeepsCads d.stilled :=
  (((Dev.KeepsCads.refl d.stopCadences).parkPorts).memorySleep).park (by decide)

theorem Dev.fw_stopCadences (d : Dev) : d.stopCadences.fw = d.fw :=
  List.foldlRecOn (motive := fun y : Dev => y.fw = d.fw) _ _ rfl fun _ hx _ _ => (Dev.setCad_fw _ _ _).trans hx

/-- The device reads SHUTDOWN, with SHUTDOWN_READY told (R516). -/
theorem Dev.shutDown_spec (hp : d.core.powerHold = false) : d.shutDown.mode = 11 ∧ d.shutDown.power.move = none ∧
    d.shutDown.bit .pwr 0 Off.PAGE_STAT 13 = true ∧ d.shutDown.fw = d.fw ∧ d.shutDown.cads = d.stopCadences.cads ∧ d.SameBytes d.shutDown := by
  have hk := d.keepsCads_stilled
  have hks : d.KeepsModes d.stilled := Dev.keepsModes_stopCadences.trans hk.toKeepsModes
  generalize hy : d.stilled.setMove none 0 = y
  have he : d.shutDown = (y.putMode 11).flag .pwr 0 13 := by
    rw [← Dev.setMode_eq_putMode (.inr (by decide)), ← hy]
    rfl
  have hyp : y.core.powerHold = false := by rw [← hy, Dev.hold_setMove, hks.hold, hp]
  have hmode : ((y.putMode 11).flag .pwr 0 13).mode = (y.putMode 11).mode :=
    Dev.mode_congr (Core.powerHold_of_rest (Core.rest_flag _ _ _ _ _ _ _ _ _))
      (Dev.rd_flag_ne (by decide) (by decide) (by decide) (by decide) (by decide))
  rw [he]
  refine ⟨hmode.trans (Dev.mode_putMode hyp (by decide)), ?_, Dev.bit_flag (by decide) (by decide) (by decide), ?_, ?_, ?_⟩
  · rw [Dev.flag_power, Dev.power_putMode, ← hy, Dev.move_setMove]
  · rw [Dev.flag_fw, Dev.fw_putMode, ← hy, Dev.fw_setMove, hk.fw, Dev.fw_stopCadences]
  · rw [Dev.flag_cads, Dev.cads_putMode, ← hy, Dev.cads_setMove, hk.cads]
  · intro a
    obtain ⟨hmem, hfm⟩ := Dev.sameBytes_putMode y 11 a
    rw [Dev.flag_mem, Dev.flag_fm, hmem, hfm, ← hy, Dev.mem_setMove, Dev.fm_setMove, hks.mem, hks.fm]
    exact ⟨rfl, rfl⟩

/-- What SHUTDOWN_READY leaves, its entry over (R516, R541). -/
theorem Dev.shutdownReady_spec (f : Bool) (hp : d.core.powerHold = false) (hm : d.power.move = some (.entry true))
    (he : d.moveStep.entryDone = true) : (d.shutdownReady f).mode = 11 ∧ (d.shutdownReady f).power.move = none ∧
      (d.shutdownReady f).bit .pwr 0 Off.PAGE_STAT 13 = true ∧
      (d.trialOn = true → (d.shutdownReady f).fw.setA = d.fw.setA ∧ (d.shutdownReady f).fw.setB = d.fw.setB) ∧
      (∀ k : Fin 4, ((d.shutdownReady f).cad k.val).going = false) ∧ d.SameBytes (d.shutdownReady f) := by
  obtain ⟨e, hk, hfw, heq⟩ := Dev.shutdownReady_done f hm he
  have hfw0 : d.moveStep.fw = d.fw := by rw [Dev.moveStep_eq, Dev.onPower_fw]
  have hb0 : d.SameBytes d.moveStep := by rw [Dev.moveStep_eq]; exact fun _ => ⟨rfl, rfl⟩
  have hpe : e.core.powerHold = false := by rw [hk.hold, Dev.core_moveStep, hp]
  obtain ⟨hmode, hmove, hbit, hfwe, hcads, hbytes⟩ := Dev.shutDown_spec hpe
  rw [heq]
  refine ⟨hmode, hmove, hbit, fun ht => ?_, Dev.going_of_cads hcads, (hb0.trans hk.sameBytes).trans hbytes⟩
  rw [hfwe, hfw ht, hfw0]
  exact ⟨rfl, rfl⟩

end

/-- A state whose device is as it was is the state. -/
theorem State.on_same {s : State} {f : Dev → Dev} (h : f s.dev = s.dev) : s.on f = s := by
  unfold State.on
  rw [h]

/-- Settles O55: a request by the answer that R500 and R511 give it (`Dev.modeAnswer_still` and the lemmas after it), and the end of a
transition by what its last steps leave of the state that the modes rest on (`Dev.KeepsModes`). -/
theorem modeRequests : Obligations.ModeRequests := by
  unfold Obligations.ModeRequests
  intro s r c t m
  refine ⟨?requests, ?noBivouac, ?noReturn, ?noShutdown, ?bivouac, ?returned, ?shutdown⟩
  case requests =>
    rintro x rfl harr hc
    have ht : t ∈ requestable := requestable_of_mem hc
    rw [exec_modeRequest hc harr]
    refine ⟨fun hx e he => ⟨_, rfl, ?_⟩, fun hs h => ?_, fun hs hd h => ⟨_, rfl, ?_⟩, fun hs h hb => ⟨_, rfl, ?_⟩, fun hs h => ⟨_, rfl, ?_⟩⟩
    · have ha : s.dev.modeAnswer t = .error e := by
        subst he
        rcases hx with ⟨hbusy, he⟩ | ⟨hs, ⟨h | h | h, he⟩ | ⟨h, hf, he⟩ | ⟨h, hf, he⟩ | ⟨h, hf, he⟩⟩ <;> obtain rfl := Option.some.inj he
        · exact Dev.modeAnswer_busy ht hbusy
        · exact Dev.modeAnswer_outside ht hs (.inl h)
        · exact Dev.modeAnswer_outside ht hs (.inr h)
        · exact Dev.modeAnswer_barred ht hs h
        · exact Dev.modeAnswer_memoryFailed ht hs h hf
        · exact Dev.modeAnswer_faulted ht hs h hf
        · rw [Dev.modeAnswer_entry ht hs h, if_pos hf]
      rw [State.on_dev, Dev.modeReq_error ha]
      exact s.dev.pwrReject_told r e
    · rw [State.on_same (Dev.modeReq_present (Dev.modeAnswer_present ht hs h))]
    · rw [State.on_dev, Dev.modeReq_atOnce ht hs h]
      exact Dev.goMode_atOnce hd h
    · rw [State.on_dev, Dev.modeReq_entry ht hs h hb, Dev.startEntry]
      exact ⟨rfl, Dev.rd_wrN_same, (Dev.Touches.refl _ _ _).wrN (by decide) (by decide) (by simp)⟩
    · have h9 : s.dev.mode = 9 := by
        simp only [List.mem_cons, Prod.mk.injEq, List.not_mem_nil, or_false] at h
        omega
      rw [State.on_dev, Dev.modeReq_wake h9 ht hs h]
      obtain ⟨hmove, hstat, hmode, hbytes⟩ := s.dev.startWake_noted t
      exact ⟨hmove, hstat, hmode.trans h9, Dev.sr_startWake, hbytes⟩
  case noBivouac => exact fun h => congrArg Outcome.next (State.on_same (Dev.bivouacEntered_early h))
  case noReturn => exact fun h => congrArg Outcome.next (State.on_same (Dev.bivouacReturn_idle h))
  case noShutdown => exact fun f h => congrArg Outcome.next (State.on_same (Dev.shutdownReady_early f h))
  case bivouac =>
    intro hp hm he
    obtain ⟨h, hmove⟩ := Dev.bivouacEntered_spec hp hm he
    exact ⟨_, rfl, h.mode, h.back, h.count, hmove, Dev.going_of_cads h.cads, h.bytes⟩
  case returned =>
    intro x hm hx
    obtain ⟨hbytes, hdue, hfree, hdown⟩ := Dev.bivouacReturn_spec hm hx
    exact ⟨_, rfl, hbytes, hdue, hfree, hdown⟩
  case shutdown =>
    intro f hp hm he
    exact ⟨_, rfl, Dev.shutdownReady_spec f hp hm he⟩
end Sys2Proof.Machine
end

section
/-! SUPPORT. Status registers with sequence (R54): what a set flag and a clear make of the word, which registers are of this kind, and what
they read at reset. -/

namespace Sys2Proof.Machine

/-! The word -/

theorem flags_sqSet_lt (w : Word) (flags : Nat) : bitsOf w 0 24 ||| flags % 2 ^ 24 < 2 ^ 24 :=
  Nat.or_lt_two_pow (Nat.mod_lt _ (by decide)) (Nat.mod_lt _ (by decide))

/-- After flags are set, the word is the advanced sequence above the flags. -/
theorem toNat_sqSet (w : Word) (flags : Nat) :
    (sqSet w flags).toNat = 2 ^ 24 * ((bitsOf w 24 8 + 1) % 256) + (bitsOf w 0 24 ||| flags % 2 ^ 24) := by
  have hlt := flags_sqSet_lt w flags
  rw [sqSet, BitVec.toNat_ofNat]
  omega

/-- A flag that is set advances the sequence, modulo 256 (R54). -/
theorem sequence_sqSet (w : Word) (flags : Nat) : bitsOf (sqSet w flags) 24 8 = (bitsOf w 24 8 + 1) % 256 := by
  have hlt := flags_sqSet_lt w flags
  rw [bitsOf, toNat_sqSet]
  omega

/-- The flags that are set join those that stand (R54). -/
theorem flag_sqSet (w : Word) (flags : Nat) {i : Nat} (hi : i < 24) : bitOf (sqSet w flags) i = (bitOf w i || flags.testBit i) := by
  have hw : (bitsOf w 0 24).testBit i = w.toNat.testBit i := by
    rw [bitsOf, Nat.pow_zero, Nat.div_one, Nat.testBit_mod_two_pow, decide_eq_true hi, Bool.true_and]
  rw [bitOf_eq, toNat_sqSet, Nat.testBit_two_pow_mul_add _ (flags_sqSet_lt w flags), if_pos hi, Nat.testBit_or, hw, Nat.testBit_mod_two_pow,
    decide_eq_true hi, Bool.true_and, bitOf_eq]

/-- Clearing flags keeps the sequence (R54). -/
theorem sequence_cleared (w v : Word) : bitsOf (w &&& ~~~ (v &&& 0xFFFFFF)) 24 8 = bitsOf w 24 8 := by
  have hshift : (w &&& ~~~ (v &&& 0xFFFFFF)) >>> 24 = w >>> 24 := by
    ext i hi
    have hmask : (0xFFFFFF#32).getLsbD (24 + i) = false := by
      rw [BitVec.getLsbD_ofNat, show (0xFFFFFF : Nat) = 2 ^ 24 - 1 from rfl, Nat.testBit_two_pow_sub_one]
      simp
    simp only [BitVec.ofNat_eq_ofNat, BitVec.getElem_ushiftRight, BitVec.getLsbD_and, BitVec.getLsbD_not, hmask,
      Bool.and_false, Bool.not_false, Bool.and_true]
    exact Bool.and_eq_left_iff_imp.2 fun hw => decide_eq_true (BitVec.lt_of_getLsbD hw)
  have h : ∀ x : Word, bitsOf x 24 8 = (x >>> 24).toNat % 2 ^ 8 := fun x => by
    rw [BitVec.toNat_ushiftRight, Nat.shiftRight_eq_div_pow, bitsOf]
  rw [h, h, hshift]

/-! A clear -/

section
variable {c : Core} {d : Dev} {p : Page} {n off : Nat} {v : Word} {x : RegDesc}

/-- A clear whose sequence matches clears the flags written as 1. -/
theorem Core.sqClear_current (h : bitsOf v 24 8 = bitsOf (c.rd p n off) 24 8) :
    c.sqClear p n off v = c.wr p n off (c.rd p n off &&& ~~~ (v &&& 0xFFFFFF)) := if_pos h.symm

/-- A clear of another sequence does nothing. -/
theorem Core.sqClear_stale (h : bitsOf v 24 8 ≠ bitsOf (c.rd p n off) 24 8) : c.sqClear p n off v = c := if_neg h.symm

theorem Core.srcs_sqClear (c : Core) (p : Page) (n off : Nat) (v : Word) : (c.sqClear p n off v).srcs = c.srcs := by
  unfold Core.sqClear
  dsimp only
  split <;> rfl

/-- A clear never changes the sequence. -/
theorem Core.sequence_sqClear (c : Core) (p : Page) (n off : Nat) (v : Word) :
    bitsOf ((c.sqClear p n off v).rd p n off) 24 8 = bitsOf (c.rd p n off) 24 8 := by
  by_cases h : bitsOf v 24 8 = bitsOf (c.rd p n off) 24 8
  · rw [Core.sqClear_current h, Core.rd_wr_same, sequence_cleared]
  · rw [Core.sqClear_stale h]

theorem Dev.Touches.sqClear {e : Dev} {l : List (Page × Nat × Nat)} {k : List Nat} (h : d.Touches e l k) (hn : n < p.count)
    (ho : off < 4096) (hc : (p, n, off) ∈ l) : d.Touches (e.onCore (·.sqClear p n off v)) l k := by
  by_cases hv : bitsOf v 24 8 = bitsOf (e.core.rd p n off) 24 8
  · rw [Dev.onCore, Core.sqClear_current hv]
    exact h.wr hn ho hc
  · rw [Dev.onCore, Core.sqClear_stale hv]
    exact h

/-- A write of a status register with sequence clears it; beside it the latched faults and the answered alert causes follow (R482, R575). -/
theorem Dev.clearStat_eq (d : Dev) (n : Nat) (v : Word) (hx : p.desc off = some x) (ha : x.access = .sq) :
    ∃ b f, d.clearStat p n off v = ({ d with board := b, safe := f } : Dev).onCore (·.sqClear p n off v) := by
  refine ⟨(d.clearStat p n off v).board, (d.clearStat p n off v).safe, ?_⟩
  obtain ⟨name, o, access, mask, reset, count, stride, count2, stride2, rom⟩ := x
  obtain rfl : access = .sq := ha
  unfold Dev.clearStat
  rw [hx]
  dsimp only
  split <;> rfl

theorem Dev.core_clearStat (hx : p.desc off = some x) (ha : x.access = .sq) :
    (d.clearStat p n off v).core = d.core.sqClear p n off v := by
  obtain ⟨b, f, h⟩ := Dev.clearStat_eq d n v hx ha
  rw [h, Dev.onCore_core]

/-- Beside the latched faults and the answered alert causes, a clear touches its register alone. -/
theorem Dev.touches_clearStat (hn : n < p.count) (ho : off < 4096) (hx : p.desc off = some x) (ha : x.access = .sq) :
    ({ d with board := (d.clearStat p n off v).board, safe := (d.clearStat p n off v).safe } : Dev).Touches (d.clearStat p n off v)
      [(p, n, off)] [] := by
  obtain ⟨b, f, h⟩ := Dev.clearStat_eq d n v hx ha
  rw [h]
  exact (Dev.Touches.refl ({ d with board := b, safe := f } : Dev) _ _).sqClear hn ho (.head _)

end

/-! The registers with access type SQ -/

theorem findDesc_mem {l : List RegDesc} {off : Nat} {x : RegDesc} (h : findDesc l off = some x) : x ∈ l ∧ x.covers off = true := by
  induction l with
  | nil => cases h
  | cons y l ih =>
    unfold findDesc at h
    split at h
    · cases h
      exact ⟨.head _, by assumption⟩
    · obtain ⟨hm, hc⟩ := ih h
      exact ⟨.tail _ hm, hc⟩

/-- The registers with access type SQ, by page and offset: PAGE_STAT of every page, LENG.BUF_STAT and SAFE.FAULT_STAT (R33, R79, R489). -/
abbrev Page.SqAt (p : Page) (off : Nat) : Prop :=
  off = Off.PAGE_STAT ∨ (p = .leng ∧ off = Off.LENG_BUF_STAT) ∨ (p = .safe ∧ off = Off.SAFE_FAULT_STAT)

theorem Page.SqAt.lt {p : Page} {off : Nat} (h : p.SqAt off) : off < 0x100 := by
  rcases h with rfl | ⟨-, rfl⟩ | ⟨-, rfl⟩ <;> decide

/-- A row of one register. -/
abbrev RegDesc.Single (x : RegDesc) : Prop := x.count = 1 ∧ x.count2 = 1 ∧ x.stride = 4 ∧ x.stride2 = 4

/-- A row of one register covers its own offset alone. -/
theorem RegDesc.Single.off_eq {x : RegDesc} {off : Nat} (h : x.Single) (hc : x.covers off = true) : off = x.off := by
  obtain ⟨h1, h2, h3, h4⟩ := h
  unfold RegDesc.covers at hc
  simp only [h1, h2, h3, h4, Bool.and_eq_true, decide_eq_true_eq] at hc
  omega

theorem sq_hdrRegs (p : Page) : ∀ x ∈ hdrRegs, x.access = .sq → x.Single ∧ p.SqAt x.off := by cases p <;> decide

theorem sq_regs (p : Page) : ∀ x ∈ p.regs, x.access = .sq → x.Single ∧ p.SqAt x.off := by cases p <;> decide

theorem Page.sqAt_of_findDesc {p : Page} {off : Nat} {x : RegDesc} {l : List RegDesc}
    (hl : ∀ y ∈ l, y.access = .sq → y.Single ∧ p.SqAt y.off) (h : findDesc l off = some x) (ha : x.access = .sq) : p.SqAt off := by
  obtain ⟨hm, hc⟩ := findDesc_mem h
  obtain ⟨hs, hat⟩ := hl x hm ha
  rw [hs.off_eq hc]
  exact hat

/-- The registers with access type SQ are those; the active mirror shows none of them. -/
theorem Page.sqAt_of_desc {p : Page} {off : Nat} {x : RegDesc} (h : p.desc off = some x) (ha : x.access = .sq) : p.SqAt off := by
  unfold Page.desc at h
  split at h
  · exact sqAt_of_findDesc (sq_hdrRegs p) h ha
  · split at h
    · split at h
      · have := (sqAt_of_findDesc (sq_regs p) h ha).lt
        omega
      · cases h
    · exact sqAt_of_findDesc (sq_regs p) h ha

theorem Page.reg_mod (p : Page) (n : Nat) {off : Nat} (h : off < 4096) : p.reg n off % 4096 = off := by
  obtain ⟨a, ha⟩ := p.base_dvd
  obtain ⟨b, hb⟩ := p.stride_dvd
  unfold Page.reg
  rw [ha, hb, Nat.mul_left_comm, ← Nat.mul_add, Nat.mul_add_mod, Nat.mod_eq_of_lt h]

/-- A register resets to what its row gives, below the active mirror. -/
theorem rd_reset_of_desc {p : Page} {n off : Nat} {x : RegDesc} (hn : n < p.count) (ho : off < 0x900) (hx : p.desc off = some x) :
    State.reset.dev.rd p n off = BitVec.ofNat 32 (resetAt p n off x) := by
  change resetOf (p.reg n off) = _
  unfold resetOf
  rw [p.reg_slot n (by omega), p.ofSlot_slot hn]
  simp only [p.reg_mod n (show off < 4096 by omega), hx]
  rw [if_neg (by omega)]

/-- Every status register with sequence resets to 0. -/
theorem rd_reset_of_sq {p : Page} {n off : Nat} {x : RegDesc} (hn : n < p.count) (hx : p.desc off = some x) (ha : x.access = .sq) :
    State.reset.dev.rd p n off = 0 := by
  have hat := Page.sqAt_of_desc hx ha
  rw [rd_reset_of_desc hn (Nat.lt_trans hat.lt (by decide)) hx]
  rcases hat with rfl | ⟨rfl, rfl⟩ | ⟨rfl, rfl⟩ <;> cases hx
  · cases p <;> rfl
  · rfl
  · rfl

/-- Settles O14: the clear by its two cases (`Core.sqClear_current`, `Core.sqClear_stale`), the reset value by the list of the registers
with access type SQ (`Page.sqAt_of_desc`), and a set flag by the number of the word (`toNat_sqSet`). -/
theorem sequencedClear : Obligations.SequencedClear := by
  unfold Obligations.SequencedClear
  refine ⟨?clear, ?reset, fun w flags => ⟨sequence_sqSet w flags, fun i hi => flag_sqSet w flags hi⟩,
    fun c p n bit => Core.rd_wr_same _ _ _ _ _⟩
  case clear =>
    intro s r p n off v x harr ho hx ha
    have hn : n < p.count := harr.2.1
    have hcore := Dev.core_clearStat (d := s.dev) (n := n) (v := v) hx ha
    refine ⟨_, State.write_made harr, fun hv => ?_, fun hv => ?_, ?_, ?_, ?_⟩
    · rw [State.on_dev, Dev.rd_core, hcore, Core.sqClear_current hv, Core.rd_wr_same, Dev.rd_core]
    · rw [State.on_dev, Dev.rd_core, hcore, Core.sqClear_stale hv, Dev.rd_core]
    · rw [State.on_dev, Dev.rd_core, hcore, Core.sequence_sqClear, Dev.rd_core]
    · exact Dev.touches_clearStat hn ho hx ha
    · rw [State.on_dev, hcore, Core.srcs_sqClear]
  case reset =>
    intro p n off x hn _ hx ha
    rw [rd_reset_of_sq hn hx ha]
    rfl

end Sys2Proof.Machine
end

section
/-! SUPPORT. The ring of the Cairn log: what storing a record does to its slots and write pointers, and the record of an event that finds a
token (R446, R447, R449). -/

namespace Sys2Proof.Machine

section
variable {c e : Core} {q k s : Nat} {r : Rec}

/-! Slots -/

/-- The next record of a partition takes another slot: its size is more than one and divides 2^32 (R443). -/
theorem ringSlot_succ_ne (q : Nat) (w : Word) : ringSlot q w ≠ ringSlot q (w + 1) := by
  have hsize : partSize q = 4096 ∨ partSize q = 2048 := by
    unfold partSize
    split
    · exact .inl rfl
    · exact .inr rfl
  unfold ringSlot
  rw [BitVec.toNat_add]
  rcases hsize with h | h <;> rw [h, show (1 : Word).toNat = 1 from rfl] <;> omega

/-- Slots of the error and of the shared partition differ. -/
theorem ringSlot_error_ne_shared (v w : Word) : ringSlot 1 v ≠ ringSlot 2 w := by
  have hv : ringSlot 1 v = 2048 + v.toNat % 2048 := rfl
  have hw : ringSlot 2 w = 4096 + w.toNat % 4096 := rfl
  omega

/-- A source outside the safety class logs to the error or to the shared partition (R443). -/
theorem partitionOf_unsafe (h : safetyOf s = false) : partitionOf s = 1 ∨ partitionOf s = 2 := by
  unfold partitionOf
  rw [h, if_neg (by decide)]
  split
  · exact .inl rfl
  · exact .inr rfl

/-! What storing leaves of the ring -/

theorem Core.ringRec_of (h : c.ring = e.ring) (k : Nat) : c.ringRec k = e.ringRec k := by
  unfold Core.ringRec
  rw [h]

theorem Core.ring_raise (c : Core) (s : Nat) : (c.raise s).ring = c.ring := rfl
theorem Core.ring_incWrap (c : Core) (p : Page) (n off : Nat) : (c.incWrap p n off).ring = c.ring := rfl
theorem Core.ring_inc (c : Core) (p : Page) (n off : Nat) : (c.inc p n off).ring = c.ring := rfl
theorem Core.ring_pushSpill (c : Core) (a : Nat) (r : Rec) : (c.pushSpill a r).ring = c.ring := rfl

theorem Core.ring_spill (c : Core) (r : Rec) : (c.spill r).ring = c.ring := by
  unfold Core.spill
  rw [Core.ring_pushSpill, Core.ring_incWrap]
  split
  · rw [Core.ring_inc, Core.ring_incWrap]
  · rfl

theorem Core.ring_makeRoom (c : Core) (q : Nat) : (c.makeRoom q).1.ring = c.ring := by
  unfold Core.makeRoom
  split
  · dsimp only
    split
    · exact (Core.ring_spill _ _).trans (Core.ring_incWrap _ _ _ _)
    · exact (Core.ring_inc _ _ _ _).trans (Core.ring_incWrap _ _ _ _)
  · rfl

theorem Core.ring_forward (c : Core) (r : Rec) : (c.forward r).ring = c.ring := by
  unfold Core.forward
  split <;> rfl

theorem Core.wptr_forward (c : Core) (r : Rec) (q : Nat) : (c.forward r).wptr q = c.wptr q := by
  unfold Core.forward
  split <;> rfl

/-- A write of another register of ELOG than a write pointer keeps it. -/
theorem Core.wptr_wr {off : Nat} {v : Word} (h : Off.ELOG_WPTR + 8 * q ≠ off) : (c.wr .elog 0 off v).wptr q = c.wptr q :=
  (Core.rd_wr_off _ _ _ _ _ _).trans (if_neg h)

theorem Core.wptr_pushSpill (c : Core) (a : Nat) (r : Rec) (q : Nat) : (c.pushSpill a r).wptr q = c.wptr q := rfl

theorem Core.wptr_spill (hq : q ≤ 2) (r : Rec) : (c.spill r).wptr q = c.wptr q := by
  have hlost : ((c.incWrap .elog 0 Off.ELOG_SPILL_RPTR).inc .elog 0 Off.ELOG_SPILL_LOST).wptr q = c.wptr q :=
    (Core.wptr_wr (by simp only [Off.ELOG_WPTR, Off.ELOG_SPILL_LOST]; omega)).trans
      (Core.wptr_wr (by simp only [Off.ELOG_WPTR, Off.ELOG_SPILL_RPTR]; omega))
  unfold Core.spill
  rw [Core.wptr_pushSpill]
  refine (Core.wptr_wr (by simp only [Off.ELOG_WPTR, Off.ELOG_SPILL_WPTR]; omega)).trans ?_
  split
  · exact hlost
  · rfl

theorem Core.wptr_makeRoom (hq : q ≤ 2) : (c.makeRoom q).1.wptr q = c.wptr q := by
  have hread : (c.incWrap .elog 0 (Off.ELOG_RPTR + 8 * q)).wptr q = c.wptr q :=
    Core.wptr_wr (by simp only [Off.ELOG_WPTR, Off.ELOG_RPTR]; omega)
  unfold Core.makeRoom
  split
  · dsimp only
    split
    · exact (Core.wptr_spill hq _).trans hread
    · exact (Core.wptr_wr (by simp only [Off.ELOG_WPTR, Off.ELOG_LOST]; omega)).trans hread
  · rfl

theorem Core.ringRec_putRec (c : Core) (q : Nat) (r : Rec) (k : Nat) :
    (c.putRec q r).ringRec k = if k = ringSlot q (c.wptr q) then r else c.ringRec k := Tbl.get_set _ _ _ _ _

theorem Core.wptr_putRec (c : Core) (q : Nat) (r : Rec) : (c.putRec q r).wptr q = c.wptr q + 1 := Core.rd_wr_same _ _ _ _ _

theorem Core.storeRec_unsafe (hs : safetyOf s = false) :
    (c.storeRec s r).1 = ((c.makeRoom (partitionOf s)).1.putRec (partitionOf s) r).forward r := by
  unfold Core.storeRec
  rw [hs]
  rfl

/-- A record that is stored stands at the write pointer of its partition, and no other slot changes (R446). -/
theorem Core.ringRec_storeRec (hs : safetyOf s = false) (k : Nat) :
    (c.storeRec s r).1.ringRec k = if k = ringSlot (partitionOf s) (c.wptr (partitionOf s)) then r else c.ringRec k := by
  rw [Core.storeRec_unsafe hs, Core.ringRec_of (Core.ring_forward _ _), Core.ringRec_putRec, Core.wptr_makeRoom (partitionOf_le s),
    Core.ringRec_of (Core.ring_makeRoom _ _)]

theorem Core.wptr_storeRec (hs : safetyOf s = false) :
    (c.storeRec s r).1.wptr (partitionOf s) = c.wptr (partitionOf s) + 1 := by
  rw [Core.storeRec_unsafe hs, Core.wptr_forward, Core.wptr_putRec, Core.wptr_makeRoom (partitionOf_le s)]

/-! The record of an event -/

/-- Advancing the sequence takes no token. -/
theorem Core.hasToken_bumpSeq (c : Core) (s : Nat) : (c.bumpSeq s).hasToken s = c.hasToken s := by
  have h : (c.bumpSeq s).src s = { c.src s with seq := c.nextSeq s } := Core.src_setSrc_same _ _ _
  unfold Core.hasToken
  rw [h]
  rfl

/-- A stored record takes one token of its source (R449). -/
def Core.takeToken (c : Core) (s : Nat) : Core := c.setSrc s { c.src s with used := (c.src s).used + 1 }

theorem Core.recordFlat_token {code : Nat} {w0 w1 w2 w3 : Word} (hs : safetyOf s = false) (ht : c.hasToken s = true) :
    c.recordFlat s code w0 w1 w2 w3 =
      ((c.bumpSeq s).takeToken s).storeRec s (c.mkRec s (c.nextSeq s) code false w0 w1 w2 w3) := by
  unfold Core.recordFlat
  dsimp only
  rw [hs, Core.hasToken_bumpSeq, ht]
  rfl

theorem Core.recordFlat_suppressed {code : Nat} {w0 w1 w2 w3 : Word} (hs : safetyOf s = false) (ht : c.hasToken s = false) :
    c.recordFlat s code w0 w1 w2 w3 = ((c.bumpSeq s).suppress s (c.nextSeq s), false, false) := by
  unfold Core.recordFlat
  dsimp only
  rw [hs, Core.hasToken_bumpSeq, ht]
  rfl

/-- The record of an event changes no slot of the ring but that at the write pointer of its partition. -/
theorem Core.ringRec_recordFlat_ne {code : Nat} {w0 w1 w2 w3 : Word} (hs : safetyOf s = false)
    (hk : k ≠ ringSlot (partitionOf s) (c.wptr (partitionOf s))) : (c.recordFlat s code w0 w1 w2 w3).1.ringRec k = c.ringRec k := by
  cases ht : c.hasToken s with
  | true =>
    rw [Core.recordFlat_token hs ht, Core.ringRec_storeRec hs]
    exact if_neg hk
  | false =>
    rw [Core.recordFlat_suppressed hs ht]
    rfl

/-- The report of a lost record goes to the write pointer of the shared partition (R447). -/
theorem Core.ringRec_reportLost (hk : k ≠ ringSlot 2 (c.wptr 2)) : c.reportLost.ringRec k = c.ringRec k := by
  have hw : (c.flagOnly .elog 0 10).wptr 2 = c.wptr 2 := Core.wptr_wr (by decide)
  have h : ((c.flagOnly .elog 0 10).recordFlat 8 10 0 0 0 0).1.ringRec k = c.ringRec k :=
    (Core.ringRec_recordFlat_ne (by decide) (by rw [show partitionOf 8 = 2 by decide, hw]; exact hk)).trans
      (Core.ringRec_of (Core.wr_ring _ _ _ _ _) k)
  unfold Core.reportLost
  dsimp only
  split
  · exact (Core.ringRec_of (Core.ring_raise _ _) k).trans h
  · exact h

/-- Out of the safety class no saturation latches. -/
theorem Core.storeRec_latched (hs : safetyOf s = false) : (c.storeRec s r).2.2 = false := by
  unfold Core.storeRec
  rw [hs]
  rfl

theorem Core.reportLog_unlatched {x : Core × Bool × Bool} (h : x.2.2 = false) :
    Core.reportLog s x = if x.2.1 && s != 8 then x.1.reportLost else x.1 := by
  unfold Core.reportLog
  rw [h]
  rfl

/-- The record of an event that finds a token stands at the write pointer of its partition, whatever was lost to make room (R446, R447,
R449). -/
theorem Core.ringRec_event {code : Nat} {w0 w1 w2 w3 : Word} (hs : safetyOf s = false) (ht : c.hasToken s = true) :
    (c.event s code w0 w1 w2 w3).ringRec (ringSlot (partitionOf s) (c.wptr (partitionOf s))) =
      c.mkRec s (c.nextSeq s) code false w0 w1 w2 w3 := by
  have hflat : (c.recordFlat s code w0 w1 w2 w3).1.ringRec (ringSlot (partitionOf s) (c.wptr (partitionOf s))) =
      c.mkRec s (c.nextSeq s) code false w0 w1 w2 w3 := by
    rw [Core.recordFlat_token hs ht, Core.ringRec_storeRec hs]
    exact if_pos rfl
  have hlatched : (c.recordFlat s code w0 w1 w2 w3).2.2 = false := by
    rw [Core.recordFlat_token hs ht, Core.storeRec_latched hs]
  have hnext : ringSlot (partitionOf s) (c.wptr (partitionOf s)) ≠ ringSlot 2 ((c.recordFlat s code w0 w1 w2 w3).1.wptr 2) := by
    rcases partitionOf_unsafe hs with hp | hp
    · rw [hp]
      exact ringSlot_error_ne_shared _ _
    · have hw : (c.recordFlat s code w0 w1 w2 w3).1.wptr (partitionOf s) = c.wptr (partitionOf s) + 1 := by
        rw [Core.recordFlat_token hs ht, Core.wptr_storeRec hs]
        rfl
      rw [hp] at hw ⊢
      rw [hw]
      exact ringSlot_succ_ne _ _
  unfold Core.event Core.record
  rw [Core.ringRec_of (Core.ring_raise _ _), Core.reportLog_unlatched hlatched]
  split
  · exact (Core.ringRec_reportLost hnext).trans hflat
  · exact hflat

end

end Sys2Proof.Machine
end

section
/-! SUPPORT. Denied register accesses (R63): the form that register accesses share, what a denial leaves, and the statement about them. -/

namespace Sys2Proof.Machine

open Host (Outcome)

/-! Register accesses -/

section
variable {s : State} {d : Dev} {c : Instr} {r : Requester} {p : Page} {n off : Nat} {write : Bool} {v : Word}

/-- A command that is a register access reaches the device as one (R8, R60, R96). -/
theorem exec_register (h : c.register = some (r, p, n, off, write, v)) (s : State) :
    ∃ f, exec c s = .next (s.posted r c fun d => d.letIn r p n off write v f) := by
  cases c <;> cases h <;> exact ⟨_, rfl⟩

/-- A write of 4 bytes at a register that is not a function's MSI-X table is a write of that register (R31). -/
theorem Dev.registerWrite_four {a : Nat} {x : BitVec 64} (hn : n < p.count) (ha : a = p.reg n off) (ho : off < 4096) (h4 : off % 4 = 0)
    (hm : msixOff p off = false) :
    d.registerWrite r false a 4 x = d.letIn r p n off true (x.truncate 32) (·.writeReg r p n off (x.truncate 32)) := by
  subst ha
  have halign : p.reg n off % 4 = 0 := by
    have hmod := p.reg_mod n ho
    omega
  unfold Dev.registerWrite Dev.writeWord Dev.busWrite
  rw [if_pos ⟨rfl, halign⟩, p.reg_slot n ho, p.ofSlot_slot hn]
  simp only [p.reg_mod n ho, hm, Bool.false_eq_true, if_false]

theorem exec_registerWrite_four {a : BitVec 24} {x : BitVec 64} (hf : s.dev.fnStalled r = false) (hn : n < p.count)
    (ha : a.toNat = p.reg n off) (ho : off < 4096) (h4 : off % 4 = 0) (hm : msixOff p off = false) :
    exec (.registerWrite r false a 4 x) s =
      .next (s.on fun d => d.letIn r p n off true (x.truncate 32) (·.writeReg r p n off (x.truncate 32))) :=
  (State.access_made hf).trans (State.next_on (Dev.registerWrite_four hn ha ho h4 hm))

/-- An access that is served and not allowed is refused. -/
theorem Dev.letIn_denied (f : Dev → Dev) (hn : n < p.count) (hs : servedIn d.mode p = true)
    (hr : d.core.mayAccess r p n off write v = false) : d.letIn r p n off write v f = d.refuse r p n off false write := by
  unfold Dev.letIn
  rw [if_neg (not_or.2 ⟨servedIn_mode hs, by omega⟩), hs, hr]
  rfl

/-- What the requester of a refused access gets: a read returns 0, a write nothing (R63). -/
def Dev.unserved (d : Dev) (write : Bool) : Dev := if write then d else d.answer [0]

/-- A refused access of any requester but the SMBus target is reported by PROT (R63, R574). -/
theorem Dev.refuse_denied (hr : r ≠ .smbus) :
    d.refuse r p n off false write = (d.unserved write).onCore (·.denied (rejectWord 0xFF (p.slot n) off r.id)) := by
  cases r with
  | smbus => exact absurd rfl hr
  | _ => rfl

/-- A register access that its page denies is refused, whichever command makes it. -/
theorem exec_denied (hc : c.register = some (r, p, n, off, write, v) ∨ (write = true ∧ ∃ a x, c = .registerWrite r false a 4 x ∧
      a.toNat = p.reg n off ∧ off < 4096 ∧ off % 4 = 0 ∧ msixOff p off = false ∧ v = x.truncate 32)) (hr : r ≠ .smbus)
    (hf : s.dev.fnStalled r = false) (hn : n < p.count) (hs : servedIn s.dev.mode p = true)
    (hm : s.dev.core.mayAccess r p n off write v = false) :
    exec c s = .next (s.on fun d => (d.unserved write).onCore (·.denied (rejectWord 0xFF (p.slot n) off r.id))) := by
  obtain ⟨f, hexec⟩ : ∃ f, exec c s = .next (s.on fun d => d.letIn r p n off write v f) := by
    rcases hc with hreg | ⟨rfl, a, x, rfl, ha, ho, h4, hx, rfl⟩
    · obtain ⟨f, h⟩ := exec_register hreg s
      exact ⟨f, by rw [h, State.posted_free _ _ hf]⟩
    · exact ⟨_, exec_registerWrite_four hf hn ha ho h4 hx⟩
  rw [hexec]
  exact State.next_on ((Dev.letIn_denied f hn hs hm).trans (Dev.refuse_denied hr))

theorem Dev.rd_unserved (d : Dev) (write : Bool) (q : Page) (m o : Nat) : (d.unserved write).core.rd q m o = d.rd q m o := by
  cases write <;> rfl

theorem Dev.src_unserved (d : Dev) (write : Bool) (k : Nat) : (d.unserved write).core.src k = d.core.src k := by cases write <;> rfl

theorem Dev.Touches.unserved (d : Dev) (write : Bool) (l : List (Page × Nat × Nat)) (k : List Nat) : d.Touches (d.unserved write) l k := by
  cases write with
  | true => exact .refl _ _ _
  | false => exact (Dev.Touches.refl _ _ _).answer

end

/-! The record of a denial -/

section
variable {c : Core} {p : Page} {n off : Nat} {v : Word} {s : Nat}

/-- A record rests on no page but RPG (R442). -/
theorem Core.mkRec_wr {seq : BitVec 16} {code : Nat} {b : Bool} {w0 w1 w2 w3 : Word} (hn : n < p.count) (ho : off < 4096) (hp : p ≠ .rpg) :
    (c.wr p n off v).mkRec s seq code b w0 w1 w2 w3 = c.mkRec s seq code b w0 w1 w2 w3 := by
  have h : (c.wr p n off v).rd .rpg 0 Off.RPG_TEAM_STAT = c.rd .rpg 0 Off.RPG_TEAM_STAT :=
    Core.rd_wr_page _ _ _ _ _ hn (by decide) ho (by decide) (.inl hp.symm)
  unfold Core.mkRec Core.teamField Core.fld
  rw [h, Core.wr_time]

/-- A token bucket rests on no page but ISRC and ELOG (R449, R457). -/
theorem Core.hasToken_wr (hs : s < 1024) (hn : n < p.count) (ho : off < 4096) (hi : p ≠ .isrc) (he : p ≠ .elog) :
    (c.wr p n off v).hasToken s = c.hasToken s := by
  have hcfg : (c.wr p n off v).srcCfg s = c.srcCfg s :=
    Core.rd_wr_page _ _ _ _ _ hn (show s / 64 < 16 by omega) ho (by omega) (.inl hi.symm)
  have hrate : (c.wr p n off v).rd .elog 0 (Off.ELOG_LOG_RATE + 4 * bitsOf (c.srcCfg s) 16 2) =
      c.rd .elog 0 (Off.ELOG_LOG_RATE + 4 * bitsOf (c.srcCfg s) 16 2) := by
    have hprofile : bitsOf (c.srcCfg s) 16 2 < 4 := Nat.mod_lt _ (by decide)
    exact Core.rd_wr_page _ _ _ _ _ hn (by decide) ho (by simp only [Off.ELOG_LOG_RATE]; omega) (.inl he.symm)
  unfold Core.hasToken Core.rate Core.burst Core.fld
  rw [hcfg, hrate, Core.wr_src]

/-- The write pointers stand in ELOG. -/
theorem Core.wptr_wr_page {q : Nat} (hq : q ≤ 2) (hn : n < p.count) (ho : off < 4096) (he : p ≠ .elog) :
    (c.wr p n off v).wptr q = c.wptr q :=
  Core.rd_wr_page _ _ _ _ _ hn (by decide) ho (by simp only [Off.ELOG_WPTR]; omega) (.inl he.symm)

/-- The registers of PROT that a denial writes, before its event (R63). -/
def Core.denyNoted (c : Core) (w : Word) : Core :=
  ((c.flagOnly .prot 0 8).wr .prot 0 Off.PROT_DENY_LAST w).inc .prot 0 Off.PROT_DENY_COUNT

theorem Core.denied_eq (c : Core) (w : Word) : c.denied w = (c.denyNoted w).event 1 (8 + 256 * 0xFF) w := rfl

theorem Core.src_denyNoted (c : Core) (w : Word) (t : Nat) : (c.denyNoted w).src t = c.src t := by
  unfold Core.denyNoted Core.inc Core.flagOnly
  rw [Core.wr_src, Core.wr_src, Core.wr_src]

theorem Core.hasToken_denyNoted (c : Core) (w : Word) : (c.denyNoted w).hasToken 1 = c.hasToken 1 := by
  unfold Core.denyNoted Core.inc Core.flagOnly
  rw [Core.hasToken_wr, Core.hasToken_wr, Core.hasToken_wr] <;> decide

theorem Core.wptr_denyNoted (c : Core) (w : Word) {q : Nat} (hq : q ≤ 2) : (c.denyNoted w).wptr q = c.wptr q := by
  unfold Core.denyNoted Core.inc Core.flagOnly
  rw [Core.wptr_wr_page hq, Core.wptr_wr_page hq, Core.wptr_wr_page hq] <;> decide

theorem Core.mkRec_denyNoted (c : Core) (w : Word) {seq : BitVec 16} {code : Nat} {b : Bool} {w0 w1 w2 w3 : Word} :
    (c.denyNoted w).mkRec s seq code b w0 w1 w2 w3 = c.mkRec s seq code b w0 w1 w2 w3 := by
  unfold Core.denyNoted Core.inc Core.flagOnly
  rw [Core.mkRec_wr, Core.mkRec_wr, Core.mkRec_wr] <;> decide

/-- The record of a denial whose source holds a token (R63, R449). -/
theorem Core.ringRec_denied (w : Word) (ht : c.hasToken 1 = true) :
    (c.denied w).ringRec (ringSlot (partitionOf 1) (c.wptr (partitionOf 1))) =
      c.mkRec 1 ((c.src 1).seq + 1) (8 + 256 * 0xFF) false w 0 0 0 := by
  rw [Core.denied_eq, ← Core.wptr_denyNoted c w (partitionOf_le 1),
    Core.ringRec_event (by decide) ((Core.hasToken_denyNoted c w).trans ht), Core.mkRec_denyNoted, Core.nextSeq, Core.src_denyNoted]

theorem Core.src_denied_ne (c : Core) (w : Word) {t : Nat} (h : t ≠ 1) (h8 : t ≠ 8) (h9 : t ≠ 9) : (c.denied w).src t = c.src t := by
  rw [Core.denied_eq, Core.src_event_ne _ _ _ _ _ _ h h8 h9, Core.src_denyNoted]

theorem Core.resp_denied (c : Core) (w : Word) : (c.denied w).resp = c.resp := Core.resp_of_rest (Core.rest_denied c w)

/-- A denial writes PAGE_STAT, DENY_LAST and DENY_COUNT of PROT and raises source 1 (R63). -/
theorem Dev.Touches.denied {d e : Dev} {l : List (Page × Nat × Nat)} {k : List Nat} (h : d.Touches e l k) (w : Word)
    (hl : (.prot, 0, Off.PROT_DENY_LAST) ∈ l) (hc : (.prot, 0, Off.PROT_DENY_COUNT) ∈ l) (hp : (.prot, 0, Off.PAGE_STAT) ∈ l)
    (hk : 1 ∈ k) : d.Touches (e.onCore (·.denied w)) l k := by
  refine ⟨h.1.core (Core.shared_of_rest (Core.rest_denied _ w)) fun q m o hm ho hq hx => Core.rd_denied _ w hm ho hq ?_, fun t ht => ?_⟩
  · by_cases hprot : q = .prot
    · subst hprot
      obtain rfl : m = 0 := Nat.lt_one_iff.1 hm
      exact .inr ⟨fun he => hx (he ▸ hp), fun he => hx (he ▸ hl), fun he => hx (he ▸ hc)⟩
    · exact .inl hprot
  · simp only [List.mem_cons, not_or] at ht
    obtain ⟨h8, h9, ht⟩ := ht
    rw [Dev.onCore_core, Core.src_denied_ne _ w (by rintro rfl; exact ht hk) h8 h9]
    exact h.2 t (by simp [h8, h9, ht])

end

/-! Writes of read-only registers -/

/-- A write that arrives at a read-only register outside the header does nothing (R8). -/
theorem Dev.writeReg_ro {d : Dev} {r : Requester} {p : Page} {n off : Nat} {v : Word} {x : RegDesc} (h0 : 0x20 ≤ off)
    (hx : p.desc off = some x) (ha : x.access = .ro) : d.writeReg r p n off v = d := by
  unfold Dev.writeReg
  rw [if_neg (by omega), hx]
  simp only [ha]

/-- Settles O10: a denied access is refused (`exec_denied`), its report is that of `Core.denied`, and its record stands in the ring whatever
was lost to make room (`Core.ringRec_denied`). -/
theorem deniedAccesses : Obligations.DeniedAccesses := by
  unfold Obligations.DeniedAccesses
  refine ⟨?denied, ?readOnly⟩
  case denied =>
    intro c s r p n off write v hc hr hf hn hs hm
    refine ⟨_, exec_denied hc hr hf hn hs hm, ?_⟩
    generalize rejectWord 0xFF (p.slot n) off r.id = w
    rw [State.on_dev]
    obtain ⟨hpend, hseq⟩ := Core.src_denied (s.dev.unserved write).core w
    rw [Dev.src_unserved] at hseq
    refine ⟨?_, ?_, ?_, hpend, hseq, ?_, ?_, ?_, (Dev.Touches.unserved _ _ _ _).denied w (by simp) (by simp) (by simp) (by simp)⟩
    · rw [Dev.rd_core, Dev.onCore_core, Core.rd_denied_prot _ w (by decide), if_neg (by decide), if_pos rfl]
    · rw [Dev.rd_core, Dev.onCore_core, Core.rd_denied_prot _ w (by decide), if_pos rfl, Dev.rd_unserved]
    · rw [Dev.bit_core, Dev.onCore_core, Core.rd_denied_prot _ w (by decide), if_neg (by decide), if_neg (by decide), if_pos rfl,
        bitOf_sqSet _ (by decide)]
    · intro ht
      cases write with
      | true => exact Core.ringRec_denied w ht
      | false => exact Core.ringRec_denied (c := (s.dev.unserved false).core) w ht
    · rintro rfl
      exact Core.resp_denied _ w
    · rintro rfl
      exact Core.resp_denied _ w
  case readOnly =>
    intro s r off a x hoff ha hreach
    obtain ⟨hf, hn, hs, hm⟩ := hreach
    have hro : 0x20 ≤ off ∧ off < 4096 ∧ off % 4 = 0 ∧ ∃ y, Page.prot.desc off = some y ∧ y.access = .ro := by
      simp only [List.mem_cons, List.not_mem_nil, or_false] at hoff
      rcases hoff with rfl | rfl <;> exact ⟨by decide, by decide, by decide, _, rfl, rfl⟩
    obtain ⟨h0, ho, h4, y, hy, hacc⟩ := hro
    rw [exec_registerWrite_four hf hn ha ho h4 rfl]
    exact congrArg Outcome.next (State.on_same ((Dev.letIn_made _ hn hs hm).trans (Dev.writeReg_ro h0 hy hacc)))

end Sys2Proof.Machine
end
